-- ==== Sys2Proof/Word.lean ====
section
/-! DEFINITION. The word of the machine and its plainest arithmetic.

The spec gives registers and words of many widths (48-bit words, 58-bit rows, 80-bit slots, 64-bit counts).
A value is held as a natural number below the power of two that its field gives; every store truncates it. -/

namespace Sys2Proof

/-- A word of data as the machine's bits spell it, unsigned (R11, R16). -/
abbrev Word := Nat

/-- The low `w` bits of `v`. -/
def low (w v : Nat) : Nat := v % 2 ^ w

/-- Bit `i` of `v`. -/
def bitAt (v i : Nat) : Bool := v.testBit i

/-- Bits `[lo + w - 1 : lo]` of `v`. -/
def slice (v lo w : Nat) : Nat := v / 2 ^ lo % 2 ^ w

/-- A truth value as one bit. -/
def b2n (b : Bool) : Nat := if b then 1 else 0

/-- A `w`-bit pattern read as two's complement. -/
def toSigned (w v : Nat) : Int :=
  if v % 2 ^ w < 2 ^ (w - 1) then (v % 2 ^ w : Nat) else ((v % 2 ^ w : Nat) : Int) - ((2 ^ w : Nat) : Int)

/-- The `w`-bit two's complement pattern of `v`. -/
def ofSigned (w : Nat) (v : Int) : Nat := (v % ((2 ^ w : Nat) : Int)).toNat

/-- One more, held at the largest value of `w` bits. -/
def satInc (w v : Nat) : Nat := if v + 1 < 2 ^ w then v + 1 else 2 ^ w - 1

/-- `k` more, held at the largest value of `w` bits. -/
def satAdd (w v k : Nat) : Nat := if v + k < 2 ^ w then v + k else 2 ^ w - 1

end Sys2Proof
end

