-- ==== Sys2Proof/Machine/Data.lean ====
section
/-! DEFINITION. The things the blocks pass to one another and hold in lists: quads, packets, open transactions,
mailbox packets, cache lines. All plain data. -/

namespace Sys2Proof.Machine

/-- A quad of four 48-bit words with its 16-bit sideband tag (R173, R176). -/
structure Quad where
  w0 : Nat
  w1 : Nat
  w2 : Nat
  w3 : Nat
  tag : Nat
  deriving DecidableEq, Repr

/-- A packet of the Erg network: the fields of the head flit (R173, R174, R175) and the payload quads.
`route` is word 0, the route string or the Daxat word; `htag` the head flit's sideband tag. -/
structure Pkt where
  cls : Nat
  rsp : Bool
  type : Nat
  src : Nat
  dst : Nat
  tid : Nat
  gen : Nat
  status : Nat
  vc : Nat
  route : Nat
  addr : Nat
  count : Nat
  mbox : Nat
  seq : Nat
  tick : Nat
  prio : Nat
  aux : Nat
  htag : Nat
  body : List Quad
  deriving DecidableEq, Repr

/-- A flit that a link carries in a slot of a block (R201): flit `idx` of a packet, 0 for its head. -/
structure LinkFlit where
  slot : Nat
  pkt : Pkt
  idx : Nat
  deriving DecidableEq, Repr

/-- A sequenced block that side (`u`, `l`) of a link has sent and its partner has not acknowledged (R202, R203): its flits, its
credit record, whether it waits to be resent, and how often it has been. -/
structure LinkBlock where
  u : Nat
  l : Nat
  seq : Nat
  flits : List LinkFlit
  crCh : Nat
  crPool : Nat
  crCount : Nat
  again : Bool
  resent : Nat
  deriving DecidableEq, Repr

/-- A packet that side (`u`, `l`) of a link has begun to send on a channel, and the flit that comes next (R179). -/
structure Crossing where
  u : Nat
  l : Nat
  ch : Nat
  pkt : Pkt
  next : Nat
  deriving DecidableEq, Repr

/-- A command that a fabric channel or a block gives its network interface (R187). -/
structure Cmd where
  entry : Nat
  auto : Bool
  type : Nat
  count : Nat
  mbox : Nat
  addr : Nat
  seq : Nat
  prio : Nat
  aux : Nat
  body : List Quad
  deriving DecidableEq, Repr

/-- The one response of a transaction: status, detail and data quads (R182, R188). -/
structure Resp where
  status : Nat
  detail : Nat
  body : List Quad
  deriving DecidableEq, Repr

/-- A transaction of an initiating network interface, from issue to delivery (R182 to R188). `hasTid` is false for
a command that never enters the network; `addr` and `count` are the words asked for; `resp` is the response once it
is decided, its quads tagged with their poison masks alone. -/
structure Txn where
  ni : Nat
  ch : Nat
  tid : Nat
  gen : Nat
  hasTid : Bool
  entry : Nat
  peer : Nat
  cls : Nat
  type : Nat
  addr : Nat
  count : Nat
  seq : Nat
  resp : Option Resp
  deriving DecidableEq, Repr

/-- A descriptor with its quads as a network interface presents it to channel or stream `ch` (R188). -/
structure Delivery where
  ni : Nat
  ch : Nat
  post : Bool
  status : Nat
  peer : Nat
  seq : Nat
  detail : Nat
  body : List Quad
  deriving DecidableEq, Repr

/-- A command that waits at its network interface: for a free TID, for an earlier route's responses, for an
acknowledgement (R156, R181, R185). -/
structure Waiting where
  ni : Nat
  ch : Nat
  cmd : Cmd
  deriving DecidableEq, Repr

/-- A packet filed in a side of tick mailbox `m` of network interface `ni` (R46, R48). -/
structure MPkt where
  ni : Nat
  m : Nat
  readSide : Bool
  src : Nat
  seq : Nat
  body : List Quad
  deriving DecidableEq, Repr

/-- A fabric port operation on a bank (R135): `op` is the OP code, port 0 is A and 1 is B. -/
structure PortOp where
  die : Nat
  bank : Nat
  port : Nat
  op : Nat
  addr : Nat
  data : Nat
  deriving DecidableEq, Repr

/-- A write-back that waits in a bank's correction path (R131); `voteZero` rewrites only the valid field. -/
structure WriteBack where
  die : Nat
  bank : Nat
  row : Nat
  voteZero : Bool
  fixesValid : Bool
  fixesData : Bool
  /-- A network read has found the row (R139). -/
  network : Bool
  deriving DecidableEq, Repr

/-- A line of a die's remote cache (R154): `addr` is the word address of its aligned quad. -/
structure RcLine where
  die : Nat
  set : Nat
  way : Nat
  addr : Nat
  tick : Nat
  w0 : Nat
  w1 : Nat
  w2 : Nat
  w3 : Nat
  parity : Nat
  used : Nat
  deriving DecidableEq, Repr

/-- An item as it is pushed: its word and its poison mark (R241). -/
structure QItem where
  data : Nat
  poison : Bool
  deriving DecidableEq, Repr

/-- A slot that holds an item (R237): its index in the pool, and its 64 bits. -/
structure QSlot where
  idx : Nat
  word : Nat
  deriving DecidableEq, Repr

/-- An item as it is read (R238, R239): its word, its poison mark, whether its slot was correctable, and for an uncorrectable
one the kind of QM_ERRLOG. -/
structure ItemRead where
  data : Nat
  poison : Bool
  corr : Bool
  kind : Nat
  deriving DecidableEq, Repr

/-- Upsets that have struck the queue manager's memory since the last queue command: stored bits flipped, as pool index and
mask of 64 bits, and queues whose packet record or ownership entries have become uncorrectable (R238, R240). -/
structure QUpset where
  flips : List (Nat × Nat)
  records : List Nat
  deriving DecidableEq, Repr

/-- Where a packet of a queue stands (R242, R243, R251): open, staged by a T-class push, completed by the host and
staged, visible, or partly popped. -/
inductive QStage where
  | opened | staged | hostStaged | visible | current
  deriving DecidableEq, Repr

/-- A packet of a queue with its record (R240). -/
structure QPkt where
  q : Nat
  prio : Nat
  src : Nat
  seq : Nat
  stage : QStage
  items : List QSlot
  deriving DecidableEq, Repr

/-- The view of a TICK queue at the last committed boundary, kept while it has tentative pops (R251). -/
structure QSnap where
  q : Nat
  pkts : List QPkt
  deriving DecidableEq, Repr

/-- An exchange of the tick in progress (R271): the context, its sequence number, whether its on-time status is
staged, 1 more than the number of its status queue or 0 for none, and the slots reserved there (R283). -/
structure Exch where
  ctx : Nat
  seq : Nat
  onTime : Bool
  queue : Nat
  reserved : Nat
  deriving DecidableEq, Repr

/-- A status that waits in status staging for the boundary (R279, R281). -/
structure StagedStatus where
  ctx : Nat
  seq : Nat
  tick : Nat
  late : Bool
  nflags : Nat
  words : List Nat
  deriving DecidableEq, Repr

/-- An entry of a Caravan frame (R300): context, node, sequence number, flags and words. -/
structure Entry where
  ctx : Nat
  node : Nat
  seq : Nat
  flags : Nat
  words : List Nat
  deriving DecidableEq, Repr

/-- A Caravan frame as its builder closes it (R275): the port, the addressing and the entries. -/
structure Frame where
  port : Nat
  mac : Nat
  vlanEn : Bool
  vid : Nat
  pcp : Nat
  entries : List Entry
  deriving DecidableEq, Repr

/-- A request that waits in a DRAM subchannel (R331, R332): its packet, the time of its arrival, and the words that its
bursts have read, with their poison marks. -/
structure DramReq where
  q : Nat
  pkt : Pkt
  ch : Nat
  at' : Nat
  got : List (Nat × Bool)
  deriving DecidableEq, Repr

/-- A burst in a subchannel's write queue (R331): its slots as (slot index, stored slot), whether it is a correction
write-back (R324), and its attempts that failed write CRC. -/
structure DramWrite where
  q : Nat
  slots : List (Nat × Nat)
  back : Bool
  tries : Nat
  deriving DecidableEq, Repr

/-- A frame that waits at a partner port (R302): its class, 0 group, 1 IEEE 1588, 2 Caravan, and its bytes from the
destination address to the FCS. -/
structure TxFrame where
  port : Nat
  cls : Nat
  bytes : List Nat
  deriving DecidableEq, Repr

/-- A status entry whose timestamp falls at or after the coming boundary (R303): port, source address, entry. -/
structure RxEntry where
  port : Nat
  mac : Nat
  ctx : Nat
  seq : Nat
  flags : Nat
  words : List Nat
  deriving DecidableEq, Repr

/-- A word in a buffer of a user lane (R311). -/
structure LaneWord where
  lane : Nat
  rx : Bool
  word : Nat
  deriving DecidableEq, Repr

/-- A frame that a load has staged (R379): its type, the unit it acts on (0 the Plinth, 1 + d physical die d), ADDR and
body. -/
structure SFrame where
  ftype : Nat
  unit : Nat
  addr : Nat
  body : List Nat
  deriving DecidableEq, Repr

/-- Targets that an applied frame of the load in progress has named (R378): of frame type `ftype` in unit `unit`, the
`count` targets from `first`. -/
structure Target where
  ftype : Nat
  unit : Nat
  first : Nat
  count : Nat
  deriving DecidableEq, Repr

/-- An object that a die's fabric has declared (R489). -/
structure FObj where
  die : Nat
  idx : Nat
  top : Nat
  type : Nat
  access : Nat
  mappable : Bool
  deriving DecidableEq, Repr

/-- A host write in a die's pending list (R491): `shown` once a boundary has presented it, `taken` once the fabric has
taken it in the tick in progress. -/
structure FWrite where
  die : Nat
  idx : Nat
  sub : Nat
  value : Nat
  shown : Bool
  taken : Bool
  deriving DecidableEq, Repr

/-- A staged update of a fabric object (R490). -/
structure FUpdate where
  idx : Nat
  sub : Nat
  value : Nat
  deriving DecidableEq, Repr

/-- An emergency message (R474): error code, error register, EVENT and ARG. -/
structure Emcy where
  code : Nat
  reg : Nat
  event : Nat
  arg : Nat
  deriving DecidableEq, Repr

/-- What the security processor's cryptography finds in one presented item (R419, R420, R423, R441): whether the ECDSA and
the HSS signature verify, whether the GCM tags of its wrapped parts do, in order, what those decrypt to, and the public
slots whose new keys are usable, one bit each. -/
structure Verdict where
  ecdsa : Bool
  hss : Bool
  tags : List Bool
  plain : List Nat
  usable : Nat
  deriving DecidableEq, Repr

/-- A UDP session (R468): source address and port, SESSION, the SEQ executed last, the kept response, and the unfinished
series of a DOMAIN value, its index, sub-index and bytes so far (R469). -/
structure Session where
  addr : Nat
  port : Nat
  id : Nat
  seq : Nat
  kept : List Nat
  idx : Nat
  sub : Nat
  part : List Nat
  deriving DecidableEq, Repr

/-- How a request of the resident monitor comes (R494): as a download to 0x2A00:01, or as a datagram from an address and
port with SESSION and SEQ. -/
inductive Via where
  | object
  | udp (addr port session seq : Nat)
  deriving DecidableEq, Repr

/-- The ways in which the device speaks: what kind of message it has put on a link. -/
inductive OutKind where
  /-- An emergency on every path of R455. -/
  | emcy
  /-- The boot-up message of R460. -/
  | bootUp
  /-- A heartbeat (R473). -/
  | heartbeat
  /-- The answer of a completed SDO or USDO transfer (R463, R465). -/
  | sdoAnswer
  /-- A UDP datagram that answers or is sent by the device (R467). -/
  | udp
  /-- An ARP or ICMP answer (R457). -/
  | arp | icmp
  /-- A transmit PDO (R471). -/
  | tpdo
  /-- A Caravan frame on a partner port (R299). -/
  | caravan
  /-- A group frame on a partner port (R305). -/
  | group
  /-- An IEEE 1588 message (R304). -/
  | ptp
  /-- A word on a user lane (R311). -/
  | laneWord
  /-- A block on a Seif link (R203). -/
  | seif
  /-- An attestation report (R439). -/
  | report
  /-- A monitor event (R494). -/
  | monitor
  /-- A read of a register with a side effect: what it returned. -/
  | readBack
  deriving DecidableEq, Repr

/-- One thing put on a link: its kind, where to (a port, controller, session or unit), and its numbers. -/
structure Out where
  kind : OutKind
  toward : Nat
  data : List Nat
  deriving DecidableEq, Repr

end Sys2Proof.Machine
end

