-- ==== Sys2Proof/Syntax.lean ====
section
/-! DEFINITION. The commands of the part: one constructor for each row of spec/opcode_table.json, with its operands.
Dies, banks, ports and indices are numbers from 0; times are in units of 2^-16 ns of the time base. -/

namespace Sys2Proof

open Sys2Proof.Machine

/-- A command, by the row of the table that it spells. -/
inductive Instr where
  /-- TICK_ARM (R42): the host writes ARM at time `t`; a fresh run is armed for boundary k_s, or the refusal code
  set. -/
  | tickArm (t : Nat)
  /-- TICK_RESUME (R43): the host writes RESUME at time `t`; the previous run is armed to continue, or the refusal
  code set. -/
  | tickResume (t : Nat)
  /-- TICK_PAUSE (R40): a RUNNING tick goes to PAUSED after the next boundary that commits. -/
  | tickPause
  /-- TICK_STOP (R40): at once from ARMED, PAUSED and VOID; after the next boundary that commits from RUNNING. -/
  | tickStop
  /-- DEADLINE_PULSE (R45): the time base reaches D; latches sample their port outputs `outs` as (die, pin, value,
  output enable), the places `missing` send no report, and the tick generator decides commit or void. -/
  | deadlinePulse (outs : List (Nat × Nat × Nat × Nat)) (missing : List Nat)
  /-- BOUNDARY_PULSE (R45, R471): the time base reaches a boundary with the levels `pins` driven on input pins as
  (die, pin, level): ARMED begins its run, and a RUNNING tick whose commit is decided ends, with the TPDOs of type
  254. -/
  | boundaryPulse (pins : List (Nat × Nat × Nat))
  /-- TICK_WATCHDOG_EXPIRY (R66): a boundary is reached with REMAIN at 0, and the tick that it ends voids. -/
  | tickWatchdogExpiry
  /-- TICK_WDOG_KICK (R66): writing 1 reloads REMAIN from PERIOD. -/
  | tickWdogKick (v : Nat)
  /-- TICK_WDOG_PERIOD_WRITE (R66): PERIOD is written, and REMAIN is set to it. -/
  | tickWdogPeriodWrite (v : Nat)
  /-- TICK_SLACK_CLR (R73): writing 1 resets TICK_SLACK_MIN and TICK_WARN_COUNT of a die. -/
  | tickSlackClr (d v : Nat)
  /-- PAIR_LO_WRITE (R72): a write of `v` to the _LO register of pair `p` (0 TICK_ORIGIN, 1 TICK_START_INDEX, 2
  TICK_NUMBER) commits the 64-bit value with the last write to _HI, in the tick states that allow it. -/
  | pairLoWrite (p v : Nat)
  /-- PAIR_LO_READ (R72): a read of the _LO register of pair `p` (0 TICK_ORIGIN, 1 TICK_START_INDEX, 2
  TICK_NUMBER, 3 TICK_TIME, 4 CFG_IMAGE) returns the low half and latches _HI. -/
  | pairLoRead (p : Nat)
  /-- UNIT_DONE (R91): DONE(`k`) of die place `u` (1 + d) rises at time `t`; the tick receiver records the unit's task cycles
  as complete and its slack, rounded down to whole nanoseconds (R60). While the gateway niche of a die is not
  ACTIVE its tick receiver sees DONE at 0 (R398). -/
  | unitDone (u k t : Nat)
  /-- GROUP_START (R68): a member receives the master's START on port `p`, adopts P, G, t0, k_s and N_s, and
  enters ARMED. -/
  | groupStart (p ns per g t0 ks : Nat)
  /-- MEMBER_DECISION (R69): the master receives on port `p` the decision of member `id` for tick `n`; it sends
  GROUP when all have arrived, and GROUP with void, voiding itself, at once on a void. -/
  | memberDecision (p id n : Nat) (commit : Bool) (cause : Nat)
  /-- GROUP_DECISION (R69, R70): a member receives on port `p` the master's decision for tick `n`: commit allows
  its boundary, void voids the tick with cause 0x0B. -/
  | groupDecision (p n : Nat) (commit : Bool) (cause : Nat)
  /-- GROUP_DECISION_MISSING (R69): at B - 20 ns no group decision to commit has arrived, or, at the master, a
  member's is missing: the tick voids with cause 0x0B. -/
  | groupDecisionMissing
  /-- SOURCE_UPDATE (R358): a time-source update arrives at time base `t` with source time `src` and nominal
  interval `dt` in ns; the servo sets r, and may step the time base or decide lock. -/
  | sourceUpdate (t src dt : Nat)
  /-- CAN_SYNC_EDGE (R359): the start-of-frame edge of a SYNC message on controller `c` is timestamped `t` as a
  source update. -/
  | canSyncEdge (c t : Nat)
  /-- TIME_MESSAGE (R359): a TIME message of `days` since 1 January 1984 and `ms` after midnight on controller `c`
  sets the source time of the next SYNC edge. -/
  | timeMessage (c days ms : Nat)
  /-- VCCO_MEASUREMENT (R99): every 100 µs the die power manager of die `d` measures VCCO_d, `mv` mV; a bank in
  use whose supply leaves its range goes off, and stays so until a new activation. -/
  | vccoMeasurement (d mv : Nat)
  /-- SLICE_OPERAND_SET (R109): an operand set passes the pipeline of a slice. -/
  | sliceOperandSet (d m a b dd : Nat) (ce load neg : Bool)
  /-- AS_STICKY_CLR (R123): every sticky bit of the die is cleared. -/
  | asStickyClr (d : Nat)
  /-- BANK_READ (R135): port `p` (0 A, 1 B) of bank `b` of die `d` presents READ with ADDR `a`. -/
  | bankRead (d b p a : Nat)
  /-- BANK_WRITE (R135): port `p` presents WRITE with ADDR `a` and WDATA `v`. -/
  | bankWrite (d b p a v : Nat)
  /-- BANK_SET (R135): port `p` presents SET with ADDR `a` and WDATA `v`. -/
  | bankSet (d b p a v : Nat)
  /-- BANK_CLEAR (R135): port `p` presents CLEAR with ADDR `a` and WDATA `v`. -/
  | bankClear (d b p a v : Nat)
  /-- BANK_LOCK_READ (R145): port `p` presents LOCK_READ with ADDR `a`. -/
  | bankLockRead (d b p a : Nat)
  /-- BANK_WRITE_UNLOCK (R145): port `p` presents WRITE_UNLOCK with ADDR `a` and WDATA `v`. -/
  | bankWriteUnlock (d b p a v : Nat)
  /-- BANK_UNLOCK (R145): port `p` presents UNLOCK with ADDR `a`. -/
  | bankUnlock (d b p a : Nat)
  /-- BANK_INVALID_OP (R135): port `p` presents OP 7. -/
  | bankInvalidOp (d b p a : Nat)
  /-- CORRECTION_WRITE_BACK (R131): the write-back of physical row `row` of a bank lands, if it still waits. -/
  | correctionWriteBack (d b row : Nat)
  /-- BANK_NETWORK_SLOT (R139): a network slot of bank `b` of die `d` serves, in order of priority, a correction
  write-back, the network request that came first, and a scrubber read. -/
  | bankNetworkSlot (d b : Nat)
  /-- SET_ALIAS_WRITE (R140): the WRITE packet `p` in flight through a set alias reaches its bank, and sets the
  bits of each word in one atomic access. -/
  | setAliasWrite (p : Pkt)
  /-- CLEAR_ALIAS_WRITE (R140): the WRITE packet `p` in flight through a clear alias reaches its bank, and clears
  the bits of each word in one atomic access. -/
  | clearAliasWrite (p : Pkt)
  /-- BANK_BLANKING_DONE (R129, R143): blanking completes, and the operations held on the blanked side proceed. -/
  | bankBlankingDone (d b : Nat)
  /-- BANK_ON (R149): REQ 1 for bank `b` of die `d`. -/
  | bankOn (d b : Nat)
  /-- BANK_RETENTION (R149): REQ 2. -/
  | bankRetention (d b : Nat)
  /-- BANK_OFF (R149): REQ 3. -/
  | bankOff (d b : Nat)
  /-- BANK_TEST (R149, R150, R152): REQ 4, `level2` where the resident monitor writes it at authorization level 2.
  -/
  | bankTest (d b : Nat) (level2 : Bool)
  /-- BANK_LEAVE_TEST (R149): REQ 5. -/
  | bankLeaveTest (d b : Nat)
  /-- BANK_BLANK (R149): REQ 6. -/
  | bankBlank (d b : Nat)
  /-- BANK_TRANSITION_DONE (R149): the transition of bank `b` of die `d` that is in progress completes. -/
  | bankTransitionDone (d b : Nat)
  /-- BANK_TEST_WRITE_RAW (R152): OP 1 stores BANK_TEST_DATA and BANK_TEST_CHECK raw into the row; `level2` where
  the resident monitor writes it at authorization level 2, and access is denied otherwise. -/
  | bankTestWriteRaw (d : Nat) (level2 : Bool)
  /-- BANK_TEST_READ_RAW (R152): OP 2 loads the 58 stored bits of the row, uncorrected, with `level2` as for a raw
  write. -/
  | bankTestReadRaw (d : Nat) (level2 : Bool)
  /-- BANK_ECC_CLR (R161): writing 1 clears BANK_ECC_SUM and every BANK_STAT(b).CE of die `d`. -/
  | bankEccClr (d v : Nat)
  /-- BANK_POLICY_WRITE (R133): a write of POISON through BANK_POLICY of any die or object 0x2700:01. -/
  | bankPolicyWrite (v : Nat)
  /-- FABRIC_REQUEST_ISSUE (R187): at time `t`, channel `c` of NI `k` of die `d` takes a command quad (ENTRY,
  AUTO, TYPE, COUNT, MBOX, address, SEQ, PRIO, the type-specific bits of AUX) and its payload words; it is checked
  for route and address and sent as a request. -/
  | fabricRequestIssue (d k c entry : Nat) (auto : Bool) (type count mbox addr seq prio aux : Nat) (words : List Nat) (t : Nat)
      (bad : List Nat := [])
  /-- MREAD (R187): at time `t`, channel `c` of NI `k` of die `d` reads quad `q` of packet `i` from the read side
  of the NI's own mailbox `m`. -/
  | mread (d k c m i q t : Nat)
  /-- MCOUNT (R187): at time `t`, channel `c` of NI `k` of die `d` reads the packet count and the quads in use of
  the read side of mailbox `m`. -/
  | mcount (d k c m t : Nat)
  /-- READ_REQUEST (R175): the READ packet `p` in flight, or one of a reserved type, reaches its target. -/
  | readRequest (p : Pkt)
  /-- WRITE_REQUEST (R175): the WRITE packet `p` in flight reaches its target. -/
  | writeRequest (p : Pkt)
  /-- MBOX_REQUEST (R48): the MBOX packet `p` in flight reaches its NI and is filed into the write side of its
  mailbox by source and sequence number, with ACK; ADDRESS where the mailbox is not enabled; past its limits the
  tick voids. -/
  | mboxRequest (p : Pkt)
  /-- POST_REQUEST (R188): the POST packet `p` in flight is delivered to its stream of the destination's fabric
  side, with ACK; an NI without a fabric side answers TYPE, and a closed fabric side DOMAIN_OFF. -/
  | postRequest (p : Pkt)
  /-- RESPONSE_ARRIVAL (R184): at time `t` the response `p` in flight reaches its initiating NI and is matched by TID and GEN,
  or dropped and counted as LATE, which frees its quarantined TID; poison in a T-class response is consumed
  (R133). -/
  | responseArrival (p : Pkt) (t : Nat := 0)
  /-- REQUEST_TIMEOUT (R183): the timer of the F-class or M-class request with TID `tid` of NI `k` of unit `u`
  expires and TIMEOUT is synthesized; while a router is CLOSING or CLOSED, or the request waits for a lock, the
  timer is paused. -/
  | requestTimeout (u k tid : Nat)
  /-- TID_QUARANTINE_EXPIRY (R185): the quarantined TID `tid` of NI `k` of unit `u` becomes free again. -/
  | tidQuarantineExpiry (u k tid : Nat)
  /-- ROUTER_CLOSE (R192): CLOSE is written for router `r` of unit `u`: it enters CLOSING, or the code of R191 is
  recorded. -/
  | routerClose (u r : Nat)
  /-- ROUTER_CLOSED (R192): the buffers of a CLOSING router have drained, and it enters CLOSED. -/
  | routerClosed (u r : Nat)
  /-- ROUTER_CLOSE_TIMEOUT (R192): a CLOSING router has not drained within 100 µs: it returns to OPEN with REFUSE
  3, and the holds are released. -/
  | routerCloseTimeout (u r : Nat)
  /-- ROUTER_OPEN (R192): OPEN is written for a CLOSED router: the NIs take up the new topology, release their
  holds in order, and the router enters OPEN. -/
  | routerOpen (u r : Nat)
  /-- ROUTER_CFG_WRITE (R190, R191): a write of `v` to ERG_RTR_CFG(r) (`reg` 0) or to ERG_DT(r, reg - 1) of unit
  `u` takes effect only while the router is CLOSED. -/
  | routerCfgWrite (u r reg v : Nat)
  /-- DOMAIN_DRAIN (R194): the boundary of die `d`, or of the fabric side of its NI `k` (`k` below 16), enters
  DRAINING and refuses new requests that would cross it. -/
  | domainDrain (d k : Nat)
  /-- DRAIN_GATE_CLOSE (R194): no admitted request is left, or LIMIT has passed: the gate of a DRAINING boundary
  closes and the boundary becomes CLOSED. -/
  | drainGateClose (d k : Nat)
  /-- SEIF_BLOCK_RECEIVED (R198, R200 to R203, R205): side (`u`, `l`) receives the next block that its partner sends,
  with the flits `flits` where it sends new ones, after the bit errors `flips` on the wires, each as (wire, unit
  interval). -/
  | seifBlockReceived (u l : Nat) (flits : List LinkFlit) (flips : List (Nat × Nat))
  /-- LINK_CRC_SILENCE (R205): side (`u`, `l`) has received no block with a correct CRC for 1 µs, so the link is
  lost with the packets `gone` in its buffers. -/
  | linkCrcSilence (u l : Nat) (gone : List Pkt)
  /-- TRAINING_ROUND (R208, R209): a round begins on link `lk`, a spoke below n or a ring link above. In a full
  round the wires are tested: `tx` and `rx` are what the initiator then marks good, `tx'` and `rx'` the responder.
  -/
  | trainingRound (lk tx rx tx' rx' : Nat)
  /-- MAP_MESSAGE (R208, R209, R214): side (`u`, `l`) receives its partner's MAP message of the round, with its
  stepping, its W16 bit and its wires. -/
  | mapMessage (u l : Nat)
  /-- CONFIRM_COMPLETE (R208, R209, R210, R212, R213): each side of link `lk` has received enough CONFIRM blocks:
  with equal digests the link enters ACTIVE, and otherwise, or with too few wires, the round fails. -/
  | confirmComplete (lk : Nat)
  /-- ROUND_TIMEOUT (R208, R212): the round on link `lk` has not reached ACTIVE within 50 µs and fails with reason
  1. -/
  | roundTimeout (lk : Nat)
  /-- SEIF_RETRAIN (R234, R211): RETRAIN at side (`u`, `l`) starts a full round, or is refused. -/
  | seifRetrain (u l : Nat)
  /-- SEIF_HOLD (R234, R207): HOLD at side (`u`, `l`) holds the link down with cause 2, or is refused. -/
  | seifHold (u l : Nat)
  /-- SEIF_RELEASE (R212, R234): RELEASE at side (`u`, `l`) takes the link out of HELD and resets its failed
  rounds, or is refused. -/
  | seifRelease (u l : Nat)
  /-- ISOLATE (R224, R225): the host writes ISOLATE for die `d`, in any tick state. -/
  | isolate (d : Nat)
  /-- REJOIN (R227): the host writes REJOIN for die `d`: the die is powered and its links train, or the command is
  refused. -/
  | rejoin (d : Nat)
  /-- THERMAL_TRIP (R222): the hottest junction sensor of die `d` reads `tj` °C, 110 or more: the die trips and is
  isolated. -/
  | thermalTrip (d tj : Nat)
  /-- DIE_SUPPLY_FAILURE (R224): the supply of die `d` fails and cannot be recovered: the die is isolated. -/
  | dieSupplyFailure (d : Nat)
  /-- DIE_SUPPLY_RECOVERY (R211): the power manager of die `d` recovers its supply, and its links partially reset.
  -/
  | dieSupplyRecovery (d : Nat) (gone : List Pkt)
  /-- BUDGET_PERIOD (R221, R220, R222): every 100 µs the module power manager adjusts A, works the grants out, and
  sends each die its grant. -/
  | budgetPeriod
  /-- DIE_GRANT (R223, R220): the grant on its way reaches die `d`, which adjusts its throttle. -/
  | dieGrant (d : Nat)
  /-- DIE_POWER_REQUEST (R220): every 100 µs the power manager of die `d` writes its request, from the measured
  average `avg` of the last 100 µs in units of 10 mW; the spec leaves the rounding of the 10 % open. -/
  | diePowerRequest (d avg : Nat)
  /-- DIE_POWER_MEASUREMENT (R223): every 10 µs die `d` measures its power, in units of 10 mW, and its hottest
  junction `tj` (two's complement), and moves k toward its grant. -/
  | diePowerMeasurement (d power tj : Nat)
  /-- GRANT_STALE (R223): no grant has reached die `d` for 300 µs, so it takes FLOOR and sets STALE. -/
  | grantStale (d : Nat)
  /-- QUEUE_PUSH (R248): the PUSH `p` in flight is stored atomically or staged and answered with ACK, refused with
  its DETAIL, or voids the tick under R251, after the upsets `u` (R238, R240). -/
  | queuePush (p : Pkt) (u : QUpset := ⟨[], []⟩)
  /-- QUEUE_POP (R244): the POP `p` in flight returns items of one packet, or the idle item, after the upsets `u` (R238,
  R240). A T-class pop is tentative (R251). -/
  | queuePop (p : Pkt) (u : QUpset)
  /-- QUEUE_PEEK (R247): the PEEK `p` in flight returns what a pop would return, without consuming it, after the upsets
  `u`. -/
  | queuePeek (p : Pkt) (u : QUpset := ⟨[], []⟩)
  /-- QUEUE_QOP_RESERVED (R248): a queue request `p` in flight with QOP 3 receives REFUSED with DETAIL 10. -/
  | queueQopReserved (p : Pkt)
  /-- QM_POP_READ (R261): NI `src` reads QM_POP(q) after the upsets `u`: one item is popped and its tags recorded, or the
  read is refused. -/
  | qmPopRead (q src : Nat) (u : QUpset)
  /-- QM_PEEK_READ (R261): NI `src` reads QM_PEEK(q) after the upsets `u`: the next item, not consumed, or a refusal. -/
  | qmPeekRead (q src : Nat) (u : QUpset := ⟨[], []⟩)
  /-- QM_PUSH_WRITE (R261): NI `src` writes `v` to QM_PUSH(q): one item with END = 0. -/
  | qmPushWrite (q src v : Nat)
  /-- QM_PUSHEND_WRITE (R261): NI `src` writes `v` to QM_PUSHEND(q): one item with END = 1. -/
  | qmPushendWrite (q src v : Nat)
  /-- QM_ENABLE (R257): OFF to ACTIVE. -/
  | qmEnable (q : Nat)
  /-- QM_DISABLE (R257): an empty queue to OFF. -/
  | qmDisable (q : Nat)
  /-- QM_HOLD_PUSH (R257): ACTIVE to HOLD_PUSH. -/
  | qmHoldPush (q : Nat)
  /-- QM_HOLD_POP (R257): ACTIVE to HOLD_POP. -/
  | qmHoldPop (q : Nat)
  /-- QM_RELEASE (R257): a held queue to ACTIVE. -/
  | qmRelease (q : Nat)
  /-- QM_FLUSH (R257): the queue enters FLUSHING. -/
  | qmFlush (q : Nat)
  /-- QM_FLUSH_DONE (R257): the flush of a FLUSHING queue completes. -/
  | qmFlushDone (q : Nat)
  /-- QM_QCFG_WRITE (R257): `v` is written to QM_QCFG(q), which applies only while the queue is OFF and its notice
  rules hold. -/
  | qmQcfgWrite (q v : Nat)
  /-- QM_CNT_CLR (R261): writing 1 clears QM_ECC and resets MIN_FREE to FREE. -/
  | qmCntClr (v : Nat)
  /-- OPEN_PACKET_TIMEOUT (R255): the open packet of `src` at priority `prio` in queue `q` has not been continued
  within OPEN_TMO, so it is abandoned. -/
  | openPacketTimeout (q src prio : Nat)
  /-- CONTEXT_WRITE (R267): NI `src` writes `words` from word `k` of the context store: at once, staged for a
  boundary, or refused with its DETAIL. -/
  | contextWrite (src k : Nat) (words : List Nat)
  /-- FRAME_HANDOVER (R275): at time `t` the oldest closed frame of port `p` is handed to it; a port without room stalls it
  (R302), one that is not UP discards it (R297). -/
  | frameHandover (p : Nat) (t : Nat := 0)
  /-- CARAVAN_FRAME_RECEIVED (R301, R303): port `p` receives a frame at time `t` at its pins, accepts or discards it, and
  hands the status entries to the engines. -/
  | caravanFrameReceived (p t : Nat) (bytes : List Nat)
  /-- CVN_CNT_CLR (R286): writing 1 clears the unmatched and void-drop counts and the largest walk time. -/
  | cvnCntClr (v : Nat)
  /-- PP_ENABLE (R292, R314): ENABLE starts bring-up of port `p` through the attempt list, or is refused: 1
  outside DISABLED or for mode 0, 3 with a test pattern set. -/
  | ppEnable (p : Nat)
  /-- PP_DISABLE (R292, R307): DISABLE powers the lanes of port `p` off, or is refused. -/
  | ppDisable (p : Nat)
  /-- PP_RESTART (R294, R307): RESTART clears FAILED and starts port `p` again from the primary configuration, or
  is refused. -/
  | ppRestart (p : Nat)
  /-- PORT_UP (R292, R295): the attempt in progress on port `p` reaches TRAIN (2), ALIGN (3) or UP (4); UP on an
  alternative the port is DEGRADED. -/
  | portUp (p : Nat) (state : Nat := 4)
  /-- ATTEMPT_TIMEOUT (R292, R294): the attempt in progress on port `p` fails: the port goes to the next entry,
  and after the last one to WAIT or FAILED. -/
  | attemptTimeout (p : Nat)
  /-- PORT_WAIT_EXPIRY (R294): the 1 s WAIT of port `p` ends, and it starts again from the primary configuration.
  -/
  | portWaitExpiry (p : Nat)
  /-- LANE_FAILURE (R293, R294): lanes `m` of port `p` fail, or the PCS of the whole port does (`m` 0), and a port
  that is UP leaves it for the first entry of its list without a failed lane. -/
  | laneFailure (p m : Nat)
  /-- FRAME_TRANSMIT (R302): at a frame boundary port `p` sends its first waiting frame of the highest class. -/
  | frameTransmit (p : Nat)
  /-- PTP_MESSAGE (R304, R9): port `p` receives and timestamps an IEEE 1588 message of type `type` (0 Sync, 1 Delay_Req,
  2 Pdelay_Req) in domain `domain`. -/
  | ptpMessage (p type : Nat) (domain : Nat := 0)
  /-- PTP_SYNC_INTERVAL (R304): the Sync interval of master port `p` ends, and it sends Sync; a port that is not
  UP sends none. -/
  | ptpSyncInterval (p : Nat)
  /-- SOURCE_SYNC_LOSS (R304): the source port `p` has received no Sync for three Sync intervals: SRCLOST is set,
  and the time base counts as unlocked. -/
  | sourceSyncLoss (p : Nat)
  /-- USER_LANE_TX_WORD (R311, R310, R314): the serializer of lane `u` has taken `k` words since the last one, and
  the lane takes the word `w` from the fabric where its buffer has room; `idle` is TXIDLE. A pattern generator
  replaces the data, and a lane that is off takes nothing. -/
  | userLaneTxWord (u w k : Nat) (idle : Bool)
  /-- USER_LANE_RX_WORD (R289, R310, R311): the fabric has been presented `k` words of lane `u` since the last one, and
  the lane receives a word as the levels `w` on its line, or drops it where its buffer is full. -/
  | userLaneRxWord (u : Nat) (w : List Nat) (k : Nat)
  /-- LANE_PLL_LOCK (R312, R346): the PLL of user lane `u` locks to its reference; a failed XIN holds it unlocked.
  -/
  | lanePllLock (u : Nat)
  /-- PRBS_CHECKER_LOCK (R314): the checker of partner lane `j`, or of user lane `j`, has followed its pattern for
  64 bits: LOCK is set, and it has counted `errs` bit errors. -/
  | prbsCheckerLock (user : Bool) (j errs : Nat)
  /-- PP_LPRBS_CLR (R317): CLR clears the bit errors of partner lane `j`, or of user lane `j`. -/
  | ppLprbsClr (user : Bool) (j : Nat)
  /-- PP_CONFIG_WRITE (R317, R291): a write of `v` to configuration register `reg` of port `p` (0 PP_CFG, 1
  PP_ALT, 2 PP_MAC, 3 PP_CVN, 4 PP_PTP), taken only while the port is DISABLED and the value is valid. -/
  | ppConfigWrite (reg p v : Nat)
  /-- DRAM_COLUMN_COMMAND (R332): at time `t` the scheduler of subchannel `q` issues its next column command;
  `flips` is what upsets flip in the burst that a read finds, as (beat, device, bits). -/
  | dramColumnCommand (q t : Nat) (flips : List (Nat × Nat × Nat))
  /-- DRAM_WRITE_BACK (R324): the oldest correction write-back of subchannel `q` lands. -/
  | dramWriteBack (q : Nat)
  /-- WRITE_CRC_FAILURE (R331): the burst that subchannel `q` writes next fails write CRC and is resent; its
  fourth failure puts the subchannel into FAILED. -/
  | writeCrcFailure (q : Nat)
  /-- REFRESH (R333): subchannel `q` issues REFab. -/
  | refresh (q : Nat)
  /-- MR4_READ (R334, R333, R335): MR4 reports the hottest case temperature of subchannel `q` as `temp`, 8 bits of
  two's complement; the refresh rate follows, and above 95 °C HOT is set, with its emergency. -/
  | mr4Read (q temp : Nat)
  /-- ZQ_CALIBRATION (R334): subchannel `q` calibrates in a maintenance window; no state of the part changes. -/
  | zqCalibration (q : Nat)
  /-- DQS_OSCILLATOR (R334): subchannel `q` reads its interval oscillator and moves its timing; no state of the
  part changes. -/
  | dqsOscillator (q : Nat)
  /-- ECS_READ (R334): the devices' error check and scrub counts of subchannel `q`, summed over the devices, are
  `count`. -/
  | ecsRead (q count : Nat)
  /-- PATROL_READ (R336): the patrol reads the next burst of subchannel `q`, corrects or logs it, and moves on;
  `flips` is what upsets flip in it. -/
  | patrolRead (q : Nat) (flips : List (Nat × Nat × Nat))
  /-- ROW_CLOSE (R332): the row of bank `b` of subchannel `q` has had no hit for 200 ns and is closed. -/
  | rowClose (q b : Nat)
  /-- DRAM_INIT (R339): subchannel `q` completes step `step` of the start-up, or fails it (`ok` false): step 1
  enters TRAIN, step 7 BLANK, step 8 READY with every slot blank; a failure repeats the sequence once, and a
  second one puts the subchannel into FAILED. -/
  | dramInit (q step : Nat) (ok : Bool)
  /-- DRAM_BLANK (R340): the pending masks take effect and every READY subchannel is blanked, or the command is
  refused. -/
  | dramBlank
  /-- DRAM_RETRAIN (R340): subchannel `q` begins R339 from step 1, or the command is refused. -/
  | dramRetrain (q : Nat)
  /-- DDR_CNT_CLR (R341): writing 1 clears every DDR_ECC(q) and DDR_LAT(q).MAX. -/
  | ddrCntClr (v : Nat)
  /-- XIN_LOST (R345): input XIN`i` stops being good; where it is the input in use, the reference PLL holds over
  and moves to the other XIN, or to the FIO. -/
  | xinLost (i : Nat)
  /-- REFERENCE_RETURN (R345, R346): input XIN`i` has been good for 1 s (`u` 0), and the reference returns to it
  where it is the one selected; for a die (`u` above 0), SREF has. -/
  | referenceReturn (u i : Nat)
  /-- SREF_LOST_AT_DIE (R346): SREF stops being good at die `d`, whose reference selector takes the die's own FIO.
  -/
  | srefLostAtDie (d : Nat)
  /-- FORCE_SWITCH (R352): the monitor of domain `x` of unit `u` counts 32 SIO cycles without an edge of its
  input, and the domain force-switches; with both oscillators failed it keeps its input. -/
  | forceSwitch (u x : Nat)
  /-- PLL_UNLOCK (R353): the lock detector of PLL `k` of unit `u` trips: its domains switch normally to their
  fallback, and the tick does not void. -/
  | pllUnlock (u k : Nat)
  /-- AUTO_RETURN (R355): the primary PLL of domain `x` of unit `u` has held lock for 1 ms: with AUTORET the
  domain returns to it. -/
  | autoReturn (u x : Nat)
  /-- CLK_RESTORE (R355): RESTORE returns domain `x` of unit `u` to its primary, or is refused. -/
  | clkRestore (u x : Nat)
  /-- CLK_FALLBACK (R355): FALLBACK moves domain `x` of unit `u` to the FIO, or is refused. -/
  | clkFallback (u x : Nat)
  /-- PLL_REWRITE (R350): the host writes `v` to CLK_PLL(j) (`tree` false) or CLK_DOM(j) (`tree` true) of die `d`;
  the system PLLs and the die PLL are not writable. -/
  | pllRewrite (d : Nat) (tree : Bool) (j v : Nat)
  /-- PLL_LOCK (R347, R350): PLL `k` of unit `u` locks after it is enabled or rewritten; trees that left it for a
  rewrite return. -/
  | pllLock (u k : Nat)
  /-- FIO_READY (R343, R354): the FIO of unit `u` reports ready, and the domains on the SIO move to it. -/
  | fioReady (u : Nat)
  /-- FIO_FAILURE (R354): the SIO of unit `u` declares the FIO failed, and the domains on it force-switch to the
  SIO. -/
  | fioFailure (u : Nat)
  /-- SIO_FAILURE (R354): the FIO of unit `u` declares the SIO failed, and the domains on it force-switch to the
  FIO. -/
  | sioFailure (u : Nat)
  /-- FIO_TRIM (R357): the trimmer of unit `u` counts the FIO at `ppm` from 400 MHz (16 bits, two's complement)
  and moves the trim code by at most one step: 0 none, 1 up, 2 down, as leads towards 400 MHz. Without a reference
  it holds. -/
  | fioTrim (u ppm move : Nat)
  /-- CFG_START (R365): START is written to CFG_CMD.OP: a full load from CFG_CTRL.SRC starts, or is refused. -/
  | cfgStart
  /-- CFG_ABORT (R370): ABORT fails the load in progress with ABORT, or is refused with code 2. -/
  | cfgAbort
  /-- CFG_CLEAR (R388): CLEAR clears the active image and leaves STATUS, or is refused. -/
  | cfgClear
  /-- SLAVE_PORT_START (R369, R365): CFG_CS_N falls with CFG_WIDTH at `wide`; with AUTO set a full load starts.
  Before the port opens the edge is only remembered (R552). -/
  | slavePortStart (wide : Bool)
  /-- IMAGE_DATA_WRITE (R370): a write to 0x2200:08 appends `bytes` to the load stream, or is aborted. -/
  | imageDataWrite (bytes : List Nat)
  /-- LOAD_HEADER (R373, R403): the last of the 128 header bytes arrives, and the header is checked. -/
  | loadHeader (bytes : List Nat)
  /-- PLACEMENT_TABLE (R374, R403): the CRC of the placement table arrives, and the table is checked. -/
  | placementTable (bytes : List Nat)
  /-- FRAME_RECORD (R378, R375, R379, R403): a frame record arrives, is checked, and is committed, staged or
  skipped. A record beyond FRAMES, or past the trailer's first byte, fails the load with LENGTH (R380). -/
  | frameRecord (bytes : List Nat)
  /-- LOAD_TRAILER (R380, R384, R385, R404): at time `t`, E of R385, the last trailer byte arrives; `bytes` are the padding and
  the trailer, and `tagOk`, `ecdsaOk` and `hssOk` are what the security processor finds of the tag and the two
  signatures. `vcco` gives the supplies that the dies measure at activation, in mV. -/
  | loadTrailer (bytes : List Nat) (t : Nat) (tagOk ecdsaOk hssOk : Bool) (vcco : List Nat)
  /-- ACTIVATION_DRAM_WAIT_END (R553): every subchannel is READY or FAILED: a waiting activation repeats step 3
  and goes on. -/
  | activationDramWaitEnd (vcco : List Nat)
  /-- LOAD_TIMEOUT (R370): no byte has arrived for TMO, so the load that waits for bytes fails with TIMEOUT. -/
  | loadTimeout
  /-- NICHE_LOAD (R404, R402): LOAD for niche `x` of die `d` isolates and clears it and starts a partial load, or
  is refused. -/
  | nicheLoad (d x : Nat)
  /-- NICHE_CLEAR (R402): CLEAR empties niche `x` of die `d`, or is refused. -/
  | nicheClear (d x : Nat)
  /-- CONFIG_SCRUB_READ (R410, R409, R412): the configuration scrubber of die `d` reads the next plane word, whose
  stored bits upsets have flipped as `upset` says, and corrects or reports it. -/
  | configScrubRead (d upset : Nat)
  /-- BANK_SCRUB_READ (R411): the bank scrubber of die `d` issues its next bank row read, which waits for its
  bank's network slot; at most 16 are outstanding. -/
  | bankScrubRead (d : Nat)
  /-- SCRUB_PARITY_MISMATCH (R415): at time `t` the voted PAR of die `d` differs from the parity of the voted SET:
  the scrubber stops, reloads its settings and goes on, or is HELD. -/
  | scrubParityMismatch (d t : Nat)
  /-- SCRUB_SETTINGS_WRITE (R414, R415, R418): `v` is written to 0x2720 + d:01. -/
  | scrubSettingsWrite (d v : Nat)
  /-- SCRUB_CNT_CLR (R417): writing 1 clears SCRUB_CNT and the CE counts of the niches of die `d`. -/
  | scrubCntClr (d v : Nat)
  /-- SECURE_BOOT (R426, R427, R551): the security processor's reset is released. `fuses`: every fuse word has its
  parity; `roots`: the root slots that match their digests, one bit each; `okA`, `okB`: the hash and both
  signatures of each copy verify; `present`: the tamper conditions that stand; `sealOk`: the tag of the sealed
  copy verifies; `link`: the management link is up. -/
  | secureBoot (fuses : Bool) (roots : Nat) (okA okB : Bool) (present : Nat) (sealOk link : Bool)
  /-- PROVISION (R431): BLANK becomes PROVISIONED, with slot 2 and the device certificate. -/
  | provision (bytes : List Nat) (v : Verdict)
  /-- CLAIM (R431): PROVISIONED becomes OWNED, with the owner's keys. -/
  | claim (bytes : List Nat) (v : Verdict)
  /-- DEPLOY (R431): OWNED becomes FIELD. -/
  | deploy (bytes : List Nat) (v : Verdict)
  /-- MAINTAIN (R431): FIELD becomes OWNED. -/
  | maintain (bytes : List Nat) (v : Verdict)
  /-- RMA (R431): OWNED or FIELD becomes RETURN, and the secret slots are erased. -/
  | rma (bytes : List Nat) (v : Verdict)
  /-- REFURBISH (R431): RETURN becomes PROVISIONED in a new owner epoch. -/
  | refurbish (bytes : List Nat) (v : Verdict)
  /-- DECOMMISSION (R431): any other state becomes DECOMMISSIONED, with KILL set. -/
  | decommission (bytes : List Nat) (v : Verdict)
  /-- KEYSET (R431): one owner slot is replaced. -/
  | keyset (bytes : List Nat) (v : Verdict)
  /-- SVN_SET (R431): IMG_SVN or TOK_SVN is raised. -/
  | svnSet (bytes : List Nat) (v : Verdict)
  /-- REVOKE_ROOT (R424, R431): the revocation bit of a root is set. -/
  | revokeRoot (bytes : List Nat) (v : Verdict)
  /-- COMMIT (R435): the host raises FW_SVN and IMG_SVN to the running versions. -/
  | commit
  /-- SEAL (R443): the host starts the writing of the sealed copy. -/
  | seal
  /-- SEAL_COMPLETE (R443): the sealed copy holds the whole Oasis. -/
  | sealComplete
  /-- WIPE_OASIS (R442): the host starts a wipe. -/
  | wipeOasis
  /-- OASIS_WIPE_DONE (R442): the wipe ends, and requests are served again. -/
  | oasisWipeDone
  /-- DROP_DEBUG (R438): the host writes DROP_DEBUG, and the level falls to 0. -/
  | dropDebug
  /-- FIRMWARE_PACKAGE (R427, R428): a complete download of a firmware package. -/
  | firmwarePackage (bytes : List Nat) (v : Verdict)
  /-- ATTESTATION_NONCE (R439, R440): a 32-byte nonce starts a report, or the request is refused. -/
  | attestationNonce (nonce : List Nat)
  /-- DEBUG_TOKEN (R437): a debug token is presented, and sets the granted level. -/
  | debugToken (bytes : List Nat) (v : Verdict)
  /-- OASIS_PUT (R441): a complete PUT download is decrypted and written into the Oasis, or refused. -/
  | oasisPut (bytes : List Nat) (v : Verdict)
  /-- TAMPER_EVENT (R444, R447): sensor `k` trips, with the conditions of `present` standing, bit i for sensor i +
  1. While the security processor is held in reset the trip is latched for secure boot (R550). -/
  | tamperEvent (k present : Nat)
  /-- CREDIT_ACCRUAL (R440): 2,700 s of powered time have passed, and the report credit rises by one, up to 64. -/
  | creditAccrual
  /-- DEBUG_GRANT_TIMEOUT (R438): the grant ends: its window or its count of boundaries is over, or 86,400 s of
  powered time have passed (`powered`). -/
  | debugGrantTimeout (powered : Bool)
  /-- NMT_START (R459): controller `c` receives Start for `node`, 0 for every node: Operational. -/
  | nmtStart (c node : Nat)
  /-- NMT_STOP (R459): controller `c` receives Stop for `node`: Stopped. -/
  | nmtStop (c node : Nat)
  /-- NMT_ENTER_PRE_OPERATIONAL (R459): controller `c` receives the command for `node`: Pre-operational. -/
  | nmtEnterPreOperational (c node : Nat)
  /-- NMT_RESET_COMMUNICATION (R460): controller `c` receives the command for `node`: the communication objects
  are initialised and the boot-up message is sent. -/
  | nmtResetCommunication (c node : Nat)
  /-- NMT_RESET_NODE (R459): controller `c` receives the command for `node`: the image is cleared where the tick
  allows it, and a reset communication follows. -/
  | nmtResetNode (c node : Nat)
  /-- SDO_UPLOAD (R463): controller `c` completes an upload of an object: its bytes, least significant first, or
  the abort. -/
  | sdoUpload (c idx sub : Nat)
  /-- SDO_DOWNLOAD (R463): controller `c` completes a download of bytes to an object, which is written, or
  aborted. `v` is what cryptography finds in a signed item, and `pins` are the levels at a boundary that a monitor
  request opens. -/
  | sdoDownload (c idx sub : Nat) (bytes : List Nat) (v : Verdict) (pins : List (Nat × Nat × Nat))
  /-- SDO_TIMEOUT (R465): a transfer of an object on controller `c` has stood still for 1 s, and is aborted. -/
  | sdoTimeout (c idx sub : Nat)
  /-- UDP_READ (R467): a READ datagram, of a SELECT value where `sel` has one, reads an object from OFFSET on. -/
  | udpRead (addr port id seq : Nat) (sel : Option Nat) (idx sub offset : Nat)
  /-- UDP_WRITE (R467): a WRITE datagram writes 1 to 1,440 bytes at OFFSET of an object; with `last` it ends the
  series of a DOMAIN value. `v` and `pins` are as for SDO_DOWNLOAD. -/
  | udpWrite (addr port id seq : Nat) (sel : Option Nat) (idx sub offset : Nat) (last : Bool) (bytes : List Nat) (v : Verdict) (pins : List (Nat × Nat × Nat))
  /-- UDP_NMT (R467): an NMT datagram carries a command for `node`; it has no response. -/
  | udpNmt (specifier node : Nat)
  /-- UDP_SESSION_TIMEOUT (R468): a session has been idle for 60 s and is closed. -/
  | udpSessionTimeout (addr port id : Nat)
  /-- ARP_REQUEST (R457): an ARP request for address `addr` is answered with OD_MAC where it is the port's own. -/
  | arpRequest (addr : Nat)
  /-- ICMP_ECHO (R457): an echo request from address `addr` is answered with its payload. -/
  | icmpEcho (addr : Nat) (payload : List Nat)
  /-- HEARTBEAT_PRODUCER (R473): 0x1017 ms have passed, and the heartbeat goes out on every path. -/
  | heartbeatProducer
  /-- HEARTBEAT_RECEIVED (R473): path `p` brings the heartbeat of a node; the entries that watch it are armed, and
  its condition ends. -/
  | heartbeatReceived (p node : Nat)
  /-- HEARTBEAT_CONSUMER_TIMEOUT (R473): the time of the armed consumer entry `j` passes without a heartbeat: EMCY
  0x8130, and the actions of 0x1029:01 and 0x2400:10. While the tick is HALTED no entry expires (R512). -/
  | heartbeatConsumerTimeout (j : Nat)
  /-- SYNC_MESSAGE (R471): at time `t` controller `c` brings a SYNC with its counter, 0 where it carries none; the
  synchronous TPDOs are sampled and sent, and the RPDOs that waited are applied. Only the controller that
  TICK_SRC.CAN names counts (R455). -/
  | syncMessage (c counter t : Nat)
  /-- TPDO_EVENT_TIMER (R471): at time `t` the event timer of TPDO `n` of type 255 expires, and it is sent. -/
  | tpdoEventTimer (n t : Nat)
  /-- RPDO_RECEIVED (R472): path `p` brings RPDO `n`, with its bytes as they travel; it is applied, or waits for
  the next SYNC. -/
  | rpdoReceived (p n : Nat) (bytes : List Nat)
  /-- RPDO_TIMEOUT (R472): no RPDO `n` has arrived within its event time. While the tick is HALTED no event timer
  runs (R512). -/
  | rpdoTimeout (n : Nat)
  /-- EMCY_TRANSMIT (R474): at time `t` the oldest queued emergency goes out, once the inhibit time of 0x1015
  since the last has passed; in Stopped it is held. -/
  | emcyTransmit (t : Nat)
  /-- BUS_OFF_RECOVERY (R455): controller `c` has seen 128 occurrences of 11 recessive bits in bus-off, and
  recovers. -/
  | busOffRecovery (c : Nat)
  /-- OD_CAN_WRITE (R456): OD_CAN(`c`) is written: EN and PROTO take effect at once, the rates are held. -/
  | odCanWrite (c v : Nat)
  /-- OD_ETH_ADDR_WRITE (R457): OD_ETH.ADDR is written, the other fields of OD_ETH with it as they stand. -/
  | odEthAddrWrite (addr : Nat)
  /-- OD_DECLARATION (R489): the OD port of die `d` takes VIDX, VSUB and VDATA `v` with VDECL = 1. -/
  | odDeclaration (d vidx vsub v : Nat)
  /-- OD_UPDATE (R490): the OD port of die `d` takes VIDX, VSUB and VDATA `v` with VDECL = 0: staged while the
  tick is RUNNING, else committed at once. -/
  | odUpdate (d vidx vsub v : Nat)
  /-- FABRIC_OBJECT_WRITE (R491): a host write of bytes, least significant first, to a fabric-implemented object
  completes on controller `c`, and joins the pending list of its die, or is aborted. -/
  | fabricObjectWrite (c idx sub : Nat) (bytes : List Nat)
  /-- OD_HOST_WRITE_TAKE (R491): fabric logic of die `d` takes the presented write with HTAKE: HIDX, HSUB, HDATA
  and HLAST. -/
  | odHostWriteTake (d : Nat)
  /-- MONITOR_TOKEN (R496): a debug token is presented in parts, `b` holding OFFSET and the part's bytes. -/
  | monitorToken (via : Via) (flags tag : Nat) (b : List Nat) (v : Verdict)
  /-- MONITOR_STATUS (R496): the debug and tick state is returned. -/
  | monitorStatus (via : Via) (flags tag : Nat) (b : List Nat)
  /-- MONITOR_HALT (R503): a boundary or an immediate halt is requested, `b` holding MODE. -/
  | monitorHalt (via : Via) (flags tag : Nat) (b : List Nat)
  /-- MONITOR_RELEASE (R506): at time `t` the tick is released at boundary k_r, which `b` holds, with the levels
  `pins` driven on input pins there as (die, pin, level). -/
  | monitorRelease (via : Via) (flags tag : Nat) (b : List Nat) (pins : List (Nat × Nat × Nat)) (t : Nat)
  /-- MONITOR_STEP (R510): at time `t` a number of ticks is asked for, `b` holding the count and k_r; the levels
  `pins` stand on input pins where the tick opens. -/
  | monitorStep (via : Via) (flags tag : Nat) (b : List Nat) (pins : List (Nat × Nat × Nat)) (t : Nat)
  /-- MONITOR_READ (R502): words are read through the debug master, `b` holding ADDR and COUNT. -/
  | monitorRead (via : Via) (flags tag : Nat) (b : List Nat)
  /-- MONITOR_WRITE (R502): words are written through the debug master, `b` holding ADDR, COUNT and the words. -/
  | monitorWrite (via : Via) (flags tag : Nat) (b : List Nat)
  /-- MONITOR_OBJECT (R496): an object is read or written, `b` holding a body of R467. -/
  | monitorObject (via : Via) (flags tag : Nat) (b : List Nat) (v : Verdict)
  /-- MONITOR_READBACK (R517): user state is read through the configuration plane, `b` holding die, KIND and
  INDEX. -/
  | monitorReadback (via : Via) (flags tag : Nat) (b : List Nat)
  /-- MONITOR_COMPARE (R514): a comparator is armed, `b` holding its die, number, CFG, VAL, MASK and LIMIT. -/
  | monitorCompare (via : Via) (flags tag : Nat) (b : List Nat)
  /-- COMPARATOR_MATCH (R515): comparator `c` of die `d` samples its source, with the task-cycle count `pos` of its tree;
  where it matches, it counts, logs or halts. TICK observes the tick number and FABRIC the crossbar source of its tile; what
  the other sources present is `observed`. -/
  | comparatorMatch (d c observed pos : Nat)
  /-- DBG_EVENT_READ (R520): a consuming read of DBG_EVENT returns the oldest event and pops it. -/
  | dbgEventRead
  /-- INSERTION (R534): MATE_N makes with the input at `vin`, units of 10 mV: above 35 V the stage soft-starts,
  and the module is PARKED with its slot pins sampled. -/
  | insertion (pins vin : Nat)
  /-- GRANT (R153, R536, R551): the pins of the grant conditions are met. Within the cold-plate limits the core
  rails start: with every rail of the Plinth and the DRAM good (`good`) the module is RUNNING, and each die of
  `failed` whose core rail failed is isolated, and the repair and stepping fuses read as `fuses`, (die, bank or 512
  for the stepping, columns replaced or 3 for a parity failure); else every core rail is switched off and RAILFAIL
  is set. -/
  | grant (good : Bool) (failed : Nat) (fuses : List (Nat × Nat × Nat))
  /-- EJECT_LEVER (R537, R538): the lever opens the eject switch: the eject sequence with source 1, after which
  the stage is open. -/
  | ejectLever
  /-- GRANT_WITHDRAWN (R537, R538): GRANT_N has been high for 1 ms: RUNNING, the eject sequence with source 2
  leads to PARKED. -/
  | grantWithdrawn
  /-- INPUT_FAILURE (R531, R537, R539): the input fails, or overvoltage opens the stage: source 3. -/
  | inputFailure
  /-- MATE_LOST (R537, R539): MATE_N opens: while not PARKED the module powers down with source 4. -/
  | mateLost
  /-- HOT_SWAP_TRIP (R533, R539): at power manager time `ms` the stage trips and opens, an input failure; the
  third trip within 60 s latches it open. -/
  | hotSwapTrip (ms : Nat)
  /-- TRIP_RETRY (R533): 2 s after a trip the stage starts again, unless a third trip within 60 s keeps it open.
  -/
  | tripRetry (pins : Nat)
  /-- INPUT_CURRENT_LIMITING (R533): the 100 µs average of the input current crosses 9.0 A, with what MOD_VIN then
  reads. -/
  | inputCurrentLimiting (vin iin pin : Nat)
  /-- LEVER_RECLOSED (R538): the lever is closed again after a completed source 1 sequence with MATE_N still low:
  the stage restarts. -/
  | leverReclosed (pins : Nat)
  /-- COLD_PLATE_LIMIT (R540): the sensors, now at `tcp`, cross a limit. -/
  | coldPlateLimit (tcp : Nat)
  /-- LIFE_ACCOUNTING (R545): a second has passed with the sensors at `tcp`. -/
  | lifeAccounting (tcp : Nat)
  /-- LIFE_RECORD_WRITE (R545): the hourly write of the life record. -/
  | lifeRecordWrite
  /-- REGISTER_WRITE (R12): NI `src` writes `v` to the register at `off` of block `block` of unit `u`; what is no
  register of its own row acts by its access code. -/
  | registerWrite (src u block off v : Nat)
  /-- INPUT_TURN_ON (R531): with the module mated, VIN rises above 35 V, to `vin`, having fallen below 20 V before
  (`fell`) or not; a stage that a third trip latched open starts only if it has. -/
  | inputTurnOn (pins vin : Nat) (fell : Bool)
  /-- CAN_BUS_OFF (R478): controller `c` enters bus-off, its counters then reading `tec` and `rec'`; the action of
  0x1029:01 follows. -/
  | canBusOff (c tec rec' : Nat)
  /-- CAN_ERROR_PASSIVE (R476): the error counters of controller `c` take it into error passive (`on`) or out of
  it. -/
  | canErrorPassive (c : Nat) (on : Bool) (tec rec' : Nat)
  /-- CAN_RECEIVE_OVERRUN (R476): `k` frames arrive at controller `c` while its receive buffer is full, and are
  lost. -/
  | canReceiveOverrun (c k : Nat)
  /-- CFG_CS_N_RISE (R365, R368): CFG_CS_N rises: CFG_ERR_N is released after a refused start, and data are no
  longer ignored. -/
  | cfgCsNRise
  deriving DecidableEq, Repr

end Sys2Proof
end

