-- ==== Sys2Proof/Decode.lean ====
section
/-! DEFINITION. Words of the table. The spec's table of commands gives no row any bits: the part is a block, which takes its
commands as register accesses, packets, messages and events, and decodes no instruction words. -/

namespace Sys2Proof

/-- The command that a word of `nbits` bits spells by the table's bits: none, since no row of the table has bits. -/
def decodeTableWord (_nbits _w : Nat) : Option Instr := none

end Sys2Proof
end

