-- ==== Sys2Proof/Config.lean ====
section
/-! DEFINITION. What one part of the family fixes, and the values the spec leaves open.

R4 gives the family members by their number of compute dies. This model is the GLV8 of speed grade 10 and
temperature grade E (log entry 1). A field without a body is a free value: nothing in Lean can evaluate it. -/

namespace Sys2Proof.Config

/-- The number of compute dies of the module (R4, R547 MOD_ID.DIES). -/
def n : Nat := 8

/-- The speed grade: 0 grade 10, 1 grade 08 (R102, R547). -/
def grade : Nat := 0

/-- The temperature grade: 0 grade E, 1 grade X (R547). -/
def tempGrade : Nat := 0

/-- The module revision: 1 is A (R547). -/
def revision : Nat := 1

/-- The stepping of the Plinth: B0 (R214). -/
def plinthStep : Nat := 0x20

/-- The stepping of every compute die: C0 (R214). -/
def dieStep : Nat := 0x30

/-- The free values: the `k`-th open value that the machine meets, on `w` bits or fewer once truncated.
The spec leaves each of them open. -/
opaque freeBits (w : Nat) : Nat → Nat

/-- A signal that the spec leaves open, in the `k`-th cycle of free values, at place `place`. -/
opaque freeSignal (k place : Nat) : Bool

/-- The route string of auto entry `e` of NI `ni` as the firmware computes it for the `gen`-th device default tables:
R379 states no string. -/
opaque defaultRoute (gen ni e : Nat) : Nat

/-- Whether, with the image that is active after `k` computations of the default tables, no T-class route of its catalogue passes router `r` of
unit `u`: R376 states no layout for the catalogue. -/
opaque noTRoute (k u r : Nat) : Bool

/-- The ECDSA (`hss` false) or HSS signature that the device identity makes over a message, the HSS one with leaf `leaf`
(R9, R439). -/
opaque signed (hss : Bool) (leaf : Nat) : List Nat → Nat

end Sys2Proof.Config
end

