-- ==== Sys2Proof/Machine/Fields.lean ====
section
/-! DEFINITION. The registers of the part, field by field, under the manual's names.

One enumeration for each register block of R21 (`TickF.STATE_REFUSE` is the manual's TICK_STATE.REFUSE). A name that
begins with a small letter is no register: it is state that a rule gives the block beside its registers, and its
line says which. -/

namespace Sys2Proof.Machine

/-- The fields of the TICK block (R72, R73), and what its rules hold beside them. -/
inductive TickF where
  | CTRL_CMD | STATE_STATE | STATE_CONTRACT | STATE_RESUMABLE | STATE_LOCKED | STATE_WARN | STATE_REFUSE
  | PERIOD_P | GUARD_G | PMIN_PMIN | GMIN_GMIN | ORIGIN | START_INDEX | NUMBER | SRC_SRC | SRC_PORT
  | SRC_CAN | SRC_PROFILE | SRC_LOCKED | SRC_LOCK_LIMIT | VOID_CAUSE_CAUSE | VOID_CAUSE_UNIT
  | VOID_CAUSE_WHERE | VOID_CAUSE_MASK | VOID_CAUSE_TICK | GROUP_EN | GROUP_MASTER | GROUP_PORT
  | GROUP_MEMBERS | GROUP_ID | GROUP_NOTICE | WDOG_PERIOD | WDOG_REMAIN | WDOG_KICK_KICK | SLACK_LAST_SLACK
  | SLACK_LAST_UNIT | SLACK_LAST_VALID | SLACK_MIN_SLACK | SLACK_MIN_UNIT | SLACK_WARN_THRESH
  | WARN_COUNT_COUNT | SLACK_CLR_CLR | UNIT_SLACK | UNIT_PRESENT | UNIT_LATE
  /-- R33: time index of the boundary that opened the tick in progress. -/
  | kCur
  /-- R33: time index of the next boundary. -/
  | kNext
  /-- R42, R43: the armed run is fresh (ARM), not continued (RESUME). -/
  | fresh
  /-- R40: 1 a PAUSE, 2 a STOP waits for the next boundary that commits. -/
  | wait
  /-- R45 step 3: commit is decided for the coming boundary. -/
  | decided
  /-- R43: the number that follows the last committed tick. -/
  | nextNumber
  /-- R45: the deadline of the tick in progress has passed. -/
  | ended
  /-- R64: V, in units of 2^-16 ns. -/
  | voidAt
  /-- R37, R91: unit u is done in the tick in progress. -/
  | done
  /-- R60: the slack of unit u in the tick in progress. -/
  | doneSlack
  /-- R31: consecutive source updates within LOCK_LIMIT, up to 16. -/
  | lockCount
  /-- R61: boundaries that must still commit before another slack warning emergency may be raised. -/
  | warnLeft
  /-- R69: members whose DECISION of this tick has arrived, by ID. -/
  | grpSeen
  /-- R69: a member of the group reported void for this tick. -/
  | grpVoid
  /-- R69: the group commit of this tick has been received. -/
  | grpCommit
  /-- R69: the group decision of this tick has been sent. -/
  | grpSent
  /-- R72: last write to TICK_ORIGIN_HI. -/
  | originHi
  /-- R72: last write to TICK_START_INDEX_HI. -/
  | startHi
  /-- R72: last write to TICK_NUMBER_HI. -/
  | numberHi
  /-- R72: TICK_ORIGIN_HI as latched by a read of _LO. -/
  | originLatch
  /-- R72: TICK_START_INDEX_HI as latched by a read of _LO. -/
  | startLatch
  /-- R72: TICK_NUMBER_HI as latched by a read of _LO. -/
  | numberLatch
  /-- R72: TICK_TIME_HI as latched by a read of _LO. -/
  | timeLatch
  /-- R508: the first void cause recorded while HALTED, 0 none. -/
  | heldCause
  /-- R508: its unit. -/
  | heldUnit
  /-- R508: its place. -/
  | heldWhere
  /-- R508: every cause recorded while HALTED. -/
  | heldMask
  /-- R505: an immediate halt has stopped or has interrupted the tick in progress. -/
  | midTick
  /-- R133: poison was consumed in the tick in progress under the report policy. -/
  | poisonMark
  deriving DecidableEq, Repr

/-- The fields of the FAB block (R102), and what its rules hold beside them. -/
inductive FabF where
  | ID_COLS | ID_ROWS | ID_CELLS | ID_GRADE | STATE_STATE | SELERR_VALID | SELERR_KIND | SELERR_X
  | SELERR_Y | SELERR_FIELD | SELERR_CODE | TREE_DEPTH | TREE_FMAX | TREE_NOTHROTTLE | RSTTREE_CLOCK
  | RSTTREE_USER | RSTTREE_ASSERTED | IOCFG_MODE | IOCFG_STD | IOCFG_DRIVE | IOCFG_SLEW | IOCFG_PULL
  | IOCFG_TERM | IOCFG_INIT | IOCFG_INIT_OE | IOCFG_VOID | IOCFG_SAFE | IOCFG_SER8 | IOCFG_SERCLK
  | IOSTAT_VCCO_MV | IOSTAT_VCCO_OK | IOSTAT_VCCO_BAD | IOSTAT_BANK_OFF | IOSTAT_USED | IOSTAT_VCCO_DECL
  | IOPULL_UP
  /-- R52: the sample of input tick latch p. -/
  | tickIn
  /-- R52, R95: the value that output tick latch p drives. -/
  | outV
  /-- R52, R95: the output enable of output tick latch p. -/
  | outOE
  /-- R95: the value that latch p sampled at the deadline. -/
  | samV
  /-- R95: the output enable that latch p sampled at the deadline. -/
  | samOE
  /-- R561: the level that the keeper of pin p holds. -/
  | keep
  /-- R64: output latch p drives its safe value since a void. -/
  | safeNow
  /-- R92: the fabric clocks of the die run. -/
  | clocksRun
  /-- R91: the tick strobe of tree t is presented in the cycle in progress. -/
  | strobe
  /-- R91: DONE(u) has been 0 since the tick strobe. -/
  | doneLow
  /-- R89: the root of user reset tree r in the last six cycles of tree t, at 16 r + t. -/
  | rstHist
  /-- R94: the input registers of pin p in a DIRECT, DDR or SERDES cell. -/
  | inReg
  deriving DecidableEq, Repr

/-- The fields of the AS block (R118, R123), and what its rules hold beside them. -/
inductive AsF where
  | CFG_SPLIT | CFG_SIGN_A | CFG_SIGN_B | CFG_PRE | CFG_ZSRC | CFG_SHIFT | CFG_RND | CFG_SAT
  | CFG_OUT_SIGNED | CFG_TREE | CFG_RST_TREE | CFG_USED | ID_SLICES | ID_COLUMNS | ID_PER_COL | ID_LATENCY
  | CFGERR_VALID | CFGERR_KIND | CFGERR_SLICE | CFGERR_VALUE | CFGERR_BIT | SUM_RANGE_SLICES
  | SUM_WRAP_SLICES | STICKY_CLR_CLR | STAT_RANGE | STAT_WRAP | STAT_ACTIVE
  /-- R109: the accumulator of slice n. -/
  | acc
  /-- R114: Y0 of slice n. -/
  | y0
  /-- R114: RANGE(k) of the result presented. -/
  | range
  /-- R109: WRAP(k) of the result presented. -/
  | wrap
  /-- R115: VALID of the result presented. -/
  | valid
  /-- R115, R518: what stages S1 to S4 hold: PA, B and D with CE, LOAD and NEG; the signed product and D with CE and LOAD, in
  S2 and in S3; CE and WRAP(k) of the update in S4. -/
  | s1pa | s1b | s1d | s1ctl | s2p | s2d | s2ctl | s3p | s3d | s3ctl | s4ce | s4wrap
  deriving DecidableEq, Repr

/-- The fields of the BANK block (R158, R161), and what its rules hold beside them. -/
inductive BankF where
  | CFG_USED | CFG_MODE | CFG_FLIP | CFG_MAILBOX | CFG_PORTB | CFG_SIDE_A | CFG_SIDE_B | CFG_TREE_A
  | CFG_TREE_B | CFG_DUTY | ID_BANKS | ID_DUAL | ID_ROWS | CFGERR_VALID | CFGERR_KIND | CFGERR_BANK
  | POLICY_POISON | ECC_SUM_CE | ECC_SUM_UE | ECC_SUM_VALIDFIX | ERRLOG_VALID | ERRLOG_BANK | ERRLOG_ROW
  | ERRLOG_SOURCE | ERRLOG_CONSUMED | ERRLOG_TICK | ECC_CLR_CLR | RC_CTRL_EN | RC_CTRL_LINES
  | RC_HITS_COUNT | RC_MISSES_COUNT | RC_PARERR_COUNT | TEST_ADDR_ROW | TEST_ADDR_BANK | TEST_DATA_DATA
  | TEST_CHECK_CHECK | TEST_CHECK_VALID | TEST_CMD_OP | STAT_PWR | STAT_BUSY | STAT_FAILED | STAT_REPAIRED
  | STAT_LOCK_A | STAT_LOCK_B | STAT_LOCKERR | STAT_OPERR | STAT_UE | STAT_CE | STAT_REFUSE | PWR_REQ
  /-- R142: the physical half that is the read side of bank b. -/
  | readHalf
  /-- R129: 1 the whole bank, 2 the write side is being blanked. -/
  | blanking
  /-- R149: the request whose transition is in progress, 0 none. -/
  | goal
  /-- R145: the row that port A holds locked. -/
  | lockRowA
  /-- R145: the row that port B holds locked. -/
  | lockRowB
  /-- R136: RDATA as port 2b + p last presented it. -/
  | rdata
  /-- R134: RVALID, CORR, POISON, ZERO, LOCKED, OFF, LOCKERR, OPERR as port 2b + p last presented them. -/
  | flags
  /-- R157: the next remote cache line to invalidate in rotating order. -/
  | rcRotor
  deriving DecidableEq, Repr

/-- The fields of the ERG block (R196), and what its rules hold beside them. -/
inductive ErgF where
  | ID_NI_BASE | ID_ROUTERS | ID_CHANNELS | ID_TIDS | MODE_DAXAT | RTR_CTRL_CMD | RTR_STAT_STATE
  | RTR_STAT_REFUSE | RTR_STAT_DISCARD | RTR_STAT_FLITS | RTR_CFG_WRAP_X | RTR_CFG_WRAP_Y | RTR_CFG_PMAP
  | RTR_CFG_NO_T | NI_CFG_QUAR | NI_CFG_FABRIC | NI_STAT_TIMEOUTS | NI_STAT_LATE | NI_STAT_DISCARD
  | NI_ERRLOG_VALID | NI_ERRLOG_STATUS | NI_ERRLOG_CHANNEL | NI_ERRLOG_TID | NI_ERRLOG_PEER
  | NI_ERRLOG_TICK | NI_ERRLOG_TYPE | DOM_CTRL_LIMIT | DOM_STAT_STATE | DOM_STAT_FABOFF | DOM_STAT_DROPPED
  | CH_CFG_EN | CH_CFG_CLASS | CH_CFG_TMO | RT_ROUTE_ROUTE | RT_DEST_DEST | RT_DEST_VALID | DT_CODE
  /-- R185: the generation of TID t of NI k, at index 256 k + t. -/
  | gen
  /-- R47: tick mailbox m of NI k is enabled, at index 4 k + m. -/
  | mboxOn
  /-- R47: the bank of tick mailbox m of NI k, at index 4 k + m. -/
  | mboxBank
  /-- R193: the fabric side domain of NI k: 0 OPEN, 1 DRAINING, 2 CLOSED. -/
  | fabState
  /-- R194: when the die domain entered DRAINING. -/
  | drainAt
  /-- R379: the route tables hold the device defaults. -/
  | defRoutes
  /-- R379: how often the firmware has computed the default route tables (unit 0). -/
  | routeGen
  /-- R170: the host has written this entry of a table that held the device defaults. -/
  | rtOwn
  /-- R399: the fabric side of NI k is CLOSED for want of a channel or mailbox. -/
  | fabNone
  /-- R171, R192: the row wrap of router r in the topology that the NIs have taken up. -/
  | topX
  /-- R171, R192: its column wrap. -/
  | topY
  /-- R171, R192: its port map. -/
  | topMap
  deriving DecidableEq, Repr

/-- The fields of the SEIF block (R234), and what its rules hold beside them. -/
inductive SeifF where
  | CTRL_CMD | STAT_STATE | STAT_WIDTH | STAT_ROUNDS | STAT_ROLE | STAT_HOLD | STAT_REFUSE | STAT_DEGRADED
  | STAT_PEER | STAT_LAST_FAIL | TXMAP_LO_MAP | TXMAP_HI_MAP | RXMAP_LO_MAP | RXMAP_HI_MAP | ERR_CRC
  | ERR_REPLAY | ERR_LOST | TRAIN_ROUNDS | TRAIN_LOSSES | TRAIN_SPARES | COMPAT_LEVEL | COMPAT_REASON
  | COMPAT_DIE | COMPAT_PLINTH | COMPAT_MATRIX | COMPAT_DEGRADED | DIE_STEP | DIE_LEVEL | DIE_STATE
  | DIE_CAUSE | DIE_FUSE_BAD | DIE_REFUSE | DIECTRL_CMD
  /-- R208: the wires that this side of link l marks good in TXOK. -/
  | txok
  /-- R208: RXOK of this side. -/
  | rxok
  /-- R208, R210: TXOK of the partner MAP that this side holds. -/
  | pTx
  /-- R208, R210: RXOK of the partner MAP that this side holds. -/
  | pRx
  /-- R209: its W16 capability bit. -/
  | pW16
  /-- R210: this side holds a partner MAP. -/
  | pHeld
  /-- R210, R211: the next round is a full round. -/
  | mustFull
  /-- R213: U of both directions in the last ACTIVE state. -/
  | lastU
  /-- R213: the link has been ACTIVE. -/
  | lastHas
  /-- R203: the SEQ that this side expects. -/
  | expect
  /-- R203: NAK is due in the next block that this side sends. -/
  | nakOut
  /-- R203: this side discards every block until the expected one arrives. -/
  | discard
  /-- R202: the SEQ of the next sequenced block that this side sends. -/
  | txSeq
  /-- R202: what a packet in progress that this side receives still has to come, twice, and its virtual channel, by
  12 l + 3 channel + slot code - 1. -/
  | rxProg
  /-- R202: the flits that this side has sent into its partner's buffers, by 24 l + 6 channel + pool. -/
  | credOut
  /-- R202: the credits that this side has to return, by 24 l + 6 channel + pool. -/
  | credPend
  /-- R198: the scrambler of wire x of this side's transmit direction, at 68 l + x. -/
  | scram
  /-- R209: the Plinth has set SEIF_COMPAT.LEVEL since power-on or the last REJOIN. -/
  | levelSet
  /-- R214: the stepping fuses of unit u. -/
  | fuseStep
  /-- R214: the stepping fuses of unit u fail their parity. -/
  | fuseBad
  /-- R227: die d is coming back from isolation, at index d. -/
  | joining
  deriving DecidableEq, Repr

/-- The fields of the MOD block (R236, R547), and what its rules hold beside them. -/
inductive ModF where
  | BUDGET_A | BUDGET_FLOOR | BUDGET_LIMITING | GRANT_GRANT | GRANT_REQ | GRANT_CAP | DGRANT_GRANT
  | DGRANT_SEQ | DPWR_POWER | DPWR_TJ | DPWR_K | DPWR_OVER | DPWR_STALE | DPWR_TRIP | ID_DIES | ID_REV
  | ID_SPEED | ID_TEMP | STAT_STATE | STAT_GRANT | STAT_LEVER | STAT_EJSRC | STAT_LIMITING
  | STAT_LIMIT_SEEN | STAT_HOT | STAT_COLD | STAT_GRAD | STAT_RAILFAIL | STAT_LASTPF | STAT_LASTTRIP
  | VIN_VIN | VIN_IIN | VIN_PIN | TEMP_TCP | TEMP_HOTTEST | TEMP_SPREAD | LIFE_EQ_EQH | LIFE_EQ_CONSUMED
  | LIFE_CNT_PWRH | LIFE_CNT_MATES | LIFE_CNT_TRIPS | LIFE_CYC_TCYC | LIFE_CYC_EJECTS | LIFE_CYC_PFAIL
  | DRAIL_CORE | DRAIL_STBY | DRAIL_VCORE
  /-- R550, R536: the core rails of the Plinth are up. -/
  | coreOn
  /-- R376: the declared power of die d, units of 10 mW, at index d. -/
  | declared
  /-- R220: the grant that is on its way to die d, at index d. -/
  | sentGrant
  /-- R220: its sequence number. -/
  | sentSeq
  /-- R220: a grant is on its way to die d. -/
  | sentHas
  /-- R225: the core rail of die d is on, at index d. -/
  | dieOn
  /-- R550: the standby rail is up. -/
  | stby
  /-- R524: MATE_N is made. -/
  | mated
  /-- R533: the stage stays open until VIN falls below 20 V. -/
  | latchedOpen
  /-- R533: power manager time of the last trips, ms, newest at index 0. -/
  | tripAt
  /-- R533: tripAt holds a time. -/
  | tripHas
  /-- R533: the stage has tripped and has not yet retried. -/
  | tripWait
  /-- R538: a source 1 sequence has completed and the lever has not been closed again. -/
  | leverOut
  /-- R539: the last power-down was source 3 or 4. -/
  | lastPf
  /-- R539: the last power-down was a trip. -/
  | lastTrip
  /-- R555: no boot-up message has been sent since this start. -/
  | firstBoot
  /-- R545: the part of EQH below its unit, in 360ths of 2^-40 of it. -/
  | eqFrac
  /-- R545: seconds with the standby rail up, below a full hour. -/
  | pwrSec
  /-- R545: the hottest sensor has risen by 30 K from its last minimum. -/
  | cycUp
  /-- R545: the minimum, or after the rise the maximum, of the hottest sensor. -/
  | cycExt
  /-- R545: cycExt holds a temperature. -/
  | cycHas
  /-- R545: the life record in its store, field by field. -/
  | stored
  deriving DecidableEq, Repr

/-- The fields of the QM block (R261), and what its rules hold beside them. -/
inductive QmF where
  | ID_QUEUES | ID_PRIOS | ID_SLOTS | ID_MAXOPEN | CFG_OPEN_TMO | CFG_MAXPKT | POOL_FREE | POOL_MIN_FREE
  | CMD_QUEUE | CMD_OP | CMDSTAT_REFUSE | CMDSTAT_BUSY | ECC_CE | ECC_UE | ECC_ABANDON | ECC_PFWD
  | ERRLOG_VALID | ERRLOG_QUEUE | ERRLOG_KIND | ERRLOG_TICK | CNT_CLR_CLR | QCFG_MODE | QCFG_NOTIFY_EN
  | QCFG_HOSTPRIO | QCFG_QUOTA | QCFG_NOTIFY | QCFG_CONSUMER | QCFG_STATUS | QSTAT_STATE | QSTAT_OCC
  | QSTAT_OPEN | QSTAT_LAST_END | QSTAT_LAST_IDLE | QSTAT_LAST_PRIO | QSTAT_CURRENT | QSTAT_DROP
  | QSTAT_ABANDON | QSTAT_NOTICE_LOST | QSTAT_POISON | QSTAT_STAGED | QCNT_LO_CNT0 | QCNT_LO_CNT1
  | QCNT_HI_CNT2 | QCNT_HI_CNT3 | POP_DATA | PEEK_DATA | PUSH_DATA | PUSHEND_DATA
  /-- R251: slots of queue q that tentative pops hold until the boundary commits. -/
  | tent
  /-- R257: the state to which queue q returns after its flush. -/
  | back
  /-- R240: the packet record or the ownership entries of queue q have become uncorrectable. -/
  | recordBad
  deriving DecidableEq, Repr

/-- The fields of the CVN block (R286), and what its rules hold beside them. -/
inductive CvnF where
  | ID_CONTEXTS | ID_ENGINES | ID_MAXLEN | ID_WORDS | STAT_ENABLED | STAT_FAULTS | WALK_LAST | WALK_MAX
  | WALK_DUE | UNMATCHED_COUNT | VOIDDROP_COUNT | ERRLOG_VALID | ERRLOG_KIND | ERRLOG_CONTEXT | ERRLOG_PORT
  | ERRLOG_TICK | CNT_CLR_CLR | PORT_FRAMES | PORT_STATUS
  /-- R272: the walk time of the tick in progress, ns. -/
  | walkNow
  /-- R38, R272: when the walk of the tick in progress is complete, in units of 2^-16 ns. -/
  | walkEnd
  /-- R271: the due contexts of the tick in progress. -/
  | dueNow
  /-- R286: frames handed to port p in the tick in progress. -/
  | framesNow
  /-- R286: status entries received on port p in the tick in progress. -/
  | statusNow
  deriving DecidableEq, Repr

/-- The fields of the PP block (R317). -/
inductive PpF where
  | ID_PORTS | ID_LANES | ID_ULANES | GRP_MAC_ADDR | CTRL_CMD | CFG_MODE | CFG_LANES | CFG_AN | CFG_LT
  | CFG_NOFEC | CFG_ALT_EN | CFG_AUTOSTART | CFG_AUTORETRY | CFG_MAXPAY | CFG_ATTEMPT | ALT_ALT1 | ALT_ALT2
  | ALT_ALT3 | STAT_STATE | STAT_ENTRY | STAT_DEGRADED | STAT_FAILED | STAT_ACTIVE | STAT_REFUSE
  | STAT_DOWN | STAT_LOSSES | STAT_SRCLOST | MAC_ADDR | CVN_ETYPE | PTP_ROLE | PTP_P2P | PTP_LOGSYNC
  | PTP_DOMAIN | PTP_ASYM | TXCNT_FRAMES | TXCNT_DROP | RXCNT_CARAVAN | RXCNT_PTP | RXCNT_OTHER | RXERR_FCS
  | RXERR_CHECK | RXERR_MALFORMED | FEC_CORR | FEC_UNCORR | LCFG_TXPOL | LCFG_RXPOL | LCFG_SERLIM
  | LSTAT_SIGDET | LSTAT_CDRLOCK | LSTAT_INUSE | LSTAT_FAILED | LSTAT_SNR | LSTAT_SYMERR | LTX_PRE3
  | LTX_PRE2 | LTX_PRE1 | LTX_MAIN | LTX_POST | LTX_CTLE | LTX_ADAPT | LTX_REFUSE | LPRBS_GEN | LPRBS_CHK
  | LPRBS_LOCK | LPRBS_ERR | LPRBS_CLR | UCFG_USED | UCFG_PAM4 | UCFG_WIDTH | UCFG_REF | UCFG_RATE
  | UCFG_TXPOL | UCFG_RXPOL | UCFG_TREE | USTAT_PLLLOCK | USTAT_SIGDET | USTAT_CDRLOCK | USTAT_TXUNF
  | USTAT_RXOVF | USTAT_SNR | USTAT_IDLE | UTX_PRE3 | UTX_PRE2 | UTX_PRE1 | UTX_MAIN | UTX_POST | UTX_CTLE
  | UTX_ADAPT | UTX_REFUSE | UPRBS_GEN | UPRBS_CHK | UPRBS_LOCK | UPRBS_ERR | UPRBS_CLR
  deriving DecidableEq, Repr

/-- The fields of the DDR block (R341), and what its rules hold beside them. -/
inductive DdrF where
  | ID_SUBCH | ID_RATE | ID_LOG2SLOTS | CMD_OP | CMD_SUB | CMDSTAT_REFUSE | CMDSTAT_BUSY | SCRUB_INTERVAL
  | SCRUB_PASSES | ERRLOG_VALID | ERRLOG_SUB | ERRLOG_KIND | ERRLOG_SLOT | ERRLOG_SOURCE | CNT_CLR_CLR
  | MAP_MASK | MAPACT_MASK | STAT_STATE | STAT_FAST | STAT_HOT | STAT_TEMP | STAT_FAIL | STAT_WCRC | ECC_CE
  | ECC_UE | ECC_ODECS | LAT_MAX | LAT_REFS
  /-- R339: the subchannel has failed training once. -/
  | tries
  /-- R332: bursts left of the write turn in progress. -/
  | turn
  /-- R332: when it began. -/
  | turnAt
  /-- R332: column commands of subchannel q since one was offered to M first. -/
  | columns
  /-- R332: 1 + the row open in bank b of subchannel q, at index 32 q + b; 0 none. -/
  | openRow
  /-- R336: the next burst of the patrol in subchannel q. -/
  | patrol
  /-- R336: patrol passes completed in subchannel q. -/
  | passes
  deriving DecidableEq, Repr

/-- The fields of the CLK block (R362), and what its rules hold beside them. -/
inductive ClkF where
  | ID_PLLS | ID_DOMAINS | OSC_SIO_OK | OSC_FIO_RDY | OSC_SIO_FAIL | OSC_FIO_FAIL | OSC_BOTH | OSC_FIO_PPM
  | FIOTRIM_SRC | FIOTRIM_CODE | FIOTRIM_TRIMMED | REF_SRC | REF_ALT | REF_ACT | REF_HOLD | REF_SWITCHED
  | XIN_FREQ | XIN_GOOD | XIN_LOST | TB_STEP | TB_FREE | TBSTAT_RATE | TBSTAT_OFFSET | TBSTAT_STEPS | PLL_N
  | PLL_F | PLL_D | PLL_EN | PLL_LOCK | PLL_UNLOCK | PLL_LOSSES | DOM_ACT | DOM_PLLSEL | DOM_TDIV
  | DOM_AUTORET | DOM_INTR | DOM_FORCED | DOM_GUARD | DOM_FNOM | DOMCTL_CMD | DOMCTL_REFUSE
  /-- R358: r at a resolution of 2^-40, two's complement. -/
  | servoRate
  /-- R358: integ at a resolution of 2^-40, two's complement. -/
  | servoInteg
  /-- R359: the source time of the last SYNC edge, in units of 2^-16 ns. -/
  | canTime
  /-- R359: a SYNC edge or a TIME message has given a source time. -/
  | canKnown
  /-- R359: a TIME message has set the source time of the next SYNC edge. -/
  | canNext
  /-- R350: PLL k relocks after a rewrite, in bit 0, and in bit 1 + x, tree x has left it until then. -/
  | relock
  /-- R346: the die takes its own FIO in place of SREF. -/
  | ownRef
  deriving DecidableEq, Repr

/-- The fields of the CFG block (R391), and what its rules hold beside them. -/
inductive CfgF where
  | ID_FORMAT | ID_PLACEMENTS | CTRL_SRC | CTRL_AUTO | CTRL_PLACE | CTRL_TMO | CMD_OP | STAT_STATE
  | STAT_ACTIVE | STAT_STATUS | STAT_REFUSE | STAT_TAG_OK | STAT_ECDSA_OK | STAT_HSS_OK | STAT_SRC
  | STAT_WIDTH | STAT_PLACE | STAT_LDIES | STAT_PARTIAL | IMAGE | PROGRESS_BYTES | ERRFRAME_INDEX
  | ERRFRAME_FTYPE | ERRFRAME_UNIT | LOADS_OK | LOADS_FAILED | DIE_LOGICAL | DIE_FRAMES
  /-- R72: CFG_IMAGE_HI as latched by a read of _LO. -/
  | imageLatch
  /-- R364: the load in progress: 0 none, 1 full, 2 partial. -/
  | loadKind
  /-- R402: the die of the partial load in progress. -/
  | loadDie
  /-- R402: its niche. -/
  | loadNiche
  /-- R403: the partial load was started with the tick ARMED or RUNNING. -/
  | liveStart
  /-- R372: LDIES of the image in progress. -/
  | ldM
  /-- R372: NPLACE. -/
  | ldPlaces
  /-- R372: LEVEL. -/
  | ldLevel
  /-- R372: FLAGS. -/
  | ldFlags
  /-- R372: KEYSLOT. -/
  | ldKeyslot
  /-- R372: DEKSLOT. -/
  | ldDekslot
  /-- R372: IMAGE_ID. -/
  | ldId
  /-- R372: BASE_ID. -/
  | ldBase
  /-- R372: SVN. -/
  | ldSvn
  /-- R372: PMIN. -/
  | ldPmin
  /-- R372: GMIN. -/
  | ldGmin
  /-- R372: FRAMES. -/
  | ldFrames
  /-- R372: LENGTH. -/
  | ldLength
  /-- R374: the placement in force, die of logical die L in [4L + 3:4L]. -/
  | ldPlace
  /-- R386: the placement table has passed its checks. -/
  | ldTable
  /-- R380: frame records taken. -/
  | ldSeen
  /-- R553, R404: 1 the activation waits for DRAM, 2 for the debugger release. -/
  | waits
  /-- R374: the placement of the active image. -/
  | actPlace
  /-- R372: FLAGS of the active image. -/
  | actFlags
  /-- R435: SVN of the active image. -/
  | actSvn
  /-- R366: CFG_CS_N is low. -/
  | csLow
  /-- R366: CFG_RDY is driven 1. -/
  | rdy
  /-- R366: CFG_DONE is driven 1. -/
  | donePin
  /-- R388: CFG_ERR_N is held low by a failed load. -/
  | errFail
  /-- R365: CFG_ERR_N is held low by a refused start. -/
  | errRefuse
  /-- R364: CFG_WIDTH as it was when CFG_CS_N last fell. -/
  | widthPin
  /-- R439: D of the active image. -/
  | actDigest
  /-- R439: partial images activated since the full load. -/
  | partN
  /-- R439: D of partial image j since the full load, at index j. -/
  | partD
  /-- R380: D of the load whose activation waits. -/
  | ldDigest
  /-- R368: data are ignored until CFG_CS_N rises. -/
  | ignoring
  deriving DecidableEq, Repr

/-- The fields of the NCH block (R417). -/
inductive NchF where
  | ID_NICHES | ID_GATEWAY | CTRL_CMD | STAT_STATE | STAT_GATEWAY | STAT_LIVE | STAT_REFUSE | STAT_UE
  | STAT_CE | STAT_PLOADS | ISO_CODES
  deriving DecidableEq, Repr

/-- The fields of the SCRUB block (R417), and what its rules hold beside them. -/
inductive ScrubF where
  | SET_SET | SET_PAR | STAT_STATE | STAT_SETERR | STAT_RELOADS | STAT_CFG_PASSES | STAT_BANK_PASSES
  | POS_CFG | POS_BANK | CNT_CFG_CE | CNT_CFG_UE | CNT_PASS_CE | ERRLOG_VALID | ERRLOG_WORD | ERRLOG_NICHE
  | ERRLOG_TICK | CNT_CLR_CLR
  /-- R418: object 0x2720 + d:01, the reload source of R415. -/
  | settings
  /-- R415: when the last reloads took place, newest first, at index 0 to 2. -/
  | reloadAt
  /-- R415: reloadAt holds a time. -/
  | reloadHas
  /-- R413: corrections in the configuration pass in progress. -/
  | passCe
  /-- R413: the warning of the pass in progress has been raised. -/
  | warned
  deriving DecidableEq, Repr

/-- The fields of the SEC block (R450), and what its rules hold beside them. -/
inductive SecF where
  | ID_SLOTS | ID_COUNTERS | ID_TRANS_MAX | STAT_LC | STAT_DBG_LEVEL | STAT_DBG_CONSUME | STAT_RECOVERY
  | STAT_OASIS_BUSY | STAT_OASIS_SEALED | STAT_TRANS | STAT_CREDIT | STAT_ATT | CMDSTAT_RESULT
  | CMDSTAT_BUSY | CMDSTAT_CODE | DEVID_ID | CNT_VALUE | TAMPER_ACTIVE | TAMPER_LATCHED | TAMPER_CLASS2
  | TAMPER_EVENTS | TLOG_SENSOR | TLOG_CLASS | TLOG_TICK | FW_RELEASE | FW_COPY | FW_PENDING | FW_OTHER_OK
  | FW_ROOT | KEYS_PRESENT | KEYS_REVOKED
  /-- R438: the first tick number of the debug grant in force. -/
  | tokLo
  /-- R438: the last tick number of the debug grant in force. -/
  | tokHi
  /-- R438: boundaries committed since the grant. -/
  | tokCount
  /-- R438: the time of the grant. -/
  | tokTime
  /-- R421, R432: the 64 one-way TRANS bits. -/
  | fuses
  /-- R421: KILL. -/
  | kill
  /-- R421: the unique device secret. -/
  | uds
  /-- R421: the SHA-384 digest of key slot j that the fuses hold, at index j. -/
  | rootDigest
  /-- R428: RELEASE of firmware copy j, 0 A, 1 B. -/
  | fwRel
  /-- R428: SVN of firmware copy j. -/
  | fwSvn
  /-- R428: MATRIX of firmware copy j. -/
  | fwMatrix
  /-- R428: firmware copy j holds a verified package. -/
  | fwOk
  /-- R425: the active copy of the boot record. -/
  | active
  /-- R443: SEAL is in progress. -/
  | lateOasis
  /-- R444, R550: sensors that tripped while the security processor was held in reset. -/
  | tamperWait
  deriving DecidableEq, Repr

/-- The fields of the OD block (R493), and what its rules hold beside them. -/
inductive OdF where
  | ID_CAN | ID_PDOS | ID_SESSIONS | ID_FVALUES | NODE_NODE_ID | NODE_VALID | NODE_BR | NODE_FD | NODE_NMT
  | NODE_EMCY_LOST | CAN_EN | CAN_FD | CAN_NBR | CAN_DBR | CAN_PROTO | CAN_STATE | CAN_TEC | CAN_REC
  | CAN_BUSOFF | CAN_PENDING | ETH_EN | ETH_LINK | ETH_ADDR | ETH_PREFIX | ETH_OPEN | HOST_ADDR | HOST_PORT
  | GW_ADDR | MAC_ADDR | FPORT_READY | FPORT_OPEN | FPORT_DECLARED | FPORT_CONFLICTS | FPORT_BADUPD
  | FPORT_OVERFLOW | FPORT_PENDING
  /-- object 0x1006: communication cycle period, us. -/
  | cyclePeriod
  /-- object 0x1012: COB-ID TIME. -/
  | timeCob
  /-- R551 step 6: the firmware runs and its services are up. -/
  | up
  /-- R475: error register bits that event rows have set. -/
  | eventBits
  /-- R473: consumer entry j of 0x1016 has received a heartbeat. -/
  | armed
  /-- R471: SYNCs counted for TPDO j since its last transmission. -/
  | syncCount
  /-- R471: the SYNC whose counter equals sub-index 06 of TPDO j has been seen. -/
  | syncOn
  /-- R470: 0x8210 has been sent for RPDO j, or TPDO j - 8, since its mapping was last written. -/
  | pdoSaid
  /-- R471: when TPDO j was last sent. -/
  | tpdoAt
  /-- R471: TPDO j has been sent. -/
  | tpdoHas
  /-- R474: when the last emergency was sent. -/
  | emcyAt
  /-- R474: an emergency has been sent. -/
  | emcyHas
  /-- R456: FD of controller j as held. -/
  | heldFd
  /-- R456: NBR of controller j as held. -/
  | heldNbr
  /-- R456: DBR of controller j as held. -/
  | heldDbr
  /-- R466: the counter of device-initiated messages of kind j. -/
  | udpSeq
  /-- R476: frames that controller j has lost. -/
  | canLost
  deriving DecidableEq, Repr

/-- The fields of the DBG block (R520), and what its rules hold beside them. -/
inductive DbgF where
  | ID_COMPARATORS | ID_EVENTS | STAT_HALT | STAT_PENDING | STAT_TOUCHED | STAT_STEPPING | STAT_STEPS
  | STAT_CAUSE | STAT_CMP | STAT_UNIT | STAT_DROPPED | STAT_AUTOREL | STAT_LOST | STAT_QUEUED | EVENT_VALID
  | EVENT_UNIT | EVENT_CMP | EVENT_TICK | EVENT_POS | EVENT_PEEK_EVENT | CMP_CFG_SRC | CMP_CFG_ACTION
  | CMP_CFG_CHAIN | CMP_CFG_ONCE | CMP_CFG_SEL | CMP_VAL_VAL | CMP_MASK_MASK | CMP_CNT_LIMIT | CMP_CNT_HITS
  | TREEPOS_POS | TREEPOS_STOPPED
  /-- R504, R510: the coming boundary does not count: the request came after step 3 of R45. -/
  | later
  deriving DecidableEq, Repr

/-- Every scalar of the part, by block. -/
inductive Fld where
  | tick (f : TickF)
  | fab (f : FabF)
  | slc (f : AsF)
  | bank (f : BankF)
  | erg (f : ErgF)
  | seif (f : SeifF)
  | mod (f : ModF)
  | qm (f : QmF)
  | cvn (f : CvnF)
  | pp (f : PpF)
  | ddr (f : DdrF)
  | clk (f : ClkF)
  | cfg (f : CfgF)
  | nch (f : NchF)
  | scrub (f : ScrubF)
  | sec (f : SecF)
  | od (f : OdF)
  | dbg (f : DbgF)
  deriving DecidableEq, Repr

end Sys2Proof.Machine
end

