-- ==== Sys2Proof/Machine/Sparse.lean ====
section
/-! DEFINITION. Sparse stores in one canonical form.

A store is a list of keys and values. A key it does not list reads as the store's default. The canonical form:
keys strictly rising by their number, and no entry equal to what an unlisted key reads as (`wf`). -/

namespace Sys2Proof.Machine.Sparse

/-- The value of `k`: the listed one, or the default. -/
def get {κ : Type} [DecidableEq κ] (d : κ → Nat) : List (κ × Nat) → κ → Nat
  | [], k => d k
  | (k', v) :: r, k => if k' = k then v else get d r k

/-- Without the entry of `k`. -/
def erase {κ : Type} [DecidableEq κ] (l : List (κ × Nat)) (k : κ) : List (κ × Nat) :=
  l.filter fun e => decide (e.1 ≠ k)

/-- With an entry put in its place by number. -/
def insert {κ : Type} (num : κ → Nat) (k : κ) (v : Nat) : List (κ × Nat) → List (κ × Nat)
  | [] => [(k, v)]
  | (k', v') :: r => if num k < num k' then (k, v) :: (k', v') :: r else (k', v') :: insert num k v r

/-- With `k` set to `v`; setting the default removes the entry. -/
def set {κ : Type} [DecidableEq κ] (num : κ → Nat) (d : κ → Nat) (l : List (κ × Nat)) (k : κ) (v : Nat) :
    List (κ × Nat) :=
  if v = d k then erase l k else insert num k v (erase l k)

/-- With every key that meets `p` back at its default. -/
def clear {κ : Type} (p : κ → Bool) (l : List (κ × Nat)) : List (κ × Nat) :=
  l.filter fun e => !p e.1

/-- Keys strictly rising. -/
def sorted {κ : Type} (num : κ → Nat) : List (κ × Nat) → Bool
  | [] => true
  | [_] => true
  | a :: b :: r => decide (num a.1 < num b.1) && sorted num (b :: r)

/-- The canonical form. -/
def wf {κ : Type} (num : κ → Nat) (d : κ → Nat) (l : List (κ × Nat)) : Bool :=
  sorted num l && l.all fun e => decide (e.2 ≠ d e.1)

/-- Two numbers as one, each pair its own. -/
def pair (a b : Nat) : Nat := (a + b) * (a + b) + b

end Sys2Proof.Machine.Sparse
end

