-- ==== Sys2Proof/Machine/Regs.lean ====
section
/-! DEFINITION. Where each register field stands, how it is accessed, and its reset value (R12, R21 and the register
tables of the chapters). -/

namespace Sys2Proof.Machine

/-- The access codes of R12; `hid` marks state that is no register. -/
inductive Acc where
  | ro | rw | wo | w1c | rc | const | hid
  deriving DecidableEq, Repr

/-- A field's place: first register of its array, distance and number of the registers, lowest bit, width, access,
reset value, and whether the Plinth and whether a die has it. -/
structure FInfo where
  reg : Nat
  stride : Nat
  count : Nat
  lo : Nat
  width : Nat
  acc : Acc
  reset : Nat
  plinth : Bool
  die : Bool
  deriving DecidableEq, Repr

/-- State of `w` bits that is no register. -/
def hidden (w r : Nat) : FInfo := ⟨0, 0, 0, 0, w, .hid, r, true, true⟩

/-- The fields of the TICK block (R72, R73). -/
def tickInfo : TickF → FInfo
  | .CTRL_CMD => ⟨0, 1, 1, 0, 3, .wo, 0, true, false⟩
  | .STATE_STATE => ⟨1, 1, 1, 0, 3, .ro, 0, true, false⟩
  | .STATE_CONTRACT => ⟨1, 1, 1, 3, 1, .ro, 0, true, false⟩
  | .STATE_RESUMABLE => ⟨1, 1, 1, 4, 1, .ro, 0, true, false⟩
  | .STATE_LOCKED => ⟨1, 1, 1, 5, 1, .ro, 0, true, false⟩
  | .STATE_WARN => ⟨1, 1, 1, 6, 1, .w1c, 0, true, false⟩
  | .STATE_REFUSE => ⟨1, 1, 1, 8, 4, .ro, 0, true, false⟩
  | .PERIOD_P => ⟨2, 1, 1, 0, 26, .rw, 0xf4240, true, false⟩
  | .GUARD_G => ⟨3, 1, 1, 0, 16, .rw, 400, true, false⟩
  | .PMIN_PMIN => ⟨4, 1, 1, 0, 26, .ro, 0x7d0, true, false⟩
  | .GMIN_GMIN => ⟨5, 1, 1, 0, 16, .ro, 400, true, false⟩
  | .ORIGIN => ⟨6, 1, 1, 0, 64, .rw, 0, true, false⟩
  | .START_INDEX => ⟨8, 1, 1, 0, 64, .rw, 0, true, false⟩
  | .NUMBER => ⟨10, 1, 1, 0, 64, .rw, 0, true, false⟩
  | .SRC_SRC => ⟨14, 1, 1, 0, 3, .rw, 0, true, false⟩
  | .SRC_PORT => ⟨14, 1, 1, 3, 3, .rw, 0, true, false⟩
  | .SRC_CAN => ⟨14, 1, 1, 6, 1, .rw, 0, true, false⟩
  | .SRC_PROFILE => ⟨14, 1, 1, 7, 1, .rw, 0, true, false⟩
  | .SRC_LOCKED => ⟨14, 1, 1, 8, 1, .ro, 0, true, false⟩
  | .SRC_LOCK_LIMIT => ⟨14, 1, 1, 16, 16, .rw, 1000, true, false⟩
  | .VOID_CAUSE_CAUSE => ⟨15, 1, 1, 0, 8, .ro, 0, true, false⟩
  | .VOID_CAUSE_UNIT => ⟨15, 1, 1, 8, 4, .ro, 0, true, false⟩
  | .VOID_CAUSE_WHERE => ⟨15, 1, 1, 12, 4, .ro, 0, true, false⟩
  | .VOID_CAUSE_MASK => ⟨15, 1, 1, 16, 15, .ro, 0, true, false⟩
  | .VOID_CAUSE_TICK => ⟨15, 1, 1, 32, 16, .ro, 0, true, false⟩
  | .GROUP_EN => ⟨16, 1, 1, 0, 1, .rw, 0, true, false⟩
  | .GROUP_MASTER => ⟨16, 1, 1, 1, 1, .rw, 0, true, false⟩
  | .GROUP_PORT => ⟨16, 1, 1, 2, 3, .rw, 0, true, false⟩
  | .GROUP_MEMBERS => ⟨16, 1, 1, 5, 4, .rw, 0, true, false⟩
  | .GROUP_ID => ⟨16, 1, 1, 9, 4, .rw, 0, true, false⟩
  | .GROUP_NOTICE => ⟨16, 1, 1, 16, 16, .rw, 0x7d0, true, false⟩
  | .WDOG_PERIOD => ⟨17, 1, 1, 0, 16, .rw, 0, true, false⟩
  | .WDOG_REMAIN => ⟨17, 1, 1, 16, 16, .ro, 0, true, false⟩
  | .WDOG_KICK_KICK => ⟨18, 1, 1, 0, 1, .wo, 0, true, false⟩
  | .SLACK_LAST_SLACK => ⟨0, 1, 1, 0, 26, .ro, 0, false, true⟩
  | .SLACK_LAST_UNIT => ⟨0, 1, 1, 26, 4, .ro, 0, false, true⟩
  | .SLACK_LAST_VALID => ⟨0, 1, 1, 30, 1, .ro, 0, false, true⟩
  | .SLACK_MIN_SLACK => ⟨1, 1, 1, 0, 26, .ro, 0x3ffffff, false, true⟩
  | .SLACK_MIN_UNIT => ⟨1, 1, 1, 26, 4, .ro, 0, false, true⟩
  | .SLACK_WARN_THRESH => ⟨2, 1, 1, 0, 26, .rw, 0, false, true⟩
  | .WARN_COUNT_COUNT => ⟨3, 1, 1, 0, 32, .ro, 0, false, true⟩
  | .SLACK_CLR_CLR => ⟨4, 1, 1, 0, 1, .wo, 0, false, true⟩
  | .UNIT_SLACK => ⟨32, 1, 16, 0, 26, .ro, 0, true, true⟩
  | .UNIT_PRESENT => ⟨32, 1, 16, 26, 1, .ro, 0, true, true⟩
  | .UNIT_LATE => ⟨32, 1, 16, 27, 1, .ro, 0, true, true⟩
  | .kCur => hidden 64 0
  | .kNext => hidden 64 0
  | .fresh => hidden 1 0
  | .wait => hidden 2 0
  | .decided => hidden 1 0
  | .nextNumber => hidden 64 0
  | .ended => hidden 1 0
  | .voidAt => hidden 80 0
  | .done => hidden 1 0
  | .doneSlack => hidden 26 0
  | .lockCount => hidden 5 0
  | .warnLeft => hidden 11 0
  | .grpSeen => hidden 16 0
  | .grpVoid => hidden 1 0
  | .grpCommit => hidden 1 0
  | .grpSent => hidden 1 0
  | .originHi => hidden 16 0
  | .startHi => hidden 16 0
  | .numberHi => hidden 16 0
  | .originLatch => hidden 32 0
  | .startLatch => hidden 32 0
  | .numberLatch => hidden 32 0
  | .timeLatch => hidden 32 0
  | .heldCause => hidden 8 0
  | .heldUnit => hidden 4 0
  | .heldWhere => hidden 4 0
  | .heldMask => hidden 15 0
  | .midTick => hidden 1 0
  | .poisonMark => hidden 1 0

/-- The fields of the FAB block (R102). -/
def fabInfo : FabF → FInfo
  | .ID_COLS => ⟨0, 1, 1, 0, 16, .const, 256, false, true⟩
  | .ID_ROWS => ⟨0, 1, 1, 16, 16, .const, 192, false, true⟩
  | .ID_CELLS => ⟨0, 1, 1, 32, 8, .const, 64, false, true⟩
  | .ID_GRADE => ⟨0, 1, 1, 40, 1, .const, 0, false, true⟩
  | .STATE_STATE => ⟨1, 1, 1, 0, 3, .ro, 0, false, true⟩
  | .SELERR_VALID => ⟨2, 1, 1, 0, 1, .w1c, 0, false, true⟩
  | .SELERR_KIND => ⟨2, 1, 1, 1, 3, .ro, 0, false, true⟩
  | .SELERR_X => ⟨2, 1, 1, 4, 8, .ro, 0, false, true⟩
  | .SELERR_Y => ⟨2, 1, 1, 12, 8, .ro, 0, false, true⟩
  | .SELERR_FIELD => ⟨2, 1, 1, 20, 10, .ro, 0, false, true⟩
  | .SELERR_CODE => ⟨2, 1, 1, 30, 9, .ro, 0, false, true⟩
  | .TREE_DEPTH => ⟨16, 1, 16, 0, 3, .ro, 0, false, true⟩
  | .TREE_FMAX => ⟨16, 1, 16, 3, 10, .ro, 0, false, true⟩
  | .TREE_NOTHROTTLE => ⟨16, 1, 16, 13, 1, .ro, 0, false, true⟩
  | .RSTTREE_CLOCK => ⟨32, 1, 4, 0, 4, .ro, 0, false, true⟩
  | .RSTTREE_USER => ⟨32, 1, 4, 4, 1, .const, 0, false, true⟩
  | .RSTTREE_ASSERTED => ⟨32, 1, 4, 5, 1, .ro, 0, false, true⟩
  | .IOCFG_MODE => ⟨64, 1, 24, 0, 3, .ro, 0, false, true⟩
  | .IOCFG_STD => ⟨64, 1, 24, 3, 3, .ro, 0, false, true⟩
  | .IOCFG_DRIVE => ⟨64, 1, 24, 6, 2, .ro, 0, false, true⟩
  | .IOCFG_SLEW => ⟨64, 1, 24, 8, 1, .ro, 0, false, true⟩
  | .IOCFG_PULL => ⟨64, 1, 24, 9, 2, .ro, 0, false, true⟩
  | .IOCFG_TERM => ⟨64, 1, 24, 11, 1, .ro, 0, false, true⟩
  | .IOCFG_INIT => ⟨64, 1, 24, 12, 1, .ro, 0, false, true⟩
  | .IOCFG_INIT_OE => ⟨64, 1, 24, 13, 1, .ro, 0, false, true⟩
  | .IOCFG_VOID => ⟨64, 1, 24, 14, 1, .ro, 0, false, true⟩
  | .IOCFG_SAFE => ⟨64, 1, 24, 15, 2, .ro, 0, false, true⟩
  | .IOCFG_SER8 => ⟨64, 1, 24, 17, 1, .ro, 0, false, true⟩
  | .IOCFG_SERCLK => ⟨64, 1, 24, 18, 3, .ro, 0, false, true⟩
  | .IOSTAT_VCCO_MV => ⟨96, 1, 1, 0, 16, .ro, 0, false, true⟩
  | .IOSTAT_VCCO_OK => ⟨96, 1, 1, 16, 1, .ro, 0, false, true⟩
  | .IOSTAT_VCCO_BAD => ⟨96, 1, 1, 17, 1, .w1c, 0, false, true⟩
  | .IOSTAT_BANK_OFF => ⟨96, 1, 1, 18, 1, .ro, 0, false, true⟩
  | .IOSTAT_USED => ⟨96, 1, 1, 19, 1, .ro, 0, false, true⟩
  | .IOSTAT_VCCO_DECL => ⟨96, 1, 1, 20, 3, .ro, 0, false, true⟩
  | .IOPULL_UP => ⟨97, 1, 1, 0, 1, .rw, 0, false, true⟩
  | .tickIn => hidden 1 0
  | .outV => hidden 1 0
  | .outOE => hidden 1 0
  | .samV => hidden 1 0
  | .samOE => hidden 1 0
  | .keep => hidden 1 0
  | .safeNow => hidden 1 0
  | .clocksRun => hidden 1 0
  | .strobe => hidden 1 0
  | .doneLow => hidden 1 0
  | .rstHist => hidden 6 0
  | .inReg => hidden 8 0

/-- The fields of the AS block (R118, R123). -/
def asInfo : AsF → FInfo
  | .CFG_SPLIT => ⟨0x3000, 1, 4608, 0, 2, .const, 0, false, true⟩
  | .CFG_SIGN_A => ⟨0x3000, 1, 4608, 2, 1, .const, 0, false, true⟩
  | .CFG_SIGN_B => ⟨0x3000, 1, 4608, 3, 1, .const, 0, false, true⟩
  | .CFG_PRE => ⟨0x3000, 1, 4608, 4, 2, .const, 0, false, true⟩
  | .CFG_ZSRC => ⟨0x3000, 1, 4608, 6, 2, .const, 0, false, true⟩
  | .CFG_SHIFT => ⟨0x3000, 1, 4608, 8, 7, .const, 0, false, true⟩
  | .CFG_RND => ⟨0x3000, 1, 4608, 15, 2, .const, 0, false, true⟩
  | .CFG_SAT => ⟨0x3000, 1, 4608, 17, 1, .const, 0, false, true⟩
  | .CFG_OUT_SIGNED => ⟨0x3000, 1, 4608, 18, 1, .const, 0, false, true⟩
  | .CFG_TREE => ⟨0x3000, 1, 4608, 19, 4, .const, 0, false, true⟩
  | .CFG_RST_TREE => ⟨0x3000, 1, 4608, 23, 2, .const, 0, false, true⟩
  | .CFG_USED => ⟨0x3000, 1, 4608, 25, 1, .const, 0, false, true⟩
  | .ID_SLICES => ⟨0, 1, 1, 0, 16, .const, 0x1200, false, true⟩
  | .ID_COLUMNS => ⟨0, 1, 1, 16, 8, .const, 48, false, true⟩
  | .ID_PER_COL => ⟨0, 1, 1, 24, 8, .const, 96, false, true⟩
  | .ID_LATENCY => ⟨0, 1, 1, 32, 4, .const, 6, false, true⟩
  | .CFGERR_VALID => ⟨1, 1, 1, 0, 1, .w1c, 0, false, true⟩
  | .CFGERR_KIND => ⟨1, 1, 1, 1, 3, .ro, 0, false, true⟩
  | .CFGERR_SLICE => ⟨1, 1, 1, 4, 13, .ro, 0, false, true⟩
  | .CFGERR_VALUE => ⟨1, 1, 1, 17, 7, .ro, 0, false, true⟩
  | .CFGERR_BIT => ⟨1, 1, 1, 24, 5, .ro, 0, false, true⟩
  | .SUM_RANGE_SLICES => ⟨2, 1, 1, 0, 13, .ro, 0, false, true⟩
  | .SUM_WRAP_SLICES => ⟨2, 1, 1, 13, 13, .ro, 0, false, true⟩
  | .STICKY_CLR_CLR => ⟨3, 1, 1, 0, 1, .wo, 0, false, true⟩
  | .STAT_RANGE => ⟨0x1000, 1, 4608, 0, 4, .w1c, 0, false, true⟩
  | .STAT_WRAP => ⟨0x1000, 1, 4608, 4, 4, .w1c, 0, false, true⟩
  | .STAT_ACTIVE => ⟨0x1000, 1, 4608, 8, 1, .ro, 0, false, true⟩
  | .acc => hidden 120 0
  | .y0 => hidden 48 0
  | .range => hidden 4 0
  | .wrap => hidden 4 0
  | .valid => hidden 1 0
  | .s1pa => hidden 52 0
  | .s1b | .s1d | .s2d | .s3d => hidden 48 0
  | .s1ctl => hidden 3 0
  | .s2p | .s3p => hidden 120 0
  | .s2ctl | .s3ctl => hidden 2 0
  | .s4ce => hidden 1 0
  | .s4wrap => hidden 4 0

/-- The fields of the BANK block (R158, R161). -/
def bankInfo : BankF → FInfo
  | .CFG_USED => ⟨0x1000, 1, 512, 0, 1, .const, 0, false, true⟩
  | .CFG_MODE => ⟨0x1000, 1, 512, 1, 1, .const, 0, false, true⟩
  | .CFG_FLIP => ⟨0x1000, 1, 512, 2, 1, .const, 0, false, true⟩
  | .CFG_MAILBOX => ⟨0x1000, 1, 512, 3, 1, .const, 0, false, true⟩
  | .CFG_PORTB => ⟨0x1000, 1, 512, 4, 1, .const, 0, false, true⟩
  | .CFG_SIDE_A => ⟨0x1000, 1, 512, 5, 1, .const, 0, false, true⟩
  | .CFG_SIDE_B => ⟨0x1000, 1, 512, 6, 1, .const, 0, false, true⟩
  | .CFG_TREE_A => ⟨0x1000, 1, 512, 7, 4, .const, 0, false, true⟩
  | .CFG_TREE_B => ⟨0x1000, 1, 512, 11, 4, .const, 0, false, true⟩
  | .CFG_DUTY => ⟨0x1000, 1, 512, 15, 16, .const, 0, false, true⟩
  | .ID_BANKS => ⟨0, 1, 1, 0, 16, .const, 512, false, true⟩
  | .ID_DUAL => ⟨0, 1, 1, 16, 8, .const, 32, false, true⟩
  | .ID_ROWS => ⟨0, 1, 1, 24, 15, .const, 0x4000, false, true⟩
  | .CFGERR_VALID => ⟨1, 1, 1, 0, 1, .w1c, 0, false, true⟩
  | .CFGERR_KIND => ⟨1, 1, 1, 1, 3, .ro, 0, false, true⟩
  | .CFGERR_BANK => ⟨1, 1, 1, 4, 9, .ro, 0, false, true⟩
  | .POLICY_POISON => ⟨2, 1, 1, 0, 1, .rw, 0, false, true⟩
  | .ECC_SUM_CE => ⟨3, 1, 1, 0, 16, .ro, 0, false, true⟩
  | .ECC_SUM_UE => ⟨3, 1, 1, 16, 16, .ro, 0, false, true⟩
  | .ECC_SUM_VALIDFIX => ⟨3, 1, 1, 32, 16, .ro, 0, false, true⟩
  | .ERRLOG_VALID => ⟨4, 1, 1, 0, 1, .w1c, 0, false, true⟩
  | .ERRLOG_BANK => ⟨4, 1, 1, 1, 9, .ro, 0, false, true⟩
  | .ERRLOG_ROW => ⟨4, 1, 1, 10, 14, .ro, 0, false, true⟩
  | .ERRLOG_SOURCE => ⟨4, 1, 1, 24, 2, .ro, 0, false, true⟩
  | .ERRLOG_CONSUMED => ⟨4, 1, 1, 26, 1, .w1c, 0, false, true⟩
  | .ERRLOG_TICK => ⟨4, 1, 1, 32, 16, .ro, 0, false, true⟩
  | .ECC_CLR_CLR => ⟨5, 1, 1, 0, 1, .wo, 0, false, true⟩
  | .RC_CTRL_EN => ⟨16, 1, 1, 0, 1, .rw, 1, false, true⟩
  | .RC_CTRL_LINES => ⟨16, 1, 1, 1, 17, .const, 0x10000, false, true⟩
  | .RC_HITS_COUNT => ⟨17, 1, 1, 0, 48, .ro, 0, false, true⟩
  | .RC_MISSES_COUNT => ⟨18, 1, 1, 0, 48, .ro, 0, false, true⟩
  | .RC_PARERR_COUNT => ⟨19, 1, 1, 0, 32, .ro, 0, false, true⟩
  | .TEST_ADDR_ROW => ⟨32, 1, 1, 0, 14, .rw, 0, false, true⟩
  | .TEST_ADDR_BANK => ⟨32, 1, 1, 14, 9, .rw, 0, false, true⟩
  | .TEST_DATA_DATA => ⟨33, 1, 1, 0, 48, .rw, 0, false, true⟩
  | .TEST_CHECK_CHECK => ⟨34, 1, 1, 0, 7, .rw, 0, false, true⟩
  | .TEST_CHECK_VALID => ⟨34, 1, 1, 7, 3, .rw, 0, false, true⟩
  | .TEST_CMD_OP => ⟨35, 1, 1, 0, 2, .wo, 0, false, true⟩
  | .STAT_PWR => ⟨0x1400, 1, 512, 0, 2, .ro, 0, false, true⟩
  | .STAT_BUSY => ⟨0x1400, 1, 512, 2, 1, .ro, 0, false, true⟩
  | .STAT_FAILED => ⟨0x1400, 1, 512, 3, 1, .ro, 0, false, true⟩
  | .STAT_REPAIRED => ⟨0x1400, 1, 512, 4, 2, .ro, 0, false, true⟩
  | .STAT_LOCK_A => ⟨0x1400, 1, 512, 6, 1, .ro, 0, false, true⟩
  | .STAT_LOCK_B => ⟨0x1400, 1, 512, 7, 1, .ro, 0, false, true⟩
  | .STAT_LOCKERR => ⟨0x1400, 1, 512, 8, 1, .w1c, 0, false, true⟩
  | .STAT_OPERR => ⟨0x1400, 1, 512, 9, 1, .w1c, 0, false, true⟩
  | .STAT_UE => ⟨0x1400, 1, 512, 10, 1, .w1c, 0, false, true⟩
  | .STAT_CE => ⟨0x1400, 1, 512, 11, 16, .ro, 0, false, true⟩
  | .STAT_REFUSE => ⟨0x1400, 1, 512, 27, 3, .ro, 0, false, true⟩
  | .PWR_REQ => ⟨0x1800, 1, 512, 0, 3, .wo, 0, false, true⟩
  | .readHalf => hidden 1 0
  | .blanking => hidden 2 0
  | .goal => hidden 3 0
  | .lockRowA => hidden 14 0
  | .lockRowB => hidden 14 0
  | .rdata => hidden 48 0
  | .flags => hidden 8 0
  | .rcRotor => hidden 16 0

/-- The fields of the ERG block (R196). -/
def ergInfo : ErgF → FInfo
  | .ID_NI_BASE => ⟨0, 1, 1, 0, 10, .const, 0, true, true⟩
  | .ID_ROUTERS => ⟨0, 1, 1, 10, 5, .const, 16, true, true⟩
  | .ID_CHANNELS => ⟨0, 1, 1, 15, 4, .const, 4, true, true⟩
  | .ID_TIDS => ⟨0, 1, 1, 19, 9, .const, 256, true, true⟩
  | .MODE_DAXAT => ⟨1, 1, 1, 0, 1, .ro, 0, true, true⟩
  | .RTR_CTRL_CMD => ⟨16, 1, 16, 0, 2, .wo, 0, true, true⟩
  | .RTR_STAT_STATE => ⟨32, 1, 16, 0, 2, .ro, 0, true, true⟩
  | .RTR_STAT_REFUSE => ⟨32, 1, 16, 2, 3, .ro, 0, true, true⟩
  | .RTR_STAT_DISCARD => ⟨32, 1, 16, 5, 11, .ro, 0, true, true⟩
  | .RTR_STAT_FLITS => ⟨32, 1, 16, 16, 32, .ro, 0, true, true⟩
  | .RTR_CFG_WRAP_X => ⟨48, 1, 16, 0, 1, .rw, 1, true, true⟩
  | .RTR_CFG_WRAP_Y => ⟨48, 1, 16, 1, 1, .rw, 1, true, true⟩
  | .RTR_CFG_PMAP => ⟨48, 1, 16, 2, 18, .rw, 0x2c688, true, true⟩
  | .RTR_CFG_NO_T => ⟨48, 1, 16, 20, 1, .ro, 0, true, true⟩
  | .NI_CFG_QUAR => ⟨64, 1, 16, 0, 16, .rw, 1000, true, true⟩
  | .NI_CFG_FABRIC => ⟨64, 1, 16, 16, 1, .const, 0, true, true⟩
  | .NI_STAT_TIMEOUTS => ⟨80, 1, 16, 0, 16, .ro, 0, true, true⟩
  | .NI_STAT_LATE => ⟨80, 1, 16, 16, 16, .ro, 0, true, true⟩
  | .NI_STAT_DISCARD => ⟨80, 1, 16, 32, 16, .ro, 0, true, true⟩
  | .NI_ERRLOG_VALID => ⟨96, 1, 16, 0, 1, .w1c, 0, true, true⟩
  | .NI_ERRLOG_STATUS => ⟨96, 1, 16, 1, 4, .ro, 0, true, true⟩
  | .NI_ERRLOG_CHANNEL => ⟨96, 1, 16, 5, 2, .ro, 0, true, true⟩
  | .NI_ERRLOG_TID => ⟨96, 1, 16, 7, 8, .ro, 0, true, true⟩
  | .NI_ERRLOG_PEER => ⟨96, 1, 16, 15, 10, .ro, 0, true, true⟩
  | .NI_ERRLOG_TICK => ⟨96, 1, 16, 25, 16, .ro, 0, true, true⟩
  | .NI_ERRLOG_TYPE => ⟨96, 1, 16, 41, 4, .ro, 0, true, true⟩
  | .DOM_CTRL_LIMIT => ⟨128, 1, 1, 0, 16, .rw, 10, true, true⟩
  | .DOM_STAT_STATE => ⟨129, 1, 1, 0, 2, .ro, 0, true, true⟩
  | .DOM_STAT_FABOFF => ⟨129, 1, 1, 2, 16, .ro, 0, true, true⟩
  | .DOM_STAT_DROPPED => ⟨129, 1, 1, 18, 30, .ro, 0, true, true⟩
  | .CH_CFG_EN => ⟨256, 1, 64, 0, 1, .ro, 0, true, true⟩
  | .CH_CFG_CLASS => ⟨256, 1, 64, 1, 2, .ro, 0, true, true⟩
  | .CH_CFG_TMO => ⟨256, 1, 64, 3, 16, .rw, 0, true, true⟩
  | .RT_ROUTE_ROUTE => ⟨0x10000, 2, 16384, 0, 48, .rw, 0, true, true⟩
  | .RT_DEST_DEST => ⟨0x10001, 2, 16384, 0, 10, .rw, 0, true, true⟩
  | .RT_DEST_VALID => ⟨0x10001, 2, 16384, 10, 1, .rw, 0, true, true⟩
  | .DT_CODE => ⟨0x20000, 1, 16384, 0, 3, .rw, 0, true, true⟩
  | .gen => hidden 2 0
  | .mboxOn => hidden 1 0
  | .mboxBank => hidden 9 0
  | .fabState => hidden 2 0
  | .drainAt => hidden 80 0
  | .defRoutes => hidden 1 0
  | .routeGen => hidden 32 0
  | .rtOwn => hidden 1 0
  | .fabNone => hidden 1 0
  | .topX => hidden 1 1
  | .topY => hidden 1 1
  | .topMap => hidden 18 0x2c688

/-- The fields of the SEIF block (R234). -/
def seifInfo : SeifF → FInfo
  | .CTRL_CMD => ⟨0, 16, 8, 0, 2, .wo, 0, true, true⟩
  | .STAT_STATE => ⟨1, 16, 8, 0, 3, .ro, 0, true, true⟩
  | .STAT_WIDTH => ⟨1, 16, 8, 3, 2, .ro, 0, true, true⟩
  | .STAT_ROUNDS => ⟨1, 16, 8, 5, 2, .ro, 0, true, true⟩
  | .STAT_ROLE => ⟨1, 16, 8, 7, 1, .const, 0, true, true⟩
  | .STAT_HOLD => ⟨1, 16, 8, 8, 3, .ro, 0, true, true⟩
  | .STAT_REFUSE => ⟨1, 16, 8, 11, 2, .ro, 0, true, true⟩
  | .STAT_DEGRADED => ⟨1, 16, 8, 13, 1, .ro, 0, true, true⟩
  | .STAT_PEER => ⟨1, 16, 8, 14, 8, .ro, 0, true, true⟩
  | .STAT_LAST_FAIL => ⟨1, 16, 8, 22, 4, .ro, 0, true, true⟩
  | .TXMAP_LO_MAP => ⟨2, 16, 8, 0, 48, .ro, 0, true, true⟩
  | .TXMAP_HI_MAP => ⟨3, 16, 8, 0, 20, .ro, 0, true, true⟩
  | .RXMAP_LO_MAP => ⟨4, 16, 8, 0, 48, .ro, 0, true, true⟩
  | .RXMAP_HI_MAP => ⟨5, 16, 8, 0, 20, .ro, 0, true, true⟩
  | .ERR_CRC => ⟨6, 16, 8, 0, 16, .ro, 0, true, true⟩
  | .ERR_REPLAY => ⟨6, 16, 8, 16, 16, .ro, 0, true, true⟩
  | .ERR_LOST => ⟨6, 16, 8, 32, 16, .ro, 0, true, true⟩
  | .TRAIN_ROUNDS => ⟨7, 16, 8, 0, 16, .ro, 0, true, true⟩
  | .TRAIN_LOSSES => ⟨7, 16, 8, 16, 16, .ro, 0, true, true⟩
  | .TRAIN_SPARES => ⟨7, 16, 8, 32, 3, .ro, 0, true, true⟩
  | .COMPAT_LEVEL => ⟨256, 1, 1, 0, 4, .ro, 0, true, false⟩
  | .COMPAT_REASON => ⟨256, 1, 1, 4, 4, .ro, 0, true, false⟩
  | .COMPAT_DIE => ⟨256, 1, 1, 8, 4, .ro, 0, true, false⟩
  | .COMPAT_PLINTH => ⟨256, 1, 1, 12, 8, .const, 0, true, false⟩
  | .COMPAT_MATRIX => ⟨256, 1, 1, 20, 16, .ro, 0, true, false⟩
  | .COMPAT_DEGRADED => ⟨256, 1, 1, 36, 1, .ro, 0, true, false⟩
  | .DIE_STEP => ⟨272, 1, 8, 0, 8, .ro, 0, true, false⟩
  | .DIE_LEVEL => ⟨272, 1, 8, 8, 4, .ro, 0, true, false⟩
  | .DIE_STATE => ⟨272, 1, 8, 12, 3, .ro, 0, true, false⟩
  | .DIE_CAUSE => ⟨272, 1, 8, 15, 4, .ro, 0, true, false⟩
  | .DIE_FUSE_BAD => ⟨272, 1, 8, 19, 1, .ro, 0, true, false⟩
  | .DIE_REFUSE => ⟨272, 1, 8, 20, 3, .ro, 0, true, false⟩
  | .DIECTRL_CMD => ⟨288, 1, 8, 0, 2, .wo, 0, true, false⟩
  | .txok => hidden 68 0
  | .rxok => hidden 68 0
  | .pTx => hidden 68 0
  | .pRx => hidden 68 0
  | .pW16 => hidden 1 0
  | .pHeld => hidden 1 0
  | .mustFull => hidden 1 1
  | .lastU => hidden 136 0
  | .lastHas => hidden 1 0
  | .expect => hidden 6 0
  | .nakOut => hidden 1 0
  | .discard => hidden 1 0
  | .txSeq => hidden 6 0
  | .rxProg => hidden 7 0
  | .credOut => hidden 6 0
  | .credPend => hidden 6 0
  | .scram => hidden 23 0
  | .levelSet => hidden 1 0
  | .fuseStep => hidden 8 0
  | .fuseBad => hidden 1 0
  | .joining => hidden 1 0

/-- The fields of the MOD block (R236, R547). -/
def modInfo : ModF → FInfo
  | .BUDGET_A => ⟨256, 1, 1, 0, 16, .ro, 0x5dc0, true, false⟩
  | .BUDGET_FLOOR => ⟨256, 1, 1, 16, 16, .rw, 0x4b0, true, false⟩
  | .BUDGET_LIMITING => ⟨256, 1, 1, 32, 1, .ro, 0, true, false⟩
  | .GRANT_GRANT => ⟨272, 1, 8, 0, 16, .ro, 0, true, false⟩
  | .GRANT_REQ => ⟨272, 1, 8, 16, 16, .ro, 0, true, false⟩
  | .GRANT_CAP => ⟨272, 1, 8, 32, 8, .ro, 0, true, false⟩
  | .DGRANT_GRANT => ⟨256, 1, 1, 0, 16, .ro, 0, false, true⟩
  | .DGRANT_SEQ => ⟨256, 1, 1, 16, 8, .ro, 0, false, true⟩
  | .DPWR_POWER => ⟨257, 1, 1, 0, 16, .ro, 0, false, true⟩
  | .DPWR_TJ => ⟨257, 1, 1, 16, 8, .ro, 0, false, true⟩
  | .DPWR_K => ⟨257, 1, 1, 24, 5, .ro, 16, false, true⟩
  | .DPWR_OVER => ⟨257, 1, 1, 29, 1, .w1c, 0, false, true⟩
  | .DPWR_STALE => ⟨257, 1, 1, 30, 1, .ro, 0, false, true⟩
  | .DPWR_TRIP => ⟨257, 1, 1, 31, 1, .ro, 0, false, true⟩
  | .ID_DIES => ⟨0, 1, 1, 0, 4, .const, 0, true, false⟩
  | .ID_REV => ⟨0, 1, 1, 4, 5, .const, 0, true, false⟩
  | .ID_SPEED => ⟨0, 1, 1, 9, 1, .const, 0, true, false⟩
  | .ID_TEMP => ⟨0, 1, 1, 10, 1, .const, 0, true, false⟩
  | .STAT_STATE => ⟨1, 1, 1, 0, 3, .ro, 0, true, false⟩
  | .STAT_GRANT => ⟨1, 1, 1, 3, 1, .ro, 0, true, false⟩
  | .STAT_LEVER => ⟨1, 1, 1, 4, 1, .ro, 0, true, false⟩
  | .STAT_EJSRC => ⟨1, 1, 1, 5, 3, .ro, 0, true, false⟩
  | .STAT_LIMITING => ⟨1, 1, 1, 8, 1, .ro, 0, true, false⟩
  | .STAT_LIMIT_SEEN => ⟨1, 1, 1, 9, 1, .w1c, 0, true, false⟩
  | .STAT_HOT => ⟨1, 1, 1, 10, 1, .w1c, 0, true, false⟩
  | .STAT_COLD => ⟨1, 1, 1, 11, 1, .w1c, 0, true, false⟩
  | .STAT_GRAD => ⟨1, 1, 1, 12, 1, .w1c, 0, true, false⟩
  | .STAT_RAILFAIL => ⟨1, 1, 1, 13, 1, .w1c, 0, true, false⟩
  | .STAT_LASTPF => ⟨1, 1, 1, 14, 1, .ro, 0, true, false⟩
  | .STAT_LASTTRIP => ⟨1, 1, 1, 15, 1, .ro, 0, true, false⟩
  | .VIN_VIN => ⟨2, 1, 1, 0, 16, .ro, 0, true, false⟩
  | .VIN_IIN => ⟨2, 1, 1, 16, 16, .ro, 0, true, false⟩
  | .VIN_PIN => ⟨2, 1, 1, 32, 16, .ro, 0, true, false⟩
  | .TEMP_TCP => ⟨3, 1, 1, 0, 32, .ro, 0, true, false⟩
  | .TEMP_HOTTEST => ⟨3, 1, 1, 32, 8, .ro, 0, true, false⟩
  | .TEMP_SPREAD => ⟨3, 1, 1, 40, 8, .ro, 0, true, false⟩
  | .LIFE_EQ_EQH => ⟨16, 1, 1, 0, 32, .ro, 0, true, false⟩
  | .LIFE_EQ_CONSUMED => ⟨16, 1, 1, 32, 16, .ro, 0, true, false⟩
  | .LIFE_CNT_PWRH => ⟨17, 1, 1, 0, 24, .ro, 0, true, false⟩
  | .LIFE_CNT_MATES => ⟨17, 1, 1, 24, 12, .ro, 0, true, false⟩
  | .LIFE_CNT_TRIPS => ⟨17, 1, 1, 36, 12, .ro, 0, true, false⟩
  | .LIFE_CYC_TCYC => ⟨18, 1, 1, 0, 16, .ro, 0, true, false⟩
  | .LIFE_CYC_EJECTS => ⟨18, 1, 1, 16, 16, .ro, 0, true, false⟩
  | .LIFE_CYC_PFAIL => ⟨18, 1, 1, 32, 16, .ro, 0, true, false⟩
  | .DRAIL_CORE => ⟨0, 1, 1, 0, 2, .ro, 0, false, true⟩
  | .DRAIL_STBY => ⟨0, 1, 1, 2, 1, .ro, 0, false, true⟩
  | .DRAIL_VCORE => ⟨0, 1, 1, 3, 12, .ro, 0, false, true⟩
  | .coreOn => hidden 1 0
  | .declared => hidden 16 0
  | .sentGrant => hidden 16 0
  | .sentSeq => hidden 8 0
  | .sentHas => hidden 1 0
  | .dieOn => hidden 1 0
  | .stby => hidden 1 1
  | .mated => hidden 1 1
  | .latchedOpen => hidden 1 0
  | .tripAt => hidden 80 0
  | .tripHas => hidden 1 0
  | .tripWait => hidden 1 0
  | .leverOut => hidden 1 0
  | .lastPf => hidden 1 0
  | .lastTrip => hidden 1 0
  | .firstBoot => hidden 1 0
  | .eqFrac => hidden 50 0
  | .pwrSec => hidden 12 0
  | .cycUp => hidden 1 0
  | .cycExt => hidden 8 0
  | .cycHas => hidden 1 0
  | .stored => hidden 50 0

/-- The fields of the QM block (R261). -/
def qmInfo : QmF → FInfo
  | .ID_QUEUES => ⟨0, 1, 1, 0, 17, .const, 0x10000, true, false⟩
  | .ID_PRIOS => ⟨0, 1, 1, 17, 3, .const, 4, true, false⟩
  | .ID_SLOTS => ⟨0, 1, 1, 20, 23, .const, 0x400000, true, false⟩
  | .ID_MAXOPEN => ⟨0, 1, 1, 43, 3, .const, 4, true, false⟩
  | .CFG_OPEN_TMO => ⟨1, 1, 1, 0, 16, .rw, 1000, true, false⟩
  | .CFG_MAXPKT => ⟨1, 1, 1, 16, 16, .const, 0xffff, true, false⟩
  | .POOL_FREE => ⟨2, 1, 1, 0, 23, .ro, 0x400000, true, false⟩
  | .POOL_MIN_FREE => ⟨2, 1, 1, 23, 23, .ro, 0x400000, true, false⟩
  | .CMD_QUEUE => ⟨3, 1, 1, 0, 16, .wo, 0, true, false⟩
  | .CMD_OP => ⟨3, 1, 1, 16, 3, .wo, 0, true, false⟩
  | .CMDSTAT_REFUSE => ⟨4, 1, 1, 0, 3, .ro, 0, true, false⟩
  | .CMDSTAT_BUSY => ⟨4, 1, 1, 3, 1, .ro, 0, true, false⟩
  | .ECC_CE => ⟨5, 1, 1, 0, 16, .ro, 0, true, false⟩
  | .ECC_UE => ⟨5, 1, 1, 16, 16, .ro, 0, true, false⟩
  | .ECC_ABANDON => ⟨5, 1, 1, 32, 8, .ro, 0, true, false⟩
  | .ECC_PFWD => ⟨5, 1, 1, 40, 8, .ro, 0, true, false⟩
  | .ERRLOG_VALID => ⟨6, 1, 1, 0, 1, .w1c, 0, true, false⟩
  | .ERRLOG_QUEUE => ⟨6, 1, 1, 1, 16, .ro, 0, true, false⟩
  | .ERRLOG_KIND => ⟨6, 1, 1, 17, 2, .ro, 0, true, false⟩
  | .ERRLOG_TICK => ⟨6, 1, 1, 32, 16, .ro, 0, true, false⟩
  | .CNT_CLR_CLR => ⟨7, 1, 1, 0, 1, .wo, 0, true, false⟩
  | .QCFG_MODE => ⟨0x80000, 8, 65536, 0, 1, .rw, 0, true, false⟩
  | .QCFG_NOTIFY_EN => ⟨0x80000, 8, 65536, 1, 1, .rw, 0, true, false⟩
  | .QCFG_HOSTPRIO => ⟨0x80000, 8, 65536, 2, 2, .rw, 0, true, false⟩
  | .QCFG_QUOTA => ⟨0x80000, 8, 65536, 4, 16, .rw, 0, true, false⟩
  | .QCFG_NOTIFY => ⟨0x80000, 8, 65536, 20, 16, .rw, 0, true, false⟩
  | .QCFG_CONSUMER => ⟨0x80000, 8, 65536, 36, 10, .rw, 0, true, false⟩
  | .QCFG_STATUS => ⟨0x80000, 8, 65536, 46, 1, .rw, 0, true, false⟩
  | .QSTAT_STATE => ⟨0x80001, 8, 65536, 0, 3, .ro, 0, true, false⟩
  | .QSTAT_OCC => ⟨0x80001, 8, 65536, 3, 23, .ro, 0, true, false⟩
  | .QSTAT_OPEN => ⟨0x80001, 8, 65536, 26, 3, .ro, 0, true, false⟩
  | .QSTAT_LAST_END => ⟨0x80001, 8, 65536, 29, 1, .ro, 0, true, false⟩
  | .QSTAT_LAST_IDLE => ⟨0x80001, 8, 65536, 30, 1, .ro, 0, true, false⟩
  | .QSTAT_LAST_PRIO => ⟨0x80001, 8, 65536, 31, 2, .ro, 0, true, false⟩
  | .QSTAT_CURRENT => ⟨0x80001, 8, 65536, 33, 1, .ro, 0, true, false⟩
  | .QSTAT_DROP => ⟨0x80001, 8, 65536, 34, 1, .w1c, 0, true, false⟩
  | .QSTAT_ABANDON => ⟨0x80001, 8, 65536, 35, 1, .w1c, 0, true, false⟩
  | .QSTAT_NOTICE_LOST => ⟨0x80001, 8, 65536, 36, 1, .w1c, 0, true, false⟩
  | .QSTAT_POISON => ⟨0x80001, 8, 65536, 37, 1, .w1c, 0, true, false⟩
  | .QSTAT_STAGED => ⟨0x80001, 8, 65536, 38, 1, .ro, 0, true, false⟩
  | .QCNT_LO_CNT0 => ⟨0x80002, 8, 65536, 0, 24, .ro, 0, true, false⟩
  | .QCNT_LO_CNT1 => ⟨0x80002, 8, 65536, 24, 24, .ro, 0, true, false⟩
  | .QCNT_HI_CNT2 => ⟨0x80003, 8, 65536, 0, 24, .ro, 0, true, false⟩
  | .QCNT_HI_CNT3 => ⟨0x80003, 8, 65536, 24, 24, .ro, 0, true, false⟩
  | .POP_DATA => ⟨0x80004, 8, 65536, 0, 48, .rc, 0, true, false⟩
  | .PEEK_DATA => ⟨0x80005, 8, 65536, 0, 48, .ro, 0, true, false⟩
  | .PUSH_DATA => ⟨0x80006, 8, 65536, 0, 48, .wo, 0, true, false⟩
  | .PUSHEND_DATA => ⟨0x80007, 8, 65536, 0, 48, .wo, 0, true, false⟩
  | .tent => hidden 23 0
  | .recordBad => hidden 1 0
  | .back => hidden 3 0

/-- The fields of the CVN block (R286). -/
def cvnInfo : CvnF → FInfo
  | .ID_CONTEXTS => ⟨0, 1, 1, 0, 16, .const, 0xc000, true, false⟩
  | .ID_ENGINES => ⟨0, 1, 1, 16, 2, .const, 2, true, false⟩
  | .ID_MAXLEN => ⟨0, 1, 1, 18, 5, .const, 24, true, false⟩
  | .ID_WORDS => ⟨0, 1, 1, 23, 7, .const, 64, true, false⟩
  | .STAT_ENABLED => ⟨1, 1, 1, 0, 16, .ro, 0, true, false⟩
  | .STAT_FAULTS => ⟨1, 1, 1, 16, 16, .ro, 0, true, false⟩
  | .WALK_LAST => ⟨2, 1, 1, 0, 16, .ro, 0, true, false⟩
  | .WALK_MAX => ⟨2, 1, 1, 16, 16, .ro, 0, true, false⟩
  | .WALK_DUE => ⟨2, 1, 1, 32, 16, .ro, 0, true, false⟩
  | .UNMATCHED_COUNT => ⟨3, 1, 1, 0, 32, .ro, 0, true, false⟩
  | .VOIDDROP_COUNT => ⟨4, 1, 1, 0, 32, .ro, 0, true, false⟩
  | .ERRLOG_VALID => ⟨5, 1, 1, 0, 1, .w1c, 0, true, false⟩
  | .ERRLOG_KIND => ⟨5, 1, 1, 1, 3, .ro, 0, true, false⟩
  | .ERRLOG_CONTEXT => ⟨5, 1, 1, 4, 16, .ro, 0, true, false⟩
  | .ERRLOG_PORT => ⟨5, 1, 1, 20, 3, .ro, 0, true, false⟩
  | .ERRLOG_TICK => ⟨5, 1, 1, 32, 16, .ro, 0, true, false⟩
  | .CNT_CLR_CLR => ⟨6, 1, 1, 0, 1, .wo, 0, true, false⟩
  | .PORT_FRAMES => ⟨16, 1, 6, 0, 16, .ro, 0, true, false⟩
  | .PORT_STATUS => ⟨16, 1, 6, 16, 16, .ro, 0, true, false⟩
  | .walkNow => hidden 16 0
  | .walkEnd => hidden 80 0
  | .dueNow => hidden 16 0
  | .framesNow => hidden 16 0
  | .statusNow => hidden 16 0

/-- The fields of the PP block (R317). -/
def ppInfo : PpF → FInfo
  | .ID_PORTS => ⟨0, 1, 1, 0, 3, .const, 6, true, false⟩
  | .ID_LANES => ⟨0, 1, 1, 3, 5, .const, 24, true, false⟩
  | .ID_ULANES => ⟨0, 1, 1, 8, 6, .const, 32, true, false⟩
  | .GRP_MAC_ADDR => ⟨1, 1, 1, 0, 48, .rw, 0x30000000001, true, false⟩
  | .CTRL_CMD => ⟨16, 1, 6, 0, 3, .wo, 0, true, false⟩
  | .CFG_MODE => ⟨32, 1, 6, 0, 4, .rw, 0, true, false⟩
  | .CFG_LANES => ⟨32, 1, 6, 4, 4, .rw, 0, true, false⟩
  | .CFG_AN => ⟨32, 1, 6, 8, 1, .rw, 0, true, false⟩
  | .CFG_LT => ⟨32, 1, 6, 9, 1, .rw, 0, true, false⟩
  | .CFG_NOFEC => ⟨32, 1, 6, 10, 1, .rw, 0, true, false⟩
  | .CFG_ALT_EN => ⟨32, 1, 6, 11, 1, .rw, 0, true, false⟩
  | .CFG_AUTOSTART => ⟨32, 1, 6, 12, 1, .rw, 0, true, false⟩
  | .CFG_AUTORETRY => ⟨32, 1, 6, 13, 1, .rw, 0, true, false⟩
  | .CFG_MAXPAY => ⟨32, 1, 6, 14, 14, .rw, 0, true, false⟩
  | .CFG_ATTEMPT => ⟨32, 1, 6, 28, 8, .rw, 0, true, false⟩
  | .ALT_ALT1 => ⟨48, 1, 6, 0, 12, .rw, 0, true, false⟩
  | .ALT_ALT2 => ⟨48, 1, 6, 12, 12, .rw, 0, true, false⟩
  | .ALT_ALT3 => ⟨48, 1, 6, 24, 12, .rw, 0, true, false⟩
  | .STAT_STATE => ⟨64, 1, 6, 0, 3, .ro, 0, true, false⟩
  | .STAT_ENTRY => ⟨64, 1, 6, 3, 2, .ro, 0, true, false⟩
  | .STAT_DEGRADED => ⟨64, 1, 6, 5, 1, .ro, 0, true, false⟩
  | .STAT_FAILED => ⟨64, 1, 6, 6, 4, .ro, 0, true, false⟩
  | .STAT_ACTIVE => ⟨64, 1, 6, 10, 4, .ro, 0, true, false⟩
  | .STAT_REFUSE => ⟨64, 1, 6, 14, 3, .ro, 0, true, false⟩
  | .STAT_DOWN => ⟨64, 1, 6, 17, 1, .w1c, 0, true, false⟩
  | .STAT_LOSSES => ⟨64, 1, 6, 18, 16, .ro, 0, true, false⟩
  | .STAT_SRCLOST => ⟨64, 1, 6, 34, 1, .ro, 0, true, false⟩
  | .MAC_ADDR => ⟨80, 1, 6, 0, 48, .rw, 0, true, false⟩
  | .CVN_ETYPE => ⟨96, 1, 6, 0, 16, .rw, 0x88b5, true, false⟩
  | .PTP_ROLE => ⟨112, 1, 6, 0, 2, .rw, 0, true, false⟩
  | .PTP_P2P => ⟨112, 1, 6, 2, 1, .rw, 0, true, false⟩
  | .PTP_LOGSYNC => ⟨112, 1, 6, 3, 5, .rw, 0, true, false⟩
  | .PTP_DOMAIN => ⟨112, 1, 6, 8, 8, .rw, 0, true, false⟩
  | .PTP_ASYM => ⟨112, 1, 6, 16, 16, .rw, 0, true, false⟩
  | .TXCNT_FRAMES => ⟨128, 1, 6, 0, 24, .ro, 0, true, false⟩
  | .TXCNT_DROP => ⟨128, 1, 6, 24, 24, .ro, 0, true, false⟩
  | .RXCNT_CARAVAN => ⟨144, 1, 6, 0, 24, .ro, 0, true, false⟩
  | .RXCNT_PTP => ⟨144, 1, 6, 24, 16, .ro, 0, true, false⟩
  | .RXCNT_OTHER => ⟨144, 1, 6, 40, 8, .ro, 0, true, false⟩
  | .RXERR_FCS => ⟨160, 1, 6, 0, 16, .ro, 0, true, false⟩
  | .RXERR_CHECK => ⟨160, 1, 6, 16, 16, .ro, 0, true, false⟩
  | .RXERR_MALFORMED => ⟨160, 1, 6, 32, 16, .ro, 0, true, false⟩
  | .FEC_CORR => ⟨176, 1, 6, 0, 24, .ro, 0, true, false⟩
  | .FEC_UNCORR => ⟨176, 1, 6, 24, 24, .ro, 0, true, false⟩
  | .LCFG_TXPOL => ⟨256, 1, 24, 0, 1, .rw, 0, true, false⟩
  | .LCFG_RXPOL => ⟨256, 1, 24, 1, 1, .rw, 0, true, false⟩
  | .LCFG_SERLIM => ⟨256, 1, 24, 2, 10, .rw, 0, true, false⟩
  | .LSTAT_SIGDET => ⟨288, 1, 24, 0, 1, .ro, 0, true, false⟩
  | .LSTAT_CDRLOCK => ⟨288, 1, 24, 1, 1, .ro, 0, true, false⟩
  | .LSTAT_INUSE => ⟨288, 1, 24, 2, 1, .ro, 0, true, false⟩
  | .LSTAT_FAILED => ⟨288, 1, 24, 3, 1, .ro, 0, true, false⟩
  | .LSTAT_SNR => ⟨288, 1, 24, 4, 10, .ro, 0, true, false⟩
  | .LSTAT_SYMERR => ⟨288, 1, 24, 14, 16, .ro, 0, true, false⟩
  | .LTX_PRE3 => ⟨320, 1, 24, 0, 6, .rw, 0, true, false⟩
  | .LTX_PRE2 => ⟨320, 1, 24, 6, 6, .rw, 0, true, false⟩
  | .LTX_PRE1 => ⟨320, 1, 24, 12, 6, .rw, 0, true, false⟩
  | .LTX_MAIN => ⟨320, 1, 24, 18, 6, .rw, 0, true, false⟩
  | .LTX_POST => ⟨320, 1, 24, 24, 6, .rw, 0, true, false⟩
  | .LTX_CTLE => ⟨320, 1, 24, 30, 5, .rw, 0, true, false⟩
  | .LTX_ADAPT => ⟨320, 1, 24, 35, 1, .rw, 1, true, false⟩
  | .LTX_REFUSE => ⟨320, 1, 24, 36, 1, .ro, 0, true, false⟩
  | .LPRBS_GEN => ⟨352, 1, 24, 0, 2, .rw, 0, true, false⟩
  | .LPRBS_CHK => ⟨352, 1, 24, 2, 2, .rw, 0, true, false⟩
  | .LPRBS_LOCK => ⟨352, 1, 24, 4, 1, .ro, 0, true, false⟩
  | .LPRBS_ERR => ⟨352, 1, 24, 5, 32, .ro, 0, true, false⟩
  | .LPRBS_CLR => ⟨352, 1, 24, 37, 1, .wo, 0, true, false⟩
  | .UCFG_USED => ⟨512, 1, 32, 0, 1, .ro, 0, true, false⟩
  | .UCFG_PAM4 => ⟨512, 1, 32, 1, 1, .ro, 0, true, false⟩
  | .UCFG_WIDTH => ⟨512, 1, 32, 2, 2, .ro, 0, true, false⟩
  | .UCFG_REF => ⟨512, 1, 32, 4, 2, .ro, 0, true, false⟩
  | .UCFG_RATE => ⟨512, 1, 32, 6, 27, .ro, 0, true, false⟩
  | .UCFG_TXPOL => ⟨512, 1, 32, 33, 1, .ro, 0, true, false⟩
  | .UCFG_RXPOL => ⟨512, 1, 32, 34, 1, .ro, 0, true, false⟩
  | .UCFG_TREE => ⟨512, 1, 32, 35, 4, .ro, 0, true, false⟩
  | .USTAT_PLLLOCK => ⟨544, 1, 32, 0, 1, .ro, 0, true, false⟩
  | .USTAT_SIGDET => ⟨544, 1, 32, 1, 1, .ro, 0, true, false⟩
  | .USTAT_CDRLOCK => ⟨544, 1, 32, 2, 1, .ro, 0, true, false⟩
  | .USTAT_TXUNF => ⟨544, 1, 32, 3, 1, .w1c, 0, true, false⟩
  | .USTAT_RXOVF => ⟨544, 1, 32, 4, 1, .w1c, 0, true, false⟩
  | .USTAT_SNR => ⟨544, 1, 32, 5, 10, .ro, 0, true, false⟩
  | .USTAT_IDLE => ⟨544, 1, 32, 15, 1, .ro, 1, true, false⟩
  | .UTX_PRE3 => ⟨576, 1, 32, 0, 6, .rw, 0, true, false⟩
  | .UTX_PRE2 => ⟨576, 1, 32, 6, 6, .rw, 0, true, false⟩
  | .UTX_PRE1 => ⟨576, 1, 32, 12, 6, .rw, 0, true, false⟩
  | .UTX_MAIN => ⟨576, 1, 32, 18, 6, .rw, 0, true, false⟩
  | .UTX_POST => ⟨576, 1, 32, 24, 6, .rw, 0, true, false⟩
  | .UTX_CTLE => ⟨576, 1, 32, 30, 5, .rw, 0, true, false⟩
  | .UTX_ADAPT => ⟨576, 1, 32, 35, 1, .rw, 1, true, false⟩
  | .UTX_REFUSE => ⟨576, 1, 32, 36, 1, .ro, 0, true, false⟩
  | .UPRBS_GEN => ⟨608, 1, 32, 0, 2, .rw, 0, true, false⟩
  | .UPRBS_CHK => ⟨608, 1, 32, 2, 2, .rw, 0, true, false⟩
  | .UPRBS_LOCK => ⟨608, 1, 32, 4, 1, .ro, 0, true, false⟩
  | .UPRBS_ERR => ⟨608, 1, 32, 5, 32, .ro, 0, true, false⟩
  | .UPRBS_CLR => ⟨608, 1, 32, 37, 1, .wo, 0, true, false⟩

/-- The fields of the DDR block (R341). -/
def ddrInfo : DdrF → FInfo
  | .ID_SUBCH => ⟨0, 1, 1, 0, 4, .const, 8, true, false⟩
  | .ID_RATE => ⟨0, 1, 1, 4, 13, .const, 0x1900, true, false⟩
  | .ID_LOG2SLOTS => ⟨0, 1, 1, 17, 5, .const, 30, true, false⟩
  | .CMD_OP => ⟨1, 1, 1, 0, 3, .wo, 0, true, false⟩
  | .CMD_SUB => ⟨1, 1, 1, 3, 3, .wo, 0, true, false⟩
  | .CMDSTAT_REFUSE => ⟨2, 1, 1, 0, 2, .ro, 0, true, false⟩
  | .CMDSTAT_BUSY => ⟨2, 1, 1, 2, 1, .ro, 0, true, false⟩
  | .SCRUB_INTERVAL => ⟨3, 1, 1, 0, 16, .rw, 640, true, false⟩
  | .SCRUB_PASSES => ⟨3, 1, 1, 16, 16, .ro, 0, true, false⟩
  | .ERRLOG_VALID => ⟨4, 1, 1, 0, 1, .w1c, 0, true, false⟩
  | .ERRLOG_SUB => ⟨4, 1, 1, 1, 3, .ro, 0, true, false⟩
  | .ERRLOG_KIND => ⟨4, 1, 1, 4, 2, .ro, 0, true, false⟩
  | .ERRLOG_SLOT => ⟨4, 1, 1, 6, 33, .ro, 0, true, false⟩
  | .ERRLOG_SOURCE => ⟨4, 1, 1, 39, 2, .ro, 0, true, false⟩
  | .CNT_CLR_CLR => ⟨5, 1, 1, 0, 1, .wo, 0, true, false⟩
  | .MAP_MASK => ⟨16, 1, 5, 0, 33, .rw, 0, true, false⟩
  | .MAPACT_MASK => ⟨24, 1, 5, 0, 33, .ro, 0, true, false⟩
  | .STAT_STATE => ⟨32, 1, 8, 0, 3, .ro, 0, true, false⟩
  | .STAT_FAST => ⟨32, 1, 8, 3, 1, .ro, 0, true, false⟩
  | .STAT_HOT => ⟨32, 1, 8, 4, 1, .w1c, 0, true, false⟩
  | .STAT_TEMP => ⟨32, 1, 8, 5, 8, .ro, 0, true, false⟩
  | .STAT_FAIL => ⟨32, 1, 8, 13, 2, .ro, 0, true, false⟩
  | .STAT_WCRC => ⟨32, 1, 8, 15, 16, .ro, 0, true, false⟩
  | .ECC_CE => ⟨48, 1, 8, 0, 16, .ro, 0, true, false⟩
  | .ECC_UE => ⟨48, 1, 8, 16, 16, .ro, 0, true, false⟩
  | .ECC_ODECS => ⟨48, 1, 8, 32, 16, .ro, 0, true, false⟩
  | .LAT_MAX => ⟨64, 1, 8, 0, 16, .ro, 0, true, false⟩
  | .LAT_REFS => ⟨64, 1, 8, 16, 32, .ro, 0, true, false⟩
  | .tries => hidden 1 0
  | .turn => hidden 5 0
  | .turnAt => hidden 80 0
  | .columns => hidden 5 0
  | .openRow => hidden 17 0
  | .patrol => hidden 27 0
  | .passes => hidden 16 0

/-- The fields of the CLK block (R362). -/
def clkInfo : ClkF → FInfo
  | .ID_PLLS => ⟨0, 1, 1, 0, 4, .const, 0, true, true⟩
  | .ID_DOMAINS => ⟨0, 1, 1, 4, 5, .const, 0, true, true⟩
  | .OSC_SIO_OK => ⟨1, 1, 1, 0, 1, .ro, 0, true, true⟩
  | .OSC_FIO_RDY => ⟨1, 1, 1, 1, 1, .ro, 0, true, true⟩
  | .OSC_SIO_FAIL => ⟨1, 1, 1, 2, 1, .ro, 0, true, true⟩
  | .OSC_FIO_FAIL => ⟨1, 1, 1, 3, 1, .ro, 0, true, true⟩
  | .OSC_BOTH => ⟨1, 1, 1, 4, 1, .ro, 0, true, true⟩
  | .OSC_FIO_PPM => ⟨1, 1, 1, 8, 16, .ro, 0, true, true⟩
  | .FIOTRIM_SRC => ⟨2, 1, 1, 0, 2, .rw, 1, true, true⟩
  | .FIOTRIM_CODE => ⟨2, 1, 1, 2, 10, .ro, 0, true, true⟩
  | .FIOTRIM_TRIMMED => ⟨2, 1, 1, 12, 1, .ro, 0, true, true⟩
  | .REF_SRC => ⟨3, 1, 1, 0, 2, .rw, 0, true, false⟩
  | .REF_ALT => ⟨3, 1, 1, 2, 1, .rw, 0, true, false⟩
  | .REF_ACT => ⟨3, 1, 1, 3, 2, .ro, 0, true, false⟩
  | .REF_HOLD => ⟨3, 1, 1, 5, 1, .ro, 0, true, false⟩
  | .REF_SWITCHED => ⟨3, 1, 1, 6, 1, .w1c, 0, true, false⟩
  | .XIN_FREQ => ⟨4, 1, 2, 0, 16, .rw, 0, true, false⟩
  | .XIN_GOOD => ⟨4, 1, 2, 16, 1, .ro, 0, true, false⟩
  | .XIN_LOST => ⟨4, 1, 2, 17, 1, .w1c, 0, true, false⟩
  | .TB_STEP => ⟨8, 1, 1, 0, 16, .rw, 0x2710, true, false⟩
  | .TB_FREE => ⟨8, 1, 1, 16, 24, .rw, 0, true, false⟩
  | .TBSTAT_RATE => ⟨9, 1, 1, 0, 24, .ro, 0, true, false⟩
  | .TBSTAT_OFFSET => ⟨9, 1, 1, 24, 16, .ro, 0, true, false⟩
  | .TBSTAT_STEPS => ⟨9, 1, 1, 40, 8, .ro, 0, true, false⟩
  | .PLL_N => ⟨16, 1, 7, 0, 7, .rw, 0, true, true⟩
  | .PLL_F => ⟨16, 1, 7, 7, 24, .rw, 0, true, true⟩
  | .PLL_D => ⟨16, 1, 7, 31, 7, .rw, 0, true, true⟩
  | .PLL_EN => ⟨16, 1, 7, 38, 1, .ro, 0, true, true⟩
  | .PLL_LOCK => ⟨16, 1, 7, 39, 1, .ro, 0, true, true⟩
  | .PLL_UNLOCK => ⟨16, 1, 7, 40, 1, .w1c, 0, true, true⟩
  | .PLL_LOSSES => ⟨16, 1, 7, 41, 7, .ro, 0, true, true⟩
  | .DOM_ACT => ⟨32, 1, 18, 0, 2, .ro, 2, true, true⟩
  | .DOM_PLLSEL => ⟨32, 1, 18, 2, 3, .rw, 0, true, true⟩
  | .DOM_TDIV => ⟨32, 1, 18, 5, 2, .rw, 0, true, true⟩
  | .DOM_AUTORET => ⟨32, 1, 18, 7, 1, .rw, 1, true, true⟩
  | .DOM_INTR => ⟨32, 1, 18, 8, 1, .w1c, 0, true, true⟩
  | .DOM_FORCED => ⟨32, 1, 18, 9, 8, .ro, 0, true, true⟩
  | .DOM_GUARD => ⟨32, 1, 18, 17, 16, .ro, 0, true, true⟩
  | .DOM_FNOM => ⟨32, 1, 18, 33, 12, .ro, 0, true, true⟩
  | .DOMCTL_CMD => ⟨64, 1, 18, 0, 2, .wo, 0, true, true⟩
  | .DOMCTL_REFUSE => ⟨64, 1, 18, 2, 3, .ro, 0, true, true⟩
  | .servoRate => hidden 64 0
  | .servoInteg => hidden 64 0
  | .canTime => hidden 80 0
  | .canKnown => hidden 1 0
  | .canNext => hidden 1 0
  | .relock => hidden 17 0
  | .ownRef => hidden 1 0

/-- The fields of the CFG block (R391). -/
def cfgInfo : CfgF → FInfo
  | .ID_FORMAT => ⟨0, 1, 1, 0, 8, .const, 1, true, false⟩
  | .ID_PLACEMENTS => ⟨0, 1, 1, 8, 5, .const, 16, true, false⟩
  | .CTRL_SRC => ⟨1, 1, 1, 0, 1, .rw, 0, true, false⟩
  | .CTRL_AUTO => ⟨1, 1, 1, 1, 1, .rw, 1, true, false⟩
  | .CTRL_PLACE => ⟨1, 1, 1, 2, 4, .rw, 0, true, false⟩
  | .CTRL_TMO => ⟨1, 1, 1, 6, 16, .rw, 1000, true, false⟩
  | .CMD_OP => ⟨2, 1, 1, 0, 2, .wo, 0, true, false⟩
  | .STAT_STATE => ⟨3, 1, 1, 0, 3, .ro, 0, true, false⟩
  | .STAT_ACTIVE => ⟨3, 1, 1, 3, 1, .ro, 0, true, false⟩
  | .STAT_STATUS => ⟨3, 1, 1, 4, 8, .ro, 0, true, false⟩
  | .STAT_REFUSE => ⟨3, 1, 1, 12, 3, .ro, 0, true, false⟩
  | .STAT_TAG_OK => ⟨3, 1, 1, 15, 1, .ro, 0, true, false⟩
  | .STAT_ECDSA_OK => ⟨3, 1, 1, 16, 1, .ro, 0, true, false⟩
  | .STAT_HSS_OK => ⟨3, 1, 1, 17, 1, .ro, 0, true, false⟩
  | .STAT_SRC => ⟨3, 1, 1, 18, 1, .ro, 0, true, false⟩
  | .STAT_WIDTH => ⟨3, 1, 1, 19, 1, .ro, 0, true, false⟩
  | .STAT_PLACE => ⟨3, 1, 1, 20, 4, .ro, 0, true, false⟩
  | .STAT_LDIES => ⟨3, 1, 1, 24, 4, .ro, 0, true, false⟩
  | .STAT_PARTIAL => ⟨3, 1, 1, 28, 1, .ro, 0, true, false⟩
  | .IMAGE => ⟨4, 1, 1, 0, 64, .ro, 0, true, false⟩
  | .PROGRESS_BYTES => ⟨6, 1, 1, 0, 48, .ro, 0, true, false⟩
  | .ERRFRAME_INDEX => ⟨7, 1, 1, 0, 32, .ro, 0, true, false⟩
  | .ERRFRAME_FTYPE => ⟨7, 1, 1, 32, 8, .ro, 0, true, false⟩
  | .ERRFRAME_UNIT => ⟨7, 1, 1, 40, 4, .ro, 0, true, false⟩
  | .LOADS_OK => ⟨8, 1, 1, 0, 24, .ro, 0, true, false⟩
  | .LOADS_FAILED => ⟨8, 1, 1, 24, 24, .ro, 0, true, false⟩
  | .DIE_LOGICAL => ⟨0, 1, 1, 0, 4, .ro, 15, false, true⟩
  | .DIE_FRAMES => ⟨0, 1, 1, 4, 36, .ro, 0, false, true⟩
  | .imageLatch => hidden 32 0
  | .loadKind => hidden 2 0
  | .loadDie => hidden 4 0
  | .loadNiche => hidden 4 0
  | .liveStart => hidden 1 0
  | .ldM => hidden 4 0
  | .ldPlaces => hidden 5 0
  | .ldLevel => hidden 8 0
  | .ldFlags => hidden 8 0
  | .ldKeyslot => hidden 8 0
  | .ldDekslot => hidden 8 0
  | .ldId => hidden 64 0
  | .ldBase => hidden 64 0
  | .ldSvn => hidden 32 0
  | .ldPmin => hidden 32 0
  | .ldGmin => hidden 16 0
  | .ldFrames => hidden 64 0
  | .ldLength => hidden 64 0
  | .ldPlace => hidden 32 0
  | .ldTable => hidden 1 0
  | .ldSeen => hidden 64 0
  | .waits => hidden 2 0
  | .actPlace => hidden 32 0
  | .actFlags => hidden 8 0
  | .actSvn => hidden 32 0
  | .csLow => hidden 1 0
  | .rdy => hidden 1 0
  | .donePin => hidden 1 0
  | .errFail => hidden 1 0
  | .errRefuse => hidden 1 0
  | .widthPin => hidden 1 0
  | .actDigest => hidden 384 0
  | .partN => hidden 32 0
  | .partD => hidden 384 0
  | .ldDigest => hidden 384 0
  | .ignoring => hidden 1 0

/-- The fields of the NCH block (R417). -/
def nchInfo : NchF → FInfo
  | .ID_NICHES => ⟨0, 1, 1, 0, 4, .const, 12, false, true⟩
  | .ID_GATEWAY => ⟨0, 1, 1, 4, 4, .const, 8, false, true⟩
  | .CTRL_CMD => ⟨16, 1, 12, 0, 2, .wo, 0, false, true⟩
  | .STAT_STATE => ⟨32, 1, 12, 0, 2, .ro, 0, false, true⟩
  | .STAT_GATEWAY => ⟨32, 1, 12, 2, 1, .const, 0, false, true⟩
  | .STAT_LIVE => ⟨32, 1, 12, 3, 1, .ro, 0, false, true⟩
  | .STAT_REFUSE => ⟨32, 1, 12, 4, 3, .ro, 0, false, true⟩
  | .STAT_UE => ⟨32, 1, 12, 7, 1, .w1c, 0, false, true⟩
  | .STAT_CE => ⟨32, 1, 12, 8, 16, .ro, 0, false, true⟩
  | .STAT_PLOADS => ⟨32, 1, 12, 24, 8, .ro, 0, false, true⟩
  | .ISO_CODES => ⟨64, 1, 36, 0, 48, .rw, 0, false, true⟩

/-- The fields of the SCRUB block (R417). -/
def scrubInfo : ScrubF → FInfo
  | .SET_SET => ⟨0x2000, 1, 1, 0, 16, .ro, 0x86b, false, true⟩
  | .SET_PAR => ⟨0x2000, 1, 1, 16, 4, .ro, 5, false, true⟩
  | .STAT_STATE => ⟨0x2001, 1, 1, 0, 2, .ro, 0, false, true⟩
  | .STAT_SETERR => ⟨0x2001, 1, 1, 2, 1, .w1c, 0, false, true⟩
  | .STAT_RELOADS => ⟨0x2001, 1, 1, 3, 8, .ro, 0, false, true⟩
  | .STAT_CFG_PASSES => ⟨0x2001, 1, 1, 11, 16, .ro, 0, false, true⟩
  | .STAT_BANK_PASSES => ⟨0x2001, 1, 1, 27, 16, .ro, 0, false, true⟩
  | .POS_CFG => ⟨0x2002, 1, 1, 0, 24, .ro, 0, false, true⟩
  | .POS_BANK => ⟨0x2002, 1, 1, 24, 23, .ro, 0, false, true⟩
  | .CNT_CFG_CE => ⟨0x2003, 1, 1, 0, 16, .ro, 0, false, true⟩
  | .CNT_CFG_UE => ⟨0x2003, 1, 1, 16, 16, .ro, 0, false, true⟩
  | .CNT_PASS_CE => ⟨0x2003, 1, 1, 32, 16, .ro, 0, false, true⟩
  | .ERRLOG_VALID => ⟨0x2004, 1, 1, 0, 1, .w1c, 0, false, true⟩
  | .ERRLOG_WORD => ⟨0x2004, 1, 1, 1, 24, .ro, 0, false, true⟩
  | .ERRLOG_NICHE => ⟨0x2004, 1, 1, 25, 4, .ro, 0, false, true⟩
  | .ERRLOG_TICK => ⟨0x2004, 1, 1, 29, 16, .ro, 0, false, true⟩
  | .CNT_CLR_CLR => ⟨0x2005, 1, 1, 0, 1, .wo, 0, false, true⟩
  | .settings => hidden 16 0x86b
  | .reloadAt => hidden 80 0
  | .reloadHas => hidden 1 0
  | .passCe => hidden 16 0
  | .warned => hidden 1 0

/-- The fields of the SEC block (R450). -/
def secInfo : SecF → FInfo
  | .ID_SLOTS => ⟨0, 1, 1, 0, 5, .const, 16, true, false⟩
  | .ID_COUNTERS => ⟨0, 1, 1, 5, 3, .const, 5, true, false⟩
  | .ID_TRANS_MAX => ⟨0, 1, 1, 8, 7, .const, 64, true, false⟩
  | .STAT_LC => ⟨1, 1, 1, 0, 3, .ro, 0, true, false⟩
  | .STAT_DBG_LEVEL => ⟨1, 1, 1, 3, 2, .ro, 0, true, false⟩
  | .STAT_DBG_CONSUME => ⟨1, 1, 1, 5, 1, .ro, 0, true, false⟩
  | .STAT_RECOVERY => ⟨1, 1, 1, 6, 1, .ro, 0, true, false⟩
  | .STAT_OASIS_BUSY => ⟨1, 1, 1, 7, 1, .ro, 0, true, false⟩
  | .STAT_OASIS_SEALED => ⟨1, 1, 1, 8, 1, .ro, 0, true, false⟩
  | .STAT_TRANS => ⟨1, 1, 1, 9, 7, .ro, 0, true, false⟩
  | .STAT_CREDIT => ⟨1, 1, 1, 16, 7, .ro, 0, true, false⟩
  | .STAT_ATT => ⟨1, 1, 1, 23, 3, .ro, 0, true, false⟩
  | .CMDSTAT_RESULT => ⟨2, 1, 1, 0, 4, .ro, 0, true, false⟩
  | .CMDSTAT_BUSY => ⟨2, 1, 1, 4, 1, .ro, 0, true, false⟩
  | .CMDSTAT_CODE => ⟨2, 1, 1, 5, 8, .ro, 0, true, false⟩
  | .DEVID_ID => ⟨3, 1, 3, 0, 48, .ro, 0, true, false⟩
  | .CNT_VALUE => ⟨8, 1, 5, 0, 32, .ro, 0, true, false⟩
  | .TAMPER_ACTIVE => ⟨16, 1, 1, 0, 8, .ro, 0, true, false⟩
  | .TAMPER_LATCHED => ⟨16, 1, 1, 8, 8, .w1c, 0, true, false⟩
  | .TAMPER_CLASS2 => ⟨16, 1, 1, 16, 1, .ro, 0, true, false⟩
  | .TAMPER_EVENTS => ⟨16, 1, 1, 24, 24, .ro, 0, true, false⟩
  | .TLOG_SENSOR => ⟨17, 1, 1, 0, 4, .ro, 0, true, false⟩
  | .TLOG_CLASS => ⟨17, 1, 1, 4, 1, .ro, 0, true, false⟩
  | .TLOG_TICK => ⟨17, 1, 1, 16, 32, .ro, 0, true, false⟩
  | .FW_RELEASE => ⟨18, 1, 1, 0, 16, .ro, 0, true, false⟩
  | .FW_COPY => ⟨18, 1, 1, 16, 1, .ro, 0, true, false⟩
  | .FW_PENDING => ⟨18, 1, 1, 17, 1, .ro, 0, true, false⟩
  | .FW_OTHER_OK => ⟨18, 1, 1, 18, 1, .ro, 0, true, false⟩
  | .FW_ROOT => ⟨18, 1, 1, 19, 1, .ro, 0, true, false⟩
  | .KEYS_PRESENT => ⟨19, 1, 1, 0, 16, .ro, 0, true, false⟩
  | .KEYS_REVOKED => ⟨19, 1, 1, 16, 2, .ro, 0, true, false⟩
  | .tokLo => hidden 64 0
  | .tokHi => hidden 64 0
  | .tokCount => hidden 65 0
  | .tokTime => hidden 80 0
  | .fuses => hidden 64 0
  | .kill => hidden 1 0
  | .uds => hidden 256 0
  | .rootDigest => hidden 384 0
  | .fwRel => hidden 16 0
  | .fwSvn => hidden 32 0
  | .fwMatrix => hidden 16 0
  | .fwOk => hidden 1 0
  | .active => hidden 1 0
  | .lateOasis => hidden 1 0
  | .tamperWait => hidden 8 0

/-- The fields of the OD block (R493). -/
def odInfo : OdF → FInfo
  | .ID_CAN => ⟨0, 1, 1, 0, 2, .const, 2, true, false⟩
  | .ID_PDOS => ⟨0, 1, 1, 2, 4, .const, 8, true, false⟩
  | .ID_SESSIONS => ⟨0, 1, 1, 6, 4, .const, 8, true, false⟩
  | .ID_FVALUES => ⟨0, 1, 1, 10, 15, .const, 0x4000, true, false⟩
  | .NODE_NODE_ID => ⟨1, 1, 1, 0, 7, .ro, 0, true, false⟩
  | .NODE_VALID => ⟨1, 1, 1, 7, 1, .ro, 0, true, false⟩
  | .NODE_BR => ⟨1, 1, 1, 8, 2, .ro, 0, true, false⟩
  | .NODE_FD => ⟨1, 1, 1, 10, 1, .ro, 0, true, false⟩
  | .NODE_NMT => ⟨1, 1, 1, 11, 7, .ro, 0, true, false⟩
  | .NODE_EMCY_LOST => ⟨1, 1, 1, 32, 16, .ro, 0, true, false⟩
  | .CAN_EN => ⟨2, 1, 2, 0, 1, .rw, 1, true, false⟩
  | .CAN_FD => ⟨2, 1, 2, 1, 1, .rw, 0, true, false⟩
  | .CAN_NBR => ⟨2, 1, 2, 2, 2, .rw, 0, true, false⟩
  | .CAN_DBR => ⟨2, 1, 2, 4, 2, .rw, 1, true, false⟩
  | .CAN_PROTO => ⟨2, 1, 2, 6, 1, .rw, 1, true, false⟩
  | .CAN_STATE => ⟨2, 1, 2, 7, 2, .ro, 0, true, false⟩
  | .CAN_TEC => ⟨2, 1, 2, 9, 8, .ro, 0, true, false⟩
  | .CAN_REC => ⟨2, 1, 2, 17, 8, .ro, 0, true, false⟩
  | .CAN_BUSOFF => ⟨2, 1, 2, 25, 16, .ro, 0, true, false⟩
  | .CAN_PENDING => ⟨2, 1, 2, 41, 1, .ro, 0, true, false⟩
  | .ETH_EN => ⟨4, 1, 1, 0, 1, .rw, 1, true, false⟩
  | .ETH_LINK => ⟨4, 1, 1, 1, 1, .ro, 0, true, false⟩
  | .ETH_ADDR => ⟨4, 1, 1, 2, 32, .rw, 0, true, false⟩
  | .ETH_PREFIX => ⟨4, 1, 1, 34, 6, .rw, 16, true, false⟩
  | .ETH_OPEN => ⟨4, 1, 1, 40, 4, .ro, 0, true, false⟩
  | .HOST_ADDR => ⟨5, 1, 1, 0, 32, .rw, 0, true, false⟩
  | .HOST_PORT => ⟨5, 1, 1, 32, 16, .rw, 0x6130, true, false⟩
  | .GW_ADDR => ⟨6, 1, 1, 0, 32, .rw, 0, true, false⟩
  | .MAC_ADDR => ⟨7, 1, 1, 0, 48, .ro, 0, true, false⟩
  | .FPORT_READY => ⟨16, 1, 8, 0, 1, .ro, 0, true, false⟩
  | .FPORT_OPEN => ⟨16, 1, 8, 1, 1, .ro, 0, true, false⟩
  | .FPORT_DECLARED => ⟨16, 1, 8, 2, 13, .ro, 0, true, false⟩
  | .FPORT_CONFLICTS => ⟨16, 1, 8, 15, 8, .ro, 0, true, false⟩
  | .FPORT_BADUPD => ⟨16, 1, 8, 23, 8, .ro, 0, true, false⟩
  | .FPORT_OVERFLOW => ⟨16, 1, 8, 31, 8, .ro, 0, true, false⟩
  | .FPORT_PENDING => ⟨16, 1, 8, 39, 9, .ro, 0, true, false⟩
  | .cyclePeriod => hidden 32 0
  | .timeCob => hidden 32 0x80000100
  | .up => hidden 1 0
  | .eventBits => hidden 8 0
  | .armed => hidden 1 0
  | .syncCount => hidden 8 0
  | .syncOn => hidden 1 0
  | .pdoSaid => hidden 1 0
  | .tpdoAt => hidden 80 0
  | .tpdoHas => hidden 1 0
  | .emcyAt => hidden 80 0
  | .emcyHas => hidden 1 0
  | .heldFd => hidden 1 0
  | .heldNbr => hidden 2 0
  | .heldDbr => hidden 2 0
  | .udpSeq => hidden 16 0
  | .canLost => hidden 32 0

/-- The fields of the DBG block (R520). -/
def dbgInfo : DbgF → FInfo
  | .ID_COMPARATORS => ⟨0, 1, 1, 0, 4, .const, 0, true, true⟩
  | .ID_EVENTS => ⟨0, 1, 1, 4, 8, .const, 0, true, true⟩
  | .STAT_HALT => ⟨1, 1, 1, 0, 2, .ro, 0, true, false⟩
  | .STAT_PENDING => ⟨1, 1, 1, 2, 1, .ro, 0, true, false⟩
  | .STAT_TOUCHED => ⟨1, 1, 1, 3, 1, .ro, 0, true, false⟩
  | .STAT_STEPPING => ⟨1, 1, 1, 4, 1, .ro, 0, true, false⟩
  | .STAT_STEPS => ⟨1, 1, 1, 5, 16, .ro, 0, true, false⟩
  | .STAT_CAUSE => ⟨1, 1, 1, 21, 2, .ro, 0, true, false⟩
  | .STAT_CMP => ⟨1, 1, 1, 23, 3, .ro, 0, true, false⟩
  | .STAT_UNIT => ⟨1, 1, 1, 26, 4, .ro, 0, true, false⟩
  | .STAT_DROPPED => ⟨1, 1, 1, 30, 1, .ro, 0, true, false⟩
  | .STAT_AUTOREL => ⟨1, 1, 1, 31, 1, .ro, 0, true, false⟩
  | .STAT_LOST => ⟨1, 1, 1, 32, 8, .ro, 0, true, false⟩
  | .STAT_QUEUED => ⟨1, 1, 1, 40, 7, .ro, 0, true, false⟩
  | .EVENT_VALID => ⟨2, 1, 1, 0, 1, .rc, 0, true, false⟩
  | .EVENT_UNIT => ⟨2, 1, 1, 1, 4, .rc, 0, true, false⟩
  | .EVENT_CMP => ⟨2, 1, 1, 5, 3, .rc, 0, true, false⟩
  | .EVENT_TICK => ⟨2, 1, 1, 8, 16, .rc, 0, true, false⟩
  | .EVENT_POS => ⟨2, 1, 1, 24, 24, .rc, 0, true, false⟩
  | .EVENT_PEEK_EVENT => ⟨3, 1, 1, 0, 48, .ro, 0, true, false⟩
  | .CMP_CFG_SRC => ⟨16, 4, 8, 0, 3, .rw, 0, false, true⟩
  | .CMP_CFG_ACTION => ⟨16, 4, 8, 3, 3, .rw, 0, false, true⟩
  | .CMP_CFG_CHAIN => ⟨16, 4, 8, 6, 1, .rw, 0, false, true⟩
  | .CMP_CFG_ONCE => ⟨16, 4, 8, 7, 1, .rw, 0, false, true⟩
  | .CMP_CFG_SEL => ⟨16, 4, 8, 8, 32, .rw, 0, false, true⟩
  | .CMP_VAL_VAL => ⟨17, 4, 8, 0, 48, .rw, 0, false, true⟩
  | .CMP_MASK_MASK => ⟨18, 4, 8, 0, 48, .rw, 0, false, true⟩
  | .CMP_CNT_LIMIT => ⟨19, 4, 8, 0, 16, .rw, 0, false, true⟩
  | .CMP_CNT_HITS => ⟨19, 4, 8, 16, 32, .ro, 0, false, true⟩
  | .TREEPOS_POS => ⟨64, 1, 16, 0, 32, .ro, 0, false, true⟩
  | .TREEPOS_STOPPED => ⟨64, 1, 16, 32, 1, .ro, 0, false, true⟩
  | .later => hidden 1 0

/-- A field's place, by block. -/
def Fld.info : Fld → FInfo
  | .tick f => tickInfo f
  | .fab f => fabInfo f
  | .slc f => asInfo f
  | .bank f => bankInfo f
  | .erg f => ergInfo f
  | .seif f => seifInfo f
  | .mod f => modInfo f
  | .qm f => qmInfo f
  | .cvn f => cvnInfo f
  | .pp f => ppInfo f
  | .ddr f => ddrInfo f
  | .clk f => clkInfo f
  | .cfg f => cfgInfo f
  | .nch f => nchInfo f
  | .scrub f => scrubInfo f
  | .sec f => secInfo f
  | .od f => odInfo f
  | .dbg f => dbgInfo f

/-- A field's number: its block and its place in the block, as one number. -/
def Fld.num : Fld → Nat
  | .tick f => Sparse.pair 0 f.ctorIdx
  | .fab f => Sparse.pair 1 f.ctorIdx
  | .slc f => Sparse.pair 2 f.ctorIdx
  | .bank f => Sparse.pair 3 f.ctorIdx
  | .erg f => Sparse.pair 4 f.ctorIdx
  | .seif f => Sparse.pair 5 f.ctorIdx
  | .mod f => Sparse.pair 6 f.ctorIdx
  | .qm f => Sparse.pair 7 f.ctorIdx
  | .cvn f => Sparse.pair 8 f.ctorIdx
  | .pp f => Sparse.pair 9 f.ctorIdx
  | .ddr f => Sparse.pair 10 f.ctorIdx
  | .clk f => Sparse.pair 11 f.ctorIdx
  | .cfg f => Sparse.pair 12 f.ctorIdx
  | .nch f => Sparse.pair 13 f.ctorIdx
  | .scrub f => Sparse.pair 14 f.ctorIdx
  | .sec f => Sparse.pair 15 f.ctorIdx
  | .od f => Sparse.pair 16 f.ctorIdx
  | .dbg f => Sparse.pair 17 f.ctorIdx

/-- The width of a field. -/
def Fld.width (f : Fld) : Nat := f.info.width

/-- The number of fields of a block, and the block's fields in table order. -/
def blockFields : Nat → List Fld
  | 0 => (List.range 74).map fun i => .tick (TickF.ofNat i)
  | 1 => (List.range 48).map fun i => .fab (FabF.ofNat i)
  | 2 => (List.range 44).map fun i => .slc (AsF.ofNat i)
  | 3 => (List.range 58).map fun i => .bank (BankF.ofNat i)
  | 4 => (List.range 49).map fun i => .erg (ErgF.ofNat i)
  | 5 => (List.range 54).map fun i => .seif (SeifF.ofNat i)
  | 6 => (List.range 69).map fun i => .mod (ModF.ofNat i)
  | 7 => (List.range 51).map fun i => .qm (QmF.ofNat i)
  | 8 => (List.range 24).map fun i => .cvn (CvnF.ofNat i)
  | 9 => (List.range 94).map fun i => .pp (PpF.ofNat i)
  | 10 => (List.range 35).map fun i => .ddr (DdrF.ofNat i)
  | 11 => (List.range 48).map fun i => .clk (ClkF.ofNat i)
  | 12 => (List.range 64).map fun i => .cfg (CfgF.ofNat i)
  | 13 => (List.range 11).map fun i => .nch (NchF.ofNat i)
  | 14 => (List.range 22).map fun i => .scrub (ScrubF.ofNat i)
  | 15 => (List.range 46).map fun i => .sec (SecF.ofNat i)
  | 16 => (List.range 53).map fun i => .od (OdF.ofNat i)
  | 17 => (List.range 32).map fun i => .dbg (DbgF.ofNat i)
  | _ => []

/-- The Plinth's NIs whose blocks issue requests (R23, R197): the service and security processors, the debug master, the
Caravan engines and the module power manager. Port 0 of NI k stands at index 4 k. -/
def plinthPort (j : Nat) : Bool := [0, 4, 8, 24, 28, 56].contains j

/-- The class of a Plinth port as its register shows it: M, and T for the engines, which issue both (R23). -/
def plinthClass (j : Nat) : Nat := if j = 24 ∨ j = 28 then 0 else if plinthPort j then 2 else 0

/-- The reset value of field `f` of unit `u` at index `j`, where it is not one value for the whole array:
constants that name their unit, and reset values that a rule gives by index. -/
def Fld.resetAt (f : Fld) (u j : Nat) : Nat :=
  match f with
  | .fab .ID_GRADE => Config.grade
  | .fab .RSTTREE_USER => if j = 0 then 0 else 1
  | .erg .ID_NI_BASE => 0x10 * u
  | .erg .NI_CFG_FABRIC => if u = 0 then 0 else 1
  | .erg .CH_CFG_EN => if u = 0 ∧ plinthPort j then 1 else 0
  | .erg .CH_CFG_CLASS => if u = 0 then plinthClass j else 0
  | .erg .CH_CFG_TMO => if u = 0 then 10000 else 0
  | .erg .RT_DEST_DEST => if j % 1024 < 0x90 then j % 1024 else 0
  | .seif .STAT_ROLE => if u = 0 then 0 else if j = 0 then 0 else 1
  | .seif .COMPAT_PLINTH => Config.plinthStep
  | .seif .fuseStep => if u = 0 then Config.plinthStep else Config.dieStep
  | .sec .KEYS_PRESENT => 3
  | .sec .fwOk => if j = 0 then 1 else 0
  | .nch .STAT_GATEWAY => if j = 8 then 1 else 0
  | .mod .ID_DIES => Config.n
  | .mod .ID_REV => Config.revision
  | .mod .ID_SPEED => Config.grade
  | .mod .ID_TEMP => Config.tempGrade
  | .dbg .ID_COMPARATORS => if u = 0 then 0 else 8
  | .dbg .ID_EVENTS => if u = 0 then 64 else 0
  | .clk .ID_PLLS => if u = 0 then 5 else 7
  | .clk .ID_DOMAINS => if u = 0 then 5 else 18
  | .ddr .MAP_MASK | .ddr .MAPACT_MASK => [0x21000, 0x42000, 0x84000, 0x108000, 0x210000].getD j 0
  | .clk .PLL_N => if u = 0 then [60, 80, 60, 64, 0].getD j 0 else if j = 6 then 60 else 0
  | .clk .PLL_D => if u = 0 then [4, 8, 5, 4, 0].getD j 0 else if j = 6 then 4 else 0
  | .clk .DOM_FNOM => if u = 0 then [1500, 1000, 1200, 1600, 100].getD j 0 else if j = 16 then 1500 else if j = 17 then 500 else 0
  | f => f.info.reset

/-- What a field reads as while nothing else has been written: its reset value, cut to its width. -/
def Fld.dflt (f : Fld) (u j : Nat) : Nat := f.resetAt u j % 2 ^ f.width

/-- The place of one scalar: the field, the unit (0 the Plinth, 1 + d die d) and the index in its array. -/
structure Key where
  f : Fld
  u : Nat
  j : Nat
  deriving DecidableEq, Repr

/-- A key's number; the store lists keys by it. -/
def Key.num (k : Key) : Nat := Sparse.pair (Sparse.pair k.f.num k.u) k.j

/-- What a key reads as while nothing else has been written. -/
def Key.dflt (k : Key) : Nat := k.f.dflt k.u k.j

end Sys2Proof.Machine
end

