-- ==== Sys2Proof/Machine/State.lean ====
section
/-! DEFINITION. The state of the part: plain data. -/

namespace Sys2Proof.Machine

/-- Why a step stops with a fault. -/
inductive Fault where
  /-- Raised by every meaning whose operands name a unit, index or value that the part does not have (a die above
  CD7, a bank above 511, a port above 5). The hardware has no such command. Safe. -/
  | noSuchUnit
  deriving DecidableEq, Repr

/-- Why a step has no meaning. -/
inductive Refusal where
  /-- Raised by an arm of `exec` whose command has no meaning yet. Safe. -/
  | notModelled (mnemonic : String)
  deriving DecidableEq, Repr

structure State where
  /-- The registers and the scalars beside them: a sparse store. -/
  regs : List (Key × Nat)
  /-- The device time base, in units of 2^-16 ns (R30): TICK_TIME and its fraction. -/
  time : Nat
  /-- The count of free values met so far: the model's own field. -/
  free : Nat
  /-- The emergency queue, oldest first (R474). -/
  emcyQueue : List Emcy
  /-- The error history of object 0x1003, newest first (R475). -/
  emcyHistory : List Emcy
  /-- The conditions of R476 that hold, each by its code and a key: EVENT, or what ARG names. -/
  conditions : List (Nat × Nat)
  /-- What the device has put on its links and pins, oldest first. -/
  out : List Out
  /-- Bank rows of 58 bits by (512 d + b) 16384 + physical row (R125). -/
  banks : List (Nat × Nat)
  /-- Write-backs that wait in the correction paths of the banks (R131). -/
  writeBacks : List WriteBack
  /-- Fabric operations held until a write side is blanked (R143). -/
  heldOps : List PortOp
  /-- Network requests that wait at a bank for its network slot, for a lock or for blanking (R139, R143, R146). -/
  bankWaits : List Pkt
  /-- Scrubber reads that wait for a network slot, as (512 d + b) 16384 + row (R139, R411). -/
  scrubWaits : List Nat
  /-- The lines of the remote caches (R154). -/
  cache : List RcLine
  /-- Packets in flight in the network. -/
  net : List Pkt
  /-- The replay buffers of the links' sides, oldest first (R203), and the packets that have begun to cross (R179). -/
  replay : List LinkBlock
  crossing : List Crossing
  /-- Packets held while a router that they pass is closing or closed (R192). -/
  netHeld : List Pkt
  /-- Commands that wait at their network interface (R156, R181, R185). -/
  niWaits : List Waiting
  /-- Open transactions, oldest first (R182). -/
  txns : List Txn
  /-- Quarantined TIDs as (NI, TID, GEN) (R185). -/
  quarantine : List (Nat × Nat × Nat)
  /-- What the fabric sides and blocks have been given (R188). -/
  delivered : List Delivery
  /-- The packets of the tick mailboxes (R46). -/
  mailboxes : List MPkt
  /-- The packets of the queues, in order (R242, R243). -/
  queues : List QPkt
  /-- The views that tentative pops are restored to (R251). -/
  queueSnaps : List QSnap
  /-- The words of the contexts, committed, by 64 c + word (R264); beyond the last context, four words for each one
  that its engine keeps of its two newest exchanges (R278). -/
  ctx : List (Nat × Nat)
  /-- The image's initial command words, by 64 c + word (R284). -/
  ctxImage : List (Nat × Nat)
  /-- The shadow of the contexts: words that the engines have written in the tick in progress, oldest first (R274). -/
  ctxShadow : List (Nat × Nat)
  /-- Writes to words 0 to 3 that wait for a boundary, in the order of arrival (R267). -/
  ctxStaged : List (Nat × Nat)
  /-- The exchanges of the tick in progress (R271). -/
  exchanges : List Exch
  /-- Status staging (R279). -/
  statuses : List StagedStatus
  /-- Closed frames that wait for their hand-over, in the order of the builders (R275). -/
  built : List Frame
  /-- The stored slots of the DRAM by slot index: 64 slot bits, then P0 and P1 (R321, R322). -/
  dram : List (Nat × Nat)
  /-- Requests that wait in the DRAM subchannels, oldest first (R332). -/
  dramReqs : List DramReq
  /-- The write queues of the DRAM subchannels, oldest first (R331). -/
  dramWrites : List DramWrite
  /-- Frames that wait at the partner ports, in hand-over order (R302). -/
  portTx : List TxFrame
  /-- Status entries of the tick that the coming boundary opens, from frames that have arrived before it (R303). -/
  rxHeld : List RxEntry
  /-- The words in the buffers of the user lanes, oldest first (R311). -/
  laneBufs : List LaneWord
  /-- The stored rows of the Oasis by word (R441): 48 data, 7 check and 3 valid bits. -/
  oasis : List (Nat × Nat)
  /-- The sealed copy of the Oasis in the secure flash (R443). -/
  sealedOasis : List (Nat × Nat)
  /-- The key material of the key slots: slot and its bytes as one number (R423). -/
  keySlots : List (Nat × Nat)
  /-- The device certificate in the identity region (R425, R431). -/
  certificate : List Nat
  /-- The last attestation report (R439, R451 0x2300:09). -/
  report : List Nat
  /-- The firmware packages in copies A and B of the secure flash (R425, R428). -/
  copyA : List Nat
  copyB : List Nat
  /-- The tamper log, 256 events in a ring, newest last: sensor, class and tick number (R425, R447). -/
  tamperLog : List (Nat × Nat × Nat)
  /-- The configuration planes (R409): word index and 2^24 times the die, each word with its 7 check bits. -/
  plane : List (Nat × Nat)
  /-- The flip-flops of user logic (R78), the hop arrival registers with the two behind each (R86, R87), the port output
  registers of the tiles (R88), and the values that engaged isolation cells hold (R397): by their keys, 0 where not listed. -/
  ffs : List (Nat × Nat)
  hops : List (Nat × Nat)
  portOuts : List (Nat × Nat)
  isoHeld : List (Nat × Nat)
  /-- What the applied frames of the load in progress have named (R378). -/
  targets : List Target
  /-- The frames that the load in progress has staged, in order (R379). -/
  staged : List SFrame
  /-- Bytes of the load stream that the object dictionary has appended and the loader has not taken (R364). -/
  stream : List Nat
  /-- The bytes that the load in progress has taken so far, in plaintext: what its digest covers, and the rest of its trailer
  (R380, R381). -/
  imageBytes : List Nat
  /-- What the object dictionary itself holds: the objects 0x1000 to 0x1FFF, the selects, the last refusals of the windows
  and 0x2400:10, by 256 index + sub-index (R478, R486). -/
  odVals : List (Nat × Nat)
  /-- The sessions of the UDP transport, the one used last first (R468). -/
  sessions : List Session
  /-- Synchronous RPDOs that wait for the next SYNC: number and bytes (R472). -/
  rpdoHeld : List (Nat × List Nat)
  /-- The monitor's response (R494). -/
  response : List Nat
  /-- The debug token as the monitor's TOKEN parts have presented it so far (R496). -/
  tokenParts : List Nat
  /-- The unfinished series of a DOMAIN value that the monitor's OBJECT writes: index, sub-index and bytes (R469, R496). -/
  objectParts : List Nat
  /-- The queue of debug events, oldest first, each as DBG_EVENT reads it (R516, R520). -/
  dbgEvents : List Nat
  /-- Comparators that have matched in the tick in progress, as 8 d + c (R515). -/
  matched : List Nat
  /-- The fabric-implemented objects that are declared and standing (R489). -/
  fobjs : List FObj
  /-- Their committed values, by 256 index + sub-index. -/
  fvals : List (Nat × Nat)
  /-- Their staged updates, oldest first (R490). -/
  fstaged : List FUpdate
  /-- The pending lists of the dies' host writes, in completion order (R491). -/
  fwrites : List FWrite
  /-- Commands that are waiting, first in, first out. -/
  pending : List Instr
  deriving DecidableEq, Repr

/-- The part right after power-on: every field at its reset value, nothing listed, no command waiting. -/
def State.reset : State where
  regs := []
  time := 0
  free := 0
  emcyQueue := []
  emcyHistory := []
  conditions := []
  out := []
  banks := []
  writeBacks := []
  heldOps := []
  bankWaits := []
  scrubWaits := []
  cache := []
  net := []
  replay := []
  crossing := []
  netHeld := []
  niWaits := []
  txns := []
  quarantine := []
  delivered := []
  mailboxes := []
  queues := []
  queueSnaps := []
  ctx := []
  ctxImage := []
  ctxShadow := []
  ctxStaged := []
  exchanges := []
  statuses := []
  built := []
  dram := []
  dramReqs := []
  dramWrites := []
  portTx := []
  rxHeld := []
  laneBufs := []
  oasis := []
  sealedOasis := []
  keySlots := []
  certificate := []
  report := []
  copyA := []
  copyB := []
  tamperLog := []
  plane := []
  ffs := []
  hops := []
  portOuts := []
  isoHeld := []
  targets := []
  staged := []
  stream := []
  imageBytes := []
  odVals := []
  sessions := []
  rpdoHeld := []
  response := []
  tokenParts := []
  objectParts := []
  dbgEvents := []
  matched := []
  fobjs := []
  fvals := []
  fstaged := []
  fwrites := []
  pending := []

end Sys2Proof.Machine
end

