-- ==== Sys2Proof/Machine/Ops.lean ====
section
/-! DEFINITION. The named operations over the state: scalars, memories, free values, emergencies, and the form of every
meaning. -/

namespace Sys2Proof.Machine

/-- What a step answers. -/
abbrev Answer := Host.Outcome State Fault Refusal

/-- The value of field `f` of unit `u` at index `j`. -/
def State.rd (s : State) (f : Fld) (u : Nat := 0) (j : Nat := 0) : Nat :=
  Sparse.get Key.dflt s.regs ⟨f, u, j⟩

/-- `s` with field `f` of unit `u` at index `j` set to `v`, cut to the field's width. -/
def State.wr (s : State) (f : Fld) (u j v : Nat) : State :=
  { s with regs := Sparse.set Key.num Key.dflt s.regs ⟨f, u, j⟩ (v % 2 ^ f.width) }

/-- Whether a field holds a value. -/
def State.has (s : State) (f : Fld) (u j v : Nat) : Bool := s.rd f u j == v

/-- A counter field one higher, held at its largest value. -/
def State.inc (s : State) (f : Fld) (u j : Nat) : State := s.wr f u j (satInc f.width (s.rd f u j))

/-- A counter field `k` higher, held at its largest value. -/
def State.add (s : State) (f : Fld) (u j k : Nat) : State := s.wr f u j (satAdd f.width (s.rd f u j) k)

/-- Every scalar whose key meets `p` back at its reset value. -/
def State.resetKeys (s : State) (p : Key → Bool) : State := { s with regs := Sparse.clear p s.regs }

/-- `g` done for each element in turn. -/
def each {α : Type} (l : List α) (g : α → State → State) (s : State) : State := l.foldl (fun s a => g a s) s

/-- `g` done only where `c` holds. -/
def doIf (c : Bool) (g : State → State) (s : State) : State := if c then g s else s

/-- The numbers of the compute dies. -/
def dies : List Nat := List.range Config.n

/-- A die of this member. -/
def okDie (d : Nat) : Bool := decide (d < Config.n)

/-- Whether the core rails are up: every block but those of R550 is unpowered while they are not. -/
def State.coreUp (s : State) : Bool := s.has (.mod .coreOn) 0 0 1

/-- Whether the object dictionary runs, in recovery or not (step 6 of R551, R427). -/
def State.served (s : State) : Bool := s.coreUp && s.has (.od .up) 0 0 1

/-- Whether the firmware runs and its services are up: recovery serves none of them (R427, R551). -/
def State.booted (s : State) : Bool := s.served && s.has (.sec .STAT_RECOVERY) 0 0 0

/-- The form of a meaning: operands that name something the part has, and the next state. A command leaves the
queue of waiting commands alone. -/
def act (ok : Bool) (s s' : State) : Answer :=
  if ok then .next { s' with pending := s.pending } else .fault .noSuchUnit

/-- The form of a meaning of a block on the core rails: without them nothing happens (R550). -/
def actCore (ok : Bool) (s s' : State) : Answer := act ok s (if s.coreUp then s' else s)

/-- The form of a meaning of the firmware's services: before they are up nothing happens (R551). -/
def actFw (ok : Bool) (s s' : State) : Answer := act ok s (if s.booted then s' else s)

/-- The form of a meaning of the field network, which recovery serves too. -/
def actOd (ok : Bool) (s s' : State) : Answer := act ok s (if s.served then s' else s)

/-- Fields that stand at their places in one word of unit `u`, index `j`. -/
def State.packed (s : State) (l : List Fld) (u j : Nat) : Nat := l.foldl (fun a f => a + s.rd f u j * 2 ^ f.info.lo) 0

/-- A value of `w` bits that the spec leaves open. -/
def State.freeValue (s : State) (w : Nat) : Nat := Config.freeBits w s.free % 2 ^ w

/-- `n / d` to a whole number: exact where `d` divides `n`, else one of the two neighbours, which the spec does not choose. -/
def State.quotient (s : State) (n : Int) (d : Nat) : Int := n / d + (if n % d = 0 then 0 else s.freeValue 1)

/-- `s` after one free value has been met. -/
def State.spend (s : State) : State := { s with free := s.free + 1 }

/-- `s` with something put on a link. -/
def State.emit (s : State) (k : OutKind) (toward : Nat) (data : List Nat) : State :=
  { s with out := s.out ++ [⟨k, toward, data⟩] }

/-- The time base set to `t`, in units of 2^-16 ns (R30). -/
def State.at (s : State) (t : Nat) : State := { s with time := t % 2 ^ 80 }

/-- The time base in whole nanoseconds. -/
def State.ns (s : State) : Nat := s.time / 65536

/-- `k` nanoseconds in the units of the time base. -/
def nsec (k : Nat) : Nat := k * 65536

/-! ### Data types -/

/-- The bytes of a data type; 0 where they vary (R461). -/
def typeBytes (t : Nat) : Nat :=
  match t with
  | 0x02 | 0x05 => 1
  | 0x03 | 0x06 => 2
  | 0x04 | 0x07 => 4
  | 0x13 | 0x19 | 0x0C => 6
  | 0x15 | 0x1B => 8
  | _ => 0

/-- Whether a data type is a signed integer type. -/
def isSigned (t : Nat) : Bool := [0x02, 0x03, 0x04, 0x13, 0x15].contains t

/-! ### The tick's state -/

/-- The state code of the tick (R39). -/
def State.tick (s : State) : Nat := s.rd (.tick .STATE_STATE)

/-- ARMED, RUNNING or HALTED: the tick can run (R149, R191, R234). -/
def State.tickLive (s : State) : Bool := s.tick == 1 || s.tick == 2 || s.tick == 5

/-- STOPPED, PAUSED or VOID. -/
def State.tickIdle (s : State) : Bool := s.tick == 0 || s.tick == 3 || s.tick == 4

/-- The low 16 bits of the tick number: the tag of T-class flits (R33). -/
def State.tickTag (s : State) : Nat := s.rd (.tick .NUMBER) % 65536

/-- The boundary of time index `k`, in units of 2^-16 ns (R32). -/
def State.boundaryAt (s : State) (k : Nat) : Nat :=
  nsec (s.rd (.tick .ORIGIN) + k * s.rd (.tick .PERIOD_P))

/-! ### Emergencies -/

/-- The error register bit of an emergency code, as R476 gives it; none for the rows that name none. -/
def emcyBit (code : Nat) : Option Nat :=
  match code with
  | 0x2310 => some 1
  | 0x3210 => some 2
  | 0x4210 => some 3
  | 0x6120 | 0x7200 | 0x7210 | 0x8110 | 0x8120 | 0x8130 | 0x8140 | 0x8210 | 0x8220 | 0x8250 => some 4
  | 0x0000 | 0x6320 | 0xFF10 => none
  | _ => some 7

/-- The bit of an emergency code as a mask. -/
def emcyMask (code : Nat) : Nat :=
  match emcyBit code with
  | some b => 2 ^ b
  | none => 0

/-- The error register 0x1001 (R475): the bits of the conditions that hold and of the events not yet cleared;
bit 0 is 1 whenever another bit is. -/
def State.errorRegister (s : State) : Nat :=
  let m := s.conditions.foldl (fun a c => a ||| emcyMask c.1) (s.rd (.od .eventBits))
  if m = 0 then 0 else m ||| 1

/-- An emergency joins the queue of 32, or is dropped and counted (R474). -/
def State.enqueueEmcy (s : State) (e : Emcy) : State :=
  if s.emcyQueue.length < 32 then { s with emcyQueue := s.emcyQueue ++ [e] }
  else s.inc (.od .NODE_EMCY_LOST) 0 0

/-- The error history holds as many entries as 0x1003 has sub-indices (R478). -/
def historyDepth : Nat := 16

/-- An emergency is raised: it is queued and, but for 0x0000, enters 0x1003 (R475). Before the boot-up message none is
(R555). -/
def State.sendEmcy (s : State) (code event arg : Nat) : State :=
  if s.has (.od .up) 0 0 0 then s
  else
    let e : Emcy := ⟨code, s.errorRegister, event % 256, arg % 2 ^ 32⟩
    let s := s.enqueueEmcy e
    if code = 0 then s else { s with emcyHistory := (e :: s.emcyHistory).take historyDepth }

/-- An event row of R476: its bit stays until 0x1003:00 is written. -/
def State.raiseEvent (s : State) (code event arg : Nat) : State :=
  (s.wr (.od .eventBits) 0 0 (s.rd (.od .eventBits) ||| emcyMask code)).sendEmcy code event arg

/-- A condition row of R476 begins to hold under a key of its own; one that holds already raises nothing new. -/
def State.raiseCondAs (s : State) (key code event arg : Nat) : State :=
  if s.conditions.contains (code, key) then s
  else State.sendEmcy { s with conditions := s.conditions ++ [(code, key)] } code event arg

/-- A condition row of R476 begins to hold, one for each EVENT. -/
def State.raiseCond (s : State) (code event arg : Nat) : State := s.raiseCondAs event code event arg

/-- When the error register has returned to 0, the code 0x0000 is sent (R475). -/
def State.errorRegisterFell (before : Nat) (s : State) : State :=
  if before ≠ 0 ∧ s.errorRegister = 0 then s.sendEmcy 0 0 0 else s

/-- A condition row of R476 ends, by its key. -/
def State.endCond (s : State) (code key : Nat) : State :=
  if s.conditions.contains (code, key) then
    State.errorRegisterFell s.errorRegister { s with conditions := s.conditions.filter (fun c => c ≠ (code, key)) }
  else s

/-- Every condition row of `code` ends. -/
def State.endConds (s : State) (code : Nat) : State :=
  if s.conditions.any (fun c => c.1 == code) then
    State.errorRegisterFell s.errorRegister { s with conditions := s.conditions.filter (fun c => c.1 ≠ code) }
  else s

end Sys2Proof.Machine
end

