-- ==== Sys2Proof/Machine/BankOps.lean ====
section
/-! DEFINITION. Bank rows and their code (R125 to R132), sides, locks, and one access to a row. -/

namespace Sys2Proof.Machine

/-! ### The row code -/

/-- Whether `k` is a power of two below 64. -/
def isPow2 (k : Nat) : Bool := [1, 2, 4, 8, 16, 32].contains k

/-- The code positions of d[0] to d[47]: the integers from 3 upward that are no power of two (R126). -/
def codePositions : List Nat := (List.range 55).filter fun k => decide (3 ≤ k) && !isPow2 k

/-- The exclusive-or of the bits of a number. -/
def parity (w v : Nat) : Bool := (List.range w).foldl (fun a i => a != v.testBit i) false

/-- c0 to c5 as a number: the exclusive-or of the positions of the ones (R126). -/
def hammingBits (data : Nat) : Nat :=
  (List.range 48).foldl (fun a i => if data.testBit i then a ^^^ codePositions.getD i 0 else a) 0

/-- c6 to c0 of data (R126). -/
def checkBits (data : Nat) : Nat :=
  let h := hammingBits data
  h + 64 * b2n (parity 48 data != parity 6 h)

/-- A row of data, check bits and valid copies (R125). -/
def rowOf (data check valid : Nat) : Nat := data % 2 ^ 48 + check % 128 * 2 ^ 48 + valid % 8 * 2 ^ 55

/-- A row as a write leaves it (R128). -/
def encodeRow (data : Nat) : Nat := rowOf data (checkBits (data % 2 ^ 48)) 7

/-- The row that stores a poisoned word: zero data, c0 and c1 inverted (R132). -/
def poisonRow : Nat := rowOf 0 3 7

/-- What a read of a row finds (R127, R128): the data returned, an unwritten word, a corrected error, poison, and
valid copies that disagree. -/
structure RowRead where
  data : Nat
  zero : Bool
  corr : Bool
  poison : Bool
  splitVote : Bool
  deriving DecidableEq, Repr

/-- The majority of the three valid copies (R127). -/
def rowVote (row : Nat) : Bool :=
  let v := slice row 55 3
  decide (2 ≤ v % 2 + v / 2 % 2 + v / 4 % 2)

/-- A read of the 58 bits of a row (R127). -/
def readRow (row : Nat) : RowRead :=
  let v := slice row 55 3
  let split := v != 0 && v != 7
  let data := low 48 row
  let check := slice row 48 7
  let syn := hammingBits data ^^^ check % 64
  let e := parity 55 row
  if !rowVote row then ⟨0, true, false, false, split⟩
  else if !e && syn == 0 then ⟨data, false, false, false, split⟩
  else if e && (syn == 0 || isPow2 syn) then ⟨data, false, true, false, split⟩
  else if e && codePositions.contains syn then
    ⟨data ^^^ 2 ^ codePositions.idxOf syn, false, true, false, split⟩
  else ⟨0, false, false, true, split⟩

/-! ### Where a word stands -/

/-- The key of physical row `row` of bank `b` of die `d`. -/
def rowKey (d b row : Nat) : Nat := (512 * d + b) * 16384 + row % 16384

/-- The physical row's 58 bits. -/
def State.row (s : State) (d b row : Nat) : Nat := Sparse.get (fun _ => 0) s.banks (rowKey d b row)

/-- `s` with the 58 bits of a physical row set. -/
def State.setRow (s : State) (d b row v : Nat) : State :=
  { s with banks := Sparse.set id (fun _ => 0) s.banks (rowKey d b row) (v % 2 ^ 58) }

/-- True dual-port banks (R75). -/
def dualPort (b : Nat) : Bool := b % 16 == 0

/-- Whether bank `b` of die `d` is in tick-paired mode (R142). -/
def State.pairedBank (s : State) (d b : Nat) : Bool := s.has (.bank .CFG_MODE) (1 + d) b 1

/-- The physical row of offset `a` of a bank: in tick-paired mode offsets below 0x2000 are the read side (R142). -/
def State.physRow (s : State) (d b a : Nat) : Nat :=
  if s.pairedBank d b then
    let h := s.rd (.bank .readHalf) (1 + d) b
    (if a % 16384 < 8192 then h else 1 - h) * 8192 + a % 8192
  else a % 16384

/-- The power state of a bank (R148). -/
def State.bankPwr (s : State) (d b : Nat) : Nat := s.rd (.bank .STAT_PWR) (1 + d) b

/-- Whether the bank serves its ports and the network: used and ON (R136, R141). -/
def State.bankOn (s : State) (d b : Nat) : Bool :=
  s.has (.bank .CFG_USED) (1 + d) b 1 && s.bankPwr d b == 1

/-- Whether the write side of a bank is being blanked (R143). -/
def State.writeSideBusy (s : State) (d b : Nat) : Bool := s.has (.bank .blanking) (1 + d) b 2

/-! ### One access to a row -/

/-- Without the waiting write-backs of a row: a write, a set, a clear or a blanking has reached it (R131). -/
def State.cancelWriteBacks (s : State) (d b row : Nat) : State :=
  { s with writeBacks := s.writeBacks.filter fun w => !(w.die == d && w.bank == b && w.row == row) }

/-- A word stored in a row: all 58 bits (R128). -/
def State.storeRow (s : State) (d b row data : Nat) : State :=
  (s.setRow d b row (encodeRow data)).cancelWriteBacks d b row

/-- A poisoned word stored in a row (R132). -/
def State.storePoison (s : State) (d b row : Nat) : State :=
  (s.setRow d b row poisonRow).cancelWriteBacks d b row

/-- BANK_ERRLOG as its register reads, bits [31:0]. -/
def State.bankErrlog (s : State) (d : Nat) : Nat :=
  s.rd (.bank .ERRLOG_VALID) (1 + d) 0 + s.rd (.bank .ERRLOG_BANK) (1 + d) 0 * 2 +
    s.rd (.bank .ERRLOG_ROW) (1 + d) 0 * 2 ^ 10 + s.rd (.bank .ERRLOG_SOURCE) (1 + d) 0 * 2 ^ 24 +
    s.rd (.bank .ERRLOG_CONSUMED) (1 + d) 0 * 2 ^ 26

/-- An uncorrectable row is counted, and logged when the log holds no earlier event; the log's VALID going to 1
raises an emergency (R132, R133). `src`: 0 port A, 1 port B, 2 network, 3 scrubber. -/
def State.noteUncorrectable (s : State) (d b row src : Nat) : State :=
  let s := s.inc (.bank .ECC_SUM_UE) (1 + d) 0
  let s := s.wr (.bank .STAT_UE) (1 + d) b 1
  if s.has (.bank .ERRLOG_VALID) (1 + d) 0 1 then s
  else
    let s := s.wr (.bank .ERRLOG_VALID) (1 + d) 0 1
    let s := s.wr (.bank .ERRLOG_BANK) (1 + d) 0 b
    let s := s.wr (.bank .ERRLOG_ROW) (1 + d) 0 row
    let s := s.wr (.bank .ERRLOG_SOURCE) (1 + d) 0 src
    let s := s.wr (.bank .ERRLOG_TICK) (1 + d) 0 s.tickTag
    s.raiseEvent 0x5010 (0x10 + d) (s.bankErrlog d)

/-- A correctable row, or one whose valid copies disagree, gets its one write-back; a bank in TEST performs none
(R128, R131, R152). -/
def State.askWriteBack (s : State) (d b row src : Nat) (r : RowRead) : State :=
  if (r.corr || r.splitVote) && s.bankPwr d b == 1 &&
      !(s.writeBacks.any fun w => w.die == d && w.bank == b && w.row == row) then
    { s with writeBacks := s.writeBacks ++ [⟨d, b, row, r.zero, r.splitVote, r.corr, src == 2⟩] }
  else s

/-- A read of a physical row by `src`: what it returns, and the log, counts and write-back it leaves. -/
def State.readPhys (s : State) (d b row src : Nat) : RowRead × State :=
  let r := readRow (s.row d b row)
  let s := if r.poison then s.noteUncorrectable d b row src else s
  (r, s.askWriteBack d b row src r)

/-- The write-back of a row lands (R128, R131): the row is written as it reads now, and is counted. An uncorrectable row keeps
its data and check bits. -/
def State.landWriteBack (s : State) (w : WriteBack) : State :=
  let r := readRow (s.row w.die w.bank w.row)
  let u := 1 + w.die
  let s :=
    if w.voteZero then s.setRow w.die w.bank w.row (low 55 (s.row w.die w.bank w.row))
    else if r.poison then s.setRow w.die w.bank w.row (low 55 (s.row w.die w.bank w.row) + 7 * 2 ^ 55)
    else s.setRow w.die w.bank w.row (encodeRow r.data)
  let s := s.cancelWriteBacks w.die w.bank w.row
  let s := if w.fixesData then (s.inc (.bank .ECC_SUM_CE) u 0).inc (.bank .STAT_CE) u w.bank else s
  if w.fixesValid then s.inc (.bank .ECC_SUM_VALIDFIX) u 0 else s

/-- A SET or a CLEAR of a word: one atomic access. An unwritten word counts as zero; an uncorrectable row is left
as it is (R132, R135). -/
def State.modifyRow (s : State) (d b row src : Nat) (clear : Bool) (data : Nat) : RowRead × State :=
  let (r, s) := s.readPhys d b row src
  if r.poison then (r, s)
  else
    let v := if clear then r.data &&& ((2 ^ 48 - 1) ^^^ low 48 data) else r.data ||| low 48 data
    (r, s.storeRow d b row v)

/-! ### Blanking -/

/-- Rows `lo` to `hi - 1` of a bank become unwritten: their valid copies become 0, and data and check bits stay
(R129). -/
def State.blankRows (s : State) (d b lo hi : Nat) : State :=
  let inRange := fun k => decide (rowKey d b 0 + lo ≤ k) && decide (k < rowKey d b 0 + hi)
  { s with
    banks := (s.banks.map fun e => if inRange e.1 then (e.1, low 55 e.2) else e).filter fun e => e.2 != 0
    writeBacks := s.writeBacks.filter fun w => !(w.die == d && w.bank == b && decide (lo ≤ w.row) && decide (w.row < hi)) }

/-- A whole bank becomes unwritten. -/
def State.blankBank (s : State) (d b : Nat) : State := s.blankRows d b 0 16384

/-- The write side of a tick-paired bank becomes unwritten. -/
def State.blankWriteSide (s : State) (d b : Nat) : State :=
  let h := 1 - s.rd (.bank .readHalf) (1 + d) b
  s.blankRows d b (h * 8192) (h * 8192 + 8192)

/-- A bank's content is lost (R148). -/
def State.loseBank (s : State) (d b : Nat) : State :=
  { s with
    banks := Sparse.clear (fun k => decide (rowKey d b 0 ≤ k) && decide (k < rowKey d b 0 + 16384)) s.banks
    writeBacks := s.writeBacks.filter fun w => !(w.die == d && w.bank == b) }

/-- The banks of a die that the active image uses. -/
def State.usedBanks (s : State) (d : Nat) : List Nat :=
  ((s.regs.filter fun e => decide (e.1.f = .bank .CFG_USED ∧ e.1.u = 1 + d)).map fun e => e.1.j).filter
    fun b => s.has (.bank .CFG_USED) (1 + d) b 1

/-- Every used bank of every die, as (die, bank). -/
def State.allUsedBanks (s : State) : List (Nat × Nat) :=
  dies.flatMap fun d => (s.usedBanks d).map fun b => (d, b)

/-- The tick-paired banks of fabric use: mailbox banks belong to their network interface (R144). -/
def State.pairedBanks (s : State) : List (Nat × Nat) :=
  s.allUsedBanks.filter fun p => s.pairedBank p.1 p.2 && s.has (.bank .CFG_MAILBOX) (1 + p.1) p.2 0

/-- The tick-paired banks in BLANK flip mode (R51). -/
def State.blankModeBanks (s : State) : List (Nat × Nat) :=
  s.pairedBanks.filter fun p => s.has (.bank .CFG_FLIP) (1 + p.1) p.2 0

/-! ### Locks -/

/-- Whether fabric port `p` of a bank holds a lock (R145). -/
def State.portLocks (s : State) (d b p : Nat) : Bool :=
  if p = 0 then s.has (.bank .STAT_LOCK_A) (1 + d) b 1 else s.has (.bank .STAT_LOCK_B) (1 + d) b 1

/-- The row that port `p` holds locked. -/
def State.lockRow (s : State) (d b p : Nat) : Nat :=
  if p = 0 then s.rd (.bank .lockRowA) (1 + d) b else s.rd (.bank .lockRowB) (1 + d) b

/-- Whether port `p` holds the lock of row `row`. -/
def State.lockedBy (s : State) (d b p row : Nat) : Bool := s.portLocks d b p && s.lockRow d b p == row

/-- Port `p` takes the lock of a row. -/
def State.takeLock (s : State) (d b p row : Nat) : State :=
  if p = 0 then (s.wr (.bank .STAT_LOCK_A) (1 + d) b 1).wr (.bank .lockRowA) (1 + d) b row
  else (s.wr (.bank .STAT_LOCK_B) (1 + d) b 1).wr (.bank .lockRowB) (1 + d) b row

/-- Port `p` gives its lock up. -/
def State.dropLock (s : State) (d b p : Nat) : State :=
  if p = 0 then (s.wr (.bank .STAT_LOCK_A) (1 + d) b 0).wr (.bank .lockRowA) (1 + d) b 0
  else (s.wr (.bank .STAT_LOCK_B) (1 + d) b 0).wr (.bank .lockRowB) (1 + d) b 0

/-- The fields that hold a lock. -/
def isLockField (f : Fld) : Bool :=
  decide (f = .bank .STAT_LOCK_A) || decide (f = .bank .STAT_LOCK_B) || decide (f = .bank .lockRowA) ||
    decide (f = .bank .lockRowB)

/-- Every lock is released (R147). -/
def State.dropAllLocks (s : State) : State := s.resetKeys fun k => isLockField k.f

/-- Every lock of one bank is released. -/
def State.dropBankLocks (s : State) (d b : Nat) : State := (s.dropLock d b 0).dropLock d b 1

end Sys2Proof.Machine
end

