-- ==== Sys2Proof/Machine/QueueOps.lean ====
section
/-! DEFINITION. The queue manager's queues (R237 to R258): packets, views, pushes, pops, notices, staging. -/

namespace Sys2Proof.Machine

/-! ### Slots -/

/-- The code positions of d[0] to d[51]: those of R126, and 55 to 58 (R238). -/
def itemPositions : List Nat := codePositions ++ [55, 56, 57, 58]

/-- c0 to c5 of the 52 protected bits (R238). -/
def itemHamming (v : Nat) : Nat :=
  (List.range 52).foldl (fun a i => if v.testBit i then a ^^^ itemPositions.getD i 0 else a) 0

/-- c6 to c0 of the protected bits. -/
def itemCheck (v : Nat) : Nat := itemHamming v + 64 * b2n (parity 52 v != parity 6 (itemHamming v))

/-- ATAG of a pool index (R238). -/
def atagOf (idx : Nat) : Nat := slice idx 0 5 ^^^ slice idx 5 5 ^^^ slice idx 10 5 ^^^ slice idx 15 5 ^^^ slice idx 20 2

/-- The protected bits of an item of a packet of priority `prio`, with its end mark (R237). -/
def itemBits (data prio : Nat) (last : Bool) : Nat := data % 2 ^ 48 + b2n last * 2 ^ 48 + prio % 4 * 2 ^ 50

/-- A slot of protected bits, check bits and address tag; a poisoned item is stored with data 0 and c0 and c1 inverted (R237,
R241). -/
def itemSlot (idx prio : Nat) (last : Bool) (i : QItem) : QSlot :=
  let v := itemBits (if i.poison then 0 else i.data) prio last
  ⟨idx, v + (itemCheck v ^^^ if i.poison then 3 else 0) * 2 ^ 52 + atagOf idx * 2 ^ 59⟩

/-- A read of a slot of a packet whose record puts the end mark there or not (R238, R239): the item delivered, and its kind of
error, 0 check bits, 1 ATAG, 2 END. -/
def readItem (last : Bool) (z : QSlot) : ItemRead :=
  let v := low 52 z.word
  let c := slice z.word 52 7
  let syn := itemHamming v ^^^ c % 64
  let e := parity 59 z.word
  let bad := fun (kind : Nat) => (⟨0, true, false, kind⟩ : ItemRead)
  let good := fun (v : Nat) (corr : Bool) =>
    if v.testBit 48 == last then (⟨low 48 v, false, corr, 0⟩ : ItemRead) else bad 2
  if slice z.word 59 5 ≠ atagOf z.idx then bad 1
  else if !e && syn == 0 then good v false
  else if e && (syn == 0 || isPow2 syn) then good v true
  else if e && itemPositions.contains syn then good (v ^^^ 2 ^ itemPositions.idxOf syn) true
  else bad 0

/-- A slot as the correction writes it back (R239). -/
def fixItem (last : Bool) (prio : Nat) (z : QSlot) : QSlot :=
  let r := readItem last z
  if r.corr then itemSlot z.idx prio last ⟨r.data, false⟩ else z

/-- The items of a packet with the end mark that its record gives each: the last one of a complete packet has it. -/
def QPkt.marked (p : QPkt) : List (Bool × QSlot) :=
  (List.range p.items.length).map fun i =>
    (p.stage != .opened && i + 1 == p.items.length, p.items.getD i ⟨0, 0⟩)

/-- The items of a packet as they are read. -/
def QPkt.reads (p : QPkt) : List ItemRead := p.marked.map fun x => readItem x.1 x.2

/-- Slots for items, in the order of a packet of priority `prio`: the pool slots that they take are free values. -/
def State.slotsFor (s : State) (prio : Nat) (last : Bool) (l : List QItem) : List QSlot :=
  (List.range l.length).map fun i =>
    itemSlot (Config.freeBits 22 (s.free + i) % 2 ^ 22) prio (last && i + 1 == l.length) (l.getD i ⟨0, false⟩)

/-- As many free values have been met. -/
def State.spendMany (s : State) (k : Nat) : State := { s with free := s.free + k }

/-- Upsets strike: stored bits flip, and records or ownership entries become uncorrectable (R238, R240). -/
def State.strike (s : State) (u : QUpset) : State :=
  let hit := fun (z : QSlot) => { z with word := u.flips.foldl (fun w f => if f.1 = z.idx then w ^^^ f.2 % 2 ^ 64 else w) z.word }
  each u.records (fun q s => s.wr (.qm .recordBad) 0 q 1)
    { s with queues := s.queues.map fun p => { p with items := p.items.map hit } }

/-! ### Queues -/

/-- The queue states of R256. -/
def State.qState (s : State) (q : Nat) : Nat := s.rd (.qm .QSTAT_STATE) 0 q

/-- Whether queue `q` is in TICK mode (R251). -/
def State.qTick (s : State) (q : Nat) : Bool := s.has (.qm .QCFG_MODE) 0 q 1

/-- Slots that packets of the list hold. -/
def slotsOf (l : List QPkt) : Nat := l.foldl (fun a p => a + p.items.length) 0

/-- The packets of queue `q`. -/
def State.qPkts (s : State) (q : Nat) : List QPkt := s.queues.filter fun p => p.q == q

/-- Reservations of the engines in status queue `q`, in slots (R283). -/
def State.qReserved (s : State) (q : Nat) : Nat :=
  s.exchanges.foldl (fun a e => if e.queue = q + 1 then a + e.reserved else a) 0

/-- Slots in use by queue `q`: visible, current, open, staged and tentative (R261 OCC). -/
def State.qOcc (s : State) (q : Nat) : Nat :=
  slotsOf (s.qPkts q) + s.rd (.qm .tent) 0 q + s.qReserved q

/-- Slots in use by every queue. -/
def State.poolUsed (s : State) : Nat :=
  slotsOf s.queues + (s.regs.filter fun e => decide (e.1.f = .qm .tent)).foldl (fun a e => a + e.2) 0 +
    s.exchanges.foldl (fun a e => a + e.reserved) 0

/-- Free slots of the pool (R261 FREE). -/
def State.poolFree (s : State) : Nat := 4194304 - s.poolUsed

/-- MIN_FREE follows a fall of FREE (R261). -/
def State.noteFree (s : State) : State :=
  if s.poolFree < s.rd (.qm .POOL_MIN_FREE) then s.wr (.qm .POOL_MIN_FREE) 0 0 s.poolFree else s

/-- Packets of `q` at priority `p` that have not been popped through, the current one included (R245). -/
def State.qCount (s : State) (q p : Nat) : Nat :=
  ((s.qPkts q).filter fun k => k.prio == p && (k.stage == .visible || k.stage == .current)).length

/-- Open packets of `q` (R242). -/
def State.qOpen (s : State) (q : Nat) : Nat := ((s.qPkts q).filter fun k => k.stage == .opened).length

/-- The first of the best by `prio` among visible packets. -/
def bestPkt : List QPkt → Option QPkt
  | [] => none
  | p :: r =>
    match bestPkt r with
    | none => some p
    | some b => if b.prio > p.prio then some b else some p

/-- The packet that a pop takes from: the current one, or the oldest complete packet of the highest priority that
holds one (R243). -/
def State.qHead (s : State) (q : Nat) : Option QPkt :=
  match (s.qPkts q).find? fun p => p.stage == .current with
  | some p => some p
  | none => bestPkt ((s.qPkts q).filter fun p => p.stage == .visible)

/-- What a pop or a peek returns (R244, R247): items, END, IDLE and PRIO. -/
structure PopResult where
  items : List ItemRead
  last : Bool
  idle : Bool
  prio : Nat
  deriving DecidableEq, Repr

/-- The idle item (R244). -/
def idleResult : PopResult := ⟨[⟨0x800000000000, false, false, 0⟩], true, true, 0⟩

/-- What a pop of at most `count` items would return. -/
def State.qLook (s : State) (q count : Nat) : PopResult :=
  match s.qHead q with
  | none => idleResult
  | some p => ⟨p.reads.take count, decide (p.items.length ≤ count), false, p.prio⟩

/-- A list with the first element equal to `p` replaced by the elements of `r`. -/
def replaceFirst (p : QPkt) (r : List QPkt) : List QPkt → List QPkt
  | [] => []
  | x :: l => if x = p then r ++ l else x :: replaceFirst p r l

/-- The queue after a pop of `count` items: the packet becomes current, or is gone with its last item. -/
def State.qTake (s : State) (q count : Nat) : State :=
  match s.qHead q with
  | none => s
  | some p =>
    let rest := p.items.drop count
    { s with queues := replaceFirst p (if rest.isEmpty then [] else [{ p with stage := .current, items := rest }]) s.queues }

/-- Slots that a pop takes. -/
def State.qTaken (s : State) (q count : Nat) : Nat :=
  match s.qHead q with
  | none => 0
  | some p => min count p.items.length

/-- The view of a queue is kept before its first tentative pop of a tick (R251). -/
def State.keepView (s : State) (q : Nat) : State :=
  if s.queueSnaps.any fun k => k.q == q then s
  else { s with queueSnaps := s.queueSnaps ++ [⟨q, (s.qPkts q).filter fun p => p.stage == .visible || p.stage == .current⟩] }

/-- QM_ERRLOG as its register reads, bits [31:0]. -/
def State.qmErrlog (s : State) : Nat :=
  s.rd (.qm .ERRLOG_VALID) + s.rd (.qm .ERRLOG_QUEUE) * 2 + s.rd (.qm .ERRLOG_KIND) * 2 ^ 17

/-- A queue error is logged when the log holds no earlier one, with its emergency (R239). -/
def State.logQueue (s : State) (q kind : Nat) : State :=
  if s.has (.qm .ERRLOG_VALID) 0 0 1 then s
  else
    let s := s.wr (.qm .ERRLOG_VALID) 0 0 1
    let s := s.wr (.qm .ERRLOG_QUEUE) 0 0 q
    let s := s.wr (.qm .ERRLOG_KIND) 0 0 kind
    let s := s.wr (.qm .ERRLOG_TICK) 0 0 s.tickTag
    s.raiseEvent 0x5010 0x20 s.qmErrlog

/-- The poisoned items of a list. -/
def poisoned (l : List ItemRead) : Nat := (l.filter fun i => i.poison).length

/-- What reading the slots of a list counts and logs (R239): corrections written back, uncorrectable slots, the first of them
in QM_ERRLOG. -/
def State.noteSlots (s : State) (q : Nat) (l : List ItemRead) : State :=
  let s := s.add (.qm .ECC_CE) 0 0 (l.filter fun r => r.corr).length
  let s := s.add (.qm .ECC_UE) 0 0 (poisoned l)
  match l.find? fun r => r.poison with
  | none => s
  | some r => s.logQueue q r.kind

/-- A queue whose packet record or ownership entries are uncorrectable fails when it is next reached (R240, R258): it loses its
items, and the error is logged. -/
def State.loseQueue (s : State) (q : Nat) : State :=
  let s : State := { s with queues := s.queues.filter (fun k => k.q != q), queueSnaps := s.queueSnaps.filter fun k => k.q != q }
  let s := ((s.wr (.qm .tent) 0 q 0).wr (.qm .recordBad) 0 q 0).wr (.qm .QSTAT_STATE) 0 q 5
  (s.logQueue q 3).raiseCondAs q 0x5020 0 q

/-- Correctable slots at the head of a queue are written back (R239). -/
def State.fixHead (s : State) (q count : Nat) : State :=
  match s.qHead q with
  | none => s
  | some p =>
    let fixed := ((p.marked.take count).map fun x => fixItem x.1 p.prio x.2) ++ p.items.drop count
    { s with queues := replaceFirst p [{ p with items := fixed }] s.queues }

/-- A pop of at most `count` items, final or tentative (R244, R251). A poisoned item sets POISON. -/
def State.qPop (s : State) (q count : Nat) (tentative : Bool) : PopResult × State :=
  let r := s.qLook q count
  let s := (s.noteSlots q r.items).fixHead q count
  let s := if poisoned r.items = 0 then s else s.wr (.qm .QSTAT_POISON) 0 q 1
  if tentative then
    let k := s.qTaken q count
    let s := s.keepView q
    (r, (s.qTake q count).wr (.qm .tent) 0 q (s.rd (.qm .tent) 0 q + k))
  else (r, s.qTake q count)

/-- The host's NIs: the service processors and the debug master (R251, R261). -/
def hostNi (src : Nat) : Bool := src == 0 || src == 2

/-- Whether R250 and R252 allow a push of class `cls` from `src`. -/
def State.pushAllowed (s : State) (q cls src : Nat) : Bool :=
  if s.qTick q then
    if cls = 0 then s.has (.qm .QCFG_STATUS) 0 q 0 || src == 6 || src == 7 else hostNi src
  else cls != 0

/-- Whether R250 and R252 allow a pop of class `cls` from `src`. -/
def State.popAllowed (s : State) (q cls src : Nat) : Bool :=
  if s.qTick q then
    if cls = 0 then
      let c := s.rd (.qm .QCFG_CONSUMER) 0 q
      c != 0 && (c == src || ((c == 6 || c == 7) && (src == 6 || src == 7)))
    else hostNi src
  else cls != 0

/-- The open packet of a source at a priority (R242). -/
def State.openPkt (s : State) (q src prio : Nat) : Option QPkt :=
  (s.qPkts q).find? fun p => p.stage == .opened && p.src == src && p.prio == prio

/-- Whether `k` more slots keep queue `q` within its quota (R248). -/
def State.quotaOk (s : State) (q k : Nat) : Bool :=
  s.has (.qm .QCFG_QUOTA) 0 q 0 || decide (s.qOcc q + k ≤ 64 * s.rd (.qm .QCFG_QUOTA) 0 q)

/-- Packets staged in queue `q` in the tick in progress, those of the host and the engines' reservations included (R251,
R283). -/
def State.qStagedCount (s : State) (q : Nat) : Nat :=
  ((s.qPkts q).filter fun p => p.stage == .staged || p.stage == .hostStaged).length +
    (s.exchanges.filter fun e => e.reserved != 0 && e.queue == q + 1).length

/-- What a push meets: stored, refused with a DETAIL of R248, or a void under R251. -/
inductive PushResult where
  | stored
  | refused (detail : Nat)
  | voids
  deriving DecidableEq, Repr

/-- The checks of R248 and R251 on a push of `k` items. -/
def State.pushCheck (s : State) (q cls src prio : Nat) (last : Bool) (k : Nat) : PushResult :=
  let st := s.qState q
  if st = 5 then .refused 9
  else if st ≠ 1 ∧ st ≠ 3 then .refused 1
  else if !s.pushAllowed q cls src then .refused 4
  else if cls = 0 then
    if !last then .refused 7
    else if s.qStagedCount q ≥ 1024 || !s.quotaOk q k || decide (s.poolFree < k) then .voids
    else .stored
  else
    let held := match s.openPkt q src prio with
      | some p => p.items.length
      | none => 0
    if held = 0 && !last && decide (4 ≤ s.qOpen q) then .refused 5
    else if held + k > 65535 then .refused 6
    else if !s.quotaOk q k then .refused 2
    else if s.poolFree < k then .refused 3
    else .stored

/-- The notice of a packet that has become visible (R253). -/
def noticeWord (q prio len tag : Nat) : Nat :=
  q % 65536 + prio % 4 * 2 ^ 16 + min len 4095 * 2 ^ 18 + tag % 65536 * 2 ^ 30

/-- The notice of a packet of `q` is filed in the notice queue, or lost (R253, R254). -/
def State.fileNotice (s : State) (q prio len tag : Nat) : State :=
  if s.has (.qm .QCFG_NOTIFY_EN) 0 q 0 then s
  else
    let t := s.rd (.qm .QCFG_NOTIFY) 0 q
    let st := s.qState t
    if (st == 1 || st == 3) && s.quotaOk t 1 && decide (1 ≤ s.poolFree) then
      State.noteFree (State.spendMany { s with
        queues := s.queues ++ [⟨t, 0, 4, 0, .visible, s.slotsFor 0 true [⟨noticeWord q prio len tag, false⟩]⟩] } 1)
    else s.wr (.qm .QSTAT_NOTICE_LOST) 0 q 1

/-- A push that has passed its checks is stored: staged, added to its open packet, or completed; a packet that
becomes visible is followed by its notice (R243, R251, R253). `free`: the tick is not ARMED, RUNNING or HALTED. -/
def State.storePush (s : State) (q cls src seq prio : Nat) (last : Bool) (items : List QItem) : State :=
  let new := s.slotsFor prio last items
  let s := (s.add (.qm .ECC_PFWD) 0 0 (items.filter fun i => i.poison).length).spendMany items.length
  if cls = 0 then State.noteFree { s with queues := s.queues ++ [⟨q, prio, src, seq, .staged, new⟩] }
  else
    let old := s.openPkt q src prio
    let rest := match old with
      | some p => replaceFirst p [] s.queues
      | none => s.queues
    let all := (match old with
      | some p => p.items
      | none => []) ++ new
    let stage : QStage :=
      if !last then .opened else if s.qTick q && s.tickLive then .hostStaged else .visible
    let s := State.noteFree { s with queues := rest ++ [⟨q, prio, src, seq, stage, all⟩] }
    if stage = .visible then s.fileNotice q prio all.length 0 else s

/-- A refused push for want of room is marked in the queue's status (R261 DROP). -/
def State.markDrop (s : State) (q detail : Nat) : State :=
  if detail = 2 ∨ detail = 3 then s.wr (.qm .QSTAT_DROP) 0 q 1 else s

/-- The checks of R248 and R252 on a pop; 0 where it is served. -/
def State.popCheck (s : State) (q cls src : Nat) : Nat :=
  let st := s.qState q
  if st = 5 then 9
  else if st = 0 ∨ st = 4 then 1
  else if !s.popAllowed q cls src then 4
  else if cls = 2 && s.qTick q && s.rd (.qm .QCFG_CONSUMER) 0 q != 0 && s.tickLive then 8
  else 0

/-- The checks on a peek; 0 where it is served (R250, R252, R256). -/
def State.peekCheck (s : State) (q cls : Nat) : Nat :=
  let st := s.qState q
  if st = 5 then 9
  else if st = 0 ∨ st = 4 then 1
  else if !s.qTick q && cls == 0 then 4
  else 0

/-- Insertion of a packet in the order of R49: by queue, source and sequence number. -/
def insertPkt (p : QPkt) : List QPkt → List QPkt
  | [] => [p]
  | x :: l =>
    if p.q < x.q ∨ (p.q = x.q ∧ (p.src < x.src ∨ (p.src = x.src ∧ p.seq < x.seq))) then p :: x :: l
    else x :: insertPkt p l

/-- Staged packets in the order of R49. -/
def sortPkts (l : List QPkt) : List QPkt := l.foldl (fun a p => insertPkt p a) []

/-- The numbers run from 0 without gap or duplicate: each of `n` numbers below `n` occurs (R48). -/
def seqsRun (l : List Nat) : Bool := (List.range l.length).all fun i => l.contains i

/-- At the deadline the sequence numbers of each source of each TICK queue must run (R251). -/
def State.queueSeqsOk (s : State) : Bool :=
  let st := s.queues.filter fun p => p.stage == .staged
  st.all fun p => seqsRun ((st.filter fun k => k.q == p.q && k.src == p.src).map fun k => k.seq)

/-- At a committed boundary the staged packets become visible: T-class in the order of R49, then those that the host
completed, each with its notice; tentative pops become final (R50, R251, R253). -/
def State.queuesCommit (s : State) (tag : Nat) : State :=
  let ts := (sortPkts (s.queues.filter fun p => p.stage == .staged)).map fun p => { p with stage := .visible }
  let hs := (s.queues.filter fun p => p.stage == .hostStaged).map fun p => { p with stage := .visible }
  let s : State := { s with
    queues := (s.queues.filter fun p => p.stage != .staged && p.stage != .hostStaged) ++ ts ++ hs
    queueSnaps := [] }
  let s := s.resetKeys fun k => decide (k.f = .qm .tent)
  each (ts ++ hs) (fun p s => s.fileNotice p.q p.prio p.items.length tag) s

/-- Step 4 of R64 on the queues: tentative pops are restored, staged packets of the tick discarded (R251). -/
def State.queuesVoid (s : State) : State :=
  let snapped := fun q => s.queueSnaps.any fun k => k.q == q
  let kept := s.queues.filter fun p =>
    p.stage != .staged && p.stage != .hostStaged && !(snapped p.q && (p.stage == .visible || p.stage == .current))
  let s : State := { s with queues := s.queueSnaps.flatMap (fun k => k.pkts) ++ kept, queueSnaps := [] }
  s.resetKeys fun k => decide (k.f = .qm .tent)

/-- Open packets that meet `p` are abandoned: slots freed and counted (R255). -/
def State.abandon (s : State) (p : QPkt → Bool) : State :=
  let gone := s.queues.filter fun k => k.stage == .opened && p k
  let s : State := { s with queues := s.queues.filter fun k => !(k.stage == .opened && p k) }
  each gone (fun k s => (s.inc (.qm .ECC_ABANDON) 0 0).wr (.qm .QSTAT_ABANDON) 0 k.q 1) s

/-- Every slot of a queue is freed (R257). -/
def State.emptyQueue (s : State) (q : Nat) : State :=
  let s := s.abandon fun k => k.q == q
  let s : State := { s with queues := s.queues.filter (fun k => k.q != q), queueSnaps := s.queueSnaps.filter fun k => k.q != q }
  s.wr (.qm .tent) 0 q 0

/-- The queues in TICK mode. -/
def State.tickQueues (s : State) : List Nat :=
  ((s.regs.filter fun e => decide (e.1.f = .qm .QCFG_MODE)).map fun e => e.1.j).filter fun q => s.qTick q

/-- An accepted ARM flushes every TICK queue (R251). -/
def State.flushTickQueues (s : State) : State := each s.tickQueues (fun q s => s.emptyQueue q) s

end Sys2Proof.Machine
end

