-- ==== Sys2Proof/Machine/CaravanOps.lean ====
section
/-! DEFINITION. Endpoint contexts and the Caravan engines (R264 to R284): the store and its shadow, the walk, the
classification and filing of statuses. -/

namespace Sys2Proof.Machine

/-- The number of contexts (R264). -/
def contextCount : Nat := 49152

/-- The key of word `w` of context `c`. -/
def ctxKey (c w : Nat) : Nat := 64 * c + w

/-- The key of what the engines keep of the exchange before a context's newest: 0 its sequence number, 1 its tick (R278,
R281). -/
def histKey (c k : Nat) : Nat := 64 * contextCount + 2 * c + k

/-- The key of whether a status of the exchange of context `c` that was last sent with number `q` has been received
(R278). -/
def gotKey (c q : Nat) : Nat := 66 * contextCount + 65536 * c + q % 65536

/-- A committed word of the context store. -/
def State.ctxWord (s : State) (k : Nat) : Nat := Sparse.get (fun _ => 0) s.ctx k

/-- A committed word set. -/
def State.setCtx (s : State) (k v : Nat) : State :=
  { s with ctx := Sparse.set id (fun _ => 0) s.ctx k (v % 2 ^ 48) }

/-- A word as the engines see it in the tick in progress: the newest shadow update, or the committed word (R274). -/
def State.shWord (s : State) (k : Nat) : Nat :=
  match s.ctxShadow.reverse.find? fun e => e.1 == k with
  | some e => e.2
  | none => s.ctxWord k

/-- A shadow update. -/
def State.setSh (s : State) (k v : Nat) : State := { s with ctxShadow := s.ctxShadow ++ [(k, v % 2 ^ 48)] }

/-- A word with the bits `[lo + w - 1 : lo]` replaced. -/
def putBits (word lo w v : Nat) : Nat := word - slice word lo w * 2 ^ lo + v % 2 ^ w * 2 ^ lo

/-- A field of a word raised by one in the shadow, held at its largest value. -/
def State.shInc (s : State) (k lo w : Nat) : State :=
  s.setSh k (putBits (s.shWord k) lo w (satInc w (slice (s.shWord k) lo w)))

/-- A field of a word set in the shadow. -/
def State.shPut (s : State) (k lo w v : Nat) : State := s.setSh k (putBits (s.shWord k) lo w v)

/-- The fields of a configuration word (R265). -/
def cfgEn (w : Nat) : Bool := w.testBit 0
def cfgPort (w : Nat) : Nat := slice w 1 3
def cfgPlog (w : Nat) : Nat := slice w 4 4
def cfgPhase (w : Nat) : Nat := slice w 8 10
def cfgClen (w : Nat) : Nat := slice w 18 5
def cfgSlen (w : Nat) : Nat := slice w 23 5
def cfgEmptyNop (w : Nat) : Bool := w.testBit 28
def cfgLateKeep (w : Nat) : Bool := w.testBit 29
def cfgMissPost (w : Nat) : Bool := w.testBit 30
def cfgMissLimit (w : Nat) : Nat := slice w 31 8
def cfgSprio (w : Nat) : Nat := slice w 39 2

/-- The committed CFG word of a context. -/
def State.cfgOf (s : State) (c : Nat) : Nat := s.ctxWord (ctxKey c 0)

/-- The contexts whose committed EN is 1, in ascending number: the walk list (R272). -/
def State.walkList (s : State) : List Nat :=
  (s.ctx.filter fun e => decide (e.1 < 64 * contextCount) && e.1 % 64 == 0 && e.2.testBit 0).map fun e => e.1 / 64

/-- Whether a context is due in tick `n` (R271). -/
def State.ctxDue (s : State) (c n : Nat) : Bool :=
  cfgEn (s.cfgOf c) && n % 2 ^ cfgPlog (s.cfgOf c) == cfgPhase (s.cfgOf c)

/-- The sequence number that follows: modulo 65,536 with 0 skipped (R274). -/
def nextSeq (t : Nat) : Nat := if (t + 1) % 65536 = 0 then 1 else (t + 1) % 65536

/-- CVN_ERRLOG as its register reads, bits [31:0]. -/
def State.cvnErrlog (s : State) : Nat :=
  s.rd (.cvn .ERRLOG_VALID) + s.rd (.cvn .ERRLOG_KIND) * 2 + s.rd (.cvn .ERRLOG_CONTEXT) * 16 +
    s.rd (.cvn .ERRLOG_PORT) * 2 ^ 20

/-- A Caravan error is logged when the log holds no earlier one; `quiet` where the cause has raised its own
emergency (R286, R476). -/
def State.logCaravan (s : State) (kind c port : Nat) (quiet : Bool) : State :=
  if s.has (.cvn .ERRLOG_VALID) 0 0 1 then s
  else
    let s := s.wr (.cvn .ERRLOG_VALID) 0 0 1
    let s := s.wr (.cvn .ERRLOG_KIND) 0 0 kind
    let s := s.wr (.cvn .ERRLOG_CONTEXT) 0 0 c
    let s := s.wr (.cvn .ERRLOG_PORT) 0 0 port
    let s := s.wr (.cvn .ERRLOG_TICK) 0 0 s.tickTag
    if quiet then s else s.raiseEvent 0x8310 kind s.cvnErrlog

/-! ### The walk -/

/-- How an examined context's command comes out (R273): the words sent, whether the command slot takes them, whether
a packet was popped, and the flags. -/
structure Command where
  words : List Nat
  copy : Bool
  take : Bool
  empty : Bool
  bad : Bool
  rpt : Bool
  nop : Bool
  poison : Bool
  voids : Bool
  deriving DecidableEq, Repr

/-- The command slot of a context, CLEN words. -/
def State.cmdSlot (s : State) (c : Nat) : List Nat :=
  (List.range (cfgClen (s.cfgOf c))).map fun i => s.shWord (ctxKey c (16 + i))

/-- What is sent when no usable command exists (R273). -/
def State.emptyCommand (s : State) (c : Nat) (take bad : Bool) : Command :=
  if cfgEmptyNop (s.cfgOf c) then ⟨[], false, take, !bad, bad, false, true, false, false⟩
  else ⟨s.cmdSlot c, false, take, !bad, bad, true, false, false, false⟩

/-- The result of the engines' pop of a due context's command queue, row by row of R273. -/
def State.commandOf (s : State) (c ni : Nat) : Command :=
  let qb := s.ctxWord (ctxKey c 3)
  let clen := cfgClen (s.cfgOf c)
  if !qb.testBit 16 then ⟨s.cmdSlot c, false, false, false, false, false, false, false, false⟩
  else
    let q := slice qb 0 16
    if s.popCheck q 0 ni ≠ 0 then s.emptyCommand c false true
    else if s.qState q = 3 then s.emptyCommand c false false
    else
      match s.qHead q with
      | none => s.emptyCommand c false false
      | some p =>
        if p.items.length ≠ clen then s.emptyCommand c true true
        else if p.reads.any (fun i => i.poison) then
          if s.has (.bank .POLICY_POISON) 0 0 0 then ⟨[], false, true, false, false, false, false, false, true⟩
          else ⟨p.reads.map fun i => if i.poison then 0 else i.data, true, true, false, false, false, false, true, false⟩
        else ⟨p.reads.map fun i => i.data, true, true, false, false, false, false, false, false⟩

/-- The addressing of a context's frames (R265, R275). -/
def State.ctxMac (s : State) (c : Nat) : Nat := s.ctxWord (ctxKey c 1)
/-- The NODE word of a context (R265). -/
def State.ctxNode (s : State) (c : Nat) : Nat := s.ctxWord (ctxKey c 2)

/-- The bytes that an entry of a frame takes (R276). -/
def entryBytes (e : Entry) : Nat := 8 + 6 * e.words.length

/-- The payload of a frame (R276). -/
def frameBytes (f : Frame) : Nat := 16 + f.entries.foldl (fun a e => a + entryBytes e) 0

/-- An entry added for a port: into the open frame, which is the last of the port, or into a new one when the open
frame has another address or no room (R275). `open` frames stand in the list in the order in which they opened. -/
def addEntry (maxpay : Nat) (f : Frame) (e : Entry) (l : List Frame) : List Frame :=
  match l.reverse.find? fun x => x.port == f.port with
  | some x =>
    if x.mac = f.mac ∧ x.vlanEn = f.vlanEn ∧ x.vid = f.vid ∧ x.pcp = f.pcp ∧
        frameBytes x + entryBytes e ≤ maxpay then
      l.map fun y => if y = x then { y with entries := y.entries ++ [e] } else y
    else l ++ [{ f with entries := [e] }]
  | none => l ++ [{ f with entries := [e] }]

/-- The flag bits of a command entry's LEN byte: [5] REPEAT, [6] POISON (R300). -/
def entryFlags (k : Command) : Nat := 32 * b2n k.rpt + 64 * b2n k.poison

/-- An exchange opens, and its entry joins the frame that its port's builder builds (R271, R275). -/
def State.openExchange (s : State) (x : Exch) (p : Nat) (f : Frame) (e : Entry) : State :=
  { s with
    exchanges := s.exchanges ++ [x]
    built := addEntry (s.rd (.pp .CFG_MAXPAY) 0 p) f e s.built }

/-- Whether the engines can post a packet into queue `q`: R250 and R256 allow a T-class push of it (R270). -/
def State.canPost (s : State) (q : Nat) : Bool := s.qTick q && (s.qState q == 1 || s.qState q == 3)

/-- The newest exchange of a context in the shadow: numbered, and its predecessor remembered (R274, R278). -/
def State.numberExchange (s : State) (c : Nat) : State :=
  let old := s.shWord (ctxKey c 5)
  let seq := nextSeq (slice old 0 16)
  let s := (s.setSh (histKey c 0) (slice old 0 16)).setSh (histKey c 1) (slice old 16 16)
  (s.setSh (gotKey c seq) 0).setSh (ctxKey c 5) (seq + s.tickTag * 2 ^ 16)

/-- The engines reach the queues of a context: one that cannot trust its record or its ownership entries fails, and under the
void policy the tick voids (R240, R258). -/
def State.engineReach (s : State) (c : Nat) : Bool × State :=
  let qb := s.ctxWord (ctxKey c 3)
  let bad := ((if qb.testBit 16 then [slice qb 0 16] else []) ++ (if qb.testBit 33 then [slice qb 17 16] else [])).filter
    fun q => s.has (.qm .recordBad) 0 q 1
  (bad.any fun q => s.qTick q && s.has (.bank .POLICY_POISON) 0 0 0, each bad (fun q s => s.loseQueue q) s)

/-- One due context is examined by engine `ni`: its command is popped, its exchange numbered, its shadow updated, its
status packet reserved and its entry added to a frame (R273 to R275, R283). Answers whether the tick voids, and the
cause. -/
def State.examine (s : State) (c ni : Nat) : Nat × State :=
  let cfg := s.cfgOf c
  let cq := slice (s.ctxWord (ctxKey c 3)) 0 16
  let (fails, s) := s.engineReach c
  let k := s.commandOf c ni
  if fails then (0x07, s)
  else if k.voids then (0x07, s.noteSlots cq (s.qLook cq 65535).items)
  else
    let qb := s.ctxWord (ctxKey c 3)
    let sq := slice qb 17 16
    let wants := qb.testBit 33
    let need := if wants && s.canPost sq then 1 + cfgSlen cfg else 0
    if need != 0 && (decide (1024 ≤ s.qStagedCount sq) || !s.quotaOk sq need || decide (s.poolFree < need)) then
      (0x03, s)
    else
      let s := if k.take then (s.qPop cq 65535 true).2 else s
      let s := s.numberExchange c
      let seq := slice (s.shWord (ctxKey c 5)) 0 16
      let s := if k.copy then
          each (List.range k.words.length) (fun i s => s.setSh (ctxKey c (16 + i)) (k.words.getD i 0)) s
        else s
      let s := s.shPut (ctxKey c 6) 35 1 (b2n k.rpt)
      let s := s.shPut (ctxKey c 6) 36 1 (b2n k.nop)
      let s := s.shPut (ctxKey c 6) 37 1 (b2n k.bad)
      let s := s.shPut (ctxKey c 6) 39 1 (b2n k.poison)
      let s := if k.empty then s.shInc (ctxKey c 9) 0 16 else s
      let s := if k.bad then (s.shInc (ctxKey c 9) 16 16).logCaravan 4 c (cfgPort cfg) false else s
      let s := if k.poison then s.logCaravan 5 c (cfgPort cfg) false else s
      let node := s.ctxNode c
      let s := s.openExchange ⟨c, seq, false, if wants then sq + 1 else 0, need⟩ (cfgPort cfg)
        ⟨cfgPort cfg, s.ctxMac c, node.testBit 31, slice node 16 12, slice node 28 3, []⟩
        ⟨c, slice node 0 16, seq, entryFlags k, k.words⟩
      (0, s.noteFree)

/-- The walk over the contexts of a list, the element at position `i` by engine `i mod 2`; it stops at the first
context that voids the tick (R272). -/
def State.walkFrom (s : State) (n i : Nat) : List Nat → Nat × State
  | [] => (0, s)
  | c :: l =>
    if s.ctxDue c n then
      match s.examine c (6 + i % 2) with
      | (0, s) => s.walkFrom n (i + 1) l
      | (cause, s) => (cause, s)
    else s.walkFrom n (i + 1) l

/-- The walk of the tick that a boundary has opened (R272, R286). Answers the cause of a void, 0 for none. -/
def State.walk (s : State) : Nat × State :=
  let l := s.walkList
  let n := s.rd (.tick .NUMBER)
  let s := s.wr (.cvn .STAT_ENABLED) 0 0 l.length
  let s := s.wr (.cvn .walkNow) 0 0 ((l.length + 1) / 2)
  let s := s.wr (.cvn .dueNow) 0 0 (l.filter fun c => s.ctxDue c n).length
  s.walkFrom n 0 l

/-! ### Statuses -/

/-- The class of a status entry (R278). -/
inductive StatusClass where
  | unmatched | onTime | late | duplicate | bad
  deriving DecidableEq, Repr

/-- The class of a status entry of context `c` with sequence number `q` and `len` words, received on port `p` from
`mac` (R278). -/
def State.classify (s : State) (c p mac q len : Nat) : StatusClass :=
  if contextCount ≤ c || !cfgEn (s.cfgOf c) || cfgPort (s.cfgOf c) != p || s.ctxMac c != mac then .unmatched
  else
    let newest := slice (s.shWord (ctxKey c 5)) 0 16
    let dueNow := s.exchanges.any fun e => e.ctx == c
    if q = 0 ∨ len ≠ cfgSlen (s.cfgOf c) then .bad
    else if s.shWord (gotKey c q) ≠ 0 then .duplicate
    else if q = newest then (if dueNow then .onTime else .late)
    else if q = s.shWord (histKey c 0) then .late
    else .bad

/-- A classified status is staged or counted (R278 to R281). `nflags` is the node's flags byte; its bit 7 is the
node error flag (R300). -/
def State.takeStatus (s : State) (p mac c q nflags : Nat) (words : List Nat) : State :=
  match s.classify c p mac q words.length with
  | .unmatched => (s.inc (.cvn .UNMATCHED_COUNT) 0 0).logCaravan 1 c p false
  | .duplicate => (s.shInc (ctxKey c 8) 16 16).logCaravan 3 c p false
  | .bad => (s.shInc (ctxKey c 8) 0 16).logCaravan 2 c p false
  | .onTime =>
    let s := s.setSh (gotKey c q) 1
    { s with
      exchanges := s.exchanges.map fun e => if e.ctx = c then { e with onTime := true } else e
      statuses := s.statuses ++ [⟨c, q, s.tickTag, false, nflags, words⟩] }
  | .late =>
    let newest := slice (s.shWord (ctxKey c 5)) 0 16
    let s := s.setSh (gotKey c q) 1
    let s := s.shInc (ctxKey c 7) 24 24
    { s with statuses := s.statuses ++ [⟨c, q, if q = newest then slice (s.shWord (ctxKey c 5)) 16 16
        else s.shWord (histKey c 1), true, nflags, words⟩] }

/-- A status entry of an accepted frame reaches the engines: it is classified while the tick runs or is halted, and
dropped and counted otherwise (R278). -/
def State.receiveStatus (s : State) (e : RxEntry) : State :=
  if s.tick = 2 ∨ s.tick = 5 then
    (s.inc (.cvn .statusNow) 0 e.port).takeStatus e.port e.mac e.ctx e.seq e.flags e.words
  else s.inc (.cvn .VOIDDROP_COUNT) 0 0

/-- Whether a boundary halt holds the statuses for the tick that its release opens (R507). -/
def State.haltHolds (s : State) : Bool := s.tick == 5 && s.has (.dbg .STAT_HALT) 0 0 1

/-- The entries whose timestamps fall at or after the boundary just reached (R303), or in a boundary halt (R507). -/
def State.takeHeld (s : State) : State :=
  if s.haltHolds then s else each s.rxHeld (fun e s => s.receiveStatus e) { s with rxHeld := [] }

/-- The words of a status enter the status slot, with its exchange and flags byte (R279). -/
def State.fileWords (s : State) (t : StagedStatus) : State :=
  let s := each (List.range t.words.length) (fun i s => s.setSh (ctxKey t.ctx (40 + i)) (t.words.getD i 0)) s
  let s := s.shPut (ctxKey t.ctx 6) 0 32 (t.seq + t.tick * 2 ^ 16)
  let s := s.shPut (ctxKey t.ctx 6) 40 8 t.nflags
  s.shPut (ctxKey t.ctx 6) 34 1 (b2n (t.nflags.testBit 7))

/-- An on-time status is committed into its context (R279). -/
def State.commitOnTime (s : State) (t : StagedStatus) : State :=
  let s := s.fileWords t
  let s := s.shPut (ctxKey t.ctx 6) 32 2 0
  let s := s.shPut (ctxKey t.ctx 6) 38 1 0
  let s := s.shPut (ctxKey t.ctx 9) 32 8 0
  if t.nflags.testBit 7 then s.shInc (ctxKey t.ctx 8) 32 16 else s

/-- A late status is filed where the context keeps late ones and no on-time one is staged (R281). -/
def State.commitLate (s : State) (t : StagedStatus) : State :=
  if cfgLateKeep (s.cfgOf t.ctx) && !(s.statuses.any fun x => x.ctx == t.ctx && !x.late) then
    (s.fileWords t).shPut (ctxKey t.ctx 6) 33 1 1
  else s

/-- A missed exchange is committed (R280): flags, counters, and FAULT with its emergency. -/
def State.commitMissed (s : State) (c : Nat) : State :=
  let s := s.shPut (ctxKey c 6) 32 1 1
  let s := s.shInc (ctxKey c 7) 0 24
  let s := s.shInc (ctxKey c 9) 32 8
  let lim := cfgMissLimit (s.cfgOf c)
  if lim ≠ 0 ∧ slice (s.shWord (ctxKey c 9)) 32 8 = lim ∧ !((s.shWord (ctxKey c 6)).testBit 38) then
    let s := s.shPut (ctxKey c 6) 38 1 1
    (s.logCaravan 6 c (cfgPort (s.cfgOf c)) true).raiseEvent 0x8300 (cfgPort (s.cfgOf c)) c
  else s

/-- The status header item of R283. -/
def State.statusHeader (s : State) (c : Nat) : Nat :=
  let h := s.shWord (ctxKey c 6)
  c % 65536 + slice h 0 16 * 2 ^ 16 + slice h 32 8 * 2 ^ 32 + slice h 40 8 * 2 ^ 40

/-- The items of the packet that an exchange posts (R283): those of a status packet, the header alone, or none. -/
def State.statusItems (s : State) (e : Exch) : List QItem :=
  let cfg := s.cfgOf e.ctx
  let head : QItem := ⟨s.statusHeader e.ctx, false⟩
  if e.queue = 0 then []
  else if e.onTime then head :: (List.range (cfgSlen cfg)).map fun i => ⟨s.shWord (ctxKey e.ctx (40 + i)), false⟩
  else if cfgMissPost cfg then [head]
  else []

/-- An exchange's packet joins the staged packets of its status queue, numbered by its context, or is dropped with CVN_ERRLOG
kind 4 where it cannot be posted (R270, R283). -/
def State.postStatus (s : State) (e : Exch) : State :=
  let cfg := s.cfgOf e.ctx
  let l := s.statusItems e
  if l.isEmpty then s
  else if e.reserved = 0 ∨ !s.canPost (e.queue - 1) then s.logCaravan 4 e.ctx (cfgPort cfg) false
  else
    State.spendMany { s with
      queues := s.queues ++ [⟨e.queue - 1, cfgSprio cfg, 6, e.ctx, .staged, s.slotsFor (cfgSprio cfg) true l⟩] } l.length

/-- The shadow becomes the committed store (R274). -/
def State.commitShadow (s : State) : State :=
  each s.ctxShadow (fun e s => s.setCtx e.1 e.2) { s with ctxShadow := [] }

/-- Staged writes to words 0 to 3 take effect in the order of their arrival (R267). -/
def State.applyCtxWrites (s : State) : State :=
  each s.ctxStaged (fun e s => s.setCtx e.1 e.2) { s with ctxStaged := [] }

/-- Status staging swaps (R279 to R283): late statuses, on-time statuses and missed exchanges are committed into
their contexts, and the status packets join the staged packets of their queues. -/
def State.caravanCommit (s : State) : State :=
  let s := each (s.statuses.filter fun t => t.late) (fun t s => s.commitLate t) s
  let s := each (s.statuses.filter fun t => !t.late) (fun t s => s.commitOnTime t) s
  let s := each (s.exchanges.filter fun e => !e.onTime) (fun e s => s.commitMissed e.ctx) s
  let s := each s.exchanges (fun e s => s.postStatus e) s
  let s := s.wr (.cvn .WALK_LAST) 0 0 (s.rd (.cvn .walkNow))
  let s := s.wr (.cvn .WALK_MAX) 0 0 (max (s.rd (.cvn .WALK_MAX)) (s.rd (.cvn .walkNow)))
  let s := s.wr (.cvn .WALK_DUE) 0 0 (s.rd (.cvn .dueNow))
  let s := each (List.range 6) (fun p s =>
    (((s.wr (.cvn .PORT_FRAMES) 0 p (s.rd (.cvn .framesNow) 0 p)).wr (.cvn .PORT_STATUS) 0 p
      (s.rd (.cvn .statusNow) 0 p)).wr (.cvn .framesNow) 0 p 0).wr (.cvn .statusNow) 0 p 0) s
  let s : State := { s with exchanges := [], statuses := [] }
  let s := s.commitShadow
  s.wr (.cvn .STAT_FAULTS) 0 0
    (s.ctx.filter fun e => decide (e.1 < 64 * contextCount) && e.1 % 64 == 6 && e.2.testBit 38).length

/-- Step 4 of R64 and R284 on the engines: shadow updates, staged statuses and reservations of the voided tick are
discarded. -/
def State.caravanVoid (s : State) : State :=
  let s : State := { s with ctxShadow := [], exchanges := [], statuses := [] }
  each (List.range 6) (fun p s => (s.wr (.cvn .framesNow) 0 p 0).wr (.cvn .statusNow) 0 p 0) s

/-- What ARM does to the contexts (R284): words 5 to 15 and 40 to 63 become 0, words 16 to 39 the image's initial
command, words 0 to 3 stay. -/
def State.caravanArm (s : State) : State :=
  let keep := fun k => decide (k < 64 * contextCount) && decide (k % 64 < 4)
  let s : State := { s with ctx := s.ctx.filter (fun e => keep e.1), ctxShadow := [] }
  each s.ctxImage (fun e s => s.setCtx e.1 e.2) s

end Sys2Proof.Machine
end

