-- ==== Sys2Proof/Machine/Frames.lean ====
section
/-! DEFINITION. Bytes on the wire: cyclic redundancy checks, and the Ethernet frames of the partner ports (R9, R11, R298
to R300, R305). -/

namespace Sys2Proof.Machine

/-- The low `k` bytes of `v`, most significant first (R11). -/
def beBytes (k v : Nat) : List Nat := (List.range k).map fun i => v / 256 ^ (k - 1 - i) % 256

/-- The low `k` bytes of `v`, least significant first. -/
def leBytes (k v : Nat) : List Nat := (List.range k).map fun i => v / 256 ^ i % 256

/-- Bytes as a number, most significant first. -/
def fromBe (l : List Nat) : Nat := l.foldl (fun a b => a * 256 + b % 256) 0

/-- Bytes as a number, least significant first. -/
def fromLe (l : List Nat) : Nat := l.foldr (fun b a => a * 256 + b % 256) 0

/-- Eight steps of a reflected CRC of 32 bits. -/
def crcShift (poly : Nat) : Nat → Nat → Nat
  | 0, c => c
  | k + 1, c => crcShift poly k (if c % 2 = 1 then (c / 2) ^^^ poly else c / 2)

/-- A reflected CRC of 32 bits with initial value and final exclusive-or of all ones. -/
def crc32With (poly : Nat) (l : List Nat) : Nat :=
  (l.foldl (fun c b => crcShift poly 8 (c ^^^ (b % 256))) 0xFFFFFFFF) ^^^ 0xFFFFFFFF

/-- CRC-32C (R9). -/
def crc32c (l : List Nat) : Nat := crc32With 0x82F63B78 l

/-- The IEEE 802.3 CRC-32 (R298). -/
def crc32 (l : List Nat) : Nat := crc32With 0xEDB88320 l

/-- A frame with its FCS, sent as IEEE 802.3 orders its bytes (R298). -/
def withFcs (l : List Nat) : List Nat := l ++ leBytes 4 (crc32 l)

/-- A payload padded with zero bytes (R298). -/
def padded (least : Nat) (l : List Nat) : List Nat := l ++ List.replicate (least - l.length) 0

/-- The bytes of a command entry (R300). -/
def entryImage (e : Entry) : List Nat :=
  beBytes 2 e.ctx ++ beBytes 2 e.node ++ beBytes 2 e.seq ++ [e.words.length + e.flags, 0] ++
    e.words.flatMap fun w => beBytes 6 w

/-- A Caravan payload: the header with its CHECK, and what follows it (R299). -/
def caravanPayload (kind flags entries tick origin : Nat) (rest : List Nat) : List Nat :=
  let a := [0x10 + kind, flags] ++ beBytes 2 entries ++ beBytes 6 tick ++ [origin, 0]
  a ++ beBytes 4 (crc32c (a ++ [0, 0, 0, 0] ++ rest)) ++ rest

/-- The header bytes ORIGIN of a frame that the device sends on port `p` (R299). -/
def State.originByte (s : State) (p : Nat) : Nat := s.rd (.tick .GROUP_ID) * 16 + p

/-- A command frame as it goes on the wire (R298 to R300). -/
def State.commandImage (s : State) (f : Frame) (last : Bool) : List Nat :=
  let pay := caravanPayload 1 (b2n last) f.entries.length (s.rd (.tick .NUMBER)) (s.originByte f.port)
    (f.entries.flatMap entryImage)
  let tag := if f.vlanEn then [0x81, 0x00] ++ beBytes 2 (f.pcp % 8 * 8192 + f.vid % 4096) else []
  withFcs (beBytes 6 f.mac ++ beBytes 6 (s.rd (.pp .MAC_ADDR) 0 f.port) ++ tag ++
    beBytes 2 (s.rd (.pp .CVN_ETYPE) 0 f.port) ++ padded (if f.vlanEn then 42 else 46) pay)

/-- A group frame as it goes on the wire (R305): its record in words. -/
def State.groupImage (s : State) (p : Nat) (record : List Nat) : List Nat :=
  let pay := caravanPayload 3 0 0 (s.rd (.tick .NUMBER)) (s.originByte p) (record.flatMap fun w => beBytes 6 w)
  withFcs (beBytes 6 (s.rd (.pp .GRP_MAC_ADDR)) ++ beBytes 6 (s.rd (.pp .MAC_ADDR) 0 p) ++
    beBytes 2 (s.rd (.pp .CVN_ETYPE) 0 p) ++ padded 46 pay)

/-- Whether partner port `p` is UP (R292). -/
def State.portUp (s : State) (p : Nat) : Bool := s.has (.pp .STAT_STATE) 0 p 4

/-- A timestamp that port `p` takes (R303): the time base at its pins, with the fixed delays taken off, corrected by the path
asymmetry PP_PTP(p).ASYM in ns, which is added. -/
def State.stamp (s : State) (p t : Nat) : Nat :=
  Int.toNat (((t : Int) + toSigned 16 (s.rd (.pp .PTP_ASYM) 0 p) * 65536) % 2 ^ 80)

/-- The frames that wait at port `p`. -/
def State.waitingAt (s : State) (p : Nat) : List TxFrame := s.portTx.filter fun f => f.port == p

/-- Whether a port has room for a frame of `k` bytes (R302). -/
def State.portRoom (s : State) (p k : Nat) : Bool :=
  decide ((s.waitingAt p).length < 256) &&
    decide ((s.waitingAt p).foldl (fun a f => a + f.bytes.length) 0 + k ≤ 262144)

/-- A frame is handed to a port; one that is not UP discards and counts it (R297). -/
def State.giveFrame (s : State) (p cls : Nat) (bytes : List Nat) : State :=
  if s.portUp p then { s with portTx := s.portTx ++ [⟨p, cls, bytes⟩] } else s.inc (.pp .TXCNT_DROP) 0 p

end Sys2Proof.Machine
end

