-- ==== Sys2Proof/Machine/PlaneOps.lean ====
section
/-! DEFINITION. The configuration planes of the dies (R409) and what each tile borders (R74, R75, R85). -/

namespace Sys2Proof.Machine

/-! ### Words of a plane -/

/-- Word `k` of an unconfigured tile: every select 0x1D0, every mode field 0 (R80, R382). -/
def tileWord0 (k : Nat) : Nat :=
  if k < 135 then
    (List.range 48).foldl (fun a i => a + b2n (Nat.testBit 0x1D0 ((48 * k + i) % 9)) * 2 ^ i) 0
  else 0

/-- A word as the plane stores it: data and 7 check bits (R409). -/
def planeStored (data : Nat) : Nat := data % 2 ^ 48 + checkBits (data % 2 ^ 48) * 2 ^ 48

/-- What the plane holds for a word that nothing has configured (R382). -/
def planeDflt (key : Nat) : Nat :=
  let k := key % 2 ^ 24
  planeStored (if k < 9830400 then tileWord0 (k % 200) else 0)

/-- The key of word `k` of the plane of die `d`. -/
def planeKey (d k : Nat) : Nat := d * 2 ^ 24 + k % 2 ^ 24

/-- The stored word. -/
def State.planeAt (s : State) (d k : Nat) : Nat := Sparse.get planeDflt s.plane (planeKey d k)

/-- A stored word set, check bits and all. -/
def State.setPlane (s : State) (d k v : Nat) : State :=
  { s with plane := Sparse.set id planeDflt s.plane (planeKey d k) (v % 2 ^ 55) }

/-- The data of a word of the plane. -/
def State.planeWord (s : State) (d k : Nat) : Nat := low 48 (s.planeAt d k)

/-- Words committed from word `k` upward. -/
def State.commitWords (s : State) (d : Nat) : Nat → List Nat → State
  | _, [] => s
  | k, w :: l => State.commitWords (s.setPlane d k (planeStored w)) d (k + 1) l

/-- The word index of word 0 of tile (x, y) (R409). -/
def tileBase (x y : Nat) : Nat := 200 * (256 * y + x)

/-- Select `f` of a tile (R80, R377). -/
def State.tileSel (s : State) (d x y f : Nat) : Nat :=
  let b := tileBase x y + 9 * f / 48
  (s.planeWord d b / 2 ^ (9 * f % 48) + s.planeWord d (b + 1) * 2 ^ (48 - 9 * f % 48)) % 512

/-- The mode fields of cell `q` of a tile (R76). -/
def State.tileCell (s : State) (d x y q : Nat) : Nat := s.planeWord d (tileBase x y + 135 + q)

/-- The clock tree of a tile (R88). -/
def State.tileTree (s : State) (d x y : Nat) : Nat := s.planeWord d (tileBase x y + 199) % 16

/-! ### What a tile borders -/

/-- The hardened block that a tile borders, with the tile's place at it (R74, R90, R186, R308, R488). -/
inductive Border where
  | none
  /-- Slice `n`; place 0 W0, 1 W1, 2 E0, 3 E1. -/
  | slice (n place : Nat)
  /-- Bank `b`: tile offset 0 to 5, on the east side or not. -/
  | bank (b offset : Nat) (east : Bool)
  /-- User I/O cell `p`. -/
  | io (p : Nat)
  /-- Tile `t` of user lane `k`. -/
  | lane (k t : Nat)
  /-- Tile `t` of the OD port. -/
  | odPort (t : Nat)
  /-- Tile `t` of the tick port. -/
  | tickPort (t : Nat)
  /-- Tile N`t` of the fabric side of NI `k`. -/
  | ni (k t : Nat)
  deriving DecidableEq, Repr

/-- What the tiles of the west edge border. -/
def edgeBorder (y : Nat) : Border :=
  if y < 96 then (if y % 4 = 0 then .io (y / 4) else .none)
  else if y < 168 then .lane ((y - 96) / 18) ((y - 96) % 18)
  else if 180 ≤ y ∧ y < 184 then .odPort (y - 180)
  else if 188 ≤ y ∧ y < 192 then .tickPort (y - 188)
  else .none

/-- What tile (x, y) borders. -/
def border (x y : Nat) : Border :=
  let g := x / 16
  let m := x % 16
  if x = 0 then edgeBorder y
  else if x % 64 = 33 ∧ 20 ≤ y % 48 ∧ y % 48 < 26 then .ni (4 * (y / 48) + x / 64) (y % 48 - 20)
  else if m = 15 then .bank (32 * g + y / 6) (y % 6) false
  else if m = 0 then .bank (32 * (g - 1) + y / 6) (y % 6) true
  else if m % 4 = 3 then .slice (288 * g + 96 * (m / 4) + y / 2) (y % 2)
  else if m % 4 = 0 then .slice (288 * g + 96 * (m / 4 - 1) + y / 2) (2 + y % 2)
  else .none

/-- The tiles that slice `n` borders (R104). -/
def sliceTiles (n : Nat) : List (Nat × Nat) :=
  let x := 16 * (n / 288) + 4 * (n % 288 / 96) + 3
  let y := 2 * (n % 96)
  [(x, y), (x, y + 1), (x + 1, y), (x + 1, y + 1)]

/-- The tiles that bank `b` borders (R74). -/
def bankTiles (b : Nat) : List (Nat × Nat) :=
  let x := 16 * (b / 32) + 15
  (List.range 6).flatMap fun o => (x, 6 * (b % 32) + o) :: (if b / 32 = 15 then [] else [(x + 1, 6 * (b % 32) + o)])

/-- The tiles of the block that a tile of a lane, an OD port or an NI belongs to, where those count as one block for
check kind 7 (R186, R308, R488). -/
def groupTiles (x y : Nat) : List (Nat × Nat) :=
  match border x y with
  | .lane k _ => (List.range 9).map fun t => (0, 96 + 18 * k + t)
  | .odPort _ => (List.range 4).map fun t => (0, 180 + t)
  | .ni _ t => (List.range 6).map fun i => (x, y - t + i)
  | _ => []

/-- The reach of hop `j` in tiles (R85). -/
def hopReach (j : Nat) : Nat := if j < 48 then 1 else if j < 64 then 4 else 16

/-- Whether tile (x, y) moved by hop `j` towards side `dir` (0 north, 1 east, 2 south, 3 west) stays on the grid. -/
def hopInside (x y dir j : Nat) : Bool :=
  let r := hopReach j
  match dir with
  | 0 => decide (y + r < 192)
  | 1 => decide (x + r < 256)
  | 2 => decide (r ≤ y)
  | _ => decide (r ≤ x)

/-! ### Niches -/

/-- The niche of tile (x, y) (R393). -/
def nicheOf (x y : Nat) : Nat :=
  4 * (if y < 66 then 0 else if y < 132 then 1 else 2) +
    (if x < 62 then 0 else if x < 126 then 1 else if x < 190 then 2 else 3)

/-- The niche of a slice, a bank, a user I/O cell, a user lane and a fabric side (R394). -/
def nicheOfSlice (n : Nat) : Nat := nicheOf (16 * (n / 288) + 4 * (n % 288 / 96) + 3) (2 * (n % 96))
def nicheOfBank (b : Nat) : Nat := nicheOf (16 * (b / 32) + 15) (6 * (b % 32))
def nicheOfIo (p : Nat) : Nat := nicheOf 0 (4 * p)
def nicheOfLane (k : Nat) : Nat := nicheOf 0 (96 + 18 * k)
def nicheOfNi (k : Nat) : Nat := nicheOf (64 * (k % 4) + 33) (48 * (k / 4) + 20)

/-- The niche of a word of the plane; 15 for a DIE word (R409, R417). -/
def nicheOfWord (k : Nat) : Nat :=
  if k < 9830400 then nicheOf (k / 200 % 256) (k / 200 / 256)
  else if k < 9835008 then nicheOfSlice (k - 9830400)
  else if k < 9835520 then nicheOfBank (k - 9835008)
  else if k < 9835544 then nicheOfIo (k - 9835520)
  else 15

end Sys2Proof.Machine
end

