-- ==== Sys2Proof/Machine/Slices.lean ====
section
/-! DEFINITION. AS48 arithmetic slices (R104 to R123): exact integer lanes, and the commands of the block. -/

namespace Sys2Proof.Machine

/-- The lane layout of R112: lanes, operand width, accumulator width. -/
def laneCount (split : Nat) : Nat := if split = 0 then 1 else if split = 1 then 2 else 4
/-- The operand and output width of a lane (R112). -/
def laneWidth (split : Nat) : Nat := if split = 0 then 48 else if split = 1 then 24 else 12
/-- W_acc of a lane (R112). -/
def accWidth (split : Nat) : Nat := if split = 0 then 120 else if split = 1 then 60 else 30

/-- A port value read as two's complement or as unsigned (R107). -/
def asInt (signed : Bool) (w v : Nat) : Int := if signed then toSigned w v else (low w v : Nat)

/-- The pre-adder (R108). -/
def preAdd (pre : Nat) (a d : Int) : Int :=
  match pre with
  | 0 => a
  | 1 => a + d
  | 2 => a - d
  | _ => d - a

/-- Whether `v` lies outside the range of W-bit two's complement (R109). -/
def outsideSigned (w : Nat) (v : Int) : Bool :=
  decide (v < -((2 ^ (w - 1) : Nat) : Int)) || decide ((((2 ^ (w - 1) : Nat) : Int) - 1) < v)

/-- The magnitude over 2^s with a half rounded up. -/
def roundHalf (m s : Nat) : Nat := if s = 0 then m else (m + 2 ^ (s - 1)) / 2 ^ s

/-- The quotient of R113: TRUNC towards minus infinity, HALF_AWAY, HALF_EVEN. -/
def quotient (rnd s : Nat) (v : Int) : Int :=
  match rnd with
  | 0 => v / ((2 ^ s : Nat) : Int)
  | 1 => v.sign * (roundHalf v.natAbs s : Int)
  | _ =>
    let f := v / ((2 ^ s : Nat) : Int)
    let twice := 2 * (v - f * ((2 ^ s : Nat) : Int))
    if twice < ((2 ^ s : Nat) : Int) then f
    else if ((2 ^ s : Nat) : Int) < twice then f + 1
    else if f % 2 = 0 then f else f + 1

/-- The least value of the output range of a lane (R114). -/
def outMin (signed : Bool) (w : Nat) : Int := if signed then -((2 ^ (w - 1) : Nat) : Int) else 0
/-- The greatest value of the output range of a lane (R114). -/
def outMax (signed : Bool) (w : Nat) : Int :=
  if signed then ((2 ^ (w - 1) : Nat) : Int) - 1 else ((2 ^ w : Nat) : Int) - 1

/-- RANGE(k) of R114. -/
def rangeFlag (signed : Bool) (w : Nat) (q : Int) : Bool :=
  decide (q < outMin signed w) || decide (outMax signed w < q)

/-- The lane's bits of Y0 (R114). -/
def outLane (sat signed : Bool) (w : Nat) (q : Int) : Nat :=
  if sat && decide (q < outMin signed w) then ofSigned w (outMin signed w)
  else if sat && decide (outMax signed w < q) then ofSigned w (outMax signed w)
  else ofSigned w q

/-- The mode fields of a slice (R118). -/
structure SliceCfg where
  split : Nat
  signA : Bool
  signB : Bool
  pre : Nat
  zsrc : Nat
  shift : Nat
  rnd : Nat
  sat : Bool
  outSigned : Bool
  deriving DecidableEq, Repr

/-- An operand set of a slice (R105). -/
structure OperandSet where
  a : Nat
  b : Nat
  d : Nat
  ce : Bool
  load : Bool
  neg : Bool
  deriving DecidableEq, Repr

/-- The product with its sign, of lane `k` (R107, R108, R109). -/
def laneProduct (c : SliceCfg) (o : OperandSet) (k : Nat) : Int :=
  let w := laneWidth c.split
  let a := asInt c.signA w (slice o.a (w * k) w)
  let d := asInt c.signA w (slice o.d (w * k) w)
  let b := asInt c.signB w (slice o.b (w * k) w)
  let p := preAdd c.pre a d * b
  if o.neg then -p else p

/-- Z of lane `k`: zero, the cascade input or D (R109). -/
def laneZ (c : SliceCfg) (o : OperandSet) (casc k : Nat) : Int :=
  let w := laneWidth c.split
  match c.zsrc with
  | 1 => toSigned (accWidth c.split) (slice casc (accWidth c.split * k) (accWidth c.split))
  | 2 => asInt c.signA w (slice o.d (w * k) w)
  | _ => 0

/-- The exact sum that lane `k` forms before it wraps (R109). -/
def laneSum (c : SliceCfg) (o : OperandSet) (acc casc k : Nat) : Int :=
  let wa := accWidth c.split
  let v := toSigned wa (slice acc (wa * k) wa)
  if o.ce then (if o.load then laneZ c o casc k else v) + laneProduct c o k else v

/-- The bits that `g` gives for each lane, side by side. -/
def laneCat (split w : Nat) (g : Nat → Nat) : Nat :=
  (List.range (laneCount split)).foldl (fun a k => a + g k * 2 ^ (w * k)) 0

/-- The accumulator after an operand set (R109). -/
def nextAcc (c : SliceCfg) (o : OperandSet) (acc casc : Nat) : Nat :=
  laneCat c.split (accWidth c.split) fun k => ofSigned (accWidth c.split) (laneSum c o acc casc k)

/-- WRAP(k), side by side; 0 where CE was 0 (R109, R115). -/
def wrapBits (c : SliceCfg) (o : OperandSet) (acc casc : Nat) : Nat :=
  laneCat c.split 1 fun k => b2n (o.ce && outsideSigned (accWidth c.split) (laneSum c o acc casc k))

/-- The quotient of lane `k` of an accumulator (R113). -/
def laneQ (c : SliceCfg) (acc k : Nat) : Int :=
  quotient c.rnd c.shift (toSigned (accWidth c.split) (slice acc (accWidth c.split * k) (accWidth c.split)))

/-- Y0 of an accumulator (R113, R114). -/
def outY0 (c : SliceCfg) (acc : Nat) : Nat :=
  laneCat c.split (laneWidth c.split) fun k => outLane c.sat c.outSigned (laneWidth c.split) (laneQ c acc k)

/-- RANGE(k) of an accumulator, side by side (R114). -/
def rangeBits (c : SliceCfg) (acc : Nat) : Nat :=
  laneCat c.split 1 fun k => b2n (rangeFlag c.outSigned (laneWidth c.split) (laneQ c acc k))

/-- The mode fields of slice `m` of die `d`, as AS_CFG reads them. -/
def State.sliceCfg (s : State) (d m : Nat) : SliceCfg where
  split := s.rd (.slc .CFG_SPLIT) (1 + d) m
  signA := s.has (.slc .CFG_SIGN_A) (1 + d) m 1
  signB := s.has (.slc .CFG_SIGN_B) (1 + d) m 1
  pre := s.rd (.slc .CFG_PRE) (1 + d) m
  zsrc := s.rd (.slc .CFG_ZSRC) (1 + d) m
  shift := s.rd (.slc .CFG_SHIFT) (1 + d) m
  rnd := s.rd (.slc .CFG_RND) (1 + d) m
  sat := s.has (.slc .CFG_SAT) (1 + d) m 1
  outSigned := s.has (.slc .CFG_OUT_SIGNED) (1 + d) m 1

/-- The cascade input of slice `m`: the accumulator of its predecessor in the column; nothing feeds slice 0
of a column (R110). -/
def State.cascade (s : State) (d m : Nat) : Nat :=
  if m % 96 = 0 then 0 else s.rd (.slc .acc) (1 + d) (m - 1)

/-- Whether the fabric clocks of a die run: an image is active and no halt or load stops them (R92, R93). -/
def State.fabricRuns (s : State) (d : Nat) : Bool := s.has (.fab .clocksRun) (1 + d) 0 1 && s.tick != 5

/-- The run reset is asserted from an accepted ARM or RESUME to boundary k_s (R89, R92, log entry 116). -/
def State.runResetOn (s : State) : Bool := s.tick == 1

/-- Whether user reset tree `r` reaches tree `t` of a die in the present cycle (R89): four cycles after its root on the tree
that it is bound to; on another tree four to six cycles, which of them is open. -/
def State.userReset (s : State) (d r t : Nat) : Bool :=
  let h := s.rd (.fab .rstHist) (1 + d) (16 * r + t)
  r != 0 && (if s.rd (.fab .RSTTREE_CLOCK) (1 + d) r = t then h.testBit 3 else h.testBit (3 + s.freeValue 2 % 3))

/-- Whether a reset reaches a slice (R116). -/
def State.sliceReset (s : State) (d m : Nat) : Bool :=
  s.runResetOn || s.userReset d (s.rd (.slc .CFG_RST_TREE) (1 + d) m) (s.rd (.slc .CFG_TREE) (1 + d) m)

/-- Slice `m` of die `d` takes an operand set: the accumulator, the results presented, and the sticky bits of a
result with VALID (R109 to R116, R123). -/
def State.sliceStep (s : State) (d m : Nat) (o : OperandSet) : State :=
  let c := s.sliceCfg d m
  let acc := s.rd (.slc .acc) (1 + d) m
  let casc := s.cascade d m
  let acc' := nextAcc c o acc casc
  let wb := wrapBits c o acc casc
  let rb := rangeBits c acc'
  let s := s.wr (.slc .acc) (1 + d) m acc'
  let s := s.wr (.slc .y0) (1 + d) m (outY0 c acc')
  let s := s.wr (.slc .range) (1 + d) m rb
  let s := s.wr (.slc .wrap) (1 + d) m wb
  let s := s.wr (.slc .valid) (1 + d) m (b2n o.ce)
  if o.ce then
    let s := s.wr (.slc .STAT_RANGE) (1 + d) m (s.rd (.slc .STAT_RANGE) (1 + d) m ||| rb)
    s.wr (.slc .STAT_WRAP) (1 + d) m (s.rd (.slc .STAT_WRAP) (1 + d) m ||| wb)
  else s

/-- Whether a slice's tree runs (R88, R120, R123): it is used, its die's clocks run and its niche is ACTIVE. -/
def State.sliceRuns (s : State) (d m : Nat) : Bool :=
  s.has (.slc .CFG_USED) (1 + d) m 1 && s.fabricRuns d && s.has (.nch .STAT_STATE) (1 + d) (nicheOfSlice m) 3

/-- A slice takes operand sets only while its tree runs and no reset holds it (R116, R120). -/
def State.sliceAlive (s : State) (d m : Nat) : Bool := s.sliceRuns d m && !s.sliceReset d m

/-! ### The pipeline, stage by stage -/

/-- The registers of a slice load 0 under a reset (R116). -/
def isSliceReg (f : Fld) : Bool :=
  match f with
  | .slc g =>
    match g with
    | .acc | .y0 | .range | .wrap | .valid | .s1pa | .s1b | .s1d | .s1ctl | .s2p | .s2d | .s2ctl | .s3p | .s3d | .s3ctl
    | .s4ce | .s4wrap => true
    | _ => false
  | _ => false

/-- Every register of a slice holds 0. -/
def State.clearSlice (s : State) (d m : Nat) : State :=
  s.resetKeys fun k => isSliceReg k.f && k.u == 1 + d && k.j == m

/-- S1 (R108, R518): the pre-adder's value of each lane, one bit wider than its operands. -/
def preLanes (c : SliceCfg) (o : OperandSet) : Nat :=
  let w := laneWidth c.split
  laneCat c.split (w + 1) fun k =>
    ofSigned (w + 1) (preAdd c.pre (asInt c.signA w (slice o.a (w * k) w)) (asInt c.signA w (slice o.d (w * k) w)))

/-- The pre-adder's value of lane `k` as S1 holds it: two's complement, but for an unsigned A that it passes on. -/
def preHeld (c : SliceCfg) (pa k : Nat) : Int :=
  let w := laneWidth c.split + 1
  let v := slice pa (w * k) w
  if c.pre = 0 ∨ (c.pre = 1 ∧ !c.signA) then asInt c.signA w v else toSigned w v

/-- S2 (R109, R518): the product with its sign of each lane, in the layout of the accumulator. -/
def productLanes (c : SliceCfg) (pa b : Nat) (neg : Bool) : Nat :=
  laneCat c.split (accWidth c.split) fun k =>
    let p := preHeld c pa k * asInt c.signB (laneWidth c.split) (slice b (laneWidth c.split * k) (laneWidth c.split))
    ofSigned (accWidth c.split) (if neg then -p else p)

/-- The exact sum of lane `k` at S4 (R109): Z or the accumulator, and the product that S3 holds. -/
def heldSum (c : SliceCfg) (p dd : Nat) (load : Bool) (acc casc k : Nat) : Int :=
  let wa := accWidth c.split
  let lane := fun (v : Nat) => toSigned wa (slice v (wa * k) wa)
  (if load then laneZ c ⟨0, 0, dd, true, load, false⟩ casc k else lane acc) + lane p

/-- One edge of the tree of slice `m` on what `old` holds, with the operand set `o` at its ports (R115). -/
def State.advanceSlice (s old : State) (d m : Nat) (o : OperandSet) : State :=
  let u := 1 + d
  let v := fun (f : AsF) => old.rd (.slc f) u m
  let set := fun (f : AsF) (x : Nat) (s : State) => s.wr (.slc f) u m x
  let c := old.sliceCfg d m
  let ce := (v .s3ctl).testBit 0
  let sum := heldSum c (v .s3p) (v .s3d) ((v .s3ctl).testBit 1) (v .acc) (old.cascade d m)
  let rb := rangeBits c (v .acc)
  let s := (((s |> set .y0 (outY0 c (v .acc))) |> set .range rb) |> set .wrap (v .s4wrap)) |> set .valid (v .s4ce)
  let s := if v .s4ce = 1 then
      (s |> set .STAT_RANGE (v .STAT_RANGE ||| rb)) |> set .STAT_WRAP (v .STAT_WRAP ||| v .s4wrap)
    else s
  let s := if ce then
      s |> set .acc (laneCat c.split (accWidth c.split) fun k => ofSigned (accWidth c.split) (sum k))
    else s
  let s := (s |> set .s4ce (b2n ce)) |>
    set .s4wrap (laneCat c.split 1 fun k => b2n (ce && outsideSigned (accWidth c.split) (sum k)))
  let s := ((s |> set .s3p (v .s2p)) |> set .s3d (v .s2d)) |> set .s3ctl (v .s2ctl)
  let s := ((s |> set .s2p (productLanes c (v .s1pa) (v .s1b) ((v .s1ctl).testBit 2))) |> set .s2d (v .s1d)) |>
    set .s2ctl (v .s1ctl)
  (((s |> set .s1pa (preLanes c o)) |> set .s1b o.b) |> set .s1d o.d) |>
    set .s1ctl (b2n o.ce + 2 * b2n o.load + 4 * b2n o.neg)

/-- SLICE_OPERAND_SET (R109): an operand set passes the pipeline of a slice. -/
def execSliceOperandSet (d m a b dd : Nat) (ce load neg : Bool) (s : State) : Answer :=
  actCore (okDie d && decide (m < 4608)) s
    (if s.sliceAlive d m then s.sliceStep d m ⟨a, b, dd, ce, load, neg⟩ else s)

/-- The slices of a die with a sticky bit set, in AS_SUM (R123), are counted when the register is read. -/
def State.stickyCount (s : State) (d : Nat) (f : Fld) : Nat :=
  (s.regs.filter fun e => decide (e.1.f = f ∧ e.1.u = 1 + d) && e.2 != 0).length

/-- AS_STICKY_CLR (R123): every sticky bit of the die is cleared. -/
def execAsStickyClr (d : Nat) (s : State) : Answer :=
  actCore (okDie d) s
    (s.resetKeys fun k => decide (k.u = 1 + d) && (decide (k.f = .slc .STAT_RANGE) || decide (k.f = .slc .STAT_WRAP)))

end Sys2Proof.Machine
end

