-- ==== Sys2Proof/Machine/ErgOps.lean ====
section
/-! DEFINITION. The Erg network (R162 to R194): topology and routes, addresses and destinations, packets, issue,
responses, mailboxes. NI IDs and dies are physical here; what the fabric names logically is translated at issue and at
delivery (R231). -/

namespace Sys2Proof.Machine

/-! ### Quads and tags -/

/-- The words of a quad. -/
def Quad.words (q : Quad) : List Nat := [q.w0, q.w1, q.w2, q.w3]

/-- The sideband tag of a flit: T xor the poison mask in each nibble (R176). -/
def flitTag (t mask : Nat) : Nat := t ^^^ mask * 0x1111

/-- Whether a flit with tag `tag` is valid for T, and its poison mask (R176). -/
def tagMask (tag t : Nat) : Option Nat :=
  let x := tag ^^^ t
  if x = x % 16 * 0x1111 then some (x % 16) else none

/-- A quad of at most four words with their poison marks, padded with zero words (R175, R176). -/
def quadOf (t : Nat) (l : List (Nat × Bool)) : Quad :=
  let w := fun i => (l.getD i (0, false)).1
  let m := fun i => b2n (l.getD i (0, false)).2
  ⟨w 0, w 1, w 2, w 3, flitTag t (m 0 + 2 * m 1 + 4 * m 2 + 8 * m 3)⟩

/-- Words with their marks as quads; `fuel` bounds the number of quads. -/
def quadsOf (t : Nat) : Nat → List (Nat × Bool) → List Quad
  | 0, _ => []
  | _ + 1, [] => []
  | k + 1, l => quadOf t (l.take 4) :: quadsOf t k (l.drop 4)

/-- The words of quads with their poison marks, under T. -/
def markedWords (t : Nat) (l : List Quad) : List (Nat × Bool) :=
  l.flatMap fun q =>
    let m := (tagMask q.tag t).getD 0
    [(q.w0, m.testBit 0), (q.w1, m.testBit 1), (q.w2, m.testBit 2), (q.w3, m.testBit 3)]

/-- T of a class: the low 16 bits of the tick number for T-class, 0 otherwise (R176). -/
def State.tagOf (s : State) (cls : Nat) : Nat := if cls = 0 then s.tickTag else 0

/-- Whether every flit of a packet passes the check of R176, the head with mask 0. -/
def State.flitsOk (s : State) (p : Pkt) : Bool :=
  let t := s.tagOf p.cls
  p.htag == t && (p.cls != 0 || p.tick == t) && p.body.all fun q => (tagMask q.tag t).isSome

/-- The number of words that COUNT means (R173). -/
def countOf (c : Nat) : Nat := if c % 128 = 0 then 128 else c % 128

/-! ### Logical and physical dies -/

/-- The physical die to which a logical die is mapped; a die that the placement leaves out reads 15 and is mapped to none
(R231). -/
def State.physDie (s : State) (l : Nat) : Option Nat :=
  if l < Config.n then dies.find? fun d => s.has (.cfg .DIE_LOGICAL) (1 + d) 0 l else none

/-- The NI ID as the fabric names it (R231). -/
def State.logicalNi (s : State) (ni : Nat) : Nat :=
  if ni < 16 then ni
  else
    let l := s.rd (.cfg .DIE_LOGICAL) (ni / 16) 0
    if l < 15 then 16 * (l + 1) + ni % 16 else ni

/-- A word address of a fabric channel with its logical die replaced; none where the logical die does not exist. -/
def State.physAddr (s : State) (a : Nat) : Option Nat :=
  let hi := a / 2 ^ 32
  let unit := a / 2 ^ 24 % 256
  if hi = 0 then
    if unit = 0 then some a else (s.physDie (unit - 1)).map fun d => a - unit * 2 ^ 24 + (1 + d) * 2 ^ 24
  else if hi = 1 then (s.physDie (unit % 64)).map fun d => a - unit % 64 * 2 ^ 24 + d * 2 ^ 24
  else some a

/-- The physical word address that NI `ni` asks for: the initiators of the Plinth use physical die numbers (R231). -/
def State.addrOf (s : State) (ni a : Nat) : Option Nat := if ni < 16 then some a else s.physAddr a

/-! ### Addresses -/

/-- What a global word address names (R17, R18, R20, R21). -/
inductive Region where
  | csr (u block off : Nat)
  /-- `mode` 0 the plain window, 1 the set alias, 2 the clear alias. -/
  | bank (d b a mode : Nat)
  | ctx (word : Nat)
  | oasis (word : Nat)
  | dram (slot : Nat)
  | reserved
  deriving DecidableEq, Repr

/-- Whether a unit has a block (R21). -/
def blockExists (u block : Nat) : Bool :=
  if u = 0 then block ≤ 7 || (12 ≤ block && block ≤ 19)
  else (block ≤ 3 || (5 ≤ block && block ≤ 11)) && decide (u ≤ Config.n)

/-- The region of a word address (R17). -/
def regionOf (a : Nat) : Region :=
  let hi := a / 2 ^ 32
  let lo := a % 2 ^ 32
  if hi = 0 then
    let u := lo / 2 ^ 24
    let block := lo / 2 ^ 18 % 64
    if blockExists u block then .csr u block (lo % 2 ^ 18) else .reserved
  else if hi = 1 then
    let mode := lo / 2 ^ 30
    let d := lo / 2 ^ 24 % 64
    let off := lo % 2 ^ 24
    if mode < 3 && decide (d < Config.n) && decide (off < 2 ^ 23) then .bank d (off / 16384) (off % 16384) mode
    else .reserved
  else if hi = 2 then
    if lo < 0x300000 then .ctx lo
    else if 0x10000000 ≤ lo ∧ lo < 0x10040000 then .oasis (lo - 0x10000000)
    else .reserved
  else if hi = 4 ∨ hi = 5 then .dram (a - 0x400000000)
  else .reserved

/-- Whether a region accepts a class (R17). -/
def regionTakes (r : Region) (cls : Nat) : Bool :=
  match r with
  | .csr .. => cls == 2
  | .bank .. => true
  | .ctx _ => cls == 0 || cls == 2
  | .oasis _ => cls == 2
  | .dram _ => true
  | .reserved => false

/-- The NI that serves bank `b` of die `d` (R167). -/
def bankNi (d b : Nat) : Nat := 16 * (d + 1) + 4 * (b % 32 / 8) + b / 32 / 4

/-- The destination NI of an addressed request (R168). -/
def destOf (r : Region) : Nat :=
  match r with
  | .csr 0 block _ => if 12 ≤ block ∧ block ≤ 15 then 4 else 3
  | .csr u _ _ => 16 * u
  | .bank d b _ _ => bankNi d b
  | .ctx _ => 5
  | .oasis _ => 12
  | .dram slot => 8 + slot / 2 ^ 8 % 4
  | .reserved => 0

/-! ### Topology and routes -/

/-- Whether die `d` is present and not isolated (R226). -/
def State.dieHere (s : State) (d : Nat) : Bool :=
  okDie d && !(s.has (.seif .DIE_STATE) 0 d 4) && !(s.has (.seif .DIE_STATE) 0 d 0)

/-- Whether side `u` of link `l` is ACTIVE (R206). -/
def State.linkActive (s : State) (u l : Nat) : Bool := s.has (.seif .STAT_STATE) u l 4

/-- The router that a packet enters when it leaves router `k` of unit `u` with a port code; none where the port is
unconnected in the topology that the NIs have taken up (R163, R164, R165, R171, R192). -/
def State.hop (s : State) (u k code : Nat) : Option (Nat × Nat) :=
  let i := k % 4
  let j := k / 4
  let port := if code < 6 then slice (s.rd (.erg .topMap) u k) (3 * code) 3 else code
  let wx := s.has (.erg .topX) u k 1
  let wy := s.has (.erg .topY) u k 1
  let at' := fun (u i j : Nat) => if u = 0 ∨ s.dieHere (u - 1) then some (u, 4 * j + i) else none
  match port with
  | 0 => if j = 3 ∧ !wy then none else some (u, 4 * ((j + 1) % 4) + i)
  | 1 => if i = 3 ∧ !wx then none else some (u, 4 * j + (i + 1) % 4)
  | 2 => if j = 0 ∧ !wy then none else some (u, 4 * ((j + 3) % 4) + i)
  | 3 => if i = 0 ∧ !wx then none else some (u, 4 * j + (i + 3) % 4)
  | 4 =>
    if u = 0 then (if j < Config.n ∧ s.linkActive 0 j then at' (1 + j) i 0 else none)
    else if i = 3 then (if s.linkActive u 0 then at' (1 + u % Config.n) 0 j else none)
    else if i = 0 then (if s.linkActive u 1 then at' (1 + (u + Config.n - 2) % Config.n) 3 j else none)
    else none
  | 5 =>
    if u = 0 then (if j + 4 < Config.n ∧ s.linkActive 0 (j + 4) then at' (5 + j) i 0 else none)
    else if j = 0 then (if s.linkActive u 2 then some (0, 4 * ((u - 1) % 4) + i) else none)
    else none
  | _ => none

/-- Code `k` of a route string (R169). -/
def routeCode (route k : Nat) : Nat := slice route (3 * k) 3

/-- The routers that a route string passes from router `k` of unit `u`, the last one included; none where the string
is malformed or meets an unconnected port (R169, R171). `fuel` codes are left, `pos` is the next one. -/
def State.walkRoute (s : State) (route : Nat) : Nat → Nat → Nat → Nat → Option (List (Nat × Nat))
  | 0, _, _, _ => none
  | fuel + 1, pos, u, k =>
    let c := routeCode route pos
    if c = 7 then
      if (List.range fuel).all fun x => routeCode route (pos + 1 + x) == 7 then some [(u, k)] else none
    else
      match s.hop u k c with
      | none => none
      | some (u', k') => (s.walkRoute route fuel (pos + 1) u' k').map fun l => (u, k) :: l

/-- The path of a packet with route string `route` from NI `ni`. -/
def State.pathOf (s : State) (ni route : Nat) : Option (List (Nat × Nat)) :=
  s.walkRoute route 16 0 (ni / 16) (ni % 16)

/-- The path in Daxat-compatible mode: each router's own table, within the hop budget of 15. The routers that forward the
packet, and the router that discards it, if one does (R172). -/
def State.daxatPath (s : State) (dest : Nat) : Nat → Nat → Nat → List (Nat × Nat) × Option (Nat × Nat)
  | 0, u, k => ([], some (u, k))
  | fuel + 1, u, k =>
    let c := s.rd (.erg .DT_CODE) u (1024 * k + dest)
    if c = 7 then (if 16 * u + k = dest then ([(u, k)], none) else ([], some (u, k)))
    else
      match s.hop u k c with
      | none => ([], some (u, k))
      | some (u', k') => ((u, k) :: (s.daxatPath dest fuel u' k').1, (s.daxatPath dest fuel u' k').2)

/-- Whether the device runs in Daxat-compatible mode. -/
def State.daxat (s : State) : Bool := s.has (.erg .MODE_DAXAT) 0 0 1

/-- The state of a die's domain: 0 OPEN, 1 DRAINING, 2 CLOSED (R193). -/
def State.domainOf (s : State) (u : Nat) : Nat := if u = 0 then 0 else s.rd (.erg .DOM_STAT_STATE) u 0

/-- Whether an NI's own domain lets requests in and out. -/
def State.domainOpen (s : State) (ni : Nat) : Bool := s.domainOf (ni / 16) == 0

/-- Whether entry `j` of a unit's route tables holds the device default (R379). -/
def State.rtDefault (s : State) (u j : Nat) : Bool := s.has (.erg .defRoutes) u 0 1 && s.has (.erg .rtOwn) u j 0

/-- The route string of entry `j` of unit `u`, 1024 k + e for entry e of NI k (R170). -/
def State.rtString (s : State) (u j : Nat) : Nat :=
  if s.rtDefault u j then Config.defaultRoute (s.rd (.erg .routeGen)) (16 * u + j / 1024) (j % 1024) % 2 ^ 48
  else s.rd (.erg .RT_ROUTE_ROUTE) u j

/-- The destination of an entry. -/
def State.rtDest (s : State) (u j : Nat) : Nat :=
  if s.rtDefault u j then (if j % 1024 < 0x90 then j % 1024 else 0) else s.rd (.erg .RT_DEST_DEST) u j

/-- The valid bit of an entry: a default table holds the auto entries of the NIs that are there. -/
def State.rtValid (s : State) (u j : Nat) : Bool :=
  if s.rtDefault u j then decide (j % 1024 < 16 * (Config.n + 1)) && (decide (j % 1024 < 16) || s.dieHere (j % 1024 / 16 - 1))
  else s.has (.erg .RT_DEST_VALID) u j 1

/-- Whether no T-class route of the active image's catalogue passes router `r` (R196 NO_T). -/
def State.noT (s : State) (u r : Nat) : Bool :=
  s.has (.cfg .STAT_ACTIVE) 0 0 1 && Config.noTRoute (s.rd (.erg .routeGen)) u r

/-- The checks of R171 on entry `e` of NI `ni`; `dest` is the destination that the request's address names, if
any. In Daxat-compatible mode only VALID and DEST count (R172). -/
def State.routeOk (s : State) (ni e : Nat) (dest : Option Nat) : Bool :=
  let u := ni / 16
  let j := 1024 * (ni % 16) + e
  let toward := s.rtDest u j
  s.rtValid u j && (dest.isNone || dest == some toward) &&
    (s.daxat ||
      match s.pathOf ni (s.rtString u j) with
      | none => false
      | some l => l.getLast? == some (toward / 16, toward % 16))

/-- Whether the domains of every die that an entry's route passes are open, the own die apart (R194). In Daxat-compatible
mode only the destination's domain is looked at (R172). -/
def State.pathOpen (s : State) (ni e : Nat) : Bool :=
  s.daxat ||
  match s.pathOf ni (s.rtString (ni / 16) (1024 * (ni % 16) + e)) with
  | none => true
  | some l => l.all fun r => r.1 == ni / 16 || s.domainOf r.1 == 0

/-- The dateline crossings of a path decide the virtual channel (R178): a wrap link or ring link n - 1. -/
def crossesDateline : List (Nat × Nat) → Bool
  | (u, k) :: (u', k') :: r =>
    (if u = u' then
      decide (k % 4 + k' % 4 = 3 ∧ k / 4 = k' / 4 ∧ (k % 4 = 0 ∨ k % 4 = 3)) ||
        decide (k / 4 + k' / 4 = 3 ∧ k % 4 = k' % 4 ∧ (k / 4 = 0 ∨ k / 4 = 3))
     else decide (u = Config.n ∧ u' = 1) || decide (u = 1 ∧ u' = Config.n)) ||
      crossesDateline ((u', k') :: r)
  | _ => false

/-- Whether any router of the device is CLOSING or CLOSED (R183). -/
def State.routersBusy (s : State) : Bool :=
  s.regs.any fun e => decide (e.1.f = .erg .RTR_STAT_STATE) && e.2 != 0

/-- Whether a path passes a router that holds new packets; in Daxat-compatible mode every new packet is held (R192). -/
def State.pathHeld (s : State) (l : List (Nat × Nat)) : Bool :=
  if s.daxat then s.routersBusy else l.any fun r => s.rd (.erg .RTR_STAT_STATE) r.1 r.2 != 0

/-- The unit from which a path enters unit `u`, where it does. -/
def entersFrom (u : Nat) : List (Nat × Nat) → Option Nat
  | a :: b :: l => if a.1 ≠ u ∧ b.1 = u then some a.1 else entersFrom u (b :: l)
  | _ => none

/-- The path that a transaction's request takes. -/
def State.txnPath (s : State) (t : Txn) : List (Nat × Nat) :=
  if s.daxat then (s.daxatPath t.peer 15 (t.ni / 16) (t.ni % 16)).1
  else (s.pathOf t.ni (s.rtString (t.ni / 16) (1024 * (t.ni % 16) + t.entry))).getD []

/-- Whether a port through which a path enters a die has 1,024 admitted requests on record (R194). -/
def State.recordFull (s : State) (l : List (Nat × Nat)) : Bool :=
  (List.range Config.n).any fun d =>
    match entersFrom (1 + d) l with
    | none => false
    | some a =>
      decide (1024 ≤ s.txns.length) &&
      decide (1024 ≤ (s.txns.filter fun t => t.hasTid && t.resp.isNone && entersFrom (1 + d) (s.txnPath t) == some a &&
        !(s.netHeld.any fun p => p.src == t.ni && p.tid == t.tid && p.gen == t.gen && !p.rsp)).length)

/-- Every router of a path has forwarded the flits of a packet (R196 FLITS). -/
def State.countFlits (s : State) (l : List (Nat × Nat)) (k : Nat) : State :=
  each l (fun r s => s.add (.erg .RTR_STAT_FLITS) r.1 r.2 k) s

/-- The routers that forward a packet from its source, and the router that discards it in Daxat-compatible mode. -/
def State.routeWay (s : State) (p : Pkt) : List (Nat × Nat) × Option (Nat × Nat) :=
  if s.daxat then s.daxatPath p.dst 15 (p.src / 16) (p.src % 16) else ((s.pathOf p.src p.route).getD [], none)

/-- A packet passes the routers of its way, and is in flight toward its destination or discarded on the way (R172,
R178, R196). -/
def State.sendOff (s : State) (p : Pkt) (r : List (Nat × Nat) × Option (Nat × Nat)) : State :=
  let s := s.countFlits r.1 (1 + p.body.length)
  match r.2 with
  | some x => s.inc (.erg .RTR_STAT_DISCARD) x.1 x.2
  | none => { s with net := s.net ++ [{ p with vc := b2n (crossesDateline r.1) }] }

/-- A packet enters the network on its route, is held for a closing router or at a boundary whose record is full, or is
discarded on the way in Daxat-compatible mode (R172, R178, R192, R194). -/
def State.launch (s : State) (ni e : Nat) (p : Pkt) : State :=
  let u := ni / 16
  let j := 1024 * (ni % 16) + e
  let p := { p with route := if s.daxat then p.dst + 15 * 2 ^ 10 else s.rtString u j }
  if s.daxat && s.routersBusy then { s with netHeld := s.netHeld ++ [p] }
  else
    let r := s.routeWay p
    if s.pathHeld r.1 || (!p.rsp && s.recordFull r.1) then { s with netHeld := s.netHeld ++ [p] }
    else s.sendOff p r

/-- The first element equal to `p`, removed. -/
def removeFirst {α : Type} [DecidableEq α] (p : α) : List α → List α
  | [] => []
  | x :: l => if x = p then l else x :: removeFirst p l

/-- A packet leaves the network where it is delivered. -/
def State.deliverOut (s : State) (p : Pkt) : State := { s with net := removeFirst p s.net }

/-! ### Responses -/

/-- A target answers a request: a response packet with the request's class, TID and GEN on the auto entry of the
peer; one whose route fails is dropped and counted (R171, R174). -/
def State.respond (s : State) (req : Pkt) (ni type status detail : Nat) (body : List Quad) : State :=
  let t := s.tagOf req.cls
  let p : Pkt := { req with
    rsp := true
    type := type
    src := ni
    dst := req.src
    status := status
    vc := 0
    route := 0
    tick := t
    aux := detail
    htag := t
    body := body }
  if s.routeOk ni req.src (some req.src) then s.launch ni req.src p
  else s.inc (.erg .NI_STAT_DISCARD) (ni / 16) (ni % 16)

/-- An ERR response (R182). -/
def State.respondErr (s : State) (req : Pkt) (ni status detail : Nat) : State := s.respond req ni 2 status detail []

/-- Whether two transactions are the same one. -/
def Txn.same (a b : Txn) : Bool := a.ni == b.ni && a.ch == b.ch && a.tid == b.tid && a.gen == b.gen && a.hasTid == b.hasTid

/-- The descriptor and quads of a decided transaction (R188). The packets of a mailbox name their source logically. -/
def State.deliveryOf (s : State) (t : Txn) (r : Resp) : Delivery :=
  ⟨t.ni, t.ch, false, r.status, if t.type = 5 then t.peer else s.logicalNi t.peer, if t.type = 5 ∨ t.type = 4 then t.seq else 0, r.detail, r.body⟩

/-- The NI's error log takes an error response that it delivers, when it holds no earlier one (R196). -/
def State.logNiError (s : State) (t : Txn) (status : Nat) : State :=
  let u := t.ni / 16
  let k := t.ni % 16
  if status = 0 ∨ s.has (.erg .NI_ERRLOG_VALID) u k 1 then s
  else
    let s := s.wr (.erg .NI_ERRLOG_VALID) u k 1
    let s := s.wr (.erg .NI_ERRLOG_STATUS) u k status
    let s := s.wr (.erg .NI_ERRLOG_CHANNEL) u k t.ch
    let s := s.wr (.erg .NI_ERRLOG_TID) u k t.tid
    let s := s.wr (.erg .NI_ERRLOG_PEER) u k t.peer
    let s := s.wr (.erg .NI_ERRLOG_TICK) u k s.tickTag
    s.wr (.erg .NI_ERRLOG_TYPE) u k t.type

/-- The decided transactions at the head of a channel are delivered in the order of issue (R188); `seen` holds the
channels whose oldest transaction is still open. -/
def takeDecided : List (Nat × Nat) → List Txn → List Txn × List Txn
  | _, [] => ([], [])
  | seen, t :: r =>
    if t.resp.isSome && !seen.contains (t.ni, t.ch) then
      let (a, b) := takeDecided seen r
      (t :: a, b)
    else
      let (a, b) := takeDecided ((t.ni, t.ch) :: seen) r
      (a, t :: b)

/-- Responses are delivered where the channel's order allows. -/
def State.deliverDecided (s : State) : State :=
  let (now, rest) := takeDecided [] s.txns
  each now (fun t s =>
    match t.resp with
    | some r => State.logNiError { s with delivered := s.delivered ++ [s.deliveryOf t r] } t r.status
    | none => s) { s with txns := rest }

/-- The one response of every open transaction that meets `p` is decided as `r`; a TID that ends in TIMEOUT or VOID is
quarantined (R184, R185). -/
def State.decide' (s : State) (p : Txn → Bool) (r : Resp) : State :=
  let hit := fun (t : Txn) => t.resp.isNone && p t
  let gone := (s.txns.filter fun t => hit t && t.hasTid).map fun t => (t.ni, t.tid, t.gen)
  let s : State := { s with
    txns := s.txns.map fun t => if hit t then { t with resp := some r } else t
    quarantine := s.quarantine ++ (if r.status = 5 ∨ r.status = 6 then gone else []) }
  s.deliverDecided

/-! ### Issue -/

/-- The lowest TID of an NI that is neither open nor quarantined (R185). -/
def State.freeTid (s : State) (ni : Nat) : Option Nat :=
  (List.range 256).find? fun t =>
    !(s.txns.any fun x => x.ni == ni && x.tid == t && x.hasTid) &&
      !(s.quarantine.any fun x => x.1 == ni && x.2.1 == t)

/-- A command that never enters the network is answered by its NI. -/
def State.answerAtIssue (s : State) (ni ch : Nat) (c : Cmd) (cls peer : Nat) (r : Resp) : State :=
  State.deliverDecided { s with txns := s.txns ++
    [⟨ni, ch, 0, 0, false, c.entry, peer, cls, c.type, c.addr, countOf c.count, c.seq, some r⟩] }

/-- The region that a READ or WRITE command addresses: all its words lie in one, and those of a DRAM request in one
chunk of 128 words (R329). -/
def cmdRegion (c : Cmd) (a : Nat) : Region :=
  let k := countOf c.count
  match regionOf a, regionOf (a + k - 1) with
  | _, .reserved => .reserved
  | .dram slot, _ => if 128 < slot % 128 + k then .reserved else .dram slot
  | r, _ => r

/-- What the issuing NI decides of a command before any packet is formed (R168, R171, R175, R187, R246): an error
status, or the destination, the entry and the address to send. -/
inductive IssueCheck where
  | refused (status peer : Nat)
  | go (dest entry addr : Nat)
  deriving DecidableEq, Repr

/-- The checks at issue of a command of class `cls` from a fabric channel of NI `ni`. -/
def State.issueCheck (s : State) (ni cls : Nat) (c : Cmd) : IssueCheck :=
  let u := ni / 16
  let destEntry := fun e => s.rtDest u (1024 * (ni % 16) + e)
  let finish := fun (dest : Option Nat) (e a : Nat) =>
    let d := dest.getD (destEntry e)
    if !s.domainOpen d then IssueCheck.refused 4 d
    else if !s.routeOk ni e dest then .refused 7 d
    else if !s.pathOpen ni e then .refused 4 d
    else .go d e a
  if s.rd (.erg .fabState) u (ni % 16) ≠ 0 || !s.domainOpen ni then .refused 4 0
  else
    match c.type with
    | 0 | 1 =>
      match s.addrOf ni c.addr with
      | none => .refused 1 0
      | some a =>
        let r := cmdRegion c a
        if r = .reserved then .refused 1 0
        else if !regionTakes r cls then .refused 2 (destOf r)
        else finish (some (destOf r)) (if c.auto then destOf r else c.entry) a
    | 2 => if cls ≠ 0 then .refused 2 0 else if c.auto then .refused 7 0 else finish none c.entry 0
    | 3 =>
      if 2 ^ 16 ≤ c.addr then .refused 1 4
      else finish (some 4) (if c.auto then 4 else c.entry) c.addr
    | 4 => if cls ≠ 1 then .refused 2 0 else if c.auto then .refused 7 0 else finish none c.entry c.mbox
    | _ => if c.auto then .refused 7 0 else finish none c.entry c.addr

/-- The class of a channel (R187). -/
def State.chClass (s : State) (ni ch : Nat) : Nat := s.rd (.erg .CH_CFG_CLASS) (ni / 16) (4 * (ni % 16) + ch)

/-- Whether a write of `k'` words from `a'` touches an aligned quad that a read of `k` words from `a` needs (R156). -/
def quadsMeet (a k a' k' : Nat) : Bool :=
  a' / 2 ^ 32 == 1 && decide (a' % 2 ^ 30 / 4 ≤ (a % 2 ^ 30 + k - 1) / 4) &&
    decide (a % 2 ^ 30 / 4 ≤ (a' % 2 ^ 30 + k' - 1) / 4)

/-- Whether a channel must wait with a command: no TID is free (R185), or an earlier F-class packet to the same NI on
another entry, or T-class request to a DRAM controller, is not answered yet (R181, R330), or a read misses on a quad for
which an earlier write of the die, sent or still waiting, has not been acknowledged (R156). -/
def State.mustWait (s : State) (ni ch cls dest entry addr : Nat) (c : Cmd) : Bool :=
  (s.freeTid ni).isNone ||
    ((cls == 1 || (cls == 0 && decide (8 ≤ dest) && decide (dest < 12))) && s.txns.any fun t =>
      t.ni == ni && t.ch == ch && t.hasTid && t.resp.isNone && t.cls == cls && t.peer == dest && t.entry != entry) ||
    (cls == 0 && c.type == 0 && addr / 2 ^ 32 == 1 &&
      ((s.txns.any fun t => t.ni / 16 == ni / 16 && t.hasTid && t.resp.isNone && t.type == 1 &&
          quadsMeet addr (countOf c.count) t.addr t.count) ||
        s.niWaits.any fun w => w.ni / 16 == ni / 16 && w.cmd.type == 1 &&
          quadsMeet addr (countOf c.count) ((s.addrOf w.ni w.cmd.addr).getD 0) (countOf w.cmd.count)))

/-- A request is sent: it takes a TID and a generation, opens its transaction and enters the network (R185). The
packet asks for `count` words from `at'`: those of the command, or the aligned quads that hold them (R155). -/
def State.send (s : State) (ni ch cls dest entry addr at' count : Nat) (c : Cmd) : State :=
  match s.freeTid ni with
  | none => { s with niWaits := s.niWaits ++ [⟨ni, ch, c⟩] }
  | some tid =>
    let u := ni / 16
    let g := (s.rd (.erg .gen) u (256 * (ni % 16) + tid) + 1) % 4
    let s := s.wr (.erg .gen) u (256 * (ni % 16) + tid) g
    let t := s.tagOf cls
    let s : State := { s with txns := s.txns ++ [⟨ni, ch, tid, g, true, entry, dest, cls, c.type, addr, countOf c.count, c.seq, none⟩] }
    s.launch ni entry
      ⟨cls, false, c.type, ni, dest, tid, g, 0, 0, 0, at', count % 128, c.mbox, c.seq, t, c.prio, c.aux, t, c.body⟩

/-- A T-class read by a die's NI of plain bank words of another die, which its remote cache serves (R155). -/
def cacheable (ni cls type : Nat) (r : Region) : Bool :=
  match r with
  | .bank d _ _ 0 => cls == 0 && type == 0 && decide (16 ≤ ni) && d + 1 != ni / 16
  | _ => false

/-- Whether a cache line holds the aligned quad at `addr` under the current tick number (R54). -/
def State.lineOf (s : State) (d addr : Nat) (l : RcLine) : Bool :=
  l.die == d && l.addr == addr / 4 * 4 && l.tick == s.tickTag

/-- The cache line of a die that serves the word at `addr`: its parity holds. -/
def State.cacheHit (s : State) (d addr : Nat) : Option RcLine :=
  s.cache.find? fun l => s.lineOf d addr l && l.parity == 0

/-- The words of a read that the cache of die `d` holds in full. -/
def State.cachedWords (s : State) (d addr k : Nat) : Option (List (Nat × Bool)) :=
  (List.range k).foldr (fun i acc =>
    match acc, s.cacheHit d (addr + i) with
    | some l, some c => some (([c.w0, c.w1, c.w2, c.w3].getD ((addr + i) % 4) 0, false) :: l)
    | _, _ => none) (some [])

/-- The aligned quads that hold `k` words from `addr`. -/
def quadAddrs (addr k : Nat) : List Nat :=
  (List.range ((addr % 4 + k + 3) / 4)).map fun i => addr / 4 * 4 + 4 * i

/-- The stamp of the most recent use in a set of a die's cache. -/
def State.newestUse (s : State) (d set : Nat) : Nat :=
  s.cache.foldl (fun a l => if l.die = d ∧ l.set = set then max a l.used else a) 0

/-- The line of a quad becomes the most recently used of its set. -/
def State.touchLine (s : State) (d q : Nat) : State :=
  let n := s.newestUse d (q / 4 % 16384) + 1
  { s with cache := s.cache.map fun l => if l.die = d ∧ l.addr = q then { l with used := n } else l }

/-- Upsets strike lines of a die's cache: their parity fails (R156). -/
def State.strikeLines (s : State) (d : Nat) (bad : List Nat) : State :=
  { s with cache := s.cache.map fun l => if l.die = d ∧ bad.contains l.addr then { l with parity := 1 } else l }

/-- Lines of a read whose parity fails are dropped and counted (R156). -/
def State.dropBadLines (s : State) (d addr k : Nat) : State :=
  let bad := fun (l : RcLine) => (quadAddrs addr k).contains l.addr && s.lineOf d l.addr l && l.parity != 0
  State.add { s with cache := s.cache.filter fun l => !bad l } (.bank .RC_PARERR_COUNT) (1 + d) 0 (s.cache.filter bad).length

/-- The way that a new line of a set takes: a free one, or that of the least recently used line (R154). -/
def State.pickWay (s : State) (d set : Nat) : Nat :=
  let l := s.cache.filter fun x => x.die == d && x.set == set
  match (List.range 4).find? fun w => !(l.any fun x => x.way == w) with
  | some w => w
  | none => (l.foldl (fun a x => if x.used < a.2 then (x.way, x.used) else a) (0, 2 ^ 64)).1

/-- A line is filled with an aligned quad (R155). -/
def State.fillLine (s : State) (d addr : Nat) (q : Quad) : State :=
  let set := addr / 4 % 16384
  let s : State := { s with cache := s.cache.filter fun l => !(l.die == d && l.addr == addr) }
  let w := s.pickWay d set
  let n := s.newestUse d set + 1
  { s with cache := (s.cache.filter fun l => !(l.die == d && l.set == set && l.way == w)) ++
    [⟨d, set, w, addr, s.tickTag, q.w0, q.w1, q.w2, q.w3, 0, n⟩] }

/-- The lines that hold a plain address of the die's write are invalidated (R156). -/
def State.dropWritten (s : State) (d addr k : Nat) : State :=
  { s with cache := s.cache.filter fun l =>
      !(l.die == d && decide (addr % 2 ^ 30 < l.addr % 2 ^ 30 + 4) && decide (l.addr % 2 ^ 30 < addr % 2 ^ 30 + k) &&
        addr / 2 ^ 32 == 1) }

/-- A command of an enabled fabric channel is checked and sent, answered at issue, served by the remote cache, or
waits (R155, R181, R187). A miss asks for the aligned quads, where one request can carry them (log entry 121); it counts with the
cache disabled too (R161). -/
def State.issue (s : State) (ni ch : Nat) (c : Cmd) : State :=
  let cls := s.chClass ni ch
  let k := countOf c.count
  if s.niWaits.any fun w => w.ni == ni && w.ch == ch then { s with niWaits := s.niWaits ++ [⟨ni, ch, c⟩] }
  else
  match s.issueCheck ni cls c with
  | .refused status peer => s.answerAtIssue ni ch c cls peer ⟨status, 0, []⟩
  | .go dest entry addr =>
    let d := ni / 16 - 1
    let remote := cacheable ni cls c.type (regionOf addr)
    let caches := remote && s.has (.bank .RC_CTRL_EN) (1 + d) 0 1
    let s := if caches then s.dropBadLines d addr k else s
    match (if caches then s.cachedWords d addr k else none) with
    | some ws =>
      let s := s.add (.bank .RC_HITS_COUNT) (1 + d) 0 1
      let s := each (quadAddrs addr k) (fun q s => s.touchLine d q) s
      s.answerAtIssue ni ch c cls dest ⟨0, 0, quadsOf 0 32 ws⟩
    | none =>
      let s := if c.type = 1 ∧ 16 ≤ ni then s.dropWritten d addr k else s
      if s.mustWait ni ch cls dest entry addr c then { s with niWaits := s.niWaits ++ [⟨ni, ch, c⟩] }
      else
        let s := if remote then s.add (.bank .RC_MISSES_COUNT) (1 + d) 0 1 else s
        let wide := 4 * (quadAddrs addr k).length
        if caches && decide (wide ≤ 128) then s.send ni ch cls dest entry addr (addr / 4 * 4) wide c
        else s.send ni ch cls dest entry addr addr k c

/-- A held packet without a route is answered with ROUTE, or, a response, dropped and counted (R171). -/
def State.failHeld (s : State) (p : Pkt) : State :=
  if p.rsp then s.inc (.erg .NI_STAT_DISCARD) (p.src / 16) (p.src % 16)
  else s.decide' (fun t => t.ni == p.src && t.hasTid && t.tid == p.tid && t.gen == p.gen) ⟨7, 0, []⟩

/-- A packet that has been held enters the network, unless another router of its path, or a boundary, still holds it; one
whose route fails in the topology taken up is answered with ROUTE, or, a response, dropped and counted (R171, R192). In
Daxat-compatible mode it enters in any case, and a router on its way may discard it (R172). -/
def State.releaseHeld (s : State) (p : Pkt) : State :=
  let r := s.routeWay p
  if s.pathHeld r.1 || (!p.rsp && s.recordFull r.1) then { s with netHeld := s.netHeld ++ [p] }
  else if !s.daxat && r.1.getLast? != some (p.dst / 16, p.dst % 16) then s.failHeld p
  else s.sendOff p r

/-- Holds are released in order. -/
def State.releaseHolds (s : State) : State :=
  let l := s.netHeld
  each l (fun p s => s.releaseHeld p) { s with netHeld := [] }

/-- Packets that a full record has kept at a boundary go on where it has room again (R194). -/
def State.boundaryRoom (s : State) : State :=
  if s.netHeld.any fun p => !p.rsp && !(s.daxat && s.routersBusy) && !s.pathHeld (s.routeWay p).1 then s.releaseHolds else s

/-- Commands that wait try again, each once, in the order in which they came; packets that wait at a boundary too. -/
def State.retryWaits (s : State) : State :=
  let s := s.boundaryRoom
  let l := s.niWaits
  each l (fun w s => s.issue w.ni w.ch w.cmd) { s with niWaits := [] }

/-! ### Tick mailboxes -/

/-- Whether mailbox `m` of an NI is enabled (R47). -/
def State.mboxEnabled (s : State) (ni m : Nat) : Bool := s.has (.erg .mboxOn) (ni / 16) (4 * (ni % 16) + m) 1

/-- The packets of a side of a mailbox, in their order. -/
def State.mboxSide (s : State) (ni m : Nat) (readSide : Bool) : List MPkt :=
  s.mailboxes.filter fun p => p.ni == ni && p.m == m && p.readSide == readSide

/-- The quads that packets hold. -/
def quadsIn (l : List MPkt) : Nat := l.foldl (fun a p => a + p.body.length) 0

/-- Whether one more packet fits a side (R47). -/
def State.mboxRoom (s : State) (ni m k : Nat) : Bool :=
  let l := s.mboxSide ni m false
  decide (l.length < 1024) && decide (quadsIn l + k ≤ 2048)

/-- A packet is filed into the write side (R46). -/
def State.fileMbox (s : State) (p : MPkt) : State := { s with mailboxes := s.mailboxes ++ [p] }

/-- Insertion in the order of R49. -/
def insertMbox (p : MPkt) : List MPkt → List MPkt
  | [] => [p]
  | x :: l =>
    if p.ni < x.ni ∨ (p.ni = x.ni ∧ (p.m < x.m ∨ (p.m = x.m ∧
        (p.src < x.src ∨ (p.src = x.src ∧ p.seq < x.seq))))) then p :: x :: l
    else x :: insertMbox p l

/-- The sides swap: what was written becomes the read side in the order of R49, the former read side is emptied. -/
def State.swapMailboxes (s : State) : State :=
  let l := (s.mailboxes.filter fun p => !p.readSide).foldl (fun a p => insertMbox p a) []
  { s with mailboxes := l.map fun p => { p with readSide := true } }

/-- The write sides are emptied (R64 step 4). -/
def State.emptyWriteSides (s : State) : State := { s with mailboxes := s.mailboxes.filter fun p => p.readSide }

/-- At the deadline the sequence numbers of each source of each mailbox run (R48). -/
def State.mboxSeqsOk (s : State) : Bool :=
  let w := s.mailboxes.filter fun p => !p.readSide
  w.all fun p =>
    let l := (w.filter fun x => x.ni == p.ni && x.m == p.m && x.src == p.src).map fun x => x.seq
    (List.range l.length).all fun i => l.contains i

/-! ### Voids and caches -/

/-- Step 3 of R64: every outstanding T-class and F-class request receives VOID, and T-class flits in flight are
discarded. -/
def State.ergVoid (s : State) : State :=
  let waiting := s.niWaits.filter fun w => s.chClass w.ni w.ch != 2
  let s : State := { s with
    net := s.net.filter fun p => p.cls != 0
    netHeld := s.netHeld.filter fun p => p.cls != 0
    bankWaits := s.bankWaits.filter fun p => p.cls != 0
    niWaits := s.niWaits.filter fun w => s.chClass w.ni w.ch == 2
    txns := s.txns ++ waiting.map fun w =>
      ⟨w.ni, w.ch, 0, 0, false, w.cmd.entry, 0, s.chClass w.ni w.ch, w.cmd.type, w.cmd.addr, countOf w.cmd.count,
        w.cmd.seq, none⟩ }
  s.decide' (fun t => t.cls != 2) ⟨6, 0, []⟩

/-- The unit of a die whose logic stands at the fabric side of NI `ni`: the clock tree of its six tiles (R36, R186). -/
def State.niUnit (s : State) (ni : Nat) : Nat :=
  s.tileTree (ni / 16 - 1) (64 * (ni % 4) + 33) (48 * (ni % 16 / 4) + 20)

/-- Whether unit `k` of die place `u` waits for a T-class response (R37). -/
def State.unitWaits (s : State) (u k : Nat) : Bool :=
  (s.txns.any fun t => t.ni / 16 == u && t.cls == 0 && t.resp.isNone && s.niUnit t.ni == k) ||
    s.niWaits.any fun w => w.ni / 16 == u && s.chClass w.ni w.ch == 0 && s.niUnit w.ni == k

/-- Whether a T-class response is outstanding, of the NIs of unit `u` (R45 step 2). -/
def State.tOutstanding (s : State) (u : Nat) : Bool :=
  (s.txns.any fun t => t.ni / 16 == u && t.cls == 0 && t.resp.isNone) ||
    s.niWaits.any fun w => w.ni / 16 == u && s.chClass w.ni w.ch == 0

/-- The remote caches are emptied (R157). -/
def State.flushCaches (s : State) : State := { s with cache := [] }

/-- At every tick each die's cache invalidates its next two lines in rotating order (R157). -/
def State.rotateCaches (s : State) : State :=
  each dies (fun d s =>
    let r := s.rd (.bank .rcRotor) (1 + d) 0
    let hit := fun (l : RcLine) => l.die == d && (4 * l.set + l.way == r || 4 * l.set + l.way == r + 1)
    State.wr { s with cache := s.cache.filter fun l => !hit l } (.bank .rcRotor) (1 + d) 0 (r + 2)) s

end Sys2Proof.Machine
end

