-- ==== Sys2Proof/Machine/Void.lean ====
section
/-! DEFINITION. Voids: the causes of R63 and the void sequence of R64, one shared operation. -/

namespace Sys2Proof.Machine

/-- The pins of the device that are configured as output tick latches, as (die, pin) (R94). -/
def State.tickOutPins (s : State) : List (Nat × Nat) :=
  dies.flatMap fun d => ((List.range 24).filter fun p => s.has (.fab .IOCFG_MODE) (1 + d) p 5).map fun p => (d, p)

/-- The pins that are configured as input tick latches. -/
def State.tickInPins (s : State) : List (Nat × Nat) :=
  dies.flatMap fun d => ((List.range 24).filter fun p => s.has (.fab .IOCFG_MODE) (1 + d) p 4).map fun p => (d, p)

/-- The keeper of a pin takes the level that the device drives on it; a bank that is off drives none (R99, R561). -/
def State.drove (s : State) (d p v : Nat) : State :=
  if s.has (.fab .IOSTAT_BANK_OFF) (1 + d) 0 1 then s else s.wr (.fab .keep) (1 + d) p v

/-- An output tick latch drives its safe value; the value committed last stays in the latch (R43, R52). -/
def State.driveSafe (s : State) (d p : Nat) : State :=
  let s := s.wr (.fab .safeNow) (1 + d) p 1
  if s.has (.fab .IOCFG_SAFE) (1 + d) p 2 then s else s.drove d p (s.rd (.fab .IOCFG_SAFE) (1 + d) p)

/-- Step 5 of R64: output latches with void action SAFE drive their safe values; those with HOLD keep theirs. A bank
that is held off drives nothing (R560). -/
def State.latchesVoid (s : State) : State :=
  each (s.tickOutPins.filter fun q =>
    s.has (.fab .IOCFG_VOID) (1 + q.1) q.2 1 && s.has (.fab .IOSTAT_BANK_OFF) (1 + q.1) 0 0) (fun q s => s.driveSafe q.1 q.2) s

/-- A bank's write side begins to be blanked (R129, R143). -/
def State.startWriteBlank (s : State) (q : Nat × Nat) : State :=
  (s.blankWriteSide q.1 q.2).wr (.bank .blanking) (1 + q.1) q.2 2

/-- Both sides of a tick-paired bank begin to be blanked (R42). -/
def State.startFullBlank (s : State) (q : Nat × Nat) : State :=
  (s.blankBank q.1 q.2).wr (.bank .blanking) (1 + q.1) q.2 1

/-- A DECISION or GROUP frame of R305: kind of record, commit, cause, and the sender's ID and tick number. -/
def State.sendGroup (s : State) (record : Nat) (commit : Bool) (cause : Nat) : State :=
  let n := s.rd (.tick .NUMBER)
  let p := s.rd (.tick .GROUP_PORT)
  s.giveFrame p 0 (s.groupImage p
    [record + s.rd (.tick .GROUP_ID) * 16 + b2n commit * 256 + cause % 256 * 512, n % 2 ^ 48, n / 2 ^ 48])

/-- A module of a group tells the others of its void: a member sends DECISION to the master, the master GROUP
(R69, R305). -/
def State.tellGroupVoid (s : State) (cause : Nat) : State :=
  if s.has (.tick .GROUP_EN) 0 0 0 then s
  else
    let s := s.sendGroup (if s.has (.tick .GROUP_MASTER) 0 0 1 then 3 else 2) false cause
    s.wr (.tick .grpSent) 0 0 1

/-- The pending boundary halt and the STEP in progress end when the tick voids (R504, R510). -/
def State.haltVoid (s : State) : State :=
  let s := if s.has (.dbg .STAT_PENDING) 0 0 1 then (s.wr (.dbg .STAT_PENDING) 0 0 0).wr (.dbg .STAT_DROPPED) 0 0 1 else s
  ((s.wr (.dbg .STAT_STEPPING) 0 0 0).wr (.dbg .STAT_STEPS) 0 0 0).wr (.dbg .later) 0 0 0

/-- Every field of TICK_VOID_CAUSE is written afresh, and the tick enters VOID (R63, R64 step 1). -/
def State.recordVoid (s : State) (cause unit place : Nat) : State :=
  let s := s.wr (.tick .VOID_CAUSE_CAUSE) 0 0 cause
  let s := s.wr (.tick .VOID_CAUSE_UNIT) 0 0 unit
  let s := s.wr (.tick .VOID_CAUSE_WHERE) 0 0 place
  let s := s.wr (.tick .VOID_CAUSE_MASK) 0 0 (s.rd (.tick .heldMask) ||| 2 ^ (cause - 1))
  let s := s.wr (.tick .heldMask) 0 0 0
  let s := s.wr (.tick .heldCause) 0 0 0
  let s := s.wr (.tick .VOID_CAUSE_TICK) 0 0 s.tickTag
  let s := s.wr (.tick .voidAt) 0 0 s.time
  let s := s.wr (.tick .wait) 0 0 0
  let s := s.wr (.tick .decided) 0 0 0
  let s := s.wr (.tick .ended) 0 0 0
  let s := s.wr (.tick .midTick) 0 0 0
  s.wr (.tick .STATE_STATE) 0 0 4

/-- Steps 2 to 5 of R64. Context writes that waited for the boundary are dropped with it (R267, log entry 112). -/
def State.voidWork (s : State) : State :=
  let s : State := { s with built := [], ctxStaged := [], fstaged := [], fwrites := s.fwrites.map fun w => { w with taken := false } }
  let s := s.ergVoid
  let s := s.flushCaches
  let s := s.emptyWriteSides
  let s := s.caravanVoid.takeHeld
  let s := s.queuesVoid
  let s := each s.blankModeBanks (fun q s => s.startWriteBlank q) s
  let s := s.dropAllLocks
  let s := s.latchesVoid
  s.resetKeys fun k => decide (k.f = .tick .poisonMark)

/-- The void sequence of R64 for a first cause `cause` with its unit and place. -/
def State.voidSequence (s : State) (cause unit place : Nat) : State :=
  let s := s.recordVoid cause unit place
  let s := s.haltVoid
  let s := s.voidWork
  let s := s.tellGroupVoid cause
  s.raiseCond 0x6100 cause (s.rd (.tick .NUMBER) % 2 ^ 32)

/-- A cause of R63 occurs. ARMED or RUNNING, the tick voids; HALTED, the cause is recorded for the release, but for
0x0D and 0x0E, which void at once (R508); in VOID it sets its mask bit until V + 1,000 ns; otherwise it voids nothing
(R560). -/
def State.voidTick (s : State) (cause unit place : Nat) : State :=
  let st := s.tick
  if st = 1 ∨ st = 2 then s.voidSequence cause unit place
  else if st = 5 then
    if cause = 0x0D ∨ cause = 0x0E then s.voidSequence cause unit place
    else
      let s := if s.has (.tick .heldCause) 0 0 0 then
          ((s.wr (.tick .heldCause) 0 0 cause).wr (.tick .heldUnit) 0 0 unit).wr (.tick .heldWhere) 0 0 place
        else s
      s.wr (.tick .heldMask) 0 0 (s.rd (.tick .heldMask) ||| 2 ^ (cause - 1))
  else if st = 4 ∧ s.time < s.rd (.tick .voidAt) + nsec 1000 then
    s.wr (.tick .VOID_CAUSE_MASK) 0 0 (s.rd (.tick .VOID_CAUSE_MASK) ||| 2 ^ (cause - 1))
  else s

/-- Poison is consumed in T-class work at `place` (R133): under the void policy the tick voids with cause 0x07; under
the report policy the die notes it for the boundary. -/
def State.consumePoison (s : State) (place : Nat) : State :=
  if s.has (.bank .POLICY_POISON) 0 0 0 then s.voidTick 0x07 0 place
  else if s.tick = 2 ∨ s.tick = 5 then s.wr (.tick .poisonMark) place 0 1
  else s

/-- The tick leaves VOID or any state for another: the condition of R476 ends with VOID. -/
def State.setTick (s : State) (st : Nat) : State :=
  (s.wr (.tick .STATE_STATE) 0 0 st).endConds 0x6100

end Sys2Proof.Machine
end

