-- ==== Sys2Proof/Machine/Banks.lean ====
section
/-! DEFINITION. The commands of the memory banks (R124 to R161), but for those that a network packet brings. -/

namespace Sys2Proof.Machine

/-- A bank number (R124). -/
def okBank (b : Nat) : Bool := decide (b < 512)

/-! ### Fabric ports -/

/-- Whether port `p` of a bank is attached to fabric tiles (R134, R144). -/
def State.portAttached (s : State) (d b p : Nat) : Bool :=
  s.has (.bank .CFG_USED) (1 + d) b 1 && s.has (.bank .CFG_MAILBOX) (1 + d) b 0 &&
    (p == 0 || s.has (.bank .CFG_PORTB) (1 + d) b 1)

/-- The results and flags of a port as it presents them (R136): RVALID, CORR, POISON, ZERO, LOCKED, OFF, LOCKERR and
OPERR. Poison presented is consumed (R133). -/
structure PortResult where
  rdata : Nat
  corr : Bool
  poison : Bool
  zero : Bool
  locked : Bool
  off : Bool
  lockErr : Bool
  opErr : Bool
  deriving DecidableEq, Repr

/-- A result with no flag. -/
def PortResult.plain (data : Nat) : PortResult := ⟨data, false, false, false, false, false, false, false⟩

/-- A result that carries what a read of a row has found. -/
def PortResult.read (r : RowRead) : PortResult := ⟨r.data, r.corr, r.poison, r.zero, false, false, false, false⟩

/-- The flag word of a result, RVALID in bit 0 (R134). -/
def PortResult.flags (r : PortResult) : Nat :=
  1 + 2 * b2n r.corr + 4 * b2n r.poison + 8 * b2n r.zero + 16 * b2n r.locked + 32 * b2n r.off + 64 * b2n r.lockErr +
    128 * b2n r.opErr

/-- A port presents a result. -/
def State.present (s : State) (d b p : Nat) (r : PortResult) : State :=
  let u := 1 + d
  let s := (s.wr (.bank .rdata) u (2 * b + p) r.rdata).wr (.bank .flags) u (2 * b + p) r.flags
  let s := if r.lockErr then s.wr (.bank .STAT_LOCKERR) u b 1 else s
  let s := if r.opErr then s.wr (.bank .STAT_OPERR) u b 1 else s
  if r.poison then s.consumePoison u else s

/-- A store presents RVALID; the word on RDATA is left open by R135 and R136. -/
def State.presentStore (s : State) (d b p : Nat) : State := (s.present d b p (.plain (s.freeValue 48))).spend

/-- Operation codes that store a word through a port address (R135). -/
def storesWord (op : Nat) : Bool := op == 1 || op == 2 || op == 3

/-- The refusals of a port operation in the order OFF, OPERR, LOCKED, LOCKERR (R135, R136, R142, R145, R146). -/
def State.portRefusal (s : State) (o : PortOp) : Option PortResult :=
  let paired := s.pairedBank o.die o.bank
  let row := o.addr % 16384
  if s.bankPwr o.die o.bank != 1 then some { PortResult.plain 0 with off := true }
  else if o.op == 7 || (paired && (decide (4 ≤ o.op) || (storesWord o.op && decide (8192 ≤ row)))) then
    some { PortResult.plain 0 with opErr := true }
  else if s.lockedBy o.die o.bank (1 - o.port) row then some { PortResult.plain 0 with locked := true }
  else if (o.op == 5 || o.op == 6) && !s.lockedBy o.die o.bank o.port row then
    some { PortResult.plain 0 with lockErr := true }
  else none

/-- The offset of the window that a port operation acts on: a store in a tick-paired bank goes to the write side
(R142). -/
def State.portOffset (s : State) (o : PortOp) : Nat :=
  o.addr % 16384 + (if s.pairedBank o.die o.bank && storesWord o.op then 8192 else 0)

/-- The physical row that a port operation reaches. -/
def State.portRow (s : State) (o : PortOp) : Nat := s.physRow o.die o.bank (s.portOffset o)

/-- Whether a port operation meets a write side that is being blanked, or follows one that does (R143). -/
def State.portHolds (s : State) (o : PortOp) : Bool :=
  (s.bankPwr o.die o.bank == 1 && s.pairedBank o.die o.bank && s.rd (.bank .blanking) (1 + o.die) o.bank != 0 &&
    decide (8192 ≤ s.portOffset o) && decide (o.op < 4) && !(storesWord o.op && decide (8192 ≤ o.addr % 16384))) ||
  s.heldOps.any fun x => x.die == o.die && x.bank == o.bank && x.port == o.port

/-- A READ (R135). -/
def State.portRead (s : State) (o : PortOp) : State :=
  let (r, s) := s.readPhys o.die o.bank (s.portRow o) o.port
  s.present o.die o.bank o.port (.read r)

/-- A WRITE (R135). -/
def State.portWrite (s : State) (o : PortOp) : State :=
  (s.storeRow o.die o.bank (s.portRow o) o.data).presentStore o.die o.bank o.port

/-- A SET or a CLEAR (R135). -/
def State.portModify (s : State) (o : PortOp) (clear : Bool) : State :=
  let (r, s) := s.modifyRow o.die o.bank (s.portRow o) o.port clear o.data
  s.present o.die o.bank o.port (.read r)

/-- A LOCK_READ: it takes the lock, or, by a port that holds one already, is a plain READ with LOCKERR (R145). -/
def State.portLockRead (s : State) (o : PortOp) : State :=
  let held := s.portLocks o.die o.bank o.port
  let (r, s) := s.readPhys o.die o.bank (s.portRow o) o.port
  let s := if held then s else s.takeLock o.die o.bank o.port (o.addr % 16384)
  s.present o.die o.bank o.port { PortResult.read r with lockErr := held }

/-- What an operation that nothing refuses does (R135). -/
def State.portAction (s : State) (o : PortOp) : State :=
  match o.op with
  | 0 => s.portRead o
  | 1 => s.portWrite o
  | 2 => s.portModify o false
  | 3 => s.portModify o true
  | 4 => s.portLockRead o
  | 5 => (s.portWrite o).dropLock o.die o.bank o.port
  | 6 => (s.dropLock o.die o.bank o.port).presentStore o.die o.bank o.port
  | _ => s

/-- A port operation that is not held reaches the array. -/
def State.portNow (s : State) (o : PortOp) : State :=
  match s.portRefusal o with
  | some r => s.present o.die o.bank o.port r
  | none => s.portAction o

/-- A port operation with EN = 1 (R135, R136, R143). -/
def State.portOp (s : State) (o : PortOp) : State :=
  if !(s.portAttached o.die o.bank o.port && s.fabricRuns o.die) then s
  else if s.portHolds o then { s with heldOps := s.heldOps ++ [o] }
  else s.portNow o

/-- The operands of a port operation: die, bank, port, and port B only in a dual-port bank. -/
def okPort (d b p : Nat) : Bool := okDie d && okBank b && (p == 0 || (p == 1 && dualPort b))

/-- BANK_READ (R135): port `p` (0 A, 1 B) of bank `b` of die `d` presents READ with ADDR `a`. -/
def execBankRead (d b p a : Nat) (s : State) : Answer :=
  actCore (okPort d b p && decide (a < 16384)) s (s.portOp ⟨d, b, p, 0, a, 0⟩)

/-- BANK_WRITE (R135): port `p` presents WRITE with ADDR `a` and WDATA `v`. -/
def execBankWrite (d b p a v : Nat) (s : State) : Answer :=
  actCore (okPort d b p && decide (a < 16384)) s (s.portOp ⟨d, b, p, 1, a, v⟩)

/-- BANK_SET (R135): port `p` presents SET with ADDR `a` and WDATA `v`. -/
def execBankSet (d b p a v : Nat) (s : State) : Answer :=
  actCore (okPort d b p && decide (a < 16384)) s (s.portOp ⟨d, b, p, 2, a, v⟩)

/-- BANK_CLEAR (R135): port `p` presents CLEAR with ADDR `a` and WDATA `v`. -/
def execBankClear (d b p a v : Nat) (s : State) : Answer :=
  actCore (okPort d b p && decide (a < 16384)) s (s.portOp ⟨d, b, p, 3, a, v⟩)

/-- BANK_LOCK_READ (R145): port `p` presents LOCK_READ with ADDR `a`. -/
def execBankLockRead (d b p a : Nat) (s : State) : Answer :=
  actCore (okPort d b p && decide (a < 16384)) s (s.portOp ⟨d, b, p, 4, a, 0⟩)

/-- BANK_WRITE_UNLOCK (R145): port `p` presents WRITE_UNLOCK with ADDR `a` and WDATA `v`. -/
def execBankWriteUnlock (d b p a v : Nat) (s : State) : Answer :=
  actCore (okPort d b p && decide (a < 16384)) s (s.portOp ⟨d, b, p, 5, a, v⟩)

/-- BANK_UNLOCK (R145): port `p` presents UNLOCK with ADDR `a`. -/
def execBankUnlock (d b p a : Nat) (s : State) : Answer :=
  actCore (okPort d b p && decide (a < 16384)) s (s.portOp ⟨d, b, p, 6, a, 0⟩)

/-- BANK_INVALID_OP (R135): port `p` presents OP 7. -/
def execBankInvalidOp (d b p a : Nat) (s : State) : Answer :=
  actCore (okPort d b p && decide (a < 16384)) s (s.portOp ⟨d, b, p, 7, a, 0⟩)

/-! ### Correction and blanking -/

/-- CORRECTION_WRITE_BACK (R131): the write-back of physical row `row` of a bank lands, if it still waits. -/
def execCorrectionWriteBack (d b row : Nat) (s : State) : Answer :=
  actCore (okDie d && okBank b && decide (row < 16384)) s
    (match s.writeBacks.find? fun w => w.die == d && w.bank == b && w.row == row with
     | some w => s.landWriteBack w
     | none => s)

/-- The operations that a bank has held, in their order, proceed. -/
def State.proceedHeld (s : State) (d b : Nat) : State :=
  let mine := fun (o : PortOp) => o.die == d && o.bank == b
  let l := s.heldOps.filter mine
  each l (fun o s => s.portNow o) { s with heldOps := s.heldOps.filter fun o => !mine o }

/-- BANK_BLANKING_DONE (R129, R143): blanking completes, and the operations held on the blanked side proceed. -/
def execBankBlankingDone (d b : Nat) (s : State) : Answer :=
  actCore (okDie d && okBank b) s
    (if s.has (.bank .blanking) (1 + d) b 0 then s else (s.wr (.bank .blanking) (1 + d) b 0).proceedHeld d b)

/-! ### Power states -/

/-- Whether R149 lists the transition that REQ asks for from a power state. -/
def powerListed (pwr req : Nat) : Bool :=
  match req with
  | 1 => pwr == 0 || pwr == 2
  | 2 => pwr == 1
  | 3 => pwr == 1 || pwr == 2
  | 4 => pwr == 1
  | 5 => pwr == 3
  | 6 => pwr == 1
  | _ => false

/-- The refusal code of a write to BANK_PWR, lowest first; 0 where it is accepted (R150). -/
def State.powerRefusal (s : State) (d b req : Nat) (level2 : Bool) : Nat :=
  let u := 1 + d
  if s.tickLive then 1
  else if s.has (.bank .CFG_USED) u b 0 || s.has (.bank .STAT_FAILED) u b 1 then 2
  else if req = 4 ∧ !level2 then 3
  else if s.has (.bank .STAT_BUSY) u b 1 || !powerListed (s.bankPwr d b) req then 4
  else 0

/-- A write of REQ to BANK_PWR(b) (R149, R150): a transition begins, or the refusal code is recorded. BLANK makes
every word unwritten from its start. -/
def State.powerRequest (s : State) (d b req : Nat) (level2 : Bool) : State :=
  let u := 1 + d
  let c := s.powerRefusal d b req level2
  let s := s.wr (.bank .STAT_REFUSE) u b c
  if c ≠ 0 then s
  else
    let s := (s.wr (.bank .STAT_BUSY) u b 1).wr (.bank .goal) u b req
    if req = 6 then (s.blankBank d b).wr (.bank .blanking) u b 1 else s

/-- BANK_ON (R149): REQ 1 for bank `b` of die `d`. -/
def execBankOn (d b : Nat) (s : State) : Answer := actCore (okDie d && okBank b) s (s.powerRequest d b 1 false)

/-- BANK_RETENTION (R149): REQ 2. -/
def execBankRetention (d b : Nat) (s : State) : Answer := actCore (okDie d && okBank b) s (s.powerRequest d b 2 false)

/-- BANK_OFF (R149): REQ 3. -/
def execBankOff (d b : Nat) (s : State) : Answer := actCore (okDie d && okBank b) s (s.powerRequest d b 3 false)

/-- BANK_TEST (R149, R150, R152): REQ 4, `level2` where the resident monitor writes it at authorization level 2. -/
def execBankTest (d b : Nat) (level2 : Bool) (s : State) : Answer :=
  actCore (okDie d && okBank b) s (s.powerRequest d b 4 level2)

/-- BANK_LEAVE_TEST (R149): REQ 5. -/
def execBankLeaveTest (d b : Nat) (s : State) : Answer := actCore (okDie d && okBank b) s (s.powerRequest d b 5 false)

/-- BANK_BLANK (R149): REQ 6. -/
def execBankBlank (d b : Nat) (s : State) : Answer := actCore (okDie d && okBank b) s (s.powerRequest d b 6 false)

/-- The power state that a request leads to. -/
def powerGoal (req : Nat) : Nat :=
  match req with
  | 2 => 2
  | 3 => 0
  | 4 => 3
  | _ => 1

/-- A transition completes (R147, R149): a bank that leaves ON gives up its locks, OFF loses its content, and a bank
that comes from OFF or TEST is blanked. -/
def State.powerDone (s : State) (d b : Nat) : State :=
  let u := 1 + d
  let req := s.rd (.bank .goal) u b
  let from' := s.bankPwr d b
  let s := s.wr (.bank .STAT_PWR) u b (powerGoal req)
  let s := (s.wr (.bank .STAT_BUSY) u b 0).wr (.bank .goal) u b 0
  let s := if powerGoal req = 1 then s else s.dropBankLocks d b
  let s := if powerGoal req = 0 then s.loseBank d b else s
  let s := if powerGoal req = 1 ∧ (from' = 0 ∨ from' = 3) then s.blankBank d b else s
  if req = 6 then (s.wr (.bank .blanking) u b 0).proceedHeld d b else s

/-- BANK_TRANSITION_DONE (R149): the transition of bank `b` of die `d` that is in progress completes. -/
def execBankTransitionDone (d b : Nat) (s : State) : Answer :=
  actCore (okDie d && okBank b) s (if s.has (.bank .STAT_BUSY) (1 + d) b 1 then s.powerDone d b else s)

/-! ### Checker test mode -/

/-- The bank that BANK_TEST_ADDR names. -/
def State.testBank (s : State) (d : Nat) : Nat := s.rd (.bank .TEST_ADDR_BANK) (1 + d) 0

/-- The physical row that BANK_TEST_ADDR names. -/
def State.testRow (s : State) (d : Nat) : Nat := s.rd (.bank .TEST_ADDR_ROW) (1 + d) 0

/-- Whether the BANK_TEST registers reach a row: through the resident monitor at level 2, in a bank in TEST (R152,
R161). -/
def State.testReaches (s : State) (d : Nat) (level2 : Bool) : Bool :=
  level2 && s.bankPwr d (s.testBank d) == 3

/-- BANK_TEST_WRITE_RAW (R152): OP 1 stores BANK_TEST_DATA and BANK_TEST_CHECK raw into the row; `level2` where the
resident monitor writes it at authorization level 2, and access is denied otherwise. -/
def execBankTestWriteRaw (d : Nat) (level2 : Bool) (s : State) : Answer :=
  actCore (okDie d) s
    (if s.testReaches d level2 then
       s.setRow d (s.testBank d) (s.testRow d)
         (rowOf (s.rd (.bank .TEST_DATA_DATA) (1 + d) 0) (s.rd (.bank .TEST_CHECK_CHECK) (1 + d) 0)
           (s.rd (.bank .TEST_CHECK_VALID) (1 + d) 0))
     else s)

/-- BANK_TEST_READ_RAW (R152): OP 2 loads the 58 stored bits of the row, uncorrected, with `level2` as for a raw
write. -/
def execBankTestReadRaw (d : Nat) (level2 : Bool) (s : State) : Answer :=
  actCore (okDie d) s
    (if s.testReaches d level2 then
       let row := s.row d (s.testBank d) (s.testRow d)
       ((s.wr (.bank .TEST_DATA_DATA) (1 + d) 0 (low 48 row)).wr (.bank .TEST_CHECK_CHECK) (1 + d) 0
         (slice row 48 7)).wr (.bank .TEST_CHECK_VALID) (1 + d) 0 (slice row 55 3)
     else s)

/-! ### Counters and policy -/

/-- BANK_ECC_CLR (R161): writing 1 clears BANK_ECC_SUM and every BANK_STAT(b).CE of die `d`. -/
def execBankEccClr (d v : Nat) (s : State) : Answer :=
  actCore (okDie d) s
    (if v % 2 = 1 then
       s.resetKeys fun k => decide (k.u = 1 + d) &&
         (decide (k.f = .bank .ECC_SUM_CE) || decide (k.f = .bank .ECC_SUM_UE) || decide (k.f = .bank .ECC_SUM_VALIDFIX) ||
           decide (k.f = .bank .STAT_CE))
     else s)

/-- Whether die `d` is isolated, or absent (R224). -/
def State.isolated (s : State) (d : Nat) : Bool := !s.dieHere d

/-- The poison policy set in every die that is not isolated, and in the device's own copy (R133). -/
def State.setPolicy (s : State) (v : Nat) : State :=
  each dies (fun d s => if s.isolated d then s else s.wr (.bank .POLICY_POISON) (1 + d) 0 v)
    (s.wr (.bank .POLICY_POISON) 0 0 v)

/-- BANK_POLICY_WRITE (R133): a write of POISON through BANK_POLICY of any die or object 0x2700:01. -/
def execBankPolicyWrite (v : Nat) (s : State) : Answer := actCore true s (s.setPolicy v)

end Sys2Proof.Machine
end

