-- ==== Sys2Proof/Machine/Planes.lean ====
section
/-! DEFINITION. The checks of the frame controller (R82, R95, R119, R134, R159) on the configuration planes. -/

namespace Sys2Proof.Machine

/-! ### Port signals -/

/-- The port of a bank that a tile's signals belong to, where that port is enabled on the tile's side (R134). -/
def State.bankPortAt (s : State) (d b offset : Nat) (east : Bool) : Option Nat :=
  let p := if offset = 0 ∨ offset = 1 ∨ offset = 4 then 0 else 1
  let side := if p = 0 then s.rd (.bank .CFG_SIDE_A) (1 + d) b else s.rd (.bank .CFG_SIDE_B) (1 + d) b
  if s.portAttached d b p && (side == b2n east) then some p else none

/-- How many port outputs and port inputs the block has for a tile, numbered from 0 (R90, R94, R105, R106, R134, R186,
R308, R488). -/
def State.portSignals (s : State) (d x y : Nat) : Nat × Nat :=
  match border x y with
  | .none => (0, 0)
  | .slice _ place => if place = 3 then (3, 33) else (48, 48)
  | .bank b offset east =>
    match s.bankPortAt d b offset east with
    | Option.none => (0, 0)
    | some _ => if offset = 0 ∨ offset = 2 then (18, 8) else if offset = 1 ∨ offset = 3 then (0, 48) else (48, 0)
  | .io p =>
    match s.rd (.fab .IOCFG_MODE) (1 + d) p with
    | 1 => (2, 1)
    | 2 => (3, 2)
    | 3 => (9, 8)
    | 4 => (0, 1)
    | 5 => (2, 0)
    | _ => (0, 0)
  | .lane _ t =>
    if t < 3 then (48, 0) else if t = 3 then (16, 0) else if t < 7 then (0, 48) else if t = 7 then (0, 16)
    else if t = 8 then (2, 6) else (0, 0)
  | .odPort t => [(48, 0), (38, 1), (0, 48), (1, 39)].getD t (0, 0)
  | .tickPort t => [(0, 48), (0, 16), (16, 0), (3, 0)].getD t (0, 0)
  | .ni _ t => if t < 4 then (48, 48) else if t = 4 then (3, 4) else (4, 9)

/-- Whether the port signals of a tile depend on a frame of another type (R94, R134). -/
def portsDepend (x y : Nat) : Bool :=
  match border x y with
  | .bank .. | .io _ => true
  | _ => false

/-- The 720 select fields of a tile. -/
def selectFields : List Nat := List.range 720

/-- Whether a select names a port input. -/
def isPortIn (c : Nat) : Bool := decide (0x1A0 ≤ c) && decide (c < 0x1D0)

/-- Whether select field `f` with code `c` uses a port signal. -/
def usesPort (f c : Nat) : Bool := isPortIn c || (decide (672 ≤ f) && c != 0x1D0)

/-- Whether a tile uses a port signal of the block it borders. -/
def State.tileUsesPort (s : State) (d x y : Nat) : Bool := selectFields.any fun f => usesPort f (s.tileSel d x y f)

/-! ### What a check finds -/

/-- A check that fails: R82 with its kind, tile or cell, field and code; R119 with the slice, value and bit; R159 with
the bank; or FIELD of R378. -/
inductive Finding where
  | select (kind x y field code : Nat)
  | slice (kind n value bit : Nat)
  | bank (kind b : Nat)
  deriving DecidableEq, Repr

/-- The first finding of a list of checks. -/
def firstOf {α β : Type} (g : α → Option β) : List α → Option β
  | [] => none
  | a :: l =>
    match g a with
    | some b => some b
    | none => firstOf g l

/-! ### Tiles -/

/-- Whether port use `f`, `c` names a signal that the block has not (R82 kind 3). -/
def State.badPort (s : State) (d x y f c : Nat) : Bool :=
  let n := s.portSignals d x y
  (isPortIn c && decide (n.2 ≤ c - 0x1A0)) || (decide (672 ≤ f) && c != 0x1D0 && decide (n.1 ≤ f - 672))

/-- Kinds 1 to 3 of R82 on one select, kind 3 only where the ports do not depend on another frame. -/
def State.selectFinding (s : State) (d x y f : Nat) : Option Finding :=
  let c := s.tileSel d x y f
  if 0x1D3 ≤ c then some (.select 1 x y f c)
  else if 0x080 ≤ c ∧ c < 0x1A0 ∧ !hopInside x y ((c - 0x080) / 72) ((c - 0x080) % 72) then some (.select 2 x y f c)
  else if 384 ≤ f ∧ f < 672 ∧ c ≠ 0x1D0 ∧ !hopInside x y ((f - 384) / 72) ((f - 384) % 72) then some (.select 2 x y f c)
  else if !portsDepend x y && s.badPort d x y f c then some (.select 3 x y f c)
  else none

/-- Kinds 4 and 5 of R82 on one cell. -/
def State.cellFinding (s : State) (d x y q : Nat) : Option Finding :=
  let w := s.tileCell d x y q
  if slice w 16 2 = 3 then some (.select 4 x y (720 + q) 3)
  else if q = 0 ∧ slice w 18 2 = 0 then some (.select 5 x y 720 0)
  else none

/-- The checks on a tile by itself. -/
def State.tileFinding (s : State) (d x y : Nat) : Option Finding :=
  match firstOf (s.selectFinding d x y) selectFields with
  | some e => some e
  | none => firstOf (s.cellFinding d x y) (List.range 64)

/-- Whether an applied frame of the load has named a target. -/
def State.named (s : State) (ftype unit i : Nat) : Bool :=
  s.targets.any fun t => t.ftype == ftype && t.unit == unit && decide (t.first ≤ i) && decide (i < t.first + t.count)

/-- Whether a tile's frame has been committed in this load. -/
def State.tileNamed (s : State) (d : Nat) (q : Nat × Nat) : Bool := s.named 1 (1 + d) (256 * q.2 + q.1)

/-- The body words of user lane `k` of die `d` that the load has staged (R376). -/
def State.stagedLane (s : State) (d k : Nat) : Option SFrame :=
  s.staged.find? fun f => f.ftype == 0x14 && f.unit == 1 + d && f.addr == k

/-- The clock tree that the bordering block of a tile's port signals runs on, for kind 7 of R82: that of a slice, of a
bank port, of a user lane (a lane without a frame holds the unconfigured 0), or of another tile of the same block. -/
def State.blockTrees (s : State) (d x y : Nat) : List Nat :=
  match border x y with
  | .slice n _ => [s.rd (.slc .CFG_TREE) (1 + d) n]
  | .bank b offset east =>
    match s.bankPortAt d b offset east with
    | some 0 => [s.rd (.bank .CFG_TREE_A) (1 + d) b]
    | some _ => [s.rd (.bank .CFG_TREE_B) (1 + d) b]
    | Option.none => []
  | .lane k t =>
    if 9 ≤ t then []
    else
      match s.stagedLane d k with
      | some f => [slice (f.body.getD 0 0) 35 4]
      | Option.none => [0]
  | .odPort _ | .ni _ _ =>
    ((groupTiles x y).filter fun q => s.tileNamed d q && s.tileUsesPort d q.1 q.2).map fun q => s.tileTree d q.1 q.2
  | _ => []

/-- The fabric PLL of tree `t` of die `d`: that of the DIE frame that the load has staged, or in a partial load the active one;
none where the frame has not come. -/
def State.treePll (s : State) (d t : Nat) : Option Nat :=
  if s.has (.cfg .loadKind) 0 0 2 then some (s.rd (.clk .DOM_PLLSEL) (1 + d) t)
  else (s.staged.find? fun f => f.ftype == 3 && f.unit == 1 + d).map fun f => slice (f.body.getD t 0) 3 3

/-- Kind 6 of R82 for what R96 does not allow: the SERCLK of a SERDES cell names another PLL than its tile's tree derives from. A
ratio that does not match the divider is no value of R96 and leaves the received bits open (log entry 117). -/
def State.serFinding (s : State) (d : Nat) (q : Nat × Nat) : Option Finding :=
  match border q.1 q.2 with
  | .io p =>
    let k := s.rd (.fab .IOCFG_SERCLK) (1 + d) p
    match s.treePll d (s.tileTree d q.1 q.2) with
    | some x => if s.has (.fab .IOCFG_MODE) (1 + d) p 3 && x != k then some (.select 6 0xFF p (785 + p) k) else none
    | none => none
  | _ => none

/-- The checks between a tile and the block it borders: kind 3 where the ports depend on another frame, kinds 6 and 7. -/
def State.relationFinding (s : State) (d : Nat) (q : Nat × Nat) : Option Finding :=
  let (x, y) := q
  let bad := if portsDepend x y then selectFields.find? fun f => s.badPort d x y f (s.tileSel d x y f) else none
  match bad with
  | some f => some (.select 3 x y f (s.tileSel d x y f))
  | none =>
    if s.tileUsesPort d x y && (s.blockTrees d x y).any (fun t => t != s.tileTree d x y) then
      some (.select 7 x y 784 (s.tileTree d x y))
    else s.serFinding d q

/-- Whether the frame of the block that a tile borders has been committed or staged in this load. -/
def State.blockNamed (s : State) (d x y : Nat) : Bool :=
  match border x y with
  | .slice n _ => s.named 4 (1 + d) n
  | .bank b .. => s.named 5 (1 + d) b
  | .io p => s.named 2 (1 + d) p
  | .lane k _ => (s.stagedLane d k).isSome
  | .odPort _ | .ni .. => true
  | _ => false

/-! ### I/O cells -/

/-- A differential standard. -/
def ioDiff (std : Nat) : Bool := std == 4 || std == 5

/-- The fields of FAB_IOCFG(p). -/
def ioFields : List Fld :=
  [FabF.IOCFG_MODE, .IOCFG_STD, .IOCFG_DRIVE, .IOCFG_SLEW, .IOCFG_PULL, .IOCFG_TERM, .IOCFG_INIT, .IOCFG_INIT_OE,
    .IOCFG_VOID, .IOCFG_SAFE, .IOCFG_SER8, .IOCFG_SERCLK].map Fld.fab

/-- Kind 6 of R82 on one I/O cell's word: reserved values, and what R95 and R97 do not allow. A SERDES cell that is not
differential, which R94 excludes, is rejected with MODE as its value; an LVCMOS standard that does not match the bank's VCCO is
not checked (log entry 118). -/
def ioFinding (p v : Nat) : Option Finding :=
  let mode := slice v 0 3
  let std := slice v 3 3
  let drive := slice v 6 2
  let e := fun (c : Nat) => some (Finding.select 6 0xFF p (785 + p) c)
  if 6 ≤ mode then e mode
  else if 6 ≤ std then e std
  else if (drive = 3 ∧ (std = 2 ∨ std = 3)) ∨ (drive ≠ 0 ∧ ioDiff std) then e drive
  else if slice v 15 2 = 3 then e 3
  else if 6 ≤ slice v 18 3 then e (slice v 18 3)
  else if p % 2 = 1 ∧ ioDiff std then e std
  else if mode = 3 ∧ !ioDiff std then e mode
  else none

/-- The word of I/O cell `p` as the plane holds it. -/
def State.ioWord (s : State) (d p : Nat) : Nat := s.planeWord d (9835520 + p)

/-- The rule of pairs (R95): pin 2k + 1 holds 0 where pin 2k uses a differential standard; its first field that does not is the
offending one. -/
def State.pairFinding (s : State) (d p : Nat) : Option Finding :=
  let k := p / 2 * 2 + 1
  if ioDiff (slice (s.ioWord d (p / 2 * 2)) 3 3) then
    ((ioFields.map fun f => slice (s.ioWord d k) f.info.lo f.info.width).find? fun v => v != 0).map fun v =>
      .select 6 0xFF k (785 + k) v
  else none

/-! ### Slices -/

/-- Kinds 1 to 4 of R119 on one slice's word. -/
def sliceFinding (n v : Nat) : Option Finding :=
  let split := slice v 0 2
  let zsrc := slice v 6 2
  let shift := slice v 8 7
  if split = 3 then some (.slice 1 n 3 0)
  else if zsrc = 3 then some (.slice 1 n 3 6)
  else if slice v 15 2 = 3 then some (.slice 1 n 3 15)
  else if accWidth split ≤ shift then some (.slice 2 n shift 8)
  else if zsrc = 2 ∧ slice v 4 2 ≠ 0 then some (.slice 3 n 2 6)
  else if zsrc = 1 ∧ n % 96 = 0 then some (.slice 4 n 1 6)
  else none

/-- Kind 5 of R119: the cascade of slice `n` and its predecessor. -/
def State.cascadeFinding (s : State) (d n : Nat) : Option Finding :=
  let u := 1 + d
  if s.has (.slc .CFG_ZSRC) u n 1 && n % 96 != 0 &&
      (s.has (.slc .CFG_USED) u (n - 1) 0 || s.rd (.slc .CFG_SPLIT) u n != s.rd (.slc .CFG_SPLIT) u (n - 1) ||
        s.rd (.slc .CFG_TREE) u n != s.rd (.slc .CFG_TREE) u (n - 1)) then
    some (.slice 5 n 1 6)
  else none

/-- Kind 6 of R119: a bordering tile uses a port of slice `n`, which the image does not use. -/
def State.unusedFinding (s : State) (d n : Nat) (q : Nat × Nat) : Option Finding :=
  if s.has (.slc .CFG_USED) (1 + d) n 0 && s.tileUsesPort d q.1 q.2 then some (.slice 6 n 0 25) else none

/-! ### Banks -/

/-- The kinds of R159 on one bank's word. -/
def bankFinding (b v : Nat) : Option Finding :=
  let used := v.testBit 0
  let mode := v.testBit 1
  let mailbox := v.testBit 3
  let portB := v.testBit 4
  if portB && !dualPort b then some (.bank 1 b)
  else if b / 32 = 15 ∧ (v.testBit 5 ∨ v.testBit 6) then some (.bank 2 b)
  else if mailbox && (!mode || !dualPort b) then some (.bank 3 b)
  else if mailbox && (portB || v.testBit 5 || v.testBit 6 || slice v 7 8 != 0) then some (.bank 4 b)
  else if !used && v % 2 ^ 31 != 0 then some (.bank 5 b)
  else if !portB && (v.testBit 6 || slice v 11 4 != 0) then some (.bank 6 b)
  else if v.testBit 2 && !mode then some (.bank 7 b)
  else none

/-! ### Recording a finding -/

/-- The register that records the first failure takes it (R82, R119, R159). -/
def State.record (s : State) (d : Nat) (e : Finding) : State :=
  let u := 1 + d
  match e with
  | .select kind x y field code =>
    if s.has (.fab .SELERR_VALID) u 0 1 then s
    else
      let s := (s.wr (.fab .SELERR_VALID) u 0 1).wr (.fab .SELERR_KIND) u 0 kind
      let s := (s.wr (.fab .SELERR_X) u 0 x).wr (.fab .SELERR_Y) u 0 y
      (s.wr (.fab .SELERR_FIELD) u 0 field).wr (.fab .SELERR_CODE) u 0 code
  | .slice kind n value bit =>
    if s.has (.slc .CFGERR_VALID) u 0 1 then s
    else
      let s := (s.wr (.slc .CFGERR_VALID) u 0 1).wr (.slc .CFGERR_KIND) u 0 kind
      ((s.wr (.slc .CFGERR_SLICE) u 0 n).wr (.slc .CFGERR_VALUE) u 0 value).wr (.slc .CFGERR_BIT) u 0 bit
  | .bank kind b =>
    if s.has (.bank .CFGERR_VALID) u 0 1 then s
    else ((s.wr (.bank .CFGERR_VALID) u 0 1).wr (.bank .CFGERR_KIND) u 0 kind).wr (.bank .CFGERR_BANK) u 0 b

end Sys2Proof.Machine
end

