-- ==== Sys2Proof/Machine/FabricOps.lean ====
section
/-! DEFINITION. User logic (R76 to R93, R397): what a tile computes in one cycle, and one edge of a clock tree. -/

namespace Sys2Proof.Machine

/-! ### Where a tile's registers stand -/

/-- The number of tile (x, y). -/
def tileNo (x y : Nat) : Nat := 256 * y + x

/-- The key of the flip-flop of cell `q` of tile `n` of die `d`. -/
def ffKey (d n q : Nat) : Nat := (49152 * d + n) * 64 + q

/-- The key of hop arrival register 72 dir′ + j = `i` of a tile. -/
def hopKey (d n i : Nat) : Nat := (49152 * d + n) * 288 + i

/-- The key of the register of port output `k` of a tile. -/
def portKey (d n k : Nat) : Nat := (49152 * d + n) * 48 + k

/-- The flip-flop of a cell. -/
def State.ff (s : State) (d n q : Nat) : Bool := Sparse.get (fun _ => 0) s.ffs (ffKey d n q) != 0

/-- The register that holds port output `k` of a tile (R88). -/
def State.portOut (s : State) (d n k : Nat) : Bool := Sparse.get (fun _ => 0) s.portOuts (portKey d n k) != 0

/-- Tile (x, y) moved by `r` towards side `dir`: 0 north, 1 east, 2 south, 3 west. -/
def moved (x y dir r : Nat) : Nat × Nat :=
  match dir with
  | 0 => (x, y + r)
  | 1 => (x + r, y)
  | 2 => (x, y - r)
  | _ => (x - r, y)

/-- The side that is opposite (R85): a hop that travels east enters from the west. -/
def opposite (dir : Nat) : Nat := (dir + 2) % 4

/-- Whether a tile's clocks run (R92, R404): the die's do, and its niche is ACTIVE. -/
def State.tileRuns (s : State) (d x y : Nat) : Bool := s.fabricRuns d && s.has (.nch .STAT_STATE) (1 + d) (nicheOf x y) 3

/-- The value at arrival 72 dir′ + j = `i` of tile (x, y): its register, or, where the source tile is on another tree, the
second of two further registers (R86, R87). -/
def State.arrival (s : State) (d x y i : Nat) : Bool :=
  let q := moved x y (i / 72) (hopReach (i % 72))
  let v := Sparse.get (fun _ => 0) s.hops (hopKey d (tileNo x y) i)
  if s.tileTree d q.1 q.2 = s.tileTree d x y then v.testBit 0 else v.testBit 2

/-! ### What a block presents -/

/-- A signal that the blocks' rules leave open in the present cycle, at a place of its own. -/
def State.openSignal (s : State) (d n k : Nat) : Bool := Config.freeSignal s.free (portKey d n k)

/-- What slice `m` presents at port input `k` of its tile at `place` (R106). -/
def State.slicePort (s : State) (d m place k : Nat) : Bool :=
  let v := fun (f : AsF) => s.rd (.slc f) (1 + d) m
  match place with
  | 0 => (v .y0).testBit k
  | 1 => (v .acc).testBit k
  | 2 => (v .acc).testBit (48 + k)
  | _ =>
    if k < 24 then (v .acc).testBit (96 + k)
    else if k < 28 then (v .range).testBit (k - 24)
    else if k < 32 then (v .wrap).testBit (k - 28)
    else v .valid == 1

/-- The host write that die `d`'s OD port presents: the first that the tick shows and the fabric has not taken (R491). -/
def State.hostWrite (s : State) (d : Nat) : List FWrite :=
  if s.tick = 2 then s.fwrites.filter fun w => w.die == d && w.shown && !w.taken else []

/-- The value of a pending write as HDATA carries it: sign-extended for an INTEGER type (R491). -/
def State.hdata (s : State) (w : FWrite) : Nat :=
  match s.fobjs.find? fun o => o.idx == w.idx with
  | some o =>
    let b := 8 * typeBytes o.type
    if isSigned o.type && w.value.testBit (b - 1) then w.value + (2 ^ 64 - 2 ^ b) else w.value
  | none => w.value

/-- What the OD port presents at port input `k` of its tile `t` (R488, R491). -/
def State.odPort (s : State) (d t k : Nat) : Bool :=
  let l := s.hostWrite d
  let w := l.headD ⟨0, 0x5000, 0, 0, false, false⟩
  match t with
  | 1 => s.has (.od .FPORT_READY) 0 d 1
  | 2 => (s.hdata w).testBit k
  | _ =>
    if k < 16 then (s.hdata w).testBit (48 + k)
    else if k < 28 then (w.idx - 0x5000).testBit (k - 16)
    else if k < 36 then w.sub.testBit (k - 28)
    else if k = 36 then !l.isEmpty
    else if k = 37 then l.length == 1
    else s.has (.od .FPORT_READY) 0 d 1

/-- What the bordering block presents at port input `k` of tile (x, y) (R90, R94, R106, R134, R186, R308, R488). What comes
from a pin, a network interface or a lane is not fixed by the fabric: an open signal. -/
def State.portIn (s : State) (d x y k : Nat) : Bool :=
  let u := 1 + d
  let free := s.openSignal d (tileNo x y) k
  match border x y with
  | .none => false
  | .slice m place => s.slicePort d m place k
  | .bank b offset east =>
    match s.bankPortAt d b offset east with
    | Option.none => false
    | some p => (if offset % 2 = 0 then s.rd (.bank .flags) u (2 * b + p) else s.rd (.bank .rdata) u (2 * b + p)).testBit k
  | .io p =>
    match s.rd (.fab .IOCFG_MODE) u p with
    | 1 | 2 | 3 => (s.rd (.fab .inReg) u p).testBit k
    | 4 => s.has (.fab .tickIn) u p 1
    | _ => false
  | .lane j t =>
    if t = 8 ∧ k = 2 then s.has (.pp .USTAT_SIGDET) 0 (4 * d + j) 1
    else if t = 8 ∧ k = 3 then s.has (.pp .USTAT_CDRLOCK) 0 (4 * d + j) 1
    else free
  | .odPort t => s.odPort d t k
  | .tickPort t => (s.rd (.tick .NUMBER)).testBit (48 * t + k)
  | .ni _ _ => free

/-! ### The cells of a tile in one cycle -/

/-- The value of crossbar source `code` of tile (x, y), with the O outputs of its cells in `o` (R79). -/
def State.source (s : State) (d x y o code : Nat) : Bool :=
  if code < 0x40 then o.testBit code
  else if code < 0x80 then s.ff d (tileNo x y) (code - 0x40)
  else if code < 0x1A0 then s.arrival d x y (code - 0x80)
  else if code < 0x1D0 then s.portIn d x y (code - 0x1A0)
  else if code = 0x1D2 then s.has (.fab .strobe) (1 + d) (s.tileTree d x y) 1
  else code == 0x1D1

/-- The value that destination `f` of a tile selects (R80). -/
def State.dest (s : State) (d x y o f : Nat) : Bool := s.source d x y o (s.tileSel d x y f)

/-- The six inputs of a cell. -/
structure CellIn where
  in0 : Bool
  in1 : Bool
  in2 : Bool
  in3 : Bool
  byp : Bool
  ce : Bool
  deriving DecidableEq, Repr

/-- The inputs of cell `q` (R80). -/
def State.cellIn (s : State) (d x y o q : Nat) : CellIn :=
  let v := fun (k : Nat) => s.dest d x y o (6 * q + k)
  ⟨v 0, v 1, v 2, v 3, v 4, v 5⟩

/-- O and carry-out of a cell with mode fields `w` and the carry-out `c` of the cell before it (R76, R77). -/
def cellOut (w : Nat) (i : CellIn) (c : Bool) : Bool × Bool :=
  let l := w.testBit (8 * b2n i.in3 + 4 * b2n i.in2 + 2 * b2n i.in1 + b2n i.in0)
  let cin :=
    match slice w 18 2 with
    | 0 => c
    | 1 => false
    | 2 => true
    | _ => i.byp
  match slice w 16 2 with
  | 0 => (l, false)
  | 1 => (l != cin, if l then cin else i.in0)
  | _ => (cin, false)

/-- The O outputs and the carry-outs of a tile's cells, one bit a cell, from those that stand at their inputs. -/
def State.cellRound (s : State) (d x y : Nat) (v : Nat × Nat) : Nat × Nat :=
  (List.range 64).foldl (fun a q =>
    let r := cellOut (s.tileCell d x y q) (s.cellIn d x y v.1 q) (q != 0 && v.2.testBit (q - 1))
    (a.1 + b2n r.1 * 2 ^ q, a.2 + b2n r.2 * 2 ^ q)) (0, 0)

/-- The O outputs that a tile settles on: a path passes at most 128 outputs, so that as many rounds settle every one that lies
on no loop; one on a loop rests on the open values that the rounds begin with. -/
def State.settled (s : State) (d x y : Nat) : Nat :=
  ((List.range 129).foldl (fun v _ => s.cellRound d x y v)
    (Config.freeBits 64 s.free % 2 ^ 64, Config.freeBits 65 s.free % 2 ^ 64)).1

/-! ### Reset trees -/

/-- The root of user reset tree `r`: a port output of tile (0, 191), 0 while the gateway niche is not ACTIVE (R90, R398). -/
def State.rstRoot (s : State) (d r : Nat) : Bool := s.portOut d (tileNo 0 191) (r - 1) && s.tileRuns d 0 191

/-- The roots are taken at an edge of tree `t`. -/
def State.shiftResets (s : State) (d t : Nat) : State :=
  each [1, 2, 3] (fun r s =>
    s.wr (.fab .rstHist) (1 + d) (16 * r + t) (2 * s.rd (.fab .rstHist) (1 + d) (16 * r + t) + b2n (s.rstRoot d r))) s

/-! ### One edge -/

/-- The value that a flip-flop loads: the run reset, its user reset tree, its CE and its data, in this order (R78). -/
def State.ffNext (s : State) (d x y o q : Nat) : Bool :=
  let w := s.tileCell d x y q
  let i := s.cellIn d x y o q
  if s.runResetOn || s.userReset d (slice w 22 2) (s.tileTree d x y) then w.testBit 24
  else if w.testBit 21 && !i.ce then s.ff d (tileNo x y) q
  else if w.testBit 20 then i.byp
  else o.testBit q

/-- The tiles of a die of which the plane holds a word other than its unconfigured value; every other tile computes 0. -/
def State.placedTiles (s : State) (d : Nat) : List Nat :=
  ((s.plane.filter fun e => e.1 / 2 ^ 24 == d && decide (e.1 % 2 ^ 24 < 9830400)).map fun e => e.1 % 2 ^ 24 / 200).eraseReps

/-- The tiles among them that run on tree `t`. -/
def State.clockedTiles (s : State) (d t : Nat) : List Nat :=
  (s.placedTiles d).filter fun n => s.tileRuns d (n % 256) (n / 256) && s.tileTree d (n % 256) (n / 256) == t

/-- Bits stored from key `k` on. -/
def storeBits (k : Nat) (l : List Bool) (m : List (Nat × Nat)) : List (Nat × Nat) :=
  (List.range l.length).foldl (fun m i => Sparse.set id (fun _ => 0) m (k + i) (b2n (l.getD i false))) m

/-- The flip-flops after an edge of tree `t`. -/
def State.nextFfs (s : State) (d t : Nat) : List (Nat × Nat) :=
  (s.clockedTiles d t).foldl (fun m n =>
    let o := s.settled d (n % 256) (n / 256)
    storeBits (ffKey d n 0) ((List.range 64).map fun q => s.ffNext d (n % 256) (n / 256) o q) m) s.ffs

/-- The port output registers after an edge of tree `t` (R88). -/
def State.nextPorts (s : State) (d t : Nat) : List (Nat × Nat) :=
  (s.clockedTiles d t).foldl (fun m n =>
    let o := s.settled d (n % 256) (n / 256)
    storeBits (portKey d n 0) ((List.range 48).map fun k => s.dest d (n % 256) (n / 256) o (672 + k)) m) s.portOuts

/-! ### Hops -/

/-- Whether the isolation cells of niche `x` are engaged (R397). -/
def State.engaged (s : State) (d x : Nat) : Bool := x != 8 && !s.has (.nch .STAT_STATE) (1 + d) x 3

/-- Whether a launch leaves its niche (R396). -/
def crossesNiche (x y dir j : Nat) : Bool :=
  let q := moved x y dir (hopReach j)
  nicheOf q.1 q.2 != nicheOf x y

/-- The code of NCH_ISO(x, j). -/
def State.isoCode (s : State) (d x j : Nat) : Nat := s.rd (.nch .ISO_CODES) (1 + d) (3 * x + j / 24) / 4 ^ (j % 24) % 4

/-- The launches of hop `j` that leave niche `x`, as tile and direction. -/
def borderLaunches (x j : Nat) : List (Nat × Nat) :=
  (List.range 49152).flatMap fun n =>
    ([0, 1, 2, 3].filter fun dir => nicheOf (n % 256) (n / 256) == x && hopInside (n % 256) (n / 256) dir j &&
      crossesNiche (n % 256) (n / 256) dir j).map fun dir => (n, dir)

/-- The launches of a tile that carry 1, as 72 dir + j: what its selects name, but for those that engaged isolation cells
drive. -/
def State.tileLaunches (s : State) (d n : Nat) : List Nat :=
  let x := n % 256
  let y := n / 256
  let o := s.settled d x y
  (List.range 288).filter fun i =>
    hopInside x y (i / 72) (i % 72) && !(s.engaged d (nicheOf x y) && crossesNiche x y (i / 72) (i % 72)) &&
      s.dest d x y o (384 + i)

/-- The launches that engaged isolation cells drive to 1: with HOLD those whose held value is 1, with ONE every one (R397). -/
def State.isoLaunches (s : State) (d x : Nat) : List (Nat × Nat) :=
  if s.engaged d x then
    ((s.isoHeld.filter fun e => e.1 / 288 / 49152 == d && nicheOf (e.1 / 288 % 256) (e.1 / 288 % 49152 / 256) == x &&
        s.isoCode d x (e.1 % 72) == 0).map fun e => (e.1 / 288 % 49152, e.1 % 288)) ++
      (((List.range 72).filter fun j => s.isoCode d x j == 2).flatMap fun j =>
        (borderLaunches x j).map fun q => (q.1, 72 * q.2 + j))
  else []

/-- Every launch of a die that carries 1, as tile and 72 dir + j. -/
def State.launches (s : State) (d : Nat) : List (Nat × Nat) :=
  ((s.placedTiles d).flatMap fun n => (s.tileLaunches d n).map fun i => (n, i)) ++
    (List.range 12).flatMap fun x => s.isoLaunches d x

/-- The key of the arrival register that a launch reaches (R85). -/
def arrivalKey (d n i : Nat) : Nat :=
  let q := moved (n % 256) (n / 256) (i / 72) (hopReach (i % 72))
  hopKey d (tileNo q.1 q.2) (72 * opposite (i / 72) + i % 72)

/-- Whether an arrival register of die `d` is clocked by tree `t`. -/
def State.hopClocked (s : State) (d t key : Nat) : Bool :=
  let n := key / 288 % 49152
  key / 288 / 49152 == d && s.tileRuns d (n % 256) (n / 256) && s.tileTree d (n % 256) (n / 256) == t

/-- The arrival registers after an edge of tree `t`: each takes what is launched to it, and the two registers behind it take
what the one before held (R86, R87). -/
def State.nextHops (s : State) (d t : Nat) : List (Nat × Nat) :=
  let shifted := (s.hops.map fun e => if s.hopClocked d t e.1 then (e.1, 2 * e.2 % 8) else e).filter fun e => e.2 != 0
  (((s.launches d).map fun q => arrivalKey d q.1 q.2).filter (s.hopClocked d t)).foldl
    (fun m k => Sparse.set id (fun _ => 0) m k (Sparse.get (fun _ => 0) m k / 2 * 2 + 1)) shifted

/-! ### User I/O cells -/

/-- The level of a pin that nothing drives (R52, R100, R561): the bank's weak pull where the cell is off, has its SAFE value 2
or the bank is off; else that of its PULL field. None where it floats. -/
def State.restLevel (s : State) (d p : Nat) : Option Nat :=
  let u := 1 + d
  if s.has (.fab .IOCFG_MODE) u p 0 || s.has (.fab .IOSTAT_BANK_OFF) u 0 1 ||
      (s.has (.fab .safeNow) u p 1 && s.has (.fab .IOCFG_SAFE) u p 2) then some (s.rd (.fab .IOPULL_UP) u)
  else
    match s.rd (.fab .IOCFG_PULL) u p with
    | 1 => some 0
    | 2 => some 1
    | 3 => some (s.rd (.fab .keep) u p)
    | _ => none

/-- The levels that the device drives on pin `p` in one cycle of its tile's tree, in order: none where its output is not
enabled (R94). -/
def State.pinDrives (s : State) (d p : Nat) : List Bool :=
  let u := 1 + d
  let o := fun (k : Nat) => s.portOut d (tileNo 0 (4 * p)) k
  if s.has (.fab .IOSTAT_BANK_OFF) u 0 1 || !s.tileRuns d 0 (4 * p) then []
  else
    match s.rd (.fab .IOCFG_MODE) u p with
    | 1 => if o 1 then [o 0] else []
    | 2 => if o 2 then [o 0, o 1] else []
    | 3 => if o 8 then (List.range (if s.has (.fab .IOCFG_SER8) u p 1 then 8 else 4)).map o else []
    | 5 =>
      if s.has (.fab .safeNow) u p 1 then (if s.rd (.fab .IOCFG_SAFE) u p = 2 then [] else [s.has (.fab .IOCFG_SAFE) u p 1])
      else if s.has (.fab .outOE) u p 1 then [s.has (.fab .outV) u p 1]
      else []
    | _ => []

/-- The keeper of a pin follows the level that the device drives (R561). -/
def State.keepPin (s : State) (d p : Nat) : State :=
  match (s.pinDrives d p).getLast? with
  | some v => s.wr (.fab .keep) (1 + d) p (b2n v)
  | none => s

/-- The input registers of a DIRECT, DDR or SERDES cell load what stands at the pin: an open value, 0 in a bank that is off
(R94, R99). -/
def State.loadPin (s : State) (d p : Nat) : State :=
  let w :=
    match s.rd (.fab .IOCFG_MODE) (1 + d) p with
    | 1 => 1
    | 2 => 2
    | 3 => if s.has (.fab .IOCFG_SER8) (1 + d) p 1 then 8 else 4
    | _ => 0
  if w = 0 then s
  else if s.has (.fab .IOSTAT_BANK_OFF) (1 + d) 0 1 then s.wr (.fab .inReg) (1 + d) p 0
  else
    s.wr (.fab .inReg) (1 + d) p
      ((List.range w).foldl (fun a k => a + b2n (s.openSignal d (tileNo 0 (4 * p)) k) * 2 ^ k) 0)

/-- The I/O cells whose tile runs on tree `t`, after an edge of it. -/
def State.clockPins (s : State) (d t : Nat) : State :=
  each ((List.range 24).filter fun p => s.tileRuns d 0 (4 * p) && s.tileTree d 0 (4 * p) == t)
    (fun p s => (s.loadPin d p).keepPin d p) s

/-! ### Slices -/

/-- The operand set that the port registers of a slice's tiles hold (R105). -/
def State.slicePortSet (s : State) (d m : Nat) : OperandSet :=
  let tile := fun (k : Nat) => let q := (sliceTiles m).getD k (0, 0); tileNo q.1 q.2
  let word := fun (n : Nat) => (List.range 48).foldl (fun a k => a + b2n (s.portOut d n k) * 2 ^ k) 0
  ⟨word (tile 0), word (tile 1), word (tile 2), s.portOut d (tile 3) 0, s.portOut d (tile 3) 1, s.portOut d (tile 3) 2⟩

/-- The slices that the edge of tree `t` clocks. -/
def State.clockedSlices (s : State) (d t : Nat) : List Nat :=
  ((s.regs.filter fun e => decide (e.1.f = .slc .CFG_USED) && e.1.u == 1 + d && e.2 == 1).map fun e => e.1.j).filter fun m =>
    s.sliceRuns d m && s.has (.slc .CFG_TREE) (1 + d) m t

/-- One edge of a slice's tree: each stage takes what the one before holds, or every register loads 0 under a reset (R115,
R116). `old` is the state before the edge. -/
def State.clockSlice (old : State) (d m : Nat) (s : State) : State :=
  if old.sliceReset d m then s.clearSlice d m else s.advanceSlice old d m (old.slicePortSet d m)

/-! ### The edge as a whole -/

/-- One edge of clock tree `t` of die `d` (R86, R88): every register that the tree clocks takes what its inputs were in the
cycle that ends, and the strobe of that cycle is over (R91). -/
def State.clockEdge (s : State) (d t : Nat) : State :=
  let after : State := { s with ffs := s.nextFfs d t, portOuts := s.nextPorts d t, hops := s.nextHops d t }
  let after := each (s.clockedSlices d t) (fun m a => s.clockSlice d m a) after
  let after := (after.shiftResets d t).clockPins d t
  (after.wr (.fab .strobe) (1 + d) t 0).spend

/-! ### Resets and held values -/

/-- The INIT of a cell of the plane, as an entry of the flip-flops; none for another word, or an INIT of 0. -/
def initEntry (e : Nat × Nat) : Option (Nat × Nat) :=
  let k := e.1 % 2 ^ 24
  if k < 9830400 ∧ 135 ≤ k % 200 ∧ k % 200 < 199 ∧ e.2.testBit 24 then
    some (ffKey (e.1 / 2 ^ 24) (k / 200) (k % 200 - 135), 1)
  else none

/-- The flip-flops of the tiles that meet `p`, as 49152 d + n, take INIT, and their hop arrival registers hold 0 (R86, R89,
R404). -/
def State.loadInit (s : State) (p : Nat → Bool) : State :=
  { s with
    ffs := ((s.plane.filterMap initEntry).filter fun e => p (e.1 / 64)).foldl
      (fun m e => Sparse.set id (fun _ => 0) m e.1 e.2) (Sparse.clear (fun k => p (k / 64)) s.ffs)
    hops := Sparse.clear (fun k => p (k / 288)) s.hops }

/-- A tile of niche `x` of die `d`, as 49152 d + n. -/
def tileInNiche (d x k : Nat) : Bool := k / 49152 == d && nicheOf (k % 256) (k % 49152 / 256) == x

/-- The isolation cells of a niche engage: each holds what its launch presented last (R397). -/
def State.engageCells (s : State) (d x : Nat) : State :=
  if x = 8 ∨ s.engaged d x then s
  else
    { s with
      isoHeld := ((s.placedTiles d).filter fun n => nicheOf (n % 256) (n / 256) == x).foldl
        (fun m n => ((s.tileLaunches d n).filter fun i => crossesNiche (n % 256) (n / 256) (i / 72) (i % 72)).foldl
          (fun m i => Sparse.set id (fun _ => 0) m (hopKey d n i) 1) m)
        (Sparse.clear (fun k => tileInNiche d x (k / 288)) s.isoHeld) }

/-- A change of NCH_ISO(x, j) to HOLD holds the value that is driven (R397). -/
def State.holdDriven (s : State) (d x j was : Nat) : State :=
  if s.engaged d x && was != 0 && s.isoCode d x j == 0 then
    { s with
      isoHeld := (borderLaunches x j).foldl
        (fun m q => Sparse.set id (fun _ => 0) m (hopKey d q.1 (72 * q.2 + j)) (b2n (was == 2))) s.isoHeld }
  else s

/-- The strobe of a tick goes out to every tree whose clock runs (R45 step 5, R91). -/
def State.sendStrobes (s : State) : State :=
  each (dies.filter fun d => s.fabricRuns d) (fun d s =>
    each ((List.range 16).filter fun t => s.rd (.fab .TREE_DEPTH) (1 + d) t != 0)
      (fun t s => s.wr (.fab .strobe) (1 + d) t 1) s) s

end Sys2Proof.Machine
end

