-- ==== Sys2Proof/Machine/Paths.lean ====
section
/-! DEFINITION. The paths on which the device speaks: the two CAN controllers, numbers 0 and 1, and the UDP transport to
OD_HOST, number 2 (R455, R467). -/

namespace Sys2Proof.Machine

/-- Whether controller `c` may send: enabled, with PROTO, not in bus-off, and the slot ID valid (R453, R455). -/
def State.canTalks (s : State) (c : Nat) : Bool :=
  s.has (.od .NODE_VALID) 0 0 1 && s.has (.od .CAN_EN) 0 c 1 && s.has (.od .CAN_PROTO) 0 c 1 && !s.has (.od .CAN_STATE) 0 c 2

/-- Whether an IPv4 address lies in the prefix of the management port. -/
def State.inPrefix (s : State) (a : Nat) : Bool :=
  let k := 2 ^ (32 - s.rd (.od .ETH_PREFIX))
  a / k == s.rd (.od .ETH_ADDR) / k

/-- Whether a datagram to address `a` can be sent: inside the prefix, or through OD_GW (R457). -/
def State.canReach (s : State) (a : Nat) : Bool := s.inPrefix a || s.rd (.od .GW_ADDR) != 0

/-- Whether the UDP transport sends messages of its own: enabled, with a host that it can reach (R455, R457). -/
def State.udpTalks (s : State) : Bool :=
  s.has (.od .ETH_EN) 0 0 1 && s.has (.od .ETH_LINK) 0 0 1 && s.rd (.od .HOST_ADDR) != 0 && s.canReach (s.rd (.od .HOST_ADDR))

/-- The paths on which the device speaks by itself. -/
def State.paths (s : State) : List Nat :=
  ([0, 1].filter fun c => s.canTalks c) ++ if s.udpTalks then [2] else []

/-- The KIND of a message of the device's own (R467, R494); the boot-up message is a heartbeat. -/
def ownKind (k : OutKind) : Nat :=
  match k with
  | .emcy => 5
  | .heartbeat | .bootUp => 6
  | .tpdo => 7
  | .monitor => 0x12
  | _ => 0

/-- A message of the device's own goes out on path `p`; over UDP it begins with SEQ, which counts per kind (R466). -/
def State.sendOn (s : State) (k : OutKind) (data : List Nat) (p : Nat) : State :=
  if p = 2 then
    let n := s.rd (.od .udpSeq) 0 (ownKind k)
    (s.wr (.od .udpSeq) 0 (ownKind k) (n + 1)).emit k 2 (n :: data)
  else s.emit k p data

/-- A message of the device's own goes out on every path (R455). -/
def State.sendAll (s : State) (k : OutKind) (data : List Nat) : State := each s.paths (fun p s => s.sendOn k data p) s

/-- Whether 0x1014 disables emergencies on CAN (R478). -/
def State.emcyOff (s : State) : Bool := (Sparse.get (fun _ => 0) s.odVals (256 * 0x1014)).testBit 31

/-- An emergency goes out on every path, as code, error register, EVENT and ARG (R474). -/
def State.sendOut (s : State) (e : Emcy) : State :=
  each (s.paths.filter fun p => p == 2 || !s.emcyOff) (fun p s => s.sendOn .emcy [e.code, e.reg, e.event, e.arg] p) s

end Sys2Proof.Machine
end

