-- ==== Sys2Proof/Machine/TickOps.lean ====
section
/-! DEFINITION. Runs and boundaries (R39 to R55): the start of a run, the commit of a tick, the opening of the next, and
the release of a halt. -/

namespace Sys2Proof.Machine

/-- Whether the time base is locked (R31): a free-running one always is. -/
def State.locked (s : State) : Bool := s.has (.tick .SRC_LOCKED) 0 0 1 || s.has (.tick .SRC_SRC) 0 0 0

/-- LOCKED and its mirror set (R72). -/
def State.setLocked (s : State) (b : Bool) : State :=
  (s.wr (.tick .SRC_LOCKED) 0 0 (b2n b)).wr (.tick .STATE_LOCKED) 0 0 (b2n b)

/-- Whether an image is active. -/
def State.imageActive (s : State) : Bool := s.has (.cfg .STAT_ACTIVE) 0 0 1

/-- Whether a partial load of a niche that is not live is in progress: ARM and RESUME are not valid (R402). -/
def State.nicheBlocks (s : State) : Bool :=
  s.has (.cfg .loadKind) 0 0 2 && s.has (.nch .STAT_LIVE) (1 + s.rd (.cfg .loadDie)) (s.rd (.cfg .loadNiche)) 0

/-- Boundary k_s in units of the time base. -/
def State.startAt (s : State) : Nat := s.boundaryAt (s.rd (.tick .START_INDEX))

/-- The cases of R41 but for code 7, lowest code first; 0 where none applies. R41 lists none for a period above the range of
R32, which TICK_PERIOD can hold: it is accepted (log entry 108). -/
def State.startRefusal (s : State) (resume : Bool) : Nat :=
  let p := s.rd (.tick .PERIOD_P)
  let g := s.rd (.tick .GUARD_G)
  let gmin := s.rd (.tick .GMIN_GMIN)
  let grp := s.has (.tick .GROUP_EN) 0 0 1
  if s.startAt < s.time + nsec 20000 || decide (nsec (2 ^ 64 - 1) < s.startAt) then 1
  else if p < s.rd (.tick .PMIN_PMIN) then 2
  else if g < gmin || decide (65535 < g) || decide (p < g + 1000) then 3
  else if !s.imageActive then 4
  else if !s.locked then 5
  else if resume && s.has (.tick .STATE_RESUMABLE) 0 0 0 then 6
  else if grp && (decide (g < gmin + 2 * s.rd (.tick .GROUP_NOTICE)) || s.has (.tick .GROUP_MASTER) 0 0 0) then 8
  else 0

/-- A used bank is ON again: RETENTION keeps its content, OFF and TEST are blanked (R148, R151). -/
def State.bankToOn (s : State) (q : Nat × Nat) : State :=
  let st := s.bankPwr q.1 q.2
  let s := if st = 0 ∨ st = 3 then s.blankBank q.1 q.2 else s
  ((s.wr (.bank .STAT_PWR) (1 + q.1) q.2 1).wr (.bank .STAT_BUSY) (1 + q.1) q.2 0).wr (.bank .goal) (1 + q.1) q.2 0

/-- Banks that a run needs are ON again before boundary k_s (R151). -/
def State.banksToOn (s : State) : State := each s.allUsedBanks (fun q s => s.bankToOn q) s

/-- The run reset on registers of user logic: every flip-flop takes INIT, hop arrivals and slices hold 0 (R78, R86, R89, R116). -/
def State.resetFlops (s : State) : State := (s.loadInit fun _ => true).resetKeys fun k => isSliceReg k.f

/-- The run reset: user logic, and every lock is released (R89, R147). -/
def State.runReset (s : State) : State := s.resetFlops.dropAllLocks

/-- What an accepted ARM and an accepted RESUME have in common: ARMED for boundary k_s, the watchdog reloaded, LATE
cleared, banks ON, remote caches emptied, the run reset asserted (R42, R43, R66, R73, R92, R151, R157). -/
def State.armCommon (s : State) (fresh : Bool) : State :=
  let s := s.setTick 1
  let s := s.wr (.tick .fresh) 0 0 (b2n fresh)
  let s := s.wr (.tick .kNext) 0 0 (s.rd (.tick .START_INDEX))
  let s := s.wr (.tick .WDOG_REMAIN) 0 0 (s.rd (.tick .WDOG_PERIOD))
  let s := s.resetKeys fun k => decide (k.f = .tick .UNIT_LATE)
  let s := each [TickF.wait, .decided, .ended, .midTick, .heldCause, .heldMask, .grpSeen, .grpVoid, .grpCommit, .grpSent]
    (fun f s => s.wr (.tick f) 0 0 0) s
  s.banksToOn.flushCaches.runReset

/-- The effects of an accepted ARM at once (R42, R63, R251, R284, R489, R520): a fresh run. -/
def State.armFresh (s : State) : State :=
  let s := s.armCommon true
  let s := each [TickF.VOID_CAUSE_CAUSE, .VOID_CAUSE_UNIT, .VOID_CAUSE_WHERE, .VOID_CAUSE_MASK, .VOID_CAUSE_TICK]
    (fun f s => s.wr (.tick f) 0 0 0) s
  let s := s.resetKeys fun k => decide (k.f = .tick .SLACK_LAST_VALID)
  let s := s.wr (.dbg .STAT_TOUCHED) 0 0 0
  let s := s.wr (.tick .STATE_RESUMABLE) 0 0 (slice (s.rd (.cfg .actFlags)) 1 1)
  let s := s.resetKeys fun k => decide (k.f = .od .FPORT_OPEN)
  s.flushTickQueues.caravanArm

/-- The master's START frame (R68, R305). -/
def State.sendStart (s : State) : State :=
  let n := s.rd (.tick .NUMBER)
  let o := s.rd (.tick .ORIGIN)
  let k := s.rd (.tick .START_INDEX)
  let p := s.rd (.tick .GROUP_PORT)
  s.giveFrame p 0 (s.groupImage p
    [1 + s.rd (.tick .GROUP_ID) * 16, n % 2 ^ 48, n / 2 ^ 48,
      s.rd (.tick .PERIOD_P) + s.rd (.tick .GUARD_G) * 2 ^ 26, o % 2 ^ 48, o / 2 ^ 48, k % 2 ^ 48, k / 2 ^ 48])

/-- An output tick latch takes its configured initial value (R42). -/
def State.latchInit (s : State) (q : Nat × Nat) : State :=
  let u := 1 + q.1
  let v := s.rd (.fab .IOCFG_INIT) u q.2
  let e := s.rd (.fab .IOCFG_INIT_OE) u q.2
  let s := (((s.wr (.fab .outV) u q.2 v).wr (.fab .outOE) u q.2 e).wr (.fab .samV) u q.2 v).wr (.fab .samOE) u q.2 e
  if e = 1 then s.drove q.1 q.2 v else s

/-- What a fresh run does at boundary k_s before the first strobe (R42). -/
def State.startFresh (s : State) : State :=
  let s := s.runReset
  let s := each s.pairedBanks (fun q s => s.startFullBlank q) s
  let s : State := { s with mailboxes := [] }
  let s := s.resetKeys fun k => decide (k.f = .fab .safeNow)
  each s.tickOutPins (fun q s => s.latchInit q) s

/-- What a continued run does at boundary k_s (R43, R143). The number is that which follows the last committed tick; after the
void of an ARMED fresh run whose first boundary never came it is that of the run before (log entry 109). -/
def State.startAgain (s : State) : State :=
  let s := s.runReset
  let s := each s.pairedBanks (fun q s => s.startWriteBlank q) s
  let s := s.emptyWriteSides
  let s := s.resetKeys fun k => decide (k.f = .fab .safeNow)
  s.wr (.tick .NUMBER) 0 0 (s.rd (.tick .nextNumber))

/-- The level of an input pin at a boundary: the one driven from outside, or what the pin rests on; a floating pin samples a
free value; a bank that is off reads 0 (R52, R99, R561). -/
def State.samplePin (s : State) (pins : List (Nat × Nat × Nat)) (q : Nat × Nat) : State :=
  let u := 1 + q.1
  let set := fun (s : State) (v : Nat) => s.wr (.fab .tickIn) u q.2 v
  if s.has (.fab .IOSTAT_BANK_OFF) u 0 1 then set s 0
  else
    match pins.find? fun x => x.1 == q.1 && x.2.1 == q.2 with
    | some x => (set s x.2.2).wr (.fab .keep) u q.2 x.2.2
    | none =>
      match s.restLevel q.1 q.2 with
      | some v => set s v
      | none => (set s (s.freeValue 1)).spend

/-- Input tick latches sample their pins (R45 step 4). -/
def State.sampleInputs (s : State) (pins : List (Nat × Nat × Nat)) : State :=
  each s.tickInPins (fun q s => s.samplePin pins q) s

/-- The deadline of the tick in progress, in units of the time base (R35). -/
def State.deadline (s : State) : Nat := s.boundaryAt (s.rd (.tick .kNext)) - nsec (s.rd (.tick .GUARD_G))

/-- Plinth unit 0 is done once the walk is complete and every frame of the tick has been handed over, the last at `t`; its
slack is measured from the later of the two (R38, R60, R272). -/
def State.plinthDone (s : State) (t : Nat) : State :=
  let t := max t (s.rd (.cvn .walkEnd))
  if s.has (.tick .UNIT_PRESENT) 0 0 1 && s.built.isEmpty && decide (t ≤ s.deadline) then
    (s.wr (.tick .done) 0 0 1).wr (.tick .doneSlack) 0 0 ((s.deadline - t) / 65536)
  else s

/-- The walk begins 50 ns after the boundary and takes its time (R45 step 8, R272). -/
def State.walkTimed (s : State) : State :=
  let t := s.boundaryAt (s.rd (.tick .kCur)) + nsec (50 + s.rd (.cvn .walkNow))
  (s.wr (.cvn .walkEnd) 0 0 t).plinthDone t

/-- A tick opens: strobes go out, presented host writes are those pending now, and the engines walk (R45 steps 5
and 8, R491). A walk that voids does so here. -/
def State.openTick (s : State) : State :=
  let s := s.resetKeys fun k => decide (k.f = .tick .done) || decide (k.f = .tick .doneSlack)
  let s := each [TickF.decided, .ended, .midTick, .grpSeen, .grpVoid, .grpCommit, .grpSent] (fun f s => s.wr (.tick f) 0 0 0) s
  let s : State := { s with fwrites := s.fwrites.map fun w => { w with shown := true, taken := false }, matched := [] }
  let s := s.sendStrobes
  match s.walk with
  | (0, s) => s.walkTimed
  | (cause, s) => s.voidTick cause 0 0

/-- The time base stands at the next boundary, whose index becomes the tick's (R33). -/
def State.reachBoundary (s : State) : State :=
  let k := s.rd (.tick .kNext)
  ((s.at (s.boundaryAt k)).wr (.tick .kCur) 0 0 k).wr (.tick .kNext) 0 0 (k + 1)

/-- ARMED reaches boundary k_s: the run begins (R40, R42, R43). -/
def State.firstBoundary (s : State) (pins : List (Nat × Nat × Nat)) : State :=
  let s := s.reachBoundary
  let s := if s.has (.tick .fresh) 0 0 1 then s.startFresh else s.startAgain
  let s := s.wr (.tick .nextNumber) 0 0 (s.rd (.tick .NUMBER))
  let s := s.applyCtxWrites
  let s := s.queuesCommit s.tickTag
  let s := s.sampleInputs pins
  (s.wr (.tick .STATE_STATE) 0 0 2).openTick

/-- The units of place `u` that the image uses (R73 PRESENT). -/
def State.presentUnits (s : State) (u : Nat) : List Nat :=
  (List.range 16).filter fun k => s.has (.tick .UNIT_PRESENT) u k 1

/-- Whether a present unit is done: its task cycles are complete and every T-class request that it has issued has its
response; the Plinth's unit 0 when the walk is complete and every frame handed over (R37, R38). -/
def State.unitDone (s : State) (u k : Nat) : Bool :=
  s.has (.tick .done) u k 1 && (if u = 0 then s.built.isEmpty else !s.unitWaits u k)

/-- The slack of a fabric unit is measured at the later of the completion of its task cycles and its last T-class response
(R37, R60): the present time is the later so far. -/
def State.recordDone (s : State) (u k : Nat) : State :=
  if s.tick = 2 ∧ s.unitDone u k ∧ s.time ≤ s.deadline then s.wr (.tick .doneSlack) u k ((s.deadline - s.time) / 65536) else s

/-- The first of the units with the least slack. -/
def leastSlack : List (Nat × Nat) → Option (Nat × Nat)
  | [] => none
  | x :: l =>
    match leastSlack l with
    | none => some x
    | some y => if y.2 < x.2 then some y else some x

/-- A die records the slack of a committed tick, and warns below its threshold, with an emergency at most once in any 1,024
ticks (R61, R73). TICK_WARN_COUNT holds at its largest value (log entry 110). -/
def State.recordSlack (s : State) (d : Nat) : State :=
  let u := 1 + d
  let l := (s.presentUnits u).map fun k => (k, s.rd (.tick .doneSlack) u k)
  let s := each l (fun x s => s.wr (.tick .UNIT_SLACK) u x.1 x.2) s
  match leastSlack l with
  | none => s
  | some (k, v) =>
    let s := (s.wr (.tick .SLACK_LAST_SLACK) u 0 v).wr (.tick .SLACK_LAST_UNIT) u 0 k
    let s := if v < s.rd (.tick .SLACK_MIN_SLACK) u 0 then
        (s.wr (.tick .SLACK_MIN_SLACK) u 0 v).wr (.tick .SLACK_MIN_UNIT) u 0 k
      else s
    if s.rd (.tick .SLACK_WARN_THRESH) u 0 ≠ 0 ∧ v < s.rd (.tick .SLACK_WARN_THRESH) u 0 then
      let s := (s.inc (.tick .WARN_COUNT_COUNT) u 0).wr (.tick .STATE_WARN) 0 0 1
      if s.has (.tick .warnLeft) 0 0 0 then
        State.raiseEvent (s.wr (.tick .warnLeft) 0 0 1024) 0x6110 (0x10 + d) (v + k * 2 ^ 26 + 2 ^ 30)
      else s
    else s

/-- The slack of every unit of the committed tick; a tick that an immediate halt has interrupted records none
(R513). Every die's SLACK_LAST.VALID says that a tick has committed (R73). -/
def State.recordSlacks (s : State) : State :=
  let s := s.wr (.tick .warnLeft) 0 0 (s.rd (.tick .warnLeft) - 1)
  let s := each dies (fun d s => s.wr (.tick .SLACK_LAST_VALID) (1 + d) 0 1) s
  if s.has (.tick .midTick) 0 0 1 then s
  else
    let s := if s.has (.tick .UNIT_PRESENT) 0 0 1 then s.wr (.tick .UNIT_SLACK) 0 0 (s.rd (.tick .doneSlack) 0 0) else s
    each dies (fun d s => s.recordSlack d) s

/-- Output tick latches drive what they sampled at the deadline (R95). -/
def State.latchesUpdate (s : State) : State :=
  each s.tickOutPins (fun q s =>
    let u := 1 + q.1
    let s := (s.wr (.fab .outV) u q.2 (s.rd (.fab .samV) u q.2)).wr (.fab .outOE) u q.2 (s.rd (.fab .samOE) u q.2)
    if s.has (.fab .samOE) u q.2 1 then s.drove q.1 q.2 (s.rd (.fab .samV) u q.2) else s) s

/-- The sides of a tick-paired bank flip; in BLANK mode the new write side begins to be blanked (R143). -/
def State.flipBank (s : State) (q : Nat × Nat) : State :=
  let s := s.wr (.bank .readHalf) (1 + q.1) q.2 (1 - s.rd (.bank .readHalf) (1 + q.1) q.2)
  if s.has (.bank .CFG_FLIP) (1 + q.1) q.2 0 then s.startWriteBlank q else s

/-- Staged updates of fabric objects commit, and writes taken in the tick leave their list (R490, R491). -/
def State.objectsCommit (s : State) : State :=
  { s with
    fvals := s.fstaged.foldl (fun m u => Sparse.set id (fun _ => 0) m (256 * u.idx + u.sub) u.value) s.fvals
    fstaged := []
    fwrites := s.fwrites.filter fun w => !w.taken }

/-- Poison consumed under the report policy in a tick that commits (R133). -/
def State.poisonCommit (s : State) : State :=
  let s := each dies (fun d s =>
    if s.has (.tick .poisonMark) (1 + d) 0 1 then s.wr (.bank .ERRLOG_CONSUMED) (1 + d) 0 1 else s) s
  s.resetKeys fun k => decide (k.f = .tick .poisonMark)

/-- Step 4 of R45: the committed boundary takes effect, in storage, staging and the tick number. -/
def State.commitBoundary (s : State) (pins : List (Nat × Nat × Nat)) : State :=
  let s := s.recordSlacks
  let s := if s.has (.tick .WDOG_PERIOD) 0 0 0 then s
    else s.wr (.tick .WDOG_REMAIN) 0 0 (s.rd (.tick .WDOG_REMAIN) - 1)
  let s := s.sampleInputs pins
  let s := s.latchesUpdate
  let s := s.swapMailboxes
  let s := each s.pairedBanks (fun q s => s.flipBank q) s
  let s := s.rotateCaches
  let s := s.caravanCommit
  let s := s.applyCtxWrites
  let s := s.objectsCommit
  let s := s.poisonCommit
  let n := s.rd (.tick .NUMBER) + 1
  let s := (s.wr (.tick .NUMBER) 0 0 n).wr (.tick .nextNumber) 0 0 n
  let s := if s.rd (.sec .STAT_DBG_LEVEL) = 0 then s else s.wr (.sec .tokCount) 0 0 (s.rd (.sec .tokCount) + 1)
  s.queuesCommit s.tickTag

/-- DBG_STAT (R520). -/
def State.dbgStat (s : State) : Nat :=
  s.packed ([DbgF.STAT_HALT, .STAT_PENDING, .STAT_TOUCHED, .STAT_STEPPING, .STAT_STEPS, .STAT_CAUSE, .STAT_CMP, .STAT_UNIT,
    .STAT_DROPPED, .STAT_AUTOREL, .STAT_LOST, .STAT_QUEUED].map Fld.dbg) 0 0

/-- A monitor event goes to OD_HOST over the UDP transport (R494, R495). -/
def State.monitorEvent (s : State) : State :=
  if s.udpTalks then s.sendOn .monitor (beBytes 6 s.dbgStat ++ beBytes 8 (s.rd (.tick .NUMBER))) 2 else s

/-- The tick goes to HALTED at a boundary or in the middle of a tick (R504, R505): `kind` 1 or 2, `cause` as
DBG_STAT.CAUSE. -/
def State.enterHalt (s : State) (kind cause : Nat) : State :=
  let s := s.wr (.tick .STATE_STATE) 0 0 5
  let s := s.wr (.dbg .STAT_HALT) 0 0 kind
  let s := s.wr (.dbg .STAT_CAUSE) 0 0 cause
  (s.wr (.dbg .STAT_PENDING) 0 0 0).monitorEvent

/-- What follows a committed boundary: PAUSED or STOPPED, a halt, or the next tick (R40, R504, R510). A request that came
after step 3 of R45 leaves the boundary out. -/
def State.afterBoundary (s : State) : State :=
  let later := s.has (.dbg .later) 0 0 1
  let s := s.wr (.dbg .later) 0 0 0
  let counts := s.has (.dbg .STAT_STEPPING) 0 0 1 && !later
  let s := if counts then s.wr (.dbg .STAT_STEPS) 0 0 (s.rd (.dbg .STAT_STEPS) - 1) else s
  let ends := counts && s.has (.dbg .STAT_STEPS) 0 0 0
  let w := s.rd (.tick .wait)
  if w ≠ 0 then
    let s := if s.has (.dbg .STAT_PENDING) 0 0 1 || s.has (.dbg .STAT_STEPPING) 0 0 1 then
        s.wr (.dbg .STAT_DROPPED) 0 0 1 else s
    let s := (((s.wr (.dbg .STAT_PENDING) 0 0 0).wr (.dbg .STAT_STEPPING) 0 0 0).wr (.dbg .STAT_STEPS) 0 0 0)
    let s := (s.wr (.tick .wait) 0 0 0).wr (.tick .decided) 0 0 0
    s.setTick (if w = 1 then 3 else 0)
  else if ends then ((s.wr (.dbg .STAT_STEPPING) 0 0 0).wr (.tick .decided) 0 0 0).enterHalt 1 2
  else if s.has (.dbg .STAT_PENDING) 0 0 1 && !later then
    (s.wr (.tick .decided) 0 0 0).enterHalt 1 (s.rd (.dbg .STAT_CAUSE))
  else s.openTick

/-- Whether a module of a group may commit: a member with the group's commit, the master once it has sent it (R69). -/
def State.groupAllows (s : State) : Bool :=
  s.has (.tick .GROUP_EN) 0 0 0 ||
    (if s.has (.tick .GROUP_MASTER) 0 0 1 then s.has (.tick .grpSent) 0 0 1 else s.has (.tick .grpCommit) 0 0 1)

/-- The boundary that ends a tick with commit decided (R45): the watchdog or a missing group decision voids in its
place (R66, R69). -/
def State.endTick (s : State) (pins : List (Nat × Nat × Nat)) : State :=
  let s := s.at (s.boundaryAt (s.rd (.tick .kNext)))
  if s.rd (.tick .WDOG_PERIOD) ≠ 0 ∧ s.rd (.tick .WDOG_REMAIN) = 0 then s.voidTick 0x0F 0 0
  else if !s.groupAllows then s.voidTick 0x0B 0 0
  else (s.reachBoundary.commitBoundary pins).afterBoundary.takeHeld

/-- The time base reaches a boundary with levels driven on input pins (R45): ARMED begins its run, and a RUNNING tick whose
commit is decided ends. -/
def State.boundary (s : State) (pins : List (Nat × Nat × Nat)) : State :=
  if s.tick = 1 then s.firstBoundary pins
  else if s.tick = 2 ∧ s.rd (.tick .decided) = 1 then s.endTick pins
  else s

/-- The fabric clocks of every die with an active image run again after a halt. -/
def State.clocksOn (s : State) : State :=
  each dies (fun d s =>
    let s := s.wr (.fab .clocksRun) (1 + d) 0 (b2n (s.has (.fab .STATE_STATE) (1 + d) 0 3))
    each (List.range 16) (fun t s => s.wr (.dbg .TREEPOS_STOPPED) (1 + d) t 0) s) s

/-- A release of a halt at time index `k` (R506, R508, R512): a cause recorded while HALTED voids the tick; after a
boundary halt the tick opens at the boundary; after an immediate halt the tick in progress goes on. -/
def State.release (s : State) (k : Nat) (pins : List (Nat × Nat × Nat)) : State :=
  let kind := s.rd (.dbg .STAT_HALT)
  let s := s.wr (.dbg .STAT_HALT) 0 0 0
  let s := s.clocksOn
  let s := s.wr (.tick .WDOG_REMAIN) 0 0 (s.rd (.tick .WDOG_PERIOD))
  if s.rd (.tick .heldCause) ≠ 0 then
    s.voidSequence (s.rd (.tick .heldCause)) (s.rd (.tick .heldUnit)) (s.rd (.tick .heldWhere))
  else
    let s := s.wr (.tick .kNext) 0 0 k
    if kind = 2 then s.setTick 2
    else ((s.reachBoundary.wr (.tick .STATE_STATE) 0 0 2).sampleInputs pins).openTick.takeHeld

/-- The least time index whose boundary falls at or after `t` (R506). -/
def State.indexFrom (s : State) (t : Nat) : Nat :=
  let p := s.rd (.tick .PERIOD_P)
  let o := nsec (s.rd (.tick .ORIGIN))
  if t ≤ o ∨ p = 0 then 0 else (t - o + nsec p - 1) / nsec p

end Sys2Proof.Machine
end

