-- ==== Sys2Proof/Machine/Erg.lean ====
section
/-! DEFINITION. The commands of the Erg network (R162 to R197), but for the addressed requests, which their targets
serve. -/

namespace Sys2Proof.Machine

/-- A network interface or router of the device: unit `u` and number `k` (R162, R166). -/
def okNi (u k : Nat) : Bool := decide (u ≤ Config.n) && decide (k < 16)

/-- A fabric channel. -/
def okCh (c : Nat) : Bool := decide (c < 4)

/-! ### Requests of the fabric side -/

/-- Whether D of the tick in progress has passed at the present time (R35). -/
def State.afterDeadline (s : State) : Bool := s.tick == 2 && (s.has (.tick .ended) 0 0 1 || decide (s.deadline < s.time))

/-- A command quad of NI `ni` on channel `ch` is taken (R187): a T-class one after D voids the tick. -/
def State.takeCommand (s : State) (ni ch : Nat) (g : State → State) : State :=
  if s.has (.erg .CH_CFG_EN) (ni / 16) (4 * (ni % 16) + ch) 0 || ni < 16 then s
  else if s.chClass ni ch = 0 ∧ s.afterDeadline then s.voidTick 0x06 0 (ni / 16)
  else
    let s := g s
    if s.chClass ni ch = 0 then s.recordDone (ni / 16) (s.niUnit ni) else s

/-- The packet of a read side with index `i`. -/
def State.mboxPacket (s : State) (ni m i : Nat) : Option MPkt := (s.mboxSide ni m true)[i]?

/-- The answer to a mailbox command that reads. -/
def State.answerRead (s : State) (ni ch type peer seq status : Nat) (body : List Quad) : State :=
  State.deliverDecided { s with txns := s.txns ++
    [⟨ni, ch, 0, 0, false, 0, peer, s.chClass ni ch, type, 0, 0, seq, some ⟨status, 0, body⟩⟩] }

/-- A read of a mailbox (R187): payload quad `q` of packet `i` of the read side of mailbox `m`; ADDRESS where there is none. -/
def State.mread (s : State) (ni ch m i q : Nat) : State :=
  match (if s.mboxEnabled ni m then (s.mboxPacket ni m i).bind fun p => (p.body[q]?).map fun x => (p, x) else none) with
  | none => s.answerRead ni ch 5 0 0 1 []
  | some (p, x) =>
    let s := s.answerRead ni ch 5 p.src p.seq 0 [x]
    if (tagMask x.tag 0).getD 0 = 0 then s else s.consumePoison (ni / 16)

/-- A count of a mailbox (R187): the read side's packet count and quads in use; ADDRESS for a mailbox that is not enabled. -/
def State.mcount (s : State) (ni ch m : Nat) : State :=
  if s.mboxEnabled ni m then
    let l := s.mboxSide ni m true
    s.answerRead ni ch 6 0 0 0 [⟨l.length, quadsIn l, 0, 0, 0⟩]
  else s.answerRead ni ch 6 0 0 1 []

/-- The quads of a command's payload: as many as COUNT asks for, unmarked, under the channel's tag (R176, R187). -/
def State.payload (s : State) (ni ch count : Nat) (words : List Nat) : List Quad :=
  let k := (countOf count + 3) / 4
  let all := (words ++ List.replicate (4 * k) 0).take (4 * k)
  quadsOf (s.tagOf (s.chClass ni ch)) k (all.map fun w => (low 48 w, false))

/-- FABRIC_REQUEST_ISSUE (R187): at time `t`, channel `c` of NI `k` of die `d` takes a command quad (ENTRY, AUTO, TYPE,
COUNT, MBOX, address, SEQ, PRIO, the type-specific bits of AUX) and its payload words; it is checked for route and
address and sent as a request. `bad` names the quads whose lines in the die's remote cache have failed parity since they were
filled (R156). -/
def execFabricRequestIssue (d k c entry : Nat) (auto : Bool) (type count mbox addr seq prio aux : Nat) (words : List Nat) (t : Nat)
    (s : State) (bad : List Nat := []) : Answer :=
  actCore (okDie d && okNi 0 k && okCh c && decide (entry < 1024) && decide (type < 16) && decide (count < 128) &&
      decide (mbox < 4) && decide (addr < 2 ^ 48) && decide (seq < 2 ^ 16) && decide (prio < 4) && decide (t < 2 ^ 80)) s
    (let ni := 16 * (1 + d) + k
     if !s.fabricRuns d then s
     else
       ((s.at t).strikeLines d bad).takeCommand ni c fun s =>
         match type with
         | 5 => s.mread ni c mbox (addr % 1024) (slice addr 10 6)
         | 6 => s.mcount ni c mbox
         | _ =>
           let body := if 1 ≤ type ∧ type ≤ 4 then s.payload ni c count words else []
           s.issue ni c ⟨entry, auto, type, count, mbox, addr, seq, prio, aux % 2 ^ 14, body⟩)

/-- MREAD (R187): at time `t`, channel `c` of NI `k` of die `d` reads quad `q` of packet `i` from the read side of the
NI's own mailbox `m`. -/
def execMread (d k c m i q t : Nat) (s : State) : Answer :=
  actCore (okDie d && okNi 0 k && okCh c && decide (m < 4) && decide (i < 1024) && decide (q < 64) && decide (t < 2 ^ 80)) s
    (if s.fabricRuns d then (s.at t).takeCommand (16 * (1 + d) + k) c fun s => s.mread (16 * (1 + d) + k) c m i q else s)

/-- MCOUNT (R187): at time `t`, channel `c` of NI `k` of die `d` reads the packet count and the quads in use of the
read side of mailbox `m`. -/
def execMcount (d k c m t : Nat) (s : State) : Answer :=
  actCore (okDie d && okNi 0 k && okCh c && decide (m < 4) && decide (t < 2 ^ 80)) s
    (if s.fabricRuns d then (s.at t).takeCommand (16 * (1 + d) + k) c fun s => s.mcount (16 * (1 + d) + k) c m else s)

/-! ### Arrivals -/

/-- A packet that fails R176 is discarded and counted; a T-class one voids the tick (R177). -/
def State.discardBad (s : State) (p : Pkt) : State :=
  let s := s.inc (.erg .NI_STAT_DISCARD) (p.dst / 16) (p.dst % 16)
  if p.cls = 0 then s.voidTick 0x05 0 (p.dst / 16) else s

/-- The channel that has issued a request, while its transaction is there. -/
def State.chanOf (s : State) (p : Pkt) : Option Nat :=
  (s.txns.find? fun t => t.ni == p.src && t.hasTid && t.tid == p.tid && t.gen == p.gen).map fun t => t.ch

/-- Whether two requests are delivered in the order of their issue: of one F-class or M-class channel, to one destination
(R22, R181). -/
def State.inOrder (s : State) (q p : Pkt) : Bool :=
  !q.rsp && !p.rsp && q.cls == p.cls && q.cls != 0 && q.src == p.src && q.dst == p.dst &&
    ((s.chanOf q).isNone || (s.chanOf p).isNone || s.chanOf q == s.chanOf p)

/-- Whether a packet in flight would overtake an earlier one that must be delivered before it. -/
def State.overtakes (s : State) (p : Pkt) : Bool := (s.net.takeWhile fun q => q != p).any fun q => s.inOrder q p

/-- A packet in flight reaches its destination NI in its order: it leaves the network and is checked (R177, R181); `g`
serves it. -/
def State.arrive (s : State) (p : Pkt) (ok : Bool) (g : State → State) : State :=
  if s.net.contains p && ok && !s.overtakes p then
    let s := s.deliverOut p
    if s.flitsOk p then g s else s.discardBad p
  else s

/-- Quads with their poison masks alone on the tag. -/
def State.untagged (s : State) (p : Pkt) : List Quad :=
  p.body.map fun q => { q with tag := flitTag 0 ((tagMask q.tag (s.tagOf p.cls)).getD 0) }

/-- Whether the fabric side of an NI takes requests (R193, R194). -/
def State.fabricSideOpen (s : State) (ni : Nat) : Bool := s.has (.erg .fabState) (ni / 16) (ni % 16) 0

/-- MBOX_REQUEST (R48): the MBOX packet `p` in flight reaches its NI and is filed into the write side of its mailbox by
source and sequence number, with ACK; ADDRESS where the mailbox is not enabled; past its limits the tick voids. -/
def execMboxRequest (p : Pkt) (s : State) : Answer :=
  actCore (okNi (p.dst / 16) (p.dst % 16)) s
    (s.arrive p (!p.rsp && p.type == 2) fun s =>
       let m := p.mbox % 4
       if p.dst < 16 || !s.mboxEnabled p.dst m then s.respondErr p p.dst 1 0
       else if !s.mboxRoom p.dst m p.body.length then s.voidTick 0x03 0 (p.dst / 16)
       else (s.fileMbox ⟨p.dst, m, false, s.logicalNi p.src, p.seq, s.untagged p⟩).respond p p.dst 1 0 0 [])

/-- POST_REQUEST (R188): the POST packet `p` in flight is delivered to its stream of the destination's fabric side, with
ACK; an NI without a fabric side answers TYPE, and a closed fabric side DOMAIN_OFF. -/
def execPostRequest (p : Pkt) (s : State) : Answer :=
  actCore (okNi (p.dst / 16) (p.dst % 16)) s
    (s.arrive p (!p.rsp && p.type == 4) fun s =>
       if p.dst < 16 then s.respondErr p p.dst 9 0
       else if !s.fabricSideOpen p.dst then s.respondErr p p.dst 4 0
       else
         State.respond { s with delivered := s.delivered ++
           [⟨p.dst, p.addr % 4, true, 0, s.logicalNi p.src, p.seq, 0, s.untagged p⟩] } p p.dst 1 0 0 [])

/-- The transaction that a response matches: TID and GEN agree and it is open (R185). -/
def State.matching (s : State) (p : Pkt) : Option Txn :=
  s.txns.find? fun t => t.ni == p.dst && t.hasTid && t.tid == p.tid && t.gen == p.gen && t.resp.isNone

/-- Whether a response meets a closed boundary of the domain that issued its request: that of its die, where it comes from
another unit, or that of the fabric side (R194). -/
def State.boundaryDrops (s : State) (p : Pkt) : Bool :=
  (s.domainOf (p.dst / 16) == 2 && p.src / 16 != p.dst / 16) || s.has (.erg .fabState) (p.dst / 16) (p.dst % 16) 2

/-- The quads that answer a read: of the words from `addr` on that the packet asked for, those of the transaction
(R155, R175). -/
def answerQuads (t : Txn) (addr : Nat) (l : List Quad) : List Quad :=
  quadsOf 0 32 (((markedWords 0 l).drop (t.addr - addr)).take t.count)

/-- The lines that a cacheable read's response fills: those of the quads that it holds whole; a quad that holds a poisoned word
fills none (R155). -/
def State.fillFrom (s : State) (t : Txn) (p : Pkt) (l : List Quad) : State :=
  let d := t.ni / 16 - 1
  let whole := fun (q : Nat) => decide (p.addr ≤ q) && decide (q + 4 ≤ p.addr + countOf p.count)
  if cacheable t.ni t.cls t.type (regionOf t.addr) && s.has (.bank .RC_CTRL_EN) (1 + d) 0 1 then
    each ((quadAddrs t.addr t.count).filter whole) (fun q s =>
      let ws := ((markedWords 0 l).drop (q - p.addr)).take 4
      if ws.any fun w => w.2 then s else s.fillLine d q (quadOf 0 ws)) s
  else s

/-- RESPONSE_ARRIVAL (R184): at time `t` the response `p` in flight reaches its initiating NI and is matched by TID and GEN,
or dropped and counted as LATE, which frees its quarantined TID; poison in a T-class response is consumed (R133). The last
T-class response of a unit completes it (R37). -/
def execResponseArrival (p : Pkt) (s : State) (t : Nat := 0) : Answer :=
  actCore (okNi (p.dst / 16) (p.dst % 16) && decide (t < 2 ^ 80)) s
    ((s.at t).arrive p p.rsp fun s =>
       if s.boundaryDrops p then s.inc (.erg .DOM_STAT_DROPPED) (p.dst / 16) 0
       else
         match s.matching p with
         | none =>
           let s := s.inc (.erg .NI_STAT_LATE) (p.dst / 16) (p.dst % 16)
           State.retryWaits { s with quarantine := s.quarantine.filter fun x => x ≠ (p.dst, p.tid, p.gen) }
         | some x =>
           let l := s.untagged p
           let s := if p.type = 0 then s.fillFrom x p l else s
           let body := if p.type = 0 ∧ x.type = 0 then answerQuads x p.addr l else l
           let s := s.decide' (fun y => y == x) ⟨p.status, p.aux, body⟩
           let s := if p.cls = 0 then s.recordDone (p.dst / 16) (s.niUnit p.dst) else s
           let s := s.retryWaits
           if p.cls = 0 && (body.any fun q => (tagMask q.tag 0).getD 0 != 0) then s.consumePoison (p.dst / 16) else s)

/-- Whether a request waits at a bank for a lock on one of its words (R146, R183). -/
def State.waitsAtLock (s : State) (t : Txn) : Bool :=
  s.bankWaits.any fun p => p.src == t.ni && p.tid == t.tid && p.gen == t.gen &&
    (match regionOf p.addr with
     | .bank d b a _ => (List.range (countOf p.count)).any fun i =>
         s.lockedBy d b 0 ((a + i) % 16384) || s.lockedBy d b 1 ((a + i) % 16384)
     | _ => false)

/-- REQUEST_TIMEOUT (R183): the timer of the F-class or M-class request with TID `tid` of NI `k` of unit `u` expires
and TIMEOUT is synthesized; while a router is CLOSING or CLOSED the timer is paused. Whether it runs while the request
waits for a lock is open: R183 says that it is paused, R146 and R511 that the wait counts (log entry 107). -/
def execRequestTimeout (u k tid : Nat) (s : State) : Answer :=
  actCore (okNi u k && decide (tid < 256)) s
    (let ni := 16 * u + k
     match s.txns.find? fun t => t.ni == ni && t.hasTid && t.tid == tid && t.resp.isNone && t.cls != 0 with
     | none => s
     | some t =>
       if s.routersBusy then s
       else if s.waitsAtLock t && s.freeValue 1 == 0 then s.spend
       else (((doIf (s.waitsAtLock t) State.spend s).inc (.erg .NI_STAT_TIMEOUTS) u k).decide' (fun x => x == t)
         ⟨5, 0, []⟩).retryWaits)

/-- TID_QUARANTINE_EXPIRY (R185): the quarantined TID `tid` of NI `k` of unit `u` becomes free again. -/
def execTidQuarantineExpiry (u k tid : Nat) (s : State) : Answer :=
  actCore (okNi u k && decide (tid < 256)) s
    (State.retryWaits { s with quarantine := s.quarantine.filter fun x => !(x.1 == 16 * u + k && x.2.1 == tid) })

/-! ### Routers -/

/-- The routers that are CLOSING or CLOSED. -/
def State.busyRouters (s : State) : Nat :=
  (s.regs.filter fun e => decide (e.1.f = .erg .RTR_STAT_STATE) && e.2 != 0).length

/-- ROUTER_CLOSE (R192): CLOSE is written for router `r` of unit `u`: it enters CLOSING, or the code of R191 is
recorded. -/
def execRouterClose (u r : Nat) (s : State) : Answer :=
  actCore (okNi u r) s
    (if s.rd (.erg .RTR_STAT_STATE) u r ≠ 0 then s
     else if s.tickLive && !s.noT u r then s.wr (.erg .RTR_STAT_REFUSE) u r 1
     else if 4 ≤ s.busyRouters then s.wr (.erg .RTR_STAT_REFUSE) u r 2
     else (s.wr (.erg .RTR_STAT_REFUSE) u r 0).wr (.erg .RTR_STAT_STATE) u r 1)

/-- The topology that router `r` of unit `u` is configured with is taken up by the NIs (R192 step 6). -/
def State.takeTopology (s : State) (u r : Nat) : State :=
  ((s.wr (.erg .topX) u r (s.rd (.erg .RTR_CFG_WRAP_X) u r)).wr (.erg .topY) u r (s.rd (.erg .RTR_CFG_WRAP_Y) u r)).wr
    (.erg .topMap) u r (s.rd (.erg .RTR_CFG_PMAP) u r)

/-- ROUTER_CLOSED (R192): the buffers of a CLOSING router have drained, and it enters CLOSED. -/
def execRouterClosed (u r : Nat) (s : State) : Answer :=
  actCore (okNi u r) s (if s.has (.erg .RTR_STAT_STATE) u r 1 then s.wr (.erg .RTR_STAT_STATE) u r 2 else s)

/-- ROUTER_CLOSE_TIMEOUT (R192): a CLOSING router has not drained within 100 µs: it returns to OPEN with REFUSE 3, and
the holds are released. -/
def execRouterCloseTimeout (u r : Nat) (s : State) : Answer :=
  actCore (okNi u r) s
    (if s.has (.erg .RTR_STAT_STATE) u r 1 then
       ((s.wr (.erg .RTR_STAT_STATE) u r 0).wr (.erg .RTR_STAT_REFUSE) u r 3).releaseHolds.retryWaits
     else s)

/-- ROUTER_OPEN (R192): OPEN is written for a CLOSED router: the NIs take up the new topology, release their holds in
order, and the router enters OPEN. -/
def execRouterOpen (u r : Nat) (s : State) : Answer :=
  actCore (okNi u r) s
    (if s.has (.erg .RTR_STAT_STATE) u r 2 then
       ((s.takeTopology u r).wr (.erg .RTR_STAT_STATE) u r 0).releaseHolds.retryWaits
     else s)

/-- Whether a port map is a permutation of the physical ports 0 to 5 (R191). -/
def isPermutation (pmap : Nat) : Bool :=
  (List.range 6).all fun p => (List.range 6).any fun c => slice pmap (3 * c) 3 == p

/-- ROUTER_CFG_WRITE (R190, R191): a write of `v` to ERG_RTR_CFG(r) (`reg` 0) or to ERG_DT(r, reg - 1) of unit `u` takes
effect only while the router is CLOSED. While no image is active ERG_RTR_CFG keeps its unconfigured values (R165). -/
def execRouterCfgWrite (u r reg v : Nat) (s : State) : Answer :=
  actCore (okNi u r && decide (reg ≤ 1024)) s
    (if s.rd (.erg .RTR_STAT_STATE) u r ≠ 2 then s.wr (.erg .RTR_STAT_REFUSE) u r 4
     else if 0 < reg then (s.wr (.erg .DT_CODE) u (1024 * r + (reg - 1)) v).wr (.erg .RTR_STAT_REFUSE) u r 0
     else if !isPermutation (slice v 2 18) then s.wr (.erg .RTR_STAT_REFUSE) u r 5
     else if !s.imageActive then s.wr (.erg .RTR_STAT_REFUSE) u r 0
     else
       (((s.wr (.erg .RTR_CFG_WRAP_X) u r v).wr (.erg .RTR_CFG_WRAP_Y) u r (v / 2)).wr (.erg .RTR_CFG_PMAP) u r
         (slice v 2 18)).wr (.erg .RTR_STAT_REFUSE) u r 0)

/-! ### Domains -/

/-- The fabric side of an NI drains or closes, and FABOFF shows it (R196). -/
def State.setFabState (s : State) (u k v : Nat) : State :=
  let f := s.rd (.erg .DOM_STAT_FABOFF) u 0
  let f := if v = 0 then f - slice f k 1 * 2 ^ k else f ||| 2 ^ k
  (s.wr (.erg .fabState) u k v).wr (.erg .DOM_STAT_FABOFF) u 0 f

/-- A boundary enters DRAINING (R194): `k` below 16 is the fabric side of NI `k` of unit `u`, 16 the die's own. -/
def State.drain (s : State) (u k : Nat) : State :=
  if k < 16 then (if s.has (.erg .fabState) u k 0 then s.setFabState u k 1 else s)
  else if s.domainOf u = 0 then (s.wr (.erg .DOM_STAT_STATE) u 0 1).wr (.erg .drainAt) u 0 s.time
  else s

/-- DOMAIN_DRAIN (R194): the boundary of die `d`, or of the fabric side of its NI `k` (`k` below 16), enters DRAINING
and refuses new requests that would cross it. While the tick is RUNNING none is drained (R193). -/
def execDomainDrain (d k : Nat) (s : State) : Answer :=
  actCore (okDie d && decide (k ≤ 16)) s (if s.tick = 2 then s else s.drain (1 + d) k)

/-- Whether an open transaction has been admitted into a domain: it ends there or passes through it (R194). -/
def State.admitted (s : State) (u k : Nat) (t : Txn) : Bool :=
  t.hasTid && t.resp.isNone &&
    (if k < 16 then t.peer == 16 * u + k && t.type == 4
     else
       t.ni / 16 != u && (t.peer / 16 == u || (s.txnPath t).any fun r => r.1 == u))

/-- The gate of a domain closes: DOMAIN_OFF for every admitted request that has not been answered (R194); open packets
of its NIs are abandoned (R255). -/
def State.closeGate (s : State) (u k : Nat) : State :=
  let s := s.decide' (s.admitted u k) ⟨4, 0, []⟩
  let gone := if k < 16 then [s.logicalNi (16 * u + k)] else (List.range 16).map fun i => s.logicalNi (16 * u + i)
  let s := s.abandon fun q => gone.contains q.src
  (if k < 16 then s.setFabState u k 2 else s.wr (.erg .DOM_STAT_STATE) u 0 2).retryWaits

/-- DRAIN_GATE_CLOSE (R194): no admitted request is left, or LIMIT has passed: the gate of a DRAINING boundary closes and
the boundary becomes CLOSED. -/
def execDrainGateClose (d k : Nat) (s : State) : Answer :=
  actCore (okDie d && decide (k ≤ 16)) s
    (let u := 1 + d
     let st := if k < 16 then s.rd (.erg .fabState) u k else s.domainOf u
     if st = 1 then s.closeGate u k else s)

end Sys2Proof.Machine
end

