-- ==== Sys2Proof/Machine/Tick.lean ====
section
/-! DEFINITION. The commands of the tick generator, the tick receivers and tick-locked groups (R39 to R73). -/

namespace Sys2Proof.Machine

/-- REFUSE reports the last command written (R41). -/
def State.setRefuse (s : State) (c : Nat) : State := s.wr (.tick .STATE_REFUSE) 0 0 c

/-- TICK_ARM (R42): the host writes ARM at time `t`; a fresh run is armed for boundary k_s, or the refusal code set. -/
def execTickArm (t : Nat) (s : State) : Answer :=
  actCore (decide (t < 2 ^ 80)) s
    (let s := s.at t
     if (s.tick ≠ 0 ∧ s.tick ≠ 4) ∨ s.nicheBlocks then s.setRefuse 7
     else if s.startRefusal false ≠ 0 then s.setRefuse (s.startRefusal false)
     else
       let s := (s.setRefuse 0).armFresh
       if s.has (.tick .GROUP_EN) 0 0 1 then s.sendStart else s)

/-- TICK_RESUME (R43): the host writes RESUME at time `t`; the previous run is armed to continue, or the refusal code
set. A group master sends no START for it (R68 and R305 name ARM alone; log entry 111). -/
def execTickResume (t : Nat) (s : State) : Answer :=
  actCore (decide (t < 2 ^ 80)) s
    (let s := s.at t
     if (s.tick ≠ 3 ∧ s.tick ≠ 4) ∨ s.nicheBlocks then s.setRefuse 7
     else if s.startRefusal true ≠ 0 then s.setRefuse (s.startRefusal true)
     else (s.setRefuse 0).armCommon false)

/-- TICK_PAUSE (R40): a RUNNING tick goes to PAUSED after the next boundary that commits. -/
def execTickPause (s : State) : Answer :=
  actCore true s (if s.tick = 2 then (s.setRefuse 0).wr (.tick .wait) 0 0 1 else s.setRefuse 7)

/-- TICK_STOP (R40): at once from ARMED, PAUSED and VOID; after the next boundary that commits from RUNNING. Context writes
that waited for boundary k_s of an ARMED run are dropped with it (R267, log entry 112). -/
def execTickStop (s : State) : Answer :=
  actCore true s
    (if s.tick = 2 then (s.setRefuse 0).wr (.tick .wait) 0 0 2
     else if s.tick = 1 ∨ s.tick = 3 ∨ s.tick = 4 then
       State.setTick (State.setRefuse { s with ctxStaged := [] } 0) 0
     else s.setRefuse 7)

/-- An output latch samples its port outputs at the deadline (R95): `o` is (die, pin, value, output enable). -/
def State.sampleLatch (s : State) (o : Nat × Nat × Nat × Nat) : State :=
  (s.wr (.fab .samV) (1 + o.1) o.2.1 o.2.2.1).wr (.fab .samOE) (1 + o.1) o.2.1 o.2.2.2

/-- The present units that are not done, as (place, unit), the Plinth first (R63 cause 0x01). -/
def State.lateUnits (s : State) : List (Nat × Nat) :=
  (List.range (Config.n + 1)).flatMap fun u =>
    ((s.presentUnits u).filter fun k => !s.unitDone u k).map fun k => (u, k)

/-- The places with a T-class response outstanding (R63 cause 0x02). -/
def State.waitingPlaces (s : State) : List Nat := (List.range (Config.n + 1)).filter fun u => s.tOutstanding u

/-- The places in which a sequence number is missing or double at the deadline: the Plinth for a queue, a die for one of its
mailboxes (R48, R63 cause 0x04). -/
def State.gapPlaces (s : State) : List Nat :=
  (if s.queueSeqsOk then [] else [0]) ++
    ((dies.map fun d => 1 + d).filter fun u => !(State.mboxSeqsOk { s with mailboxes := s.mailboxes.filter fun p => p.ni / 16 == u }))

/-- The decision of R45 step 3: every cause found at the deadline, in the order of their codes; 150 ns later a report that is
missing; or commit. -/
def State.decideTick (s : State) (missing : List Nat) : State :=
  let late := s.lateUnits
  let waiting := s.waitingPlaces
  let gaps := s.gapPlaces
  let s := each late (fun x s => s.wr (.tick .UNIT_LATE) x.1 x.2 1) s
  let causes :=
    (late.take 1).map (fun x => (0x01, x.2, x.1)) ++ (waiting.take 1).map (fun u => (0x02, 0, u)) ++
      (gaps.take 1).map (fun u => (0x04, 0, u))
  if causes.isEmpty && missing.isEmpty then
    let s := s.wr (.tick .decided) 0 0 1
    if s.has (.tick .GROUP_EN) 0 0 0 then s
    else if s.has (.tick .GROUP_MASTER) 0 0 0 then s.sendGroup 2 true 0
    else if s.rd (.tick .GROUP_MEMBERS) ≤ ((List.range 16).filter fun i => (s.rd (.tick .grpSeen)).testBit i).length then
      (s.sendGroup 3 true 0).wr (.tick .grpSent) 0 0 1
    else s
  else
    let s := each causes (fun c s => s.voidTick c.1 c.2.1 c.2.2) s
    each (missing.take 1) (fun u s => (s.at (s.time + nsec 150)).voidTick 0x09 0 u) s

/-- DEADLINE_PULSE (R45): the time base reaches D; latches sample their port outputs `outs` as (die, pin, value,
output enable), the places `missing` send no report, and the tick generator decides commit or void. -/
def execDeadlinePulse (outs : List (Nat × Nat × Nat × Nat)) (missing : List Nat) (s : State) : Answer :=
  actCore ((outs.all fun o => okDie o.1 && decide (o.2.1 < 24) && decide (o.2.2.1 < 2) && decide (o.2.2.2 < 2)) &&
      missing.all fun u => decide (u ≤ Config.n)) s
    (if s.tick = 2 ∧ s.rd (.tick .ended) = 0 then
       let s := s.at s.deadline
       let s := each outs (fun o s => s.sampleLatch o) s
       (s.wr (.tick .ended) 0 0 1).decideTick missing
     else s)

/-- TICK_WATCHDOG_EXPIRY (R66): a boundary is reached with REMAIN at 0, and the tick that it ends voids. -/
def execTickWatchdogExpiry (s : State) : Answer :=
  actCore true s
    (if s.tick = 2 ∧ s.rd (.tick .WDOG_PERIOD) ≠ 0 ∧ s.rd (.tick .WDOG_REMAIN) = 0 then
       (s.at (s.boundaryAt (s.rd (.tick .kNext)))).voidTick 0x0F 0 0
     else s)

/-- TICK_WDOG_KICK (R66): writing 1 reloads REMAIN from PERIOD. -/
def execTickWdogKick (v : Nat) (s : State) : Answer :=
  actCore true s (if v % 2 = 1 then s.wr (.tick .WDOG_REMAIN) 0 0 (s.rd (.tick .WDOG_PERIOD)) else s)

/-- TICK_WDOG_PERIOD_WRITE (R66): PERIOD is written, and REMAIN is set to it. -/
def execTickWdogPeriodWrite (v : Nat) (s : State) : Answer :=
  actCore true s ((s.wr (.tick .WDOG_PERIOD) 0 0 v).wr (.tick .WDOG_REMAIN) 0 0 v)

/-- TICK_SLACK_CLR (R73): writing 1 resets TICK_SLACK_MIN and TICK_WARN_COUNT of a die. -/
def execTickSlackClr (d v : Nat) (s : State) : Answer :=
  actCore (okDie d) s
    (if v % 2 = 1 then
       ((s.wr (.tick .SLACK_MIN_SLACK) (1 + d) 0 0x3FFFFFF).wr (.tick .SLACK_MIN_UNIT) (1 + d) 0 0).wr
         (.tick .WARN_COUNT_COUNT) (1 + d) 0 0
     else s)

/-- PAIR_LO_WRITE (R72): a write of `v` to the _LO register of pair `p` (0 TICK_ORIGIN, 1 TICK_START_INDEX,
2 TICK_NUMBER) commits the 64-bit value with the last write to _HI, in the tick states that allow it. -/
def execPairLoWrite (p v : Nat) (s : State) : Answer :=
  actCore (decide (p < 3)) s
    (let lo := v % 2 ^ 48
     match p with
     | 0 => if s.tickIdle then s.wr (.tick .ORIGIN) 0 0 (lo + s.rd (.tick .originHi) * 2 ^ 48) else s
     | 1 => s.wr (.tick .START_INDEX) 0 0 (lo + s.rd (.tick .startHi) * 2 ^ 48)
     | _ =>
       if s.tick = 0 ∨ s.tick = 4 then s.wr (.tick .NUMBER) 0 0 (lo + s.rd (.tick .numberHi) * 2 ^ 48) else s)

/-- The value of a pair as its registers spell it: TICK_TIME carries its fraction above bit 63 (R72). -/
def State.pairValue (s : State) (p : Nat) : Nat :=
  match p with
  | 0 => s.rd (.tick .ORIGIN)
  | 1 => s.rd (.tick .START_INDEX)
  | 2 => s.rd (.tick .NUMBER)
  | 3 => s.ns % 2 ^ 64 + s.time % 65536 * 2 ^ 64
  | _ => s.rd (.cfg .IMAGE)

/-- The latched _HI half of a pair. -/
def pairLatch (p : Nat) : Fld :=
  match p with
  | 0 => .tick .originLatch
  | 1 => .tick .startLatch
  | 2 => .tick .numberLatch
  | 3 => .tick .timeLatch
  | _ => .cfg .imageLatch

/-- PAIR_LO_READ (R72): a read of the _LO register of pair `p` (0 TICK_ORIGIN, 1 TICK_START_INDEX, 2 TICK_NUMBER,
3 TICK_TIME, 4 CFG_IMAGE) returns the low half and latches _HI. -/
def execPairLoRead (p : Nat) (s : State) : Answer :=
  actCore (decide (p < 5)) s
    ((s.wr (pairLatch p) 0 0 (s.pairValue p / 2 ^ 48)).emit .readBack p [s.pairValue p % 2 ^ 48])

/-- DONE(`k`) as the tick receiver of die `d` sees it: 0 while the gateway niche is not ACTIVE (R90, R398). -/
def State.doneWire (s : State) (d k : Nat) : Bool := s.portOut d (tileNo 0 190) k && s.has (.nch .STAT_STATE) (1 + d) 8 3

/-- The tick receiver of place `u` (1 + d) sees DONE(`k`) rise before D: it records the unit's task cycles as complete and, where
no T-class response is missing, its slack, rounded down to whole nanoseconds (R37, R60, R91). -/
def State.unitRises (s : State) (u k : Nat) : State :=
  if s.tick = 2 ∧ s.time < s.deadline ∧ s.rd (.tick .ended) = 0 ∧ s.rd (.tick .UNIT_PRESENT) u k = 1 ∧
      s.rd (.tick .done) u k = 0 ∧ s.rd (.nch .STAT_STATE) u 8 = 3 then
    (s.wr (.tick .done) u k 1).recordDone u k
  else s

/-- UNIT_DONE (R91): DONE(`k`) of die place `u` (1 + d) rises at time `t`. A wire that is at 1 does not rise. -/
def execUnitDone (u k t : Nat) (s : State) : Answer :=
  actCore (decide (1 ≤ u) && decide (u ≤ Config.n) && decide (k < 16) && decide (t < 2 ^ 80)) s
    (let s := s.at t
     if s.doneWire (u - 1) k then s else s.unitRises u k)

/-- GROUP_START (R68): a member receives the master's START on port `p`, adopts P, G, t0, k_s and N_s, and enters
ARMED. -/
def execGroupStart (p ns per g t0 ks : Nat) (s : State) : Answer :=
  actCore (decide (p < 6)) s
    (if s.rd (.tick .GROUP_EN) = 1 ∧ s.rd (.tick .GROUP_MASTER) = 0 ∧ s.rd (.tick .GROUP_PORT) = p ∧
        (s.tick = 0 ∨ s.tick = 4) then
       let s := s.wr (.tick .NUMBER) 0 0 ns
       let s := s.wr (.tick .PERIOD_P) 0 0 per
       let s := s.wr (.tick .GUARD_G) 0 0 g
       let s := s.wr (.tick .ORIGIN) 0 0 t0
       let s := s.wr (.tick .START_INDEX) 0 0 ks
       s.armFresh
     else s)

/-- A group frame of another tick is discarded and counted in MALFORMED (R305). -/
def State.groupStray (s : State) (p : Nat) : State := s.inc (.pp .RXERR_MALFORMED) 0 p

/-- MEMBER_DECISION (R69): the master receives on port `p` the decision of member `id` for tick `n`; it sends GROUP
when all have arrived, and GROUP with void, voiding itself, at once on a void. -/
def execMemberDecision (p id n : Nat) (commit : Bool) (cause : Nat) (s : State) : Answer :=
  actCore (decide (p < 6) && decide (id < 16) && decide (cause < 256)) s
    (if s.rd (.tick .GROUP_EN) = 1 ∧ s.rd (.tick .GROUP_MASTER) = 1 ∧ s.rd (.tick .GROUP_PORT) = p then
       if n ≠ s.rd (.tick .NUMBER) then s.groupStray p
       else if s.tick ≠ 2 then s
       else if !commit then (s.wr (.tick .grpVoid) 0 0 1).voidTick 0x0B 0 0
       else
         let seen := s.rd (.tick .grpSeen) ||| 2 ^ id
         let s := s.wr (.tick .grpSeen) 0 0 seen
         if s.rd (.tick .decided) = 1 ∧ s.rd (.tick .grpSent) = 0 ∧
             s.rd (.tick .GROUP_MEMBERS) ≤ ((List.range 16).filter fun i => seen.testBit i).length then
           (s.sendGroup 3 true 0).wr (.tick .grpSent) 0 0 1
         else s
     else s)

/-- GROUP_DECISION (R69, R70): a member receives on port `p` the master's decision for tick `n`: commit allows its
boundary, void voids the tick with cause 0x0B. -/
def execGroupDecision (p n : Nat) (commit : Bool) (cause : Nat) (s : State) : Answer :=
  actCore (decide (p < 6) && decide (cause < 256)) s
    (if s.rd (.tick .GROUP_EN) = 1 ∧ s.rd (.tick .GROUP_MASTER) = 0 ∧ s.rd (.tick .GROUP_PORT) = p then
       if n ≠ s.rd (.tick .NUMBER) then s.groupStray p
       else if commit then s.wr (.tick .grpCommit) 0 0 1
       else s.voidTick 0x0B 0 0
     else s)

/-- GROUP_DECISION_MISSING (R69): at B - 20 ns no group decision to commit has arrived, or, at the master, a member's
is missing: the tick voids with cause 0x0B. -/
def execGroupDecisionMissing (s : State) : Answer :=
  actCore true s
    (if s.tick = 2 ∧ s.rd (.tick .GROUP_EN) = 1 ∧ !s.groupAllows then
       (s.at (s.boundaryAt (s.rd (.tick .kNext)) - nsec 20)).voidTick 0x0B 0 0
     else s)

end Sys2Proof.Machine
end

