-- ==== Sys2Proof/Machine/Caravan.lean ====
section
/-! DEFINITION. The commands of the context store and the Caravan engines (R264 to R287, R298 to R301). -/

namespace Sys2Proof.Machine

/-! ### Writing contexts -/

/-- A word of the context store as the writes that already wait for a boundary will leave it. -/
def State.ctxFuture (s : State) (k : Nat) : Nat :=
  match s.ctxStaged.reverse.find? fun e => e.1 == k with
  | some e => e.2
  | none => s.ctxWord k

/-- Whether a CFG word is valid (R265, R267 DETAIL 2). -/
def cfgValid (v : Nat) : Bool :=
  decide (cfgPort v < 6) && decide (cfgPlog v ≤ 10) && decide (cfgPhase v < 2 ^ cfgPlog v) && decide (cfgClen v ≤ 24) &&
    decide (cfgSlen v ≤ 24) && slice v 41 7 == 0

/-- Whether another context binds queue `q` as its command queue (R269). -/
def State.boundElsewhere (s : State) (c q : Nat) : Bool :=
  (s.ctx ++ s.ctxStaged).any fun e =>
    decide (e.1 < 64 * contextCount) && e.1 % 64 == 3 && e.1 / 64 != c &&
      (s.ctxFuture e.1).testBit 16 && slice (s.ctxFuture e.1) 0 16 == q

/-- Whether a command queue binding keeps R269. -/
def State.cmdqOk (s : State) (c v : Nat) : Bool :=
  !v.testBit 16 ||
    (let q := slice v 0 16
     s.qTick q && s.has (.qm .QCFG_STATUS) 0 q 0 &&
       (s.has (.qm .QCFG_CONSUMER) 0 q 6 || s.has (.qm .QCFG_CONSUMER) 0 q 7) && !s.boundElsewhere c q)

/-- Whether a status queue binding keeps R270. -/
def State.stsqOk (s : State) (v : Nat) : Bool :=
  !v.testBit 33 ||
    (let q := slice v 17 16
     s.qTick q && s.has (.qm .QCFG_STATUS) 0 q 1 &&
       (s.has (.qm .QCFG_CONSUMER) 0 q 0 || decide (16 ≤ s.rd (.qm .QCFG_CONSUMER) 0 q)))

/-- The DETAIL with which R267 refuses a write of `v` to word `k` of the store by NI `src`; 0 where it is served. -/
def State.ctxRefusal (s : State) (src k v : Nat) : Nat :=
  let w := k % 64
  let idle := s.tickIdle
  if 64 * contextCount ≤ k then 1
  else if w ≤ 3 then
    if src ≠ 0 ∧ src ≠ 2 ∧ src < 16 then 1
    else if w = 0 ∧ !cfgValid v then 2
    else if (w = 2 ∧ slice v 32 16 ≠ 0) ∨ (w = 3 ∧ slice v 34 14 ≠ 0) then 2
    else if w = 3 ∧ !s.cmdqOk (k / 64) v then 3
    else if w = 3 ∧ !s.stsqOk v then 4
    else 0
  else if 7 ≤ w ∧ w ≤ 9 ∧ hostNi src ∧ idle then (if w = 9 ∧ slice v 40 8 ≠ 0 then 2 else 0)
  else 1

/-- Words with the numbers that they are written to, from `k` on. -/
def numbered (k : Nat) (l : List Nat) : List (Nat × Nat) := (List.range l.length).map fun i => (k + i, l.getD i 0)

/-- The first DETAIL of a write of several words; 0 where every word is served. -/
def State.ctxRefusals (s : State) (src : Nat) (l : List (Nat × Nat)) : Nat :=
  ((l.map fun e => s.ctxRefusal src e.1 e.2).find? fun d => d != 0).getD 0

/-- What a served write of `v` leaves in word `k` of the store: CNT_C keeps its read-only bits [47:32] (R266). -/
def State.ctxKept (s : State) (k v : Nat) : Nat := if k % 64 = 9 then v % 2 ^ 32 + s.ctxWord k / 2 ^ 32 * 2 ^ 32 else v

/-- A WRITE of `words` from word `k` of the store by NI `src`, served or refused as a whole (R267): the DETAIL, and the
state. -/
def State.ctxWrite (s : State) (src k : Nat) (words : List Nat) : Nat × State :=
  let l := numbered k (words.map fun v => v % 2 ^ 48)
  let c := s.ctxRefusals src l
  if c ≠ 0 then (c, s)
  else if s.tickIdle then (0, each l (fun e s => s.setCtx e.1 (s.ctxKept e.1 e.2)) s)
  else (0, { s with ctxStaged := s.ctxStaged ++ l })

/-- CONTEXT_WRITE (R267): NI `src` writes `words` from word `k` of the context store: at once, staged for a boundary, or
refused with its DETAIL. -/
def execContextWrite (src k : Nat) (words : List Nat) (s : State) : Answer :=
  actCore (decide (src < 1024) && decide (k + words.length ≤ 64 * contextCount) && words.all fun v => decide (v < 2 ^ 48)) s
    (let (c, s) := s.ctxWrite src k words
     if c = 0 then s else s.emit .readBack src [10, c])

/-! ### Frames -/

/-- FRAME_HANDOVER (R275): at time `t` the oldest closed frame of port `p` is handed to it; a port without room stalls it
(R302), one that is not UP discards it (R297). With the last frame of the tick Plinth unit 0 is done (R38, R272). -/
def execFrameHandover (p : Nat) (s : State) (t : Nat := 0) : Answer :=
  actCore (decide (p < 6) && decide (t < 2 ^ 80)) s
    (let s := s.at t
     match s.built.find? fun f => f.port == p with
     | none => s
     | some f =>
       let rest := removeFirst f s.built
       let image := s.commandImage f (!(rest.any fun x => x.port == p))
       if s.portUp p && !s.portRoom p image.length then s
       else ((State.giveFrame { s with built := rest } p 2 image).inc (.cvn .framesNow) 0 p).plinthDone t)

/-- The fields of a received frame before its payload (R298): destination, source, EtherType and payload, the FCS left
off. -/
structure RxFrame where
  dst : Nat
  src : Nat
  etype : Nat
  payload : List Nat
  deriving DecidableEq, Repr

/-- A received frame taken apart; an 802.1Q tag is optional. -/
def parseFrame (l : List Nat) : RxFrame :=
  let b := l.take (l.length - 4)
  let rest := b.drop 12
  let rest := if fromBe (rest.take 2) = 0x8100 then rest.drop 4 else rest
  ⟨fromBe (b.take 6), fromBe ((b.drop 6).take 6), fromBe (rest.take 2), rest.drop 2⟩

/-- Status entries parsed by LEN: `k` of them, and the bytes that follow; none where they run past the payload
(R300, R301). -/
def parseEntries (p mac : Nat) : Nat → List Nat → Option (List RxEntry × List Nat)
  | 0, l => some ([], l)
  | k + 1, l =>
    let len := l.getD 6 0 % 32
    if l.length < 8 + 6 * len then none
    else
      let words := (List.range len).map fun i => fromBe ((l.drop (8 + 6 * i)).take 6)
      match parseEntries p mac k (l.drop (8 + 6 * len)) with
      | none => none
      | some (es, rest) =>
        some (⟨p, mac, fromBe (l.take 2), fromBe ((l.drop 4).take 2), l.getD 7 0, words⟩ :: es, rest)

/-- The words of a group record (R305); none where the payload ends before it or names no record. -/
def parseRecord (l : List Nat) : Option (List Nat × List Nat) :=
  let n := match fromBe (l.take 6) % 16 with
    | 1 => 8
    | 2 | 3 => 3
    | _ => 0
  if n = 0 ∨ l.length < 6 * n then none
  else some ((List.range n).map fun i => fromBe ((l.drop (6 * i)).take 6), l.drop (6 * n))

/-- What an answer leaves, where it is a next state. -/
def after (a : Answer) (s : State) : State :=
  match a with
  | .next t => t
  | _ => s

/-- A group record that a port has accepted acts on the tick (R68, R69, R305). -/
def State.takeRecord (s : State) (p : Nat) (r : List Nat) : State :=
  let w := fun i => r.getD i 0
  let n := w 1 + w 2 % 65536 * 2 ^ 48
  match w 0 % 16 with
  | 1 =>
    after (execGroupStart p n (slice (w 3) 0 26) (slice (w 3) 26 16) (w 4 + w 5 % 65536 * 2 ^ 48)
      (w 6 + w 7 % 65536 * 2 ^ 48) s) s
  | 2 => after (execMemberDecision p (slice (w 0) 4 4) n ((w 0).testBit 8) (slice (w 0) 9 8) s) s
  | 3 => after (execGroupDecision p n ((w 0).testBit 8) (slice (w 0) 9 8) s) s
  | _ => s

/-- Whether `p` is the group port of a group member (R301). -/
def State.groupPort (s : State) (p : Nat) : Bool :=
  s.has (.tick .GROUP_EN) 0 0 1 && s.has (.tick .GROUP_PORT) 0 0 p

/-- Entry `j` of a status frame with timestamp `t` reaches the engines with timestamp `t` + j (R303), those of a boundary halt
in the tick that its release opens (R507). -/
def State.fileEntries (s : State) (t : Nat) : Nat → List RxEntry → State
  | _, [] => s
  | j, e :: l =>
    if (s.tick = 2 ∧ s.boundaryAt (s.rd (.tick .kNext)) ≤ t + j) ∨ s.haltHolds then
      State.fileEntries { s with rxHeld := s.rxHeld ++ [e] } t (j + 1) l
    else (s.receiveStatus e).fileEntries t (j + 1) l

/-- A Caravan payload on port `p` from `mac` with timestamp `t` is accepted or discarded (R301). -/
def State.takeCaravan (s : State) (p mac t : Nat) (l : List Nat) : State :=
  let bad := s.inc (.pp .RXERR_MALFORMED) 0 p
  let ok := fun (used : Nat) (rest : List Nat) (g : State → State) =>
    if crc32c (l.take 12 ++ [0, 0, 0, 0] ++ (l.drop 16).take (used - 16)) ≠ fromBe ((l.drop 12).take 4) then
      s.inc (.pp .RXERR_CHECK) 0 p
    else if rest.any fun b => b != 0 then bad
    else g (s.inc (.pp .RXCNT_CARAVAN) 0 p)
  let kind := l.getD 0 0 % 16
  if l.length < 16 ∨ l.getD 0 0 / 16 ≠ 1 ∨ !(kind = 2 ∨ (kind = 3 ∧ s.groupPort p)) then bad
  else if kind = 2 then
    match parseEntries p mac (fromBe ((l.drop 2).take 2)) (l.drop 16) with
    | none => bad
    | some (es, rest) => ok (l.length - rest.length) rest fun s => s.fileEntries t 0 es
  else
    match parseRecord (l.drop 16) with
    | none => bad
    | some (r, rest) => ok (l.length - rest.length) rest fun s => s.takeRecord p r

/-- A frame on port `p` with timestamp `t`, its bytes from the destination address to the FCS (R301). A port that is not
UP receives none. An IEEE 1588 message is not for the engines. -/
def State.takeFrame (s : State) (p t : Nat) (l : List Nat) : State :=
  if !s.portUp p then s
  else if l.length < 18 ∨ fromLe (l.drop (l.length - 4)) ≠ crc32 (l.take (l.length - 4)) then s.inc (.pp .RXERR_FCS) 0 p
  else
    let f := parseFrame l
    let mine := f.dst == s.rd (.pp .MAC_ADDR) 0 p || (s.groupPort p && f.dst == s.rd (.pp .GRP_MAC_ADDR))
    if mine && f.etype == s.rd (.pp .CVN_ETYPE) 0 p then s.takeCaravan p f.src t f.payload
    else if f.etype = 0x88F7 then s
    else s.inc (.pp .RXCNT_OTHER) 0 p

/-- CARAVAN_FRAME_RECEIVED (R301, R303): port `p` receives a frame at time `t` at its pins, the fixed delays taken off, stamps
it, accepts or discards it, and hands the status entries to the engines. -/
def execCaravanFrameReceived (p t : Nat) (bytes : List Nat) (s : State) : Answer :=
  actCore (decide (p < 6) && decide (t < 2 ^ 80) && bytes.all fun b => decide (b < 256)) s ((s.at t).takeFrame p (s.stamp p t) bytes)

/-- CVN_CNT_CLR (R286): writing 1 clears the unmatched and void-drop counts and the largest walk time. -/
def execCvnCntClr (v : Nat) (s : State) : Answer :=
  actCore true s
    (if v % 2 = 1 then
       ((s.wr (.cvn .UNMATCHED_COUNT) 0 0 0).wr (.cvn .VOIDDROP_COUNT) 0 0 0).wr (.cvn .WALK_MAX) 0 0 0
     else s)

end Sys2Proof.Machine
end

