-- ==== Sys2Proof/Machine/Dram.lean ====
section
/-! DEFINITION. The DRAM controllers (R319 to R342): the stored slot and its codes, the write queues, the scheduler, and
the commands. -/

namespace Sys2Proof.Machine

/-! ### GF(2^8) and the stored slot -/

/-- Twice an element of GF(2^8) under x^8 + x^4 + x^3 + x^2 + 1 (R322). -/
def gfDouble (a : Nat) : Nat := if a < 128 then 2 * a else (2 * a) ^^^ 0x11D

/-- The product of two elements. -/
def gfMul (a b : Nat) : Nat :=
  ((List.range 8).foldl (fun x i => (if b.testBit i then x.1 ^^^ x.2 else x.1, gfDouble x.2)) (0, a)).1

/-- α^j. -/
def gfPow (j : Nat) : Nat := (List.range j).foldl (fun a _ => gfDouble a) 1

/-- The ten symbols of a stored slot, from the coefficient of x^0: P0, P1, bytes 0 to 7 (R322). -/
def slotSymbols (v : Nat) : List Nat := [slice v 64 8, slice v 72 8] ++ (List.range 8).map fun k => slice v (8 * k) 8

/-- The two syndromes of a stored slot: its polynomial at 1 and at α. -/
def slotSyndromes (v : Nat) : Nat × Nat :=
  let l := slotSymbols v
  (l.foldl (fun a b => a ^^^ b) 0,
    (List.range 10).foldl (fun a j => a ^^^ gfMul (l.getD j 0) (gfPow j)) 0)

/-- 64 slot bits with their check symbols P0 and P1; 0xF4 is the inverse of 1 + α. -/
def withSymbols (v : Nat) : Nat :=
  let a := (slotSyndromes v).1
  let b := (slotSyndromes v).2
  let p1 := gfMul (a ^^^ b) 0xF4
  v + (a ^^^ p1) * 2 ^ 64 + p1 * 2 ^ 72

/-- c6 to c0 over DATA and VALID, with VALID at code position 55 (R126, R321). -/
def slotCheck (data : Nat) (valid : Bool) : Nat :=
  let h := hammingBits data ^^^ (if valid then 55 else 0)
  h + 64 * b2n ((parity 48 data != valid) != parity 6 h)

/-- ATAG of slot index `i`: the exclusive-or of its seven 5-bit groups (R321). -/
def slotTag (i : Nat) : Nat := (List.range 7).foldl (fun a k => a ^^^ slice i (5 * k) 5) 0

/-- The stored slot `i` that holds a word, its VALID and its poison mark (R321, R322). -/
def encodeSlot (i data : Nat) (valid psn : Bool) : Nat :=
  withSymbols (low 48 data + b2n valid * 2 ^ 48 + slotCheck (low 48 data) valid * 2 ^ 49 + slotTag i * 2 ^ 56 +
    b2n psn * 2 ^ 61)

/-- A blanked slot (R339 step 8). -/
def blankSlot (i : Nat) : Nat := encodeSlot i 0 false false

/-- What decoding finds (R323): no error, a correctable slot, RS or inner check uncorrectable. -/
inductive SlotState where
  | ok | correctable | rsFails | innerFails
  deriving DecidableEq, Repr

/-- The result of a read of a slot: its state, the corrected slot bits, the word and its poison mark (R323, R325). -/
structure SlotRead where
  state : SlotState
  fixed : Nat
  data : Nat
  poison : Bool
  deriving DecidableEq, Repr

/-- Whether corrected slot bits pass the inner check for slot `i` (R323 step 2). -/
def innerOk (i v : Nat) : Bool :=
  slice v 49 7 == slotCheck (low 48 v) (v.testBit 48) && slice v 56 5 == slotTag i && slice v 62 2 == 0

/-- A read of stored slot `i` (R323). -/
def decodeSlot (i v : Nat) : SlotRead :=
  let (s0, s1) := slotSyndromes v
  let err := (List.range 10).find? fun j => gfMul s0 (gfPow j) == s1
  let finish := fun (st : SlotState) (w : Nat) =>
    if !innerOk i (low 64 w) then SlotRead.mk .innerFails w 0 true
    else if w.testBit 61 then ⟨st, w, 0, true⟩
    else if !w.testBit 48 then ⟨st, w, 0, false⟩
    else ⟨st, w, low 48 w, false⟩
  if s0 = 0 ∧ s1 = 0 then finish .ok v
  else if s0 = 0 ∨ s1 = 0 then ⟨.rsFails, v, 0, true⟩
  else
    match err with
    | none => ⟨.rsFails, v, 0, true⟩
    | some j =>
      let lo := if j < 2 then 64 + 8 * j else 8 * (j - 2)
      finish .correctable (v ^^^ s0 * 2 ^ lo)

/-! ### Addresses and subchannels -/

/-- The subchannel of slot index `i` (R326). -/
def subOf (i : Nat) : Nat := slice i 7 3

/-- The bank of slot index `i` under the masks in force (R327). -/
def State.dramBank (s : State) (i : Nat) : Nat :=
  (List.range 5).foldl (fun a k => a + b2n (parity 33 (i &&& s.rd (.ddr .MAPACT_MASK) 0 k)) * 2 ^ k) 0

/-- The row of slot index `i`. -/
def dramRow (i : Nat) : Nat := slice i 17 16

/-- A stored slot. -/
def State.slot (s : State) (i : Nat) : Nat := Sparse.get blankSlot s.dram i

/-- A stored slot set. -/
def State.setSlot (s : State) (i v : Nat) : State :=
  { s with dram := Sparse.set id blankSlot s.dram i (v % 2 ^ 80) }

/-- A subchannel's state (R338). -/
def State.subState (s : State) (q : Nat) : Nat := s.rd (.ddr .STAT_STATE) 0 q

/-- DDR_STAT(q) as its register reads, bits [31:0]. -/
def State.ddrStat (s : State) (q : Nat) : Nat :=
  s.subState q + s.rd (.ddr .STAT_FAST) 0 q * 8 + s.rd (.ddr .STAT_HOT) 0 q * 16 + s.rd (.ddr .STAT_TEMP) 0 q * 32 +
    s.rd (.ddr .STAT_FAIL) 0 q * 2 ^ 13 + s.rd (.ddr .STAT_WCRC) 0 q * 2 ^ 15

/-- DDR_ERRLOG as its register reads, bits [31:0]. -/
def State.ddrErrlog (s : State) : Nat :=
  (s.rd (.ddr .ERRLOG_VALID) + s.rd (.ddr .ERRLOG_SUB) * 2 + s.rd (.ddr .ERRLOG_KIND) * 16 +
    s.rd (.ddr .ERRLOG_SLOT) * 64) % 2 ^ 32

/-- An event is logged when the log holds no earlier one, with its emergency (R325, R341). -/
def State.logDram (s : State) (q kind slot source : Nat) : State :=
  if s.has (.ddr .ERRLOG_VALID) 0 0 1 then s
  else
    let s := s.wr (.ddr .ERRLOG_VALID) 0 0 1
    let s := s.wr (.ddr .ERRLOG_SUB) 0 0 q
    let s := s.wr (.ddr .ERRLOG_KIND) 0 0 kind
    let s := s.wr (.ddr .ERRLOG_SLOT) 0 0 slot
    let s := s.wr (.ddr .ERRLOG_SOURCE) 0 0 source
    s.raiseEvent 0x5010 (0x30 + q) s.ddrErrlog

/-- The content, the queues and the open rows of a subchannel are gone. -/
def State.loseSub (s : State) (q : Nat) : State :=
  let s : State := { s with
    dram := s.dram.filter fun e => subOf e.1 != q
    dramWrites := s.dramWrites.filter fun w => w.q != q }
  s.resetKeys fun k => decide (k.f = .ddr .openRow) && k.j / 32 == q

/-! ### Requests -/

/-- The slot index of a request. -/
def dramSlot (p : Pkt) : Nat := p.addr - 0x400000000

/-- The words of a packet's payload with their marks (R175, R176). -/
def State.wordsOf (s : State) (p : Pkt) : List (Nat × Bool) :=
  (markedWords 0 (s.untagged p)).take (countOf p.count)

/-- Every word poisoned: the answer of a FAILED subchannel to a READ (R329). -/
def State.respondPoisoned (s : State) (p : Pkt) : State :=
  s.respond p p.dst 0 0 0 (quadsOf (s.tagOf p.cls) 32 (List.replicate (countOf p.count) (0, true)))

/-- The outcome of a request to a FAILED subchannel (R329). -/
def State.failRequest (s : State) (p : Pkt) : State :=
  if p.type = 0 then s.respondPoisoned p
  else
    let s := s.respondErr p p.dst 10 1
    if p.cls = 0 then s.consumePoison (p.src / 16) else s

/-- The write queue of a subchannel. -/
def State.writesOf (s : State) (q : Nat) : List DramWrite := s.dramWrites.filter fun w => w.q == q

/-- The bursts that `k` slots from `i` touch. -/
def burstsOf (i k : Nat) : List Nat := (List.range ((i % 8 + k + 7) / 8)).map fun n => i / 8 + n

/-- Words with the slots that they go to, from `i` on. -/
def slotted (i : Nat) : List (Nat × Bool) → List (Nat × Nat × Bool)
  | [] => []
  | x :: l => (i, x) :: slotted (i + 1) l

/-- The write-queue entries of a WRITE: one for each burst (R331). -/
def State.writeEntries (s : State) (q : Nat) (p : Pkt) : List DramWrite :=
  let i := dramSlot p
  let ws := slotted i (s.wordsOf p)
  (burstsOf i ws.length).map fun b => ⟨q, (ws.filter fun x => x.1 / 8 == b).map fun x =>
    (x.1, encodeSlot x.1 (if x.2.2 then 0 else x.2.1) true x.2.2), false, 0⟩

/-- Whether a request of the same source that touches one of the same slots waits ahead (R330). -/
def dramBlocked (x : DramReq) (ahead : List DramReq) : Bool :=
  ahead.any fun r => r.pkt.src == x.pkt.src && r.ch == x.ch &&
    decide (dramSlot r.pkt < dramSlot x.pkt + countOf x.pkt.count) && decide (dramSlot x.pkt < dramSlot r.pkt + countOf r.pkt.count)

/-- The channel of its interface that a request comes from; a Plinth block has one (R330). -/
def State.channelOf (s : State) (p : Pkt) : Nat :=
  match s.txns.find? fun x => x.ni == p.src && x.hasTid && x.tid == p.tid && x.gen == p.gen with | some x => x.ch | none => 0

/-- A WRITE enters the write queue and is acknowledged (R331); it cancels the write-backs of its slots (R324). -/
def State.postWrite (s : State) (q : Nat) (p : Pkt) : State :=
  let es := s.writeEntries q p
  let hit := fun (i : Nat) => es.any fun e => e.slots.any fun x => x.1 == i
  let s : State := { s with dramWrites :=
    (s.dramWrites.filter fun w => !(w.back && w.slots.any fun x => hit x.1)) ++ es }
  s.respond p p.dst 1 0 0 []

/-- Whether a WRITE can enter the write queue of 64 bursts now. -/
def State.writeFits (s : State) (q : Nat) (p : Pkt) : Bool :=
  decide ((s.writesOf q).length + (burstsOf (dramSlot p) (countOf p.count)).length ≤ 64)

/-- Of the waiting requests, those WRITEs that fit and have nothing ahead of them enter the write queue. -/
def State.promoteFrom (q : Nat) : List DramReq → List DramReq → State → State
  | _, [], s => s
  | ahead, r :: l, s =>
    if r.q = q ∧ r.pkt.type = 1 ∧ s.writeFits q r.pkt ∧ !dramBlocked r ahead then
      State.promoteFrom q ahead l (State.postWrite { s with dramReqs := removeFirst r s.dramReqs } q r.pkt)
    else State.promoteFrom q (ahead ++ [r]) l s

/-- Waiting WRITEs enter the write queue in the order of their arrival. -/
def State.promoteWrites (s : State) (q : Nat) : State := State.promoteFrom q [] s.dramReqs s

/-- A request reaches a DRAM controller (R329, R331). -/
def State.dramRequest (s : State) (p : Pkt) : State :=
  let q := subOf (dramSlot p)
  let st := s.subState q
  if st = 4 then s.failRequest p
  else if st ≠ 3 then s.respondErr p p.dst 10 2
  else State.promoteWrites { s with dramReqs := s.dramReqs ++ [⟨q, p, s.channelOf p, s.time, []⟩] } q

/-! ### Reads -/

/-- What upsets on the lanes flip in slot `i` of a burst (R322), each as (beat, device, bits of its byte): slot j has beats 2j and
2j + 1, byte k in beat 2j + ⌊k / 4⌋ on device k mod 4, P1 and P0 on device 4. -/
def laneFlips (i : Nat) (flips : List (Nat × Nat × Nat)) : Nat :=
  flips.foldl (fun a x =>
    if x.1 / 2 ≠ i % 8 then a
    else a ^^^ x.2.2 * 2 ^ (if x.2.1 < 4 then 8 * (4 * (x.1 % 2) + x.2.1) else if x.1 % 2 = 0 then 72 else 64)) 0

/-- A slot as a read finds it: the newest one in the write queue, or the stored one with what upsets flip. -/
def State.readSlot (s : State) (i : Nat) (flips : List (Nat × Nat × Nat)) : SlotRead × Bool :=
  match (s.dramWrites.filter fun w => !w.back).reverse.findSome? fun w => w.slots.find? fun x => x.1 == i with
  | some x => (decodeSlot i x.2, true)
  | none => (decodeSlot i (s.slot i ^^^ laneFlips i flips), false)

/-- A slot is read for `source` (0 request, 1 patrol): errors are kept as found, counted and logged, and a correctable
slot gets its one write-back at the head of the write queue (R324, R325). -/
def State.takeSlot (s : State) (q i source : Nat) (flips : List (Nat × Nat × Nat)) : (Nat × Bool) × State :=
  let (r, queued) := s.readSlot i flips
  let s := if queued then s else s.setSlot i (s.slot i ^^^ laneFlips i flips)
  let s :=
    if queued then s
    else
      match r.state with
      | .ok => s
      | .correctable =>
        if s.dramWrites.any fun w => w.back && w.slots.any fun x => x.1 == i then s
        else { s with dramWrites := ⟨q, [(i, withSymbols (low 64 r.fixed))], true, 0⟩ :: s.dramWrites }
      | .rsFails => (s.inc (.ddr .ECC_UE) 0 q).logDram q 0 i source
      | .innerFails => (s.inc (.ddr .ECC_UE) 0 q).logDram q 1 i source
  ((r.data, r.poison), s)

/-- Slots read in order. -/
def State.takeSlots (s : State) (q source : Nat) (flips : List (Nat × Nat × Nat)) : List Nat → List (Nat × Bool) × State
  | [] => ([], s)
  | i :: l =>
    let (w, s) := s.takeSlot q i source flips
    let (ws, s) := s.takeSlots q source flips l
    (w :: ws, s)

/-! ### The scheduler -/

/-- Whether the row of slot `i` is open (R332). -/
def State.rowHit (s : State) (q i : Nat) : Bool :=
  s.has (.ddr .openRow) 0 (32 * q + s.dramBank i) (1 + dramRow i)

/-- The row of slot `i` becomes the open row of its bank. -/
def State.openRowOf (s : State) (q i : Nat) : State := s.wr (.ddr .openRow) 0 (32 * q + s.dramBank i) (1 + dramRow i)

/-- The next slot of a waiting READ. -/
def nextSlot (r : DramReq) : Nat := dramSlot r.pkt + r.got.length

/-- The READs of a class that may be served: nothing of their source is ahead of them in the list (R330). -/
def State.readable (s : State) (q cls : Nat) : List DramReq → List DramReq → List DramReq
  | _, [] => []
  | ahead, r :: l =>
    if r.q = q ∧ r.pkt.type = 0 ∧ r.pkt.cls = cls ∧ !dramBlocked r (ahead.filter fun x => x.pkt.type = 1) then
      r :: s.readable q cls (ahead ++ [r]) l
    else s.readable q cls (ahead ++ [r]) l

/-- Of the READs of a class: one that waits longer than 500 ns, else a row hit, else the oldest (R332). -/
def State.pickRead (s : State) (q cls : Nat) : Option DramReq :=
  let l := s.readable q cls [] s.dramReqs
  match l.find? fun r => decide (r.at' + nsec 500 < s.time) with
  | some r => some r
  | none =>
    match l.find? fun r => s.rowHit q (nextSlot r) with
    | some r => some r
    | none => l.head?

/-- The READ that the next column command of the subchannel serves, by class (R332). -/
def State.nextRead (s : State) (q : Nat) : Option DramReq :=
  let order := if s.has (.ddr .columns) 0 q 31 then [2, 0, 1] else [0, 2, 1]
  order.findSome? fun c => s.pickRead q c

/-- Whether a READ waits in the subchannel. -/
def State.readsWait (s : State) (q : Nat) : Bool := s.dramReqs.any fun r => r.q == q && r.pkt.type == 0

/-- A burst of the write queue passes write CRC and is stored (R331). -/
def State.landWrite (s : State) (w : DramWrite) : State :=
  let s : State := { s with dramWrites := removeFirst w s.dramWrites }
  let s := each w.slots (fun x s => s.setSlot x.1 x.2) s
  if w.back then s.inc (.ddr .ECC_CE) 0 w.q
  else
    match w.slots with
    | [] => s
    | x :: _ => s.openRowOf w.q x.1

/-- The largest read latency follows a READ that ends now (R341). -/
def State.noteLatency (s : State) (r : DramReq) : State :=
  let l := min 65535 ((s.time - r.at') / 65536)
  if s.rd (.ddr .LAT_MAX) 0 r.q < l then s.wr (.ddr .LAT_MAX) 0 r.q l else s

/-- A column command serves the next burst of a READ; with its last burst the response leaves. -/
def State.columnRead (s : State) (r : DramReq) (flips : List (Nat × Nat × Nat)) : State :=
  let i := nextSlot r
  let left := countOf r.pkt.count - r.got.length
  let k := min left (8 - i % 8)
  let s := s.openRowOf r.q i
  let (ws, s) := s.takeSlots r.q 0 flips ((List.range k).map fun n => i + n)
  let got := r.got ++ ws
  if k = left then
    let s := State.noteLatency { s with dramReqs := removeFirst r s.dramReqs } r
    s.respond r.pkt r.pkt.dst 0 0 0 (quadsOf (s.tagOf r.pkt.cls) 32 got)
  else { s with dramReqs := s.dramReqs.map fun x => if x = r then { r with got := got } else x }

/-- The next column command of a subchannel (R332): a correction write-back, a burst of a write turn, which while READs wait is
16 bursts and 160 ns long at most, or a READ. -/
def State.column (s : State) (q : Nat) (flips : List (Nat × Nat × Nat)) : State :=
  match (s.writesOf q).find? fun w => w.back with
  | some w => s.landWrite w
  | none =>
    let turn := if s.rd (.ddr .turnAt) 0 q + nsec 160 < s.time then 0 else s.rd (.ddr .turn) 0 q
    let ws := s.writesOf q
    let begins := decide (48 ≤ ws.length) || !s.readsWait q
    if !ws.isEmpty && (turn != 0 || begins) then
      let s := if turn = 0 then s.wr (.ddr .turnAt) 0 q s.time else s
      let turn := if turn ≠ 0 then turn - 1 else if s.readsWait q then 15 else 0
      match ws with
      | [] => s
      | w :: _ => ((s.landWrite w).wr (.ddr .turn) 0 q turn).promoteWrites q
    else
      match s.nextRead q with
      | none => s
      | some r =>
        let s := (s.wr (.ddr .turn) 0 q 0).wr (.ddr .columns) 0 q ((s.rd (.ddr .columns) 0 q + 1) % 32)
        (s.columnRead r flips).promoteWrites q

/-- A subchannel number. -/
def okSub (q : Nat) : Bool := decide (q < 8)

/-- What upsets flip in a burst, as (beat, device, bits). -/
def okFlips (l : List (Nat × Nat × Nat)) : Bool := l.all fun x => decide (x.1 < 16) && decide (x.2.1 < 5) && decide (x.2.2 < 256)

/-- DRAM_COLUMN_COMMAND (R332): at time `t` the scheduler of subchannel `q` issues its next column command; `flips` is
what upsets have flipped in the burst that a read finds. -/
def execDramColumnCommand (q t : Nat) (flips : List (Nat × Nat × Nat)) (s : State) : Answer :=
  actCore (okSub q && decide (t < 2 ^ 80) && okFlips flips) s
    (if s.subState q = 3 then (s.at t).column q flips else s)

/-- DRAM_WRITE_BACK (R324): the oldest correction write-back of subchannel `q` lands. -/
def execDramWriteBack (q : Nat) (s : State) : Answer :=
  actCore (okSub q) s
    (match (s.writesOf q).find? fun w => w.back with
     | some w => if s.subState q = 3 then s.landWrite w else s
     | none => s)

/-! ### Failure and training -/

/-- A subchannel enters FAILED (R340): every request waiting in it receives the outcome of R329, with the emergency. -/
def State.failSub (s : State) (q fail : Nat) : State :=
  let s := (s.wr (.ddr .STAT_STATE) 0 q 4).wr (.ddr .STAT_FAIL) 0 q fail
  let l := s.dramReqs.filter fun r => r.q == q
  let s : State := { s with
    dramReqs := s.dramReqs.filter fun r => r.q != q
    dramWrites := s.dramWrites.filter fun w => w.q != q }
  let s := each l (fun r s => s.failRequest r.pkt) s
  s.raiseCond 0x7300 q (s.ddrStat q)

/-- WRITE_CRC_FAILURE (R331): the burst that subchannel `q` writes next fails write CRC and is resent; its fourth
failure puts the subchannel into FAILED. -/
def execWriteCrcFailure (q : Nat) (s : State) : Answer :=
  actCore (okSub q) s
    (match s.writesOf q with
     | [] => s
     | w :: _ =>
       if s.subState q ≠ 3 then s
       else if w.tries < 3 then
         State.inc { s with dramWrites := s.dramWrites.map fun x => if x = w then { x with tries := x.tries + 1 } else x }
           (.ddr .STAT_WCRC) 0 q
       else (s.logDram q 2 (((w.slots.map fun x => x.1)).headD 0) 2).failSub q 2)

/-- The subchannel's requests that wait are refused: it is not READY (R329). -/
def State.refuseWaiting (s : State) (q : Nat) : State :=
  let l := s.dramReqs.filter fun r => r.q == q
  each l (fun r s => s.respondErr r.pkt r.pkt.dst 10 2) { s with dramReqs := s.dramReqs.filter fun r => r.q != q }

/-- A subchannel begins R339 from step 1: it enters TRAIN and its content is lost. -/
def State.startTraining (s : State) (q : Nat) : State :=
  let s := ((s.wr (.ddr .STAT_STATE) 0 q 1).wr (.ddr .STAT_FAIL) 0 q 0).wr (.ddr .tries) 0 q 0
  ((s.refuseWaiting q).loseSub q).endCond 0x7300 q

/-- Whether a subchannel trains or blanks. -/
def State.subsBusy (s : State) : Bool := (List.range 8).any fun q => s.subState q == 1 || s.subState q == 2

/-- BUSY follows the command in progress. -/
def State.ddrSettle (s : State) : State := if s.subsBusy then s else s.wr (.ddr .CMDSTAT_BUSY) 0 0 0

/-- DRAM_INIT (R339): subchannel `q` completes step `step` of the start-up, or fails it (`ok` false): step 1 enters
TRAIN, step 7 BLANK, step 8 READY with every slot blank; a failure repeats the sequence once, and a second one puts the
subchannel into FAILED. Off SPLL3 the DDR domain does none of it (R356, R551). -/
def execDramInit (q step : Nat) (ok : Bool) (s : State) : Answer :=
  actCore (okSub q && decide (1 ≤ step) && decide (step ≤ 8)) s
    (let st := s.subState q
     if s.rd (.clk .DOM_ACT) 0 3 ≠ 0 then s
     else if step = 1 then (if st = 0 then s.startTraining q else s)
     else if step = 8 then (if st = 2 then ((s.loseSub q).wr (.ddr .STAT_STATE) 0 q 3).ddrSettle else s)
     else if st ≠ 1 then s
     else if ok then (if step = 7 then s.wr (.ddr .STAT_STATE) 0 q 2 else s)
     else if s.has (.ddr .tries) 0 q 0 then s.wr (.ddr .tries) 0 q 1
     else ((s.logDram q 3 0 0).failSub q 1).ddrSettle)

/-- Whether a mask is valid for bit `k` (R327). -/
def maskOk (k m : Nat) : Bool := m.testBit (12 + k) && slice m 12 5 == 2 ^ k && slice m 0 10 == 0

/-- A host command of R340 at OP `op` for subchannel `q`: its refusal code, or 0. -/
def State.ddrRefusal (s : State) (op : Nat) : Nat :=
  if s.tickLive then 1
  else if s.has (.ddr .CMDSTAT_BUSY) 0 0 1 then 2
  else if op = 1 ∧ !((List.range 5).all fun k => maskOk k (s.rd (.ddr .MAP_MASK) 0 k)) then 3
  else 0

/-- BLANK (R340): the pending masks take effect, and every READY subchannel blanks. -/
def State.ddrBlank (s : State) : State :=
  let s := each (List.range 5) (fun k s => s.wr (.ddr .MAPACT_MASK) 0 k (s.rd (.ddr .MAP_MASK) 0 k)) s
  let s := s.resetKeys fun k => decide (k.f = .ddr .openRow)
  let l := (List.range 8).filter fun q => s.subState q == 3
  let s := each l (fun q s => ((s.refuseWaiting q).loseSub q).wr (.ddr .STAT_STATE) 0 q 2) s
  if l.isEmpty then s else s.wr (.ddr .CMDSTAT_BUSY) 0 0 1

/-- A command written to DDR_CMD. -/
def State.ddrCommand (s : State) (op q : Nat) : State :=
  if op ≠ 1 ∧ op ≠ 2 then s
  else
    let c := s.ddrRefusal op
    let s := s.wr (.ddr .CMDSTAT_REFUSE) 0 0 c
    if c ≠ 0 then s
    else if op = 1 then s.ddrBlank
    else (s.startTraining q).wr (.ddr .CMDSTAT_BUSY) 0 0 1

/-- DRAM_BLANK (R340): the pending masks take effect and every READY subchannel is blanked, or the command is
refused. -/
def execDramBlank (s : State) : Answer := actCore true s (s.ddrCommand 1 0)

/-- DRAM_RETRAIN (R340): subchannel `q` begins R339 from step 1, or the command is refused. -/
def execDramRetrain (q : Nat) (s : State) : Answer := actCore (okSub q) s (s.ddrCommand 2 q)

/-- The DDR domain leaves its primary (R356): every subchannel enters TRAIN and its content is lost. -/
def State.ddrLosesClock (s : State) : State :=
  each ((List.range 8).filter fun q => s.subState q != 0 && s.subState q != 4) (fun q s => s.startTraining q) s

/-! ### Refresh, maintenance and patrol -/

/-- REFRESH (R333): subchannel `q` issues REFab. -/
def execRefresh (q : Nat) (s : State) : Answer :=
  actCore (okSub q) s
    (if s.subState q = 3 then
       (s.inc (.ddr .LAT_REFS) 0 q).resetKeys fun k => decide (k.f = .ddr .openRow) && k.j / 32 == q
     else s)

/-- MR4_READ (R334, R333, R335): MR4 reports the hottest case temperature of subchannel `q` as `temp`, 8 bits of two's
complement; the refresh rate follows, and above 95 °C HOT is set, with its emergency. -/
def execMr4Read (q temp : Nat) (s : State) : Answer :=
  actCore (okSub q && decide (temp < 256)) s
    (if s.subState q ≠ 3 then s
     else
       let v := toSigned 8 temp
       let s := s.wr (.ddr .STAT_TEMP) 0 q temp
       let s := if 85 < v then s.wr (.ddr .STAT_FAST) 0 q 1 else if v ≤ 83 then s.wr (.ddr .STAT_FAST) 0 q 0 else s
       if 95 < v ∧ s.rd (.ddr .STAT_HOT) 0 q = 0 then
         let s := s.wr (.ddr .STAT_HOT) 0 q 1
         s.raiseEvent 0x4210 q (s.ddrStat q)
       else s)

/-- ZQ_CALIBRATION (R334): subchannel `q` calibrates in a maintenance window; no state of the part changes. -/
def execZqCalibration (q : Nat) (s : State) : Answer := actCore (okSub q) s s

/-- DQS_OSCILLATOR (R334): subchannel `q` reads its interval oscillator and moves its timing; no state of the part
changes. -/
def execDqsOscillator (q : Nat) (s : State) : Answer := actCore (okSub q) s s

/-- ECS_READ (R334): the devices' error check and scrub counts of subchannel `q`, summed over the devices, are
`count`. -/
def execEcsRead (q count : Nat) (s : State) : Answer :=
  actCore (okSub q) s (if s.subState q = 3 then s.wr (.ddr .ECC_ODECS) 0 q (min count 65535) else s)

/-- Burst `b` of subchannel `q` in ascending slot order: its first slot index (R326, R336). -/
def patrolSlot (q b : Nat) : Nat := b % 16 * 8 + q * 128 + b / 16 * 1024

/-- The patrol of a subchannel moves on; PASSES counts those that every subchannel has completed. -/
def State.patrolOn (s : State) (q : Nat) : State :=
  let b := s.rd (.ddr .patrol) 0 q + 1
  let s := s.wr (.ddr .patrol) 0 q b
  if b < 2 ^ 27 then s
  else
    let s := s.inc (.ddr .passes) 0 q
    s.wr (.ddr .SCRUB_PASSES) 0 0 ((List.range 8).foldl (fun a q => min a (s.rd (.ddr .passes) 0 q)) 65535)

/-- PATROL_READ (R336): the patrol reads the next burst of subchannel `q`, corrects or logs it, and moves on; `flips` is
what upsets have flipped in it. -/
def execPatrolRead (q : Nat) (flips : List (Nat × Nat × Nat)) (s : State) : Answer :=
  actCore (okSub q && okFlips flips) s
    (if s.subState q = 3 ∧ s.rd (.ddr .SCRUB_INTERVAL) ≠ 0 then
       let i := patrolSlot q (s.rd (.ddr .patrol) 0 q)
       (s.takeSlots q 1 flips ((List.range 8).map fun n => i + n)).2.patrolOn q
     else s)

/-- ROW_CLOSE (R332): the row of bank `b` of subchannel `q` has had no hit for 200 ns and is closed. -/
def execRowClose (q b : Nat) (s : State) : Answer :=
  actCore (okSub q && decide (b < 32)) s (s.wr (.ddr .openRow) 0 (32 * q + b) 0)

/-- DDR_CNT_CLR (R341): writing 1 clears every DDR_ECC(q) and DDR_LAT(q).MAX. -/
def execDdrCntClr (v : Nat) (s : State) : Answer :=
  actCore true s
    (if v % 2 = 1 then
       s.resetKeys fun k => decide (k.f = .ddr .ECC_CE) || decide (k.f = .ddr .ECC_UE) || decide (k.f = .ddr .ECC_ODECS) ||
         decide (k.f = .ddr .LAT_MAX)
     else s)

end Sys2Proof.Machine
end

