-- ==== Sys2Proof/Machine/Clocks.lean ====
section
/-! DEFINITION. Clock sources, switching, monitors and the time base servo (R30, R31, R343 to R360). -/

namespace Sys2Proof.Machine

/-! ### Lock and the servo -/

/-- An offset in ns as CLK_TBSTAT.OFFSET reads it: 16 bits, saturating (R362). -/
def offsetField (ns : Int) : Nat :=
  if ns < -32768 then 0x8000 else if 32767 < ns then 0x7FFF else ofSigned 16 ns

/-- Lock is lost (R31): the emergency is raised, and in a tick-locked group the tick voids. -/
def State.loseLock (s : State) : State :=
  let s := s.wr (.tick .lockCount) 0 0 0
  if s.locked then
    let s := s.setLocked false
    let s := s.raiseCond 0x6120 (s.rd (.tick .SRC_SRC)) (s.rd (.clk .TBSTAT_OFFSET))
    if s.has (.tick .GROUP_EN) 0 0 1 then s.voidTick 0x0A 0 0 else s
  else s.setLocked false

/-- The time base is locked: the condition of R476 ends. -/
def State.gainLock (s : State) : State := (s.setLocked true).endConds 0x6120

/-- Lock is decided at a source update (R31): `within` where the offset lies within LOCK_LIMIT. -/
def State.decideLock (s : State) (within : Bool) : State :=
  if !within then s.loseLock
  else
    let k := min 16 (s.rd (.tick .lockCount) + 1)
    let s := s.wr (.tick .lockCount) 0 0 k
    if k = 16 then s.gainLock else s

/-- 200 ppm at a resolution of 2^-40 (R358). -/
def ppm200 : Int := 219902325

/-- A rate held within ±200 ppm. -/
def clampRate (v : Int) : Int := max (-ppm200) (min ppm200 v)

/-- The servo of R358 for offset `o` in units of 2^-16 ns and interval `dt` in ns: integ and r, held to 2^-40, and RATE in
ppb. Which way they round the spec leaves open, and without an interval it states neither. -/
def State.servo (s : State) (o : Int) (dt : Nat) : State :=
  let old := toSigned 64 (s.rd (.clk .servoInteg))
  let integ :=
    if dt = 0 then clampRate (toSigned 64 (s.freeValue 64)) else clampRate (old + s.quotient (o * 2 ^ 24) (16 * dt))
  let s := (s.wr (.clk .servoInteg) 0 0 (ofSigned 64 integ)).spend
  let r :=
    if dt = 0 then clampRate (toSigned 64 (s.freeValue 64)) else clampRate (integ + s.quotient (o * 2 ^ 24) (4 * dt))
  let s := (s.wr (.clk .servoRate) 0 0 (ofSigned 64 r)).spend
  (s.wr (.clk .TBSTAT_RATE) 0 0 (ofSigned 24 (s.quotient (r * 1000000000) (2 ^ 40)))).spend

/-- Without a source the rate is CLK_TB.FREE (R358). -/
def State.freeRate (s : State) : State :=
  if s.rd (.tick .SRC_SRC) = 0 then s.wr (.clk .TBSTAT_RATE) 0 0 (s.rd (.clk .TB_FREE)) else s

/-- A source update at time base `t` with source time `src`, both in units of 2^-16 ns, and nominal interval `dt` in ns
(R358): the servo sets r, or the time base is stepped, and lock is decided. -/
def State.sourceUpdate (s : State) (t src dt : Nat) : State :=
  let s := s.at t
  let o : Int := (t : Int) - src
  let s := (s.wr (.clk .TBSTAT_OFFSET) 0 0 (offsetField (s.quotient o 65536))).spend
  let s :=
    if (s.tick = 0 ∨ s.tick = 4) ∧ nsec (s.rd (.clk .TB_STEP)) < o.natAbs then (s.at src).inc (.clk .TBSTAT_STEPS) 0 0
    else s.servo o dt
  s.decideLock (decide (o.natAbs ≤ nsec (s.rd (.tick .SRC_LOCK_LIMIT))))

/-- The source time at partner port `p`: its timestamps are corrected by ASYM (R303), which moves the offset as much as it
moves them. -/
def State.sourceTime (s : State) (p src : Nat) : Nat :=
  Int.toNat (((src : Int) - toSigned 16 (s.rd (.pp .PTP_ASYM) 0 p) * 65536) % 2 ^ 80)

/-- SOURCE_UPDATE (R358, R303): a time-source update arrives at time base `t` with source time `src` and nominal interval `dt`
in ns; the servo sets r, and may step the time base or decide lock. On a partner port its asymmetry is corrected. -/
def execSourceUpdate (t src dt : Nat) (s : State) : Answer :=
  actCore (decide (t < 2 ^ 80) && decide (src < 2 ^ 80)) s
    (if s.rd (.tick .SRC_SRC) = 0 then s
     else if s.rd (.tick .SRC_SRC) = 2 then s.sourceUpdate t (s.sourceTime (s.rd (.tick .SRC_PORT)) src) dt
     else s.sourceUpdate t src dt)

/-- The source time of a SYNC edge at time base `t` (R359): the last one plus the communication cycle period, or what a
TIME message has set; the spec states none before either. -/
def State.canEdge (s : State) (t : Nat) : State :=
  let cycle := s.rd (.od .cyclePeriod) * 1000
  let last := s.rd (.clk .canTime)
  let (src, s) :=
    if s.has (.clk .canNext) 0 0 1 then (last, s)
    else if s.has (.clk .canKnown) 0 0 1 then (last + nsec cycle, s)
    else (s.freeValue 80, s.spend)
  let s := ((s.wr (.clk .canTime) 0 0 src).wr (.clk .canKnown) 0 0 1).wr (.clk .canNext) 0 0 0
  s.sourceUpdate t (src % 2 ^ 80) cycle

/-- CAN_SYNC_EDGE (R359): the start-of-frame edge of a SYNC message on controller `c` is timestamped `t` as a source
update. -/
def execCanSyncEdge (c t : Nat) (s : State) : Answer :=
  actCore (decide (c < 2) && decide (t < 2 ^ 80)) s
    (if s.rd (.tick .SRC_SRC) = 3 ∧ s.rd (.tick .SRC_CAN) = c ∧ s.rd (.od .CAN_EN) 0 c = 1 then s.canEdge t else s)

/-- TIME_MESSAGE (R359): a TIME message of `days` since 1 January 1984 and `ms` after midnight on controller `c` sets the
source time of the next SYNC edge. -/
def execTimeMessage (c days ms : Nat) (s : State) : Answer :=
  actCore (decide (c < 2) && decide (days < 65536) && decide (ms < 2 ^ 28)) s
    (if s.rd (.tick .SRC_SRC) = 3 ∧ s.rd (.tick .SRC_CAN) = c ∧ s.rd (.od .CAN_EN) 0 c = 1 ∧
        (s.rd (.od .timeCob)).testBit 31 then
       ((s.wr (.clk .canTime) 0 0 (nsec ((days * 86400000 + ms) * 1000000))).wr (.clk .canKnown) 0 0 1).wr (.clk .canNext) 0 0 1
     else s)

/-! ### Domains -/

/-- The domains of a unit's block (R348). -/
def domainsOf (u : Nat) : List Nat := List.range (if u = 0 then 5 else 18)

/-- A clock block's unit, and a domain or a PLL of it. -/
def okDom (u x : Nat) : Bool := decide (u ≤ Config.n) && decide (x < if u = 0 then 5 else 18)
/-- A PLL of a unit's block (R347). -/
def okPll (u k : Nat) : Bool := decide (u ≤ Config.n) && decide (k < if u = 0 then 5 else 7)

/-- The PLL of a domain's primary (R348). -/
def State.primaryPll (s : State) (u x : Nat) : Nat :=
  if u = 0 then x else if x < 16 then s.rd (.clk .DOM_PLLSEL) u x else 6

/-- Whether the FIO of a unit is ready and not failed. -/
def State.fioGood (s : State) (u : Nat) : Bool := s.has (.clk .OSC_FIO_RDY) u 0 1 && s.has (.clk .OSC_FIO_FAIL) u 0 0

/-- The input that a domain takes when its primary is lost: 1 FIO, 2 SIO (R354). -/
def State.fallback (s : State) (u : Nat) : Nat := if s.fioGood u then 1 else 2

/-- The input of a domain changes; the DDR domain's departure from its primary and its return act on the DRAM (R356). -/
def State.setInput (s : State) (u x v : Nat) : State :=
  let was := s.rd (.clk .DOM_ACT) u x
  let s := s.wr (.clk .DOM_ACT) u x v
  if u = 0 ∧ x = 3 ∧ was = 0 ∧ v ≠ 0 then s.ddrLosesClock else s

/-- CLK_OSC as its register reads (R362). -/
def State.oscWord (s : State) (u : Nat) : Nat :=
  s.rd (.clk .OSC_SIO_OK) u + s.rd (.clk .OSC_FIO_RDY) u * 2 + s.rd (.clk .OSC_SIO_FAIL) u * 4 +
    s.rd (.clk .OSC_FIO_FAIL) u * 8 + s.rd (.clk .OSC_BOTH) u * 16 + s.rd (.clk .OSC_FIO_PPM) u * 256

/-- A force-switch of a domain to input `v` (R352): INTR, FORCED, the emergency, and the void of the tick. -/
def State.forceTo (s : State) (u x v : Nat) : State :=
  let s := s.setInput u x v
  let s := (s.wr (.clk .DOM_INTR) u x 1).inc (.clk .DOM_FORCED) u x
  let s := s.raiseEvent 0x5110 u x
  s.voidTick 0x08 (if u = 0 ∨ 16 ≤ x then 0 else x) u

/-- FORCE_SWITCH (R352): the monitor of domain `x` of unit `u` counts 32 SIO cycles without an edge of its input, and the
domain force-switches; with both oscillators failed it keeps its input. -/
def execForceSwitch (u x : Nat) (s : State) : Answer :=
  actCore (okDom u x) s
    (if s.has (.clk .OSC_BOTH) u 0 1 then s
     else
       match s.rd (.clk .DOM_ACT) u x with
       | 0 => s.forceTo u x (s.fallback u)
       | 1 => s.forceTo u x 2
       | _ => s.forceTo u x 1)

/-- PLL_UNLOCK (R353): the lock detector of PLL `k` of unit `u` trips: its domains switch normally to their fallback, and
the tick does not void. -/
def execPllUnlock (u k : Nat) (s : State) : Answer :=
  actCore (okPll u k) s
    (if s.has (.clk .PLL_LOCK) u k 0 then s
     else
       let s := ((s.wr (.clk .PLL_LOCK) u k 0).wr (.clk .PLL_UNLOCK) u k 1).inc (.clk .PLL_LOSSES) u k
       let s := s.raiseEvent 0x5111 u k
       each ((domainsOf u).filter fun x => s.primaryPll u x == k && s.has (.clk .DOM_ACT) u x 0)
         (fun x s => s.setInput u x (s.fallback u)) s)

/-- AUTO_RETURN (R355): the primary PLL of domain `x` of unit `u` has held lock for 1 ms: with AUTORET the domain
returns to it. -/
def execAutoReturn (u x : Nat) (s : State) : Answer :=
  actCore (okDom u x) s
    (if s.has (.clk .DOM_AUTORET) u x 1 && s.has (.clk .PLL_LOCK) u (s.primaryPll u x) 1 then s.setInput u x 0 else s)

/-- Whether a domain command is refused with code 1: a tree that must not change its frequency, or the DDR domain, while
the tick can run (R355). -/
def State.domainHeld (s : State) (u x : Nat) : Bool :=
  s.tickLive && ((u == 0 && x == 3) || (u != 0 && decide (x < 16) && s.has (.fab .TREE_NOTHROTTLE) u x 1))

/-- CLK_RESTORE (R355): RESTORE returns domain `x` of unit `u` to its primary, or is refused. -/
def execClkRestore (u x : Nat) (s : State) : Answer :=
  actCore (okDom u x) s
    (if s.domainHeld u x then s.wr (.clk .DOMCTL_REFUSE) u x 1
     else if s.has (.clk .PLL_LOCK) u (s.primaryPll u x) 0 then s.wr (.clk .DOMCTL_REFUSE) u x 2
     else (s.wr (.clk .DOMCTL_REFUSE) u x 0).setInput u x 0)

/-- CLK_FALLBACK (R355): FALLBACK moves domain `x` of unit `u` to the FIO, or is refused. -/
def execClkFallback (u x : Nat) (s : State) : Answer :=
  actCore (okDom u x) s
    (if s.domainHeld u x then s.wr (.clk .DOMCTL_REFUSE) u x 1
     else if !s.fioGood u then s.wr (.clk .DOMCTL_REFUSE) u x 3
     else (s.wr (.clk .DOMCTL_REFUSE) u x 0).setInput u x 1)

/-! ### PLLs -/

/-- A PLL setting: N, F and D (R347). -/
structure PllSet where
  n : Nat
  f : Nat
  d : Nat
  deriving DecidableEq, Repr

/-- The setting of a PLL in force. -/
def State.pllSet (s : State) (u k : Nat) : PllSet := ⟨s.rd (.clk .PLL_N) u k, s.rd (.clk .PLL_F) u k, s.rd (.clk .PLL_D) u k⟩

/-- Whether N, D and the VCO lie in their ranges (R347). -/
def pllValid (p : PllSet) : Bool :=
  decide (40 ≤ p.n) && decide (p.n ≤ 80) && decide (2 ≤ p.d) && decide (p.d ≤ 64) &&
    decide (p.n * 2 ^ 24 + p.f ≤ 80 * 2 ^ 24)

/-- Whether the frequency of a tree stays within `fmax` MHz: 100 MHz × (N + F / 2^24) / D / 2^TDIV. -/
def withinFmax (p : PllSet) (tdiv fmax : Nat) : Bool :=
  decide (100 * (p.n * 2 ^ 24 + p.f) ≤ fmax * p.d * 2 ^ tdiv * 2 ^ 24)

/-- The frequency of a tree's primary in whole MHz (R362 FNOM). -/
def treeMhz (p : PllSet) (tdiv : Nat) : Nat := 100 * (p.n * 2 ^ 24 + p.f) / (p.d * 2 ^ tdiv * 2 ^ 24)

/-- Whether two settings give one frequency. -/
def sameFrequency (p q : PllSet) (a b : Nat) : Bool :=
  (p.n * 2 ^ 24 + p.f) * (q.d * 2 ^ b) == (q.n * 2 ^ 24 + q.f) * (p.d * 2 ^ a)

/-- The trees of a die that run from PLL `k`. -/
def State.treesOn (s : State) (u k : Nat) : List Nat := (List.range 16).filter fun x => s.has (.clk .DOM_PLLSEL) u x k

/-- Whether tree `x` may take setting `p` with divider `tdiv` (R350). -/
def State.treeTakes (s : State) (u x tdiv : Nat) (p : PllSet) : Bool :=
  s.has (.fab .TREE_DEPTH) u x 0 ||
    (withinFmax p tdiv (s.rd (.fab .TREE_FMAX) u x) &&
      (s.has (.fab .TREE_NOTHROTTLE) u x 0 ||
        sameFrequency (s.pllSet u (s.rd (.clk .DOM_PLLSEL) u x)) p (s.rd (.clk .DOM_TDIV) u x) tdiv))

/-- FNOM of a tree follows its settings. -/
def State.setFnom (s : State) (u x : Nat) : State :=
  s.wr (.clk .DOM_FNOM) u x (treeMhz (s.pllSet u (s.rd (.clk .DOM_PLLSEL) u x)) (s.rd (.clk .DOM_TDIV) u x))

/-- A write of `v` to CLK_PLL(k) of a die (R350): refused, or the PLL relocks while its trees run on the FIO. -/
def State.rewritePll (s : State) (u k v : Nat) : State :=
  let p : PllSet := ⟨slice v 0 7, slice v 7 24, slice v 31 7⟩
  let l := s.treesOn u k
  let refuse := fun (c : Nat) => each l (fun x s => s.wr (.clk .DOMCTL_REFUSE) u x c)
  if !s.tickIdle || !pllValid p || !(l.all fun x => s.treeTakes u x (s.rd (.clk .DOM_TDIV) u x) p) then refuse 4 s
  else
    let s := refuse 0 s
    let s := ((s.wr (.clk .PLL_N) u k p.n).wr (.clk .PLL_F) u k p.f).wr (.clk .PLL_D) u k p.d
    let left := l.filter fun x => s.has (.clk .DOM_ACT) u x 0
    let kept := if s.has (.clk .relock) u k 0 then 0 else s.rd (.clk .relock) u k
    let s := (s.wr (.clk .PLL_LOCK) u k 0).wr (.clk .relock) u k (left.foldl (fun a x => a ||| 2 ^ (1 + x)) (kept ||| 1))
    each l (fun x s => (s.setInput u x (if left.contains x then s.fallback u else s.rd (.clk .DOM_ACT) u x)).setFnom u x) s

/-- A write of `v` to CLK_DOM(x) of a tree (R350): PLLSEL and TDIV are refused, or taken with the tree on the FIO while
its PLL is not locked. -/
def State.rewriteTree (s : State) (u x v : Nat) : State :=
  let k := slice v 2 3
  let tdiv := slice v 5 2
  if k = s.rd (.clk .DOM_PLLSEL) u x ∧ tdiv = s.rd (.clk .DOM_TDIV) u x then s
  else if !s.tickIdle || decide (5 < k) || !s.treeTakes u x tdiv (s.pllSet u k) then s.wr (.clk .DOMCTL_REFUSE) u x 4
  else
    let s := ((s.wr (.clk .DOMCTL_REFUSE) u x 0).wr (.clk .DOM_PLLSEL) u x k).wr (.clk .DOM_TDIV) u x tdiv
    let s := s.setFnom u x
    if s.has (.clk .PLL_LOCK) u k 1 ∨ s.rd (.clk .DOM_ACT) u x ≠ 0 then s
    else
      let s := if s.has (.clk .relock) u k 0 then s else s.wr (.clk .relock) u k (s.rd (.clk .relock) u k ||| 2 ^ (1 + x))
      s.setInput u x (s.fallback u)

/-- PLL_REWRITE (R350): the host writes `v` to CLK_PLL(j) (`tree` false) or CLK_DOM(j) (`tree` true) of die `d`; the
system PLLs and the die PLL are not writable. -/
def execPllRewrite (d : Nat) (tree : Bool) (j v : Nat) (s : State) : Answer :=
  actCore (okDie d && decide (j < 18)) s
    (if tree then (if j < 16 then s.rewriteTree (1 + d) j v else s)
     else if j < 6 then s.rewritePll (1 + d) j v else s)

/-- The PLLs that the device itself sets are in use: the Plinth's, and a die's die PLL (R347). -/
def State.enablePlls (s : State) (u : Nat) : State :=
  each (if u = 0 then List.range 5 else [6]) (fun k s => s.wr (.clk .PLL_EN) u k 1) s

/-- PLL_LOCK (R345, R347, R350): PLL `k` of unit `u` locks after it is enabled or rewritten; trees that left it for a rewrite
return. The reference PLL ends its holdover. -/
def execPllLock (u k : Nat) (s : State) : Answer :=
  actCore (okPll u k) s
    (if s.has (.clk .PLL_EN) u k 0 then s
     else
       let left := s.rd (.clk .relock) u k
       let s := (s.wr (.clk .PLL_LOCK) u k 1).wr (.clk .relock) u k 0
       let s := if u = 0 ∧ k = 4 then s.wr (.clk .REF_HOLD) 0 0 0 else s
       each ((domainsOf u).filter fun x => s.primaryPll u x == k && left.testBit (1 + x)) (fun x s => s.setInput u x 0) s)

/-! ### Oscillators -/

/-- FIO_READY (R343, R354): the FIO of unit `u` reports ready, and the domains on the SIO move to it. -/
def execFioReady (u : Nat) (s : State) : Answer :=
  actCore (decide (u ≤ Config.n)) s
    (if s.has (.clk .OSC_FIO_FAIL) u 0 1 then s
     else
       let s := s.wr (.clk .OSC_FIO_RDY) u 0 1
       each ((domainsOf u).filter fun x => s.has (.clk .DOM_ACT) u x 2) (fun x s => s.setInput u x 1) s)

/-- An oscillator of a unit is declared failed (R354): domains on it force-switch to the other, unless both have
failed. -/
def State.oscFails (s : State) (u : Nat) (flag other : ClkF) (on toward : Nat) : State :=
  if s.has (.clk flag) u 0 1 then s
  else
    let s := s.wr (.clk flag) u 0 1
    let both := s.has (.clk other) u 0 1
    let s := if both then s.wr (.clk .OSC_BOTH) u 0 1 else s
    let s := s.raiseCondAs (2 * u + b2n (on == 1)) 0x5113 u (s.oscWord u)
    if both then s
    else each ((domainsOf u).filter fun x => s.has (.clk .DOM_ACT) u x on) (fun x s => s.forceTo u x toward) s

/-- FIO_FAILURE (R354): the SIO of unit `u` declares the FIO failed, and the domains on it force-switch to the SIO. -/
def execFioFailure (u : Nat) (s : State) : Answer :=
  actCore (decide (u ≤ Config.n)) s ((s.wr (.clk .OSC_FIO_RDY) u 0 0).oscFails u .OSC_FIO_FAIL .OSC_SIO_FAIL 1 2)

/-- SIO_FAILURE (R354): the FIO of unit `u` declares the SIO failed, and the domains on it force-switch to the FIO. -/
def execSioFailure (u : Nat) (s : State) : Answer :=
  actCore (decide (u ≤ Config.n)) s ((s.wr (.clk .OSC_SIO_OK) u 0 0).oscFails u .OSC_SIO_FAIL .OSC_FIO_FAIL 2 1)

/-- Whether the trimmer's reference `src` meets its condition in unit `u` (R357). -/
def State.trimReference (s : State) (u src : Nat) : Bool :=
  match src with
  | 1 => if u = 0 then s.rd (.clk .REF_ACT) != 0 && s.has (.clk .PLL_LOCK) 0 4 1 else s.has (.clk .ownRef) u 0 0
  | 2 => s.locked
  | _ => false

/-- Whether a trimmer's reference goes back to a crystal, or to a time source (R357). -/
def State.trueReference (s : State) (src : Nat) : Bool :=
  if src = 1 then s.rd (.clk .REF_ACT) != 0 else s.rd (.tick .SRC_SRC) != 0

/-- FIO_TRIM (R357): the trimmer of unit `u` counts the FIO at `ppm` from 400 MHz (16 bits, two's complement) and moves
the trim code by at most one step: 0 none, 1 up, 2 down, as leads towards 400 MHz. Without a reference it holds. TRIMMED reports
a reference that holds ±100 ppm. -/
def execFioTrim (u ppm move : Nat) (s : State) : Answer :=
  actCore (decide (u ≤ Config.n) && decide (ppm < 65536) && decide (move < 3)) s
    (let src := s.rd (.clk .FIOTRIM_SRC) u
     let used := if src = 0 then 0 else if s.trimReference u src then src else if s.trimReference u (3 - src) then 3 - src else 0
     if used = 0 then s
     else
       let c := s.rd (.clk .FIOTRIM_CODE) u
       let s := s.wr (.clk .OSC_FIO_PPM) u 0 ppm
       let s := s.wr (.clk .FIOTRIM_CODE) u 0 (if move = 1 then min 1023 (c + 1) else if move = 2 then c - 1 else c)
       s.wr (.clk .FIOTRIM_TRIMMED) u 0 (b2n (s.trueReference used && decide ((toSigned 16 ppm).natAbs ≤ 100))))

/-! ### References -/

/-- CLK_REF as its register reads (R362). -/
def State.refWord (s : State) : Nat :=
  s.rd (.clk .REF_SRC) + s.rd (.clk .REF_ALT) * 4 + s.rd (.clk .REF_ACT) * 8 + s.rd (.clk .REF_HOLD) * 32 +
    s.rd (.clk .REF_SWITCHED) * 64

/-- The reference PLL's input moves to `v`: 0 FIO, 1 XIN0, 2 XIN1, with SWITCHED and the emergency (R345). -/
def State.switchReference (s : State) (v : Nat) : State :=
  if s.has (.clk .REF_ACT) 0 0 v then s
  else
    let s := (s.wr (.clk .REF_ACT) 0 0 v).wr (.clk .REF_SWITCHED) 0 0 1
    s.raiseEvent 0x5112 0 s.refWord

/-- The user lanes that take reference `r` lose or keep their PLL lock: a failed input holds PLLLOCK at 0 (R346). -/
def State.dropLanePlls (s : State) (r : Nat) : State :=
  each ((List.range 32).filter fun u => s.has (.pp .UCFG_USED) 0 u 1 && s.has (.pp .UCFG_REF) 0 u r)
    (fun u s => s.wr (.pp .USTAT_PLLLOCK) 0 u 0) s

/-- XIN_LOST (R345): input XIN`i`, which was good, stops being so; where it is the input in use, the reference PLL holds over
and moves to the other XIN, or to the FIO, until it locks again. -/
def execXinLost (i : Nat) (s : State) : Answer :=
  actCore (decide (i < 2)) s
    (if s.has (.clk .XIN_GOOD) 0 i 0 then s else
     let s := ((s.wr (.clk .XIN_GOOD) 0 i 0).wr (.clk .XIN_LOST) 0 i 1).dropLanePlls (1 + i)
     if s.has (.clk .REF_ACT) 0 0 (1 + i) then
       (s.wr (.clk .REF_HOLD) 0 0 1).switchReference (if s.has (.clk .REF_ALT) 0 0 1 && s.has (.clk .XIN_GOOD) 0 (1 - i) 1 then 2 - i else 0)
     else s)

/-- REFERENCE_RETURN (R345, R346): input XIN`i` has been good for 1 s (`u` 0), and the reference returns to it where it
is the one selected; for a die (`u` above 0), SREF has. -/
def execReferenceReturn (u i : Nat) (s : State) : Answer :=
  actCore (decide (u ≤ Config.n) && decide (i < 2)) s
    (if u ≠ 0 then
       (if s.has (.clk .ownRef) u 0 1 then (s.wr (.clk .ownRef) u 0 0).raiseEvent 0x5112 u 0 else s)
     else if s.rd (.clk .XIN_FREQ) 0 i = 0 then s
     else
       let s := s.wr (.clk .XIN_GOOD) 0 i 1
       if s.has (.clk .REF_SRC) 0 0 (1 + i) then s.switchReference (1 + i) else s)

/-- SREF_LOST_AT_DIE (R346): SREF stops being good at die `d`, whose reference selector takes the die's own FIO. -/
def execSrefLostAtDie (d : Nat) (s : State) : Answer :=
  actCore (okDie d) s
    (if s.has (.clk .ownRef) (1 + d) 0 1 then s
     else (s.wr (.clk .ownRef) (1 + d) 0 1).raiseEvent 0x5112 (1 + d) 0)

end Sys2Proof.Machine
end

