-- ==== Sys2Proof/Machine/Ports.lean ====
section
/-! DEFINITION. Partner ports and user lanes (R288 to R318). -/

namespace Sys2Proof.Machine

/-! ### Configurations -/

/-- The number of lanes of a port mode (R290); none for a reserved mode. -/
def modeLanes : Nat → Option Nat
  | 0 => some 0
  | 1 | 2 | 4 | 7 | 8 => some 1
  | 5 | 9 => some 2
  | 3 | 6 | 10 => some 4
  | _ => none

/-- The number of ones among the low four bits. -/
def ones4 (m : Nat) : Nat := m % 2 + m / 2 % 2 + m / 4 % 2 + m / 8 % 2

/-- Whether the low eleven bits of a configuration are valid (R291): mode, lane mask, AN, LT, NOFEC. -/
def portModeValid (w : Nat) : Bool :=
  let mode := slice w 0 4
  let lanes := slice w 4 4
  modeLanes mode == some (ones4 lanes) && !(w.testBit 8 && !lanes.testBit 0) && !(w.testBit 10 && mode != 2)

/-- Whether a PP_CFG value is valid (R291, R317). -/
def portCfgValid (v : Nat) : Bool :=
  let pay := slice v 14 14
  portModeValid v &&
    (slice v 0 4 == 0 || (decide (168 ≤ pay) && decide (pay ≤ 9000) && decide (1 ≤ slice v 28 8)))

/-- Whether a PP_ALT value is valid (R291, R317); an alternative with mode 0 is absent. -/
def portAltValid (v : Nat) : Bool :=
  (List.range 3).all fun i =>
    let a := slice v (12 * i) 12
    slice a 0 4 == 0 || (portModeValid a && !a.testBit 11)

/-- Whether an address lacks the multicast bit. -/
def unicast (v : Nat) : Bool := !v.testBit 40

/-- Whether an EtherType may name Caravan frames (R317). -/
def etypeValid (v : Nat) : Bool :=
  let e := v % 65536
  decide (0x0600 ≤ e) && e != 0x8100 && e != 0x88A8 && e != 0x88F7

/-- Whether a PP_PTP value is valid (R317). -/
def ptpValid (v : Nat) : Bool := slice v 0 2 != 3 && (slice v 3 5 == 0 || decide (25 ≤ slice v 3 5))

/-- The configuration registers of a port: 0 PP_CFG, 1 PP_ALT, 2 PP_MAC, 3 PP_CVN, 4 PP_PTP. -/
def portRegValid (reg v : Nat) : Bool :=
  match reg with
  | 0 => portCfgValid v
  | 1 => portAltValid v
  | 2 => unicast v
  | 3 => etypeValid v
  | _ => ptpValid v

/-- The fields of a configuration register with their places. -/
def portRegFields (reg : Nat) : List PpF :=
  match reg with
  | 0 => [.CFG_MODE, .CFG_LANES, .CFG_AN, .CFG_LT, .CFG_NOFEC, .CFG_ALT_EN, .CFG_AUTOSTART, .CFG_AUTORETRY,
      .CFG_MAXPAY, .CFG_ATTEMPT]
  | 1 => [.ALT_ALT1, .ALT_ALT2, .ALT_ALT3]
  | 2 => [.MAC_ADDR]
  | 3 => [.CVN_ETYPE]
  | _ => [.PTP_ROLE, .PTP_P2P, .PTP_LOGSYNC, .PTP_DOMAIN, .PTP_ASYM]

/-- The fields of a register written from `v`, whatever the access. -/
def State.putFields (s : State) (l : List PpF) (j v : Nat) : State :=
  each l (fun f s => s.wr (.pp f) 0 j (slice v (ppInfo f).lo (ppInfo f).width)) s

/-- A configuration register as it reads. -/
def State.portReg (s : State) (reg p : Nat) : Nat :=
  (portRegFields reg).foldl (fun a f => a + s.rd (.pp f) 0 p * 2 ^ (ppInfo f).lo) 0

/-- A write of `v` to a configuration register of port `p` (R317): taken only while the port is DISABLED and where the
value is valid; PP_PTP.ASYM is writable at any time. -/
def State.writePortReg (s : State) (reg p v : Nat) : State :=
  if s.has (.pp .STAT_STATE) 0 p 0 then
    if portRegValid reg v then (s.putFields (portRegFields reg) p v).wr (.pp .STAT_REFUSE) 0 p 0
    else s.wr (.pp .STAT_REFUSE) 0 p 4
  else if reg = 4 then
    let t := s.wr (.pp .PTP_ASYM) 0 p (slice v 16 16)
    if s.portReg 4 p % 65536 = v % 65536 then t.wr (.pp .STAT_REFUSE) 0 p 0 else t.wr (.pp .STAT_REFUSE) 0 p 4
  else s.wr (.pp .STAT_REFUSE) 0 p 4

/-! ### Bring-up -/

/-- Entry `e` of the attempt list of port `p` (R294): mode, lanes, AN, LT and NOFEC in the low eleven bits. -/
def State.attempt (s : State) (p e : Nat) : Nat :=
  match e with
  | 0 => s.portReg 0 p % 2048
  | 1 => s.rd (.pp .ALT_ALT1) 0 p
  | 2 => s.rd (.pp .ALT_ALT2) 0 p
  | _ => s.rd (.pp .ALT_ALT3) 0 p

/-- The attempt list of port `p` (R294). -/
def State.attempts (s : State) (p : Nat) : List Nat :=
  0 :: (if s.has (.pp .CFG_ALT_EN) 0 p 1 then [1, 2, 3].filter fun e => slice (s.attempt p e) 0 4 != 0 else [])

/-- The lanes in use of a port, with their status registers (R317). -/
def State.setLanes (s : State) (p m : Nat) : State :=
  each (List.range 4)
    (fun i s =>
      let on := b2n (m.testBit i)
      ((s.wr (.pp .LSTAT_INUSE) 0 (4 * p + i) on).wr (.pp .LSTAT_SIGDET) 0 (4 * p + i) 0).wr
        (.pp .LSTAT_CDRLOCK) 0 (4 * p + i) 0)
    (s.wr (.pp .STAT_ACTIVE) 0 p m)

/-- The failed lanes of a port, with their status registers (R293, R317). -/
def State.setFailed (s : State) (p m : Nat) : State :=
  each (List.range 4) (fun i s => s.wr (.pp .LSTAT_FAILED) 0 (4 * p + i) (b2n (m.testBit i)))
    (s.wr (.pp .STAT_FAILED) 0 p m)

/-- An attempt at entry `e` begins (R292). -/
def State.startAttempt (s : State) (p e : Nat) : State :=
  let a := s.attempt p e
  let s := (s.wr (.pp .STAT_ENTRY) 0 p e).setLanes p (slice a 4 4)
  s.wr (.pp .STAT_STATE) 0 p (if a.testBit 8 then 1 else if a.testBit 9 then 2 else 3)

/-- Whether port `p` is the time-source port (R304). -/
def State.sourcePort (s : State) (p : Nat) : Bool := s.has (.tick .SRC_SRC) 0 0 2 && s.has (.tick .SRC_PORT) 0 0 p

/-- The source port has lost its source (R304). -/
def State.loseSource (s : State) (p : Nat) : State :=
  if s.sourcePort p then (s.wr (.pp .STAT_SRCLOST) 0 p 1).loseLock else s

/-- PP_STAT(p) [31:0] (R476). -/
def State.portStatus (s : State) (p : Nat) : Nat :=
  s.rd (.pp .STAT_STATE) 0 p + s.rd (.pp .STAT_ENTRY) 0 p * 8 + s.rd (.pp .STAT_DEGRADED) 0 p * 32 +
    s.rd (.pp .STAT_FAILED) 0 p * 64 + s.rd (.pp .STAT_ACTIVE) 0 p * 1024 + s.rd (.pp .STAT_REFUSE) 0 p * 16384 +
    s.rd (.pp .STAT_DOWN) 0 p * 131072 + s.rd (.pp .STAT_LOSSES) 0 p * 262144

/-- The port leaves UP for state `to` with the failed lanes `m` (R293, R295, R297): its waiting frames are dropped and
counted, and an emergency is raised. -/
def State.leaveUp (s : State) (p m toward : Nat) : State :=
  let s := ((s.wr (.pp .STAT_STATE) 0 p toward).setLanes p 0).setFailed p m
  let s := ((s.wr (.pp .STAT_DOWN) 0 p 1).inc (.pp .STAT_LOSSES) 0 p).wr (.pp .STAT_DEGRADED) 0 p 0
  let s := s.add (.pp .TXCNT_DROP) 0 p (s.waitingAt p).length
  let s : State := { s with portTx := s.portTx.filter fun f => f.port != p }
  let s := (s.endCond 0x7210 p).raiseCond 0x7200 p (s.portStatus p)
  s.loseSource p

/-- The port goes to DISABLED: its lanes are powered off (R288). -/
def State.disablePort (s : State) (p : Nat) : State :=
  if s.portUp p then s.leaveUp p 0 0 else (s.setLanes p 0).wr (.pp .STAT_STATE) 0 p 0

/-- The entry that a port begins with after it leaves UP (R294): the first without a failed lane, else the primary. -/
def State.firstEntry (s : State) (p : Nat) : Nat :=
  ((s.attempts p).find? fun e => slice (s.attempt p e) 4 4 &&& s.rd (.pp .STAT_FAILED) 0 p == 0).getD 0

/-- Whether DISABLE and RESTART of port `p` are refused with code 2 (R307). -/
def State.portHeld (s : State) (p : Nat) : Bool :=
  s.tickLive && (s.sourcePort p || (s.has (.tick .GROUP_EN) 0 0 1 && s.has (.tick .GROUP_PORT) 0 0 p))

/-- Whether a test pattern is set on a lane of port `p` (R314). -/
def State.portPattern (s : State) (p : Nat) : Bool :=
  (List.range 4).any fun i => s.rd (.pp .LPRBS_GEN) 0 (4 * p + i) != 0 || s.rd (.pp .LPRBS_CHK) 0 (4 * p + i) != 0

/-- A partner port. -/
def okPort6 (p : Nat) : Bool := decide (p < 6)

/-- PP_ENABLE (R292, R314): ENABLE starts bring-up of port `p` through the attempt list, or is refused: 1 outside
DISABLED or for mode 0, 3 with a test pattern set. -/
def execPpEnable (p : Nat) (s : State) : Answer :=
  actCore (okPort6 p) s
    (if s.rd (.pp .STAT_STATE) 0 p ≠ 0 ∨ s.rd (.pp .CFG_MODE) 0 p = 0 then s.wr (.pp .STAT_REFUSE) 0 p 1
     else if s.portPattern p then s.wr (.pp .STAT_REFUSE) 0 p 3
     else (s.wr (.pp .STAT_REFUSE) 0 p 0).startAttempt p 0)

/-- PP_DISABLE (R292, R307): DISABLE powers the lanes of port `p` off, or is refused. -/
def execPpDisable (p : Nat) (s : State) : Answer :=
  actCore (okPort6 p) s
    (if s.has (.pp .STAT_STATE) 0 p 0 then s.wr (.pp .STAT_REFUSE) 0 p 1
     else if s.portHeld p then s.wr (.pp .STAT_REFUSE) 0 p 2
     else (s.wr (.pp .STAT_REFUSE) 0 p 0).disablePort p)

/-- PP_RESTART (R294, R307): RESTART clears FAILED and starts port `p` again from the primary configuration, or is
refused. -/
def execPpRestart (p : Nat) (s : State) : Answer :=
  actCore (okPort6 p) s
    (if s.has (.pp .STAT_STATE) 0 p 0 then s.wr (.pp .STAT_REFUSE) 0 p 1
     else if s.portHeld p then s.wr (.pp .STAT_REFUSE) 0 p 2
     else
       let s := s.wr (.pp .STAT_REFUSE) 0 p 0
       let s := if s.portUp p then s.leaveUp p 0 3 else s
       (s.setFailed p 0).startAttempt p 0)

/-- PORT_UP (R292, R295): the attempt in progress on port `p` reaches state `st'`: TRAIN (2) after NEGOTIATE where LT is set,
ALIGN (3), or UP (4), where on an alternative the port is DEGRADED. -/
def execPortUp (p : Nat) (s : State) (st' : Nat := 4) : Answer :=
  actCore (okPort6 p && decide (2 ≤ st') && decide (st' ≤ 4)) s
    (let st := s.rd (.pp .STAT_STATE) 0 p
     let lt := (s.attempt p (s.rd (.pp .STAT_ENTRY) 0 p)).testBit 9
     if st' = 2 then (if st = 1 ∧ lt = true then s.wr (.pp .STAT_STATE) 0 p 2 else s)
     else if st' = 3 then (if st = 2 ∨ (st = 1 ∧ lt = false) then s.wr (.pp .STAT_STATE) 0 p 3 else s)
     else if st = 1 ∨ st = 2 ∨ st = 3 then
       let s := (s.wr (.pp .STAT_STATE) 0 p 4).endCond 0x7200 p
       let s := each ((List.range 4).filter fun i => (s.rd (.pp .STAT_ACTIVE) 0 p).testBit i)
         (fun i s => (s.wr (.pp .LSTAT_SIGDET) 0 (4 * p + i) 1).wr (.pp .LSTAT_CDRLOCK) 0 (4 * p + i) 1) s
       if s.has (.pp .STAT_ENTRY) 0 p 0 then s
       else
         let s := s.wr (.pp .STAT_DEGRADED) 0 p 1
         s.raiseCond 0x7210 p (s.portStatus p)
     else s)

/-- ATTEMPT_TIMEOUT (R292, R294): the attempt in progress on port `p` fails: the port goes to the next entry, and after
the last one to WAIT or FAILED. -/
def execAttemptTimeout (p : Nat) (s : State) : Answer :=
  actCore (okPort6 p) s
    (let st := s.rd (.pp .STAT_STATE) 0 p
     if st = 1 ∨ st = 2 ∨ st = 3 then
       match (s.attempts p).find? fun e => decide (s.rd (.pp .STAT_ENTRY) 0 p < e) with
       | some e => s.startAttempt p e
       | none =>
         if s.has (.pp .CFG_AUTORETRY) 0 p 1 then ((s.setLanes p 0).setFailed p 0).wr (.pp .STAT_STATE) 0 p 5
         else (s.setLanes p 0).wr (.pp .STAT_STATE) 0 p 6
     else s)

/-- PORT_WAIT_EXPIRY (R294): the 1 s WAIT of port `p` ends, and it starts again from the primary configuration. -/
def execPortWaitExpiry (p : Nat) (s : State) : Answer :=
  actCore (okPort6 p) s (if s.has (.pp .STAT_STATE) 0 p 5 then s.startAttempt p 0 else s)

/-- LANE_FAILURE (R293, R294): lanes `m` of port `p` fail, or the PCS of the whole port does (`m` 0), and a port that is
UP leaves it for the first entry of its list without a failed lane. -/
def execLaneFailure (p m : Nat) (s : State) : Answer :=
  actCore (okPort6 p && decide (m < 16)) s
    (if s.portUp p then
       let s := s.leaveUp p (m &&& s.rd (.pp .STAT_ACTIVE) 0 p) 3
       s.startAttempt p (s.firstEntry p)
     else s)

/-! ### Frames -/

/-- The first waiting frame of the highest class of port `p` (R302). -/
def State.nextFrame (s : State) (p : Nat) : Option TxFrame :=
  [0, 1, 2].foldl (fun a c => a <|> (s.waitingAt p).find? fun f => f.cls == c) none

/-- FRAME_TRANSMIT (R302): at a frame boundary port `p` sends its first waiting frame of the highest class. -/
def execFrameTransmit (p : Nat) (s : State) : Answer :=
  actCore (okPort6 p) s
    (if s.portUp p then
       match s.nextFrame p with
       | none => s
       | some f =>
         let s : State := { s with portTx := s.portTx.erase f }
         let s := if f.cls = 1 then s else s.inc (.pp .TXCNT_FRAMES) 0 p
         s.emit (match f.cls with | 0 => .group | 1 => .ptp | _ => .caravan) p f.bytes
     else s)

/-- Whether port `p` measures peer delay: as PP_PTP.P2P says, and always in the 802.1AS profile (R304). -/
def State.peerDelay (s : State) (p : Nat) : Bool := s.has (.pp .PTP_P2P) 0 p 1 || s.has (.tick .SRC_PROFILE) 0 0 1

/-- An IEEE 1588 message of port `p` on the wire (R304): its destination, the port's address, EtherType 0x88F7, the message
type, the version, `len` bytes and the domain; the spec leaves the rest of its bytes to IEEE 1588-2019. -/
def State.ptpImage (s : State) (p type len : Nat) : List Nat :=
  let peer := type == 2 || type == 3 || type == 10
  let sdo := s.rd (.tick .SRC_PROFILE)
  withFcs (beBytes 6 (if peer then 0x0180C200000E else 0x011B19000000) ++ beBytes 6 (s.rd (.pp .MAC_ADDR) 0 p) ++ [0x88, 0xF7] ++
    padded 46 ([16 * sdo + type, 0x12] ++ beBytes 2 len ++ [s.rd (.pp .PTP_DOMAIN) 0 p] ++ beBytes (len - 5) (s.freeValue (8 * (len - 5)))))

/-- Port `p` sends an IEEE 1588 message of `len` bytes. -/
def State.sendPtp (s : State) (p type len : Nat) : State := (s.giveFrame p 1 (s.ptpImage p type len)).spend

/-- Port `p` asks for the delay of its path, by its mechanism (R304). -/
def State.askDelay (s : State) (p : Nat) : State := if s.peerDelay p then s.sendPtp p 2 54 else s.sendPtp p 1 44

/-- PTP_MESSAGE (R304, R9): port `p` receives and timestamps an IEEE 1588 message of a type and a domain; a port of role 0, of
another domain or not UP accepts none. A slave port has a Sync (0) of its master and measures its delay; a master answers a
Delay_Req (1); a port with peer delay answers a Pdelay_Req (2) in two steps. -/
def execPtpMessage (p type : Nat) (s : State) (domain : Nat := 0) : Answer :=
  actCore (okPort6 p && decide (type < 16) && decide (domain < 256)) s
    (let role := s.rd (.pp .PTP_ROLE) 0 p
     if s.portUp p && role != 0 && s.has (.pp .PTP_DOMAIN) 0 p domain then
       let s := s.inc (.pp .RXCNT_PTP) 0 p
       if type = 0 ∧ role = 2 ∧ s.sourcePort p = true then (s.wr (.pp .STAT_SRCLOST) 0 p 0).askDelay p
       else if type = 1 ∧ role = 1 ∧ s.peerDelay p = false then s.sendPtp p 9 54
       else if type = 2 ∧ s.peerDelay p = true then (s.sendPtp p 3 54).sendPtp p 10 54
       else s
     else s)

/-- PTP_SYNC_INTERVAL (R304, R9): the Sync interval of master port `p` ends, and it sends Sync and, two-step, Follow_Up, with
peer delay a Pdelay_Req too; a port that is not UP sends none. -/
def execPtpSyncInterval (p : Nat) (s : State) : Answer :=
  actCore (okPort6 p) s
    (if s.has (.pp .PTP_ROLE) 0 p 1 && s.portUp p then
       let s := (s.sendPtp p 0 44).sendPtp p 8 44
       if s.peerDelay p then s.askDelay p else s
     else s)

/-- SOURCE_SYNC_LOSS (R304): the source port `p` has received no Sync for three Sync intervals: SRCLOST is set, and the
time base counts as unlocked. -/
def execSourceSyncLoss (p : Nat) (s : State) : Answer := actCore (okPort6 p) s (s.loseSource p)

/-! ### User lanes -/

/-- A user lane of this member (R288). -/
def okLane (u : Nat) : Bool := decide (u < 4 * Config.n)

/-- Whether user lane `u` is powered (R288, R315). -/
def State.laneOn (s : State) (u : Nat) : Bool := s.has (.pp .UCFG_USED) 0 u 1 && !s.isolated (u / 4)

/-- The width of a user lane's words (R309). -/
def State.laneWidth (s : State) (u : Nat) : Nat :=
  match s.rd (.pp .UCFG_WIDTH) 0 u with
  | 0 => 40
  | 1 => 80
  | _ => 160

/-- The word that the serializer sends when the transmit buffer is empty (R311). -/
def alternating (w : Nat) : Nat := (2 ^ w - 1) / 3

/-- The words in a buffer of a lane. -/
def State.laneBuf (s : State) (u : Nat) (rx : Bool) : List LaneWord :=
  s.laneBufs.filter fun x => x.lane == u && x.rx == rx

/-- A word as the line carries it: inverted with the polarity bit (R310). -/
def polar (w v : Nat) (inv : Bool) : Nat := if inv then 2 ^ w - 1 - v % 2 ^ w else v % 2 ^ w

/-- The levels that a word of `w` bits has on the line, the first one first (R289, R310): a bit each in NRZ; in PAM4 a pair
each, 0b00, 0b01, 0b11 and 0b10 from the lowest level up. -/
def lineLevels (pam4 : Bool) (w v : Nat) : List Nat :=
  if pam4 then (List.range (w / 2)).map fun m => let x := slice v (2 * m) 2; x ^^^ x / 2
  else (List.range w).map fun m => slice v m 1

/-- The bits that levels of a line stand for (R289, R310). -/
def levelBits (pam4 : Bool) (l : List Nat) : Nat :=
  if pam4 then l.foldr (fun x a => (x % 4 ^^^ x % 4 / 2) + 4 * a) 0 else l.foldr (fun x a => x % 2 + 2 * a) 0

/-- Lane `u` puts a word on its line, inverted with TXPOL (R310). -/
def State.laneLine (s : State) (u v : Nat) : State :=
  let w := s.laneWidth u
  s.emit .laneWord u (lineLevels (s.has (.pp .UCFG_PAM4) 0 u 1) w (polar w v (s.has (.pp .UCFG_TXPOL) 0 u 1)))

/-- The serializer of lane `u` takes one word (R311). -/
def State.laneSend (s : State) (u : Nat) : State :=
  match s.laneBuf u false with
  | [] => (s.wr (.pp .USTAT_TXUNF) 0 u 1).laneLine u (alternating (s.laneWidth u))
  | x :: _ => State.laneLine { s with laneBufs := s.laneBufs.erase x } u x.word

/-- The generator of lane `u` sends one word of its pattern (R314), of which the spec gives the name alone. -/
def State.lanePattern (s : State) (u : Nat) : State := (s.laneLine u (s.freeValue 160)).spend

/-- The fabric is presented one received word of lane `u` (R311). -/
def State.lanePresent (s : State) (u : Nat) : State :=
  match s.laneBuf u true with
  | [] => s
  | x :: _ => State.emit { s with laneBufs := s.laneBufs.erase x } .laneWord (32 + u) [x.word]

/-- USER_LANE_TX_WORD (R311, R310, R314): the serializer of lane `u` has taken `k` words since the last one, and the lane
takes the word `w` from the fabric where its buffer has room; `idle` is TXIDLE. A pattern generator replaces the data: the
lane takes none. A lane that is off does nothing. -/
def execUserLaneTxWord (u w k : Nat) (idle : Bool) (s : State) : Answer :=
  actCore (okLane u && decide (k < 256)) s
    (if !s.laneOn u then s
     else
       let s := s.wr (.pp .USTAT_IDLE) 0 u (b2n idle)
       if s.rd (.pp .UPRBS_GEN) 0 u ≠ 0 then (if idle then s else each (List.range k) (fun _ s => s.lanePattern u) s)
       else
         let s := if idle then s else each (List.range k) (fun _ s => s.laneSend u) s
         if (s.laneBuf u false).length < 32 then
           { s with laneBufs := s.laneBufs ++ [⟨u, false, w % 2 ^ s.laneWidth u⟩] }
         else s)

/-- USER_LANE_RX_WORD (R289, R310, R311): the fabric has been presented `k` words of lane `u` since the last one, and the lane
receives a word as the levels `w` on its line, or drops it where its buffer is full. -/
def execUserLaneRxWord (u : Nat) (w : List Nat) (k : Nat) (s : State) : Answer :=
  actCore (okLane u && decide (k < 256)) s
    (if !s.laneOn u then s
     else
       let s := each (List.range k) (fun _ s => s.lanePresent u) s
       if (s.laneBuf u true).length < 32 then
         let v := levelBits (s.has (.pp .UCFG_PAM4) 0 u 1) w
         { s with laneBufs := s.laneBufs ++ [⟨u, true, polar (s.laneWidth u) v (s.has (.pp .UCFG_RXPOL) 0 u 1)⟩] }
       else s.wr (.pp .USTAT_RXOVF) 0 u 1)

/-- LANE_PLL_LOCK (R312, R346): the PLL of user lane `u` locks to its reference; a failed XIN holds it unlocked. -/
def execLanePllLock (u : Nat) (s : State) : Answer :=
  actCore (okLane u) s
    (let r := s.rd (.pp .UCFG_REF) 0 u
     if s.laneOn u && (r == 0 || s.has (.clk .XIN_GOOD) 0 (r - 1) 1) then s.wr (.pp .USTAT_PLLLOCK) 0 u 1 else s)

/-! ### Equalisation and test patterns -/

/-- A lane: a partner lane, or a user lane where `user` holds. -/
def okAnyLane (user : Bool) (j : Nat) : Bool := if user then okLane j else decide (j < 24)

/-- The magnitude of a signed tap of six bits. -/
def tapSize (v : Nat) : Nat := (toSigned 6 v).natAbs

/-- Whether a partner lane's mode, or a user lane, signals in NRZ (R290). -/
def State.laneNrz (s : State) (user : Bool) (j : Nat) : Bool :=
  if user then s.has (.pp .UCFG_PAM4) 0 j 0
  else
    let mode := slice (s.attempt (j / 4) (s.rd (.pp .STAT_ENTRY) 0 (j / 4))) 0 4
    decide (1 ≤ mode) && decide (mode ≤ 3)

/-- Whether equalisation `v` keeps the limits of R313. -/
def State.tapsValid (s : State) (user : Bool) (j v : Nat) : Bool :=
  decide (tapSize (slice v 0 6) + tapSize (slice v 6 6) + tapSize (slice v 12 6) + slice v 18 6 + tapSize (slice v 24 6) ≤ 63) &&
    !(s.laneNrz user j && (slice v 0 6 != 0 || slice v 6 6 != 0))

/-- Whether training owns the taps of a partner lane (R313). -/
def State.tapsHeld (s : State) (user : Bool) (j : Nat) : Bool :=
  !user && s.has (.pp .CFG_LT) 0 (j / 4) 1 && s.rd (.pp .STAT_STATE) 0 (j / 4) != 0

/-- A write of `v` to PP_LTX(j), or PP_UTX(j) for a user lane (R313). -/
def State.writeTaps (s : State) (user : Bool) (j v : Nat) : State :=
  let refuse : PpF := if user then .UTX_REFUSE else .LTX_REFUSE
  if s.tapsHeld user j || !s.tapsValid user j v then s.wr (.pp refuse) 0 j 1
  else
    (s.putFields (if user then [.UTX_PRE3, .UTX_PRE2, .UTX_PRE1, .UTX_MAIN, .UTX_POST, .UTX_CTLE, .UTX_ADAPT]
      else [.LTX_PRE3, .LTX_PRE2, .LTX_PRE1, .LTX_MAIN, .LTX_POST, .LTX_CTLE, .LTX_ADAPT]) j v).wr (.pp refuse) 0 j 0

/-- A write of GEN and CHK from `v` to PP_LPRBS(j), or PP_UPRBS(j) (R314): on a partner lane ignored, where it selects a
pattern, unless the port is DISABLED. A checker that is off, or follows another pattern, is not locked. -/
def State.writePattern (s : State) (user : Bool) (j v : Nat) : State :=
  if !user && v % 16 != 0 && s.rd (.pp .STAT_STATE) 0 (j / 4) != 0 then s
  else
    let gen : PpF := if user then .UPRBS_GEN else .LPRBS_GEN
    let chk : PpF := if user then .UPRBS_CHK else .LPRBS_CHK
    let lock : PpF := if user then .UPRBS_LOCK else .LPRBS_LOCK
    let same := s.has (.pp chk) 0 j (slice v 2 2)
    let s := (s.wr (.pp gen) 0 j (slice v 0 2)).wr (.pp chk) 0 j (slice v 2 2)
    if same then s else s.wr (.pp lock) 0 j 0

/-- PRBS_CHECKER_LOCK (R314): the checker of partner lane `j`, or of user lane `j`, has followed its pattern for 64 bits:
LOCK is set, and it has counted `errs` bit errors. -/
def execPrbsCheckerLock (user : Bool) (j errs : Nat) (s : State) : Answer :=
  actCore (okAnyLane user j && decide (errs < 2 ^ 32)) s
    (if user then
       (if s.rd (.pp .UPRBS_CHK) 0 j = 0 then s
        else (s.wr (.pp .UPRBS_LOCK) 0 j 1).add (.pp .UPRBS_ERR) 0 j errs)
     else if s.rd (.pp .LPRBS_CHK) 0 j = 0 then s
     else (s.wr (.pp .LPRBS_LOCK) 0 j 1).add (.pp .LPRBS_ERR) 0 j errs)

/-- PP_LPRBS_CLR (R317): CLR clears the bit errors of partner lane `j`, or of user lane `j`. -/
def execPpLprbsClr (user : Bool) (j : Nat) (s : State) : Answer :=
  actCore (okAnyLane user j) s (if user then s.wr (.pp .UPRBS_ERR) 0 j 0 else s.wr (.pp .LPRBS_ERR) 0 j 0)

/-- PP_CONFIG_WRITE (R317, R291): a write of `v` to configuration register `reg` of port `p` (0 PP_CFG, 1 PP_ALT,
2 PP_MAC, 3 PP_CVN, 4 PP_PTP), taken only while the port is DISABLED and the value is valid. -/
def execPpConfigWrite (reg p v : Nat) (s : State) : Answer :=
  actCore (okPort6 p && decide (reg < 5)) s (s.writePortReg reg p v)

end Sys2Proof.Machine
end

