-- ==== Sys2Proof/Machine/Queues.lean ====
section
/-! DEFINITION. The commands of the queue manager (R237 to R263). -/

namespace Sys2Proof.Machine

/-- A queue number. -/
def okQueue (q : Nat) : Bool := decide (q < 65536)

/-- The queue operation of a TYPE 3 request (R246). -/
def qop (p : Pkt) : Nat := p.aux % 4

/-- END of a push (R246). -/
def endBit (p : Pkt) : Bool := p.aux.testBit 2

/-- A queue request in flight reaches the queue manager. -/
def State.queueArrive (s : State) (p : Pkt) (op : Nat) (g : State → State) : State :=
  s.arrive p (!p.rsp && p.type == 3 && p.dst == 4 && qop p == op) g

/-- The items of a push (R246). -/
def State.pushedItems (s : State) (p : Pkt) : List QItem :=
  ((markedWords 0 (s.untagged p)).take (countOf p.count)).map fun x => ⟨if x.2 then 0 else x.1, x.2⟩

/-- A queue that has failed voids the tick under the void policy, where it is a TICK queue (R258). -/
def State.failQueue (s : State) (q : Nat) : State :=
  let s := s.loseQueue q
  if s.qTick q && s.has (.bank .POLICY_POISON) 0 0 0 then s.voidTick 0x07 0 0 else s

/-- An operation reaches queue `q` after upsets: a queue that cannot trust its record or its ownership entries fails
(R240). -/
def State.reachQueue (s : State) (u : QUpset) (q : Nat) : State :=
  let s := s.strike u
  if s.has (.qm .recordBad) 0 q 1 then s.failQueue q else s

/-- QUEUE_PUSH (R248): the PUSH `p` in flight is stored atomically or staged and answered with ACK, refused with its
DETAIL, or voids the tick under R251. -/
def execQueuePush (p : Pkt) (s : State) (u : QUpset := ⟨[], []⟩) : Answer :=
  actCore true s
    (s.queueArrive p 0 fun s =>
       let q := p.addr % 65536
       let s := s.reachQueue u q
       let src := s.logicalNi p.src
       let items := s.pushedItems p
       match s.pushCheck q p.cls src p.prio (endBit p) items.length with
       | .stored => (s.storePush q p.cls src p.seq p.prio (endBit p) items).respond p 4 1 0 0 []
       | .refused detail => (s.markDrop q detail).respondErr p 4 10 detail
       | .voids => s.voidTick 0x03 0 0)

/-- The result of a pop or peek in AUX (R247). -/
def popDetail (r : PopResult) : Nat :=
  r.items.length % 128 + 128 * b2n r.last + 256 * b2n r.idle + 512 * (r.prio % 4)

/-- The items of a pop or peek as quads (R247). -/
def State.popQuads (s : State) (p : Pkt) (r : PopResult) : List Quad :=
  quadsOf (s.tagOf p.cls) 32 (r.items.map fun i => (if i.poison then 0 else i.data, i.poison))

/-- What a served pop returns, the idle item in HOLD_POP included (R244). -/
def State.servePop (s : State) (q count : Nat) (tentative : Bool) : PopResult × State :=
  if s.qState q = 3 then (idleResult, s) else s.qPop q count tentative

/-- QUEUE_POP (R244): the POP `p` in flight returns items of one packet, or the idle item, after the upsets `u` (R238,
R240). A T-class pop is tentative (R251). -/
def execQueuePop (p : Pkt) (u : QUpset) (s : State) : Answer :=
  actCore true s
    (s.queueArrive p 1 fun s =>
       let q := p.addr % 65536
       let s := s.reachQueue u q
       let c := s.popCheck q p.cls (s.logicalNi p.src)
       if c ≠ 0 then s.respondErr p 4 10 c
       else
         let (r, s) := s.servePop q (countOf p.count) (p.cls == 0)
         s.respond p 4 1 0 (popDetail r) (s.popQuads p r))

/-- What a served peek returns and leaves: nothing is consumed, and correctable slots are written back (R239, R247). -/
def State.servePeek (s : State) (q count : Nat) : PopResult × State :=
  if s.qState q = 3 then (idleResult, s)
  else
    let r := s.qLook q count
    (r, (s.noteSlots q r.items).fixHead q count)

/-- QUEUE_PEEK (R247): the PEEK `p` in flight returns what a pop would return, without consuming it, after the upsets
`u`. -/
def execQueuePeek (p : Pkt) (s : State) (u : QUpset := ⟨[], []⟩) : Answer :=
  actCore true s
    (s.queueArrive p 2 fun s =>
       let q := p.addr % 65536
       let s := s.reachQueue u q
       let c := s.peekCheck q p.cls
       if c ≠ 0 then s.respondErr p 4 10 c
       else
         let (r, s) := s.servePeek q (countOf p.count)
         s.respond p 4 1 0 (popDetail r) (s.popQuads p r))

/-- QUEUE_QOP_RESERVED (R248): a queue request `p` in flight with QOP 3 receives REFUSED with DETAIL 10. -/
def execQueueQopReserved (p : Pkt) (s : State) : Answer :=
  actCore true s (s.queueArrive p 3 fun s => s.respondErr p 4 10 10)

/-! ### Register paths -/

/-- A read of QM_POP(q) from NI `src` (R261): the refusal's DETAIL, or the item's data. -/
def State.popReg (s : State) (q src : Nat) (u : QUpset) : (Nat ⊕ ItemRead) × State :=
  let s := s.reachQueue u q
  let c := s.popCheck q 2 src
  if c ≠ 0 then (.inl c, s)
  else
    let (r, s) := s.servePop q 1 false
    let s := s.wr (.qm .QSTAT_LAST_END) 0 q (b2n r.last)
    let s := s.wr (.qm .QSTAT_LAST_IDLE) 0 q (b2n r.idle)
    let s := s.wr (.qm .QSTAT_LAST_PRIO) 0 q r.prio
    (.inr (r.items.headD ⟨0, false, false, 0⟩), s)

/-- A read of QM_PEEK(q) (R261). -/
def State.peekReg (s : State) (q : Nat) (u : QUpset) : (Nat ⊕ ItemRead) × State :=
  let s := s.reachQueue u q
  let c := s.peekCheck q 2
  if c ≠ 0 then (.inl c, s)
  else
    let (r, s) := s.servePeek q 1
    (.inr (r.items.headD ⟨0, false, false, 0⟩), s)

/-- A write of a word to QM_PUSH(q) or QM_PUSHEND(q) from NI `src` (R241, R261): the refusal's DETAIL, or 0. -/
def State.pushReg (s : State) (q src : Nat) (last : Bool) (i : QItem) : Nat × State :=
  let s := s.reachQueue ⟨[], []⟩ q
  let prio := s.rd (.qm .QCFG_HOSTPRIO) 0 q
  match s.pushCheck q 2 src prio last 1 with
  | .stored => (0, s.storePush q 2 src 0 prio last [i])
  | .refused detail => (detail, s.markDrop q detail)
  | .voids => (2, s)

/-- QM_POP_READ (R261): NI `src` reads QM_POP(q) after the upsets `u`: one item is popped and its tags recorded, or the read
is refused. -/
def execQmPopRead (q src : Nat) (u : QUpset) (s : State) : Answer :=
  actCore (okQueue q && decide (src < 1024)) s
    (match s.popReg q src u with
     | (.inl detail, s) => s.emit .readBack src [10, detail]
     | (.inr i, s) => s.emit .readBack src [0, i.data, b2n i.poison])

/-- QM_PEEK_READ (R261): NI `src` reads QM_PEEK(q) after the upsets `u`: the next item, not consumed, or a refusal. -/
def execQmPeekRead (q src : Nat) (s : State) (u : QUpset := ⟨[], []⟩) : Answer :=
  actCore (okQueue q && decide (src < 1024)) s
    (match s.peekReg q u with
     | (.inl detail, s) => s.emit .readBack src [10, detail]
     | (.inr i, s) => s.emit .readBack src [0, i.data, b2n i.poison])

/-- The answer to a register write: nothing where it is served, REFUSED with its DETAIL to NI `src` where it is not. -/
def State.answerPush (src : Nat) (r : Nat × State) : State := if r.1 = 0 then r.2 else r.2.emit .readBack src [10, r.1]

/-- QM_PUSH_WRITE (R261): NI `src` writes `v` to QM_PUSH(q): one item with END = 0, or REFUSED with its DETAIL. -/
def execQmPushWrite (q src v : Nat) (s : State) : Answer :=
  actCore (okQueue q && decide (src < 1024)) s (State.answerPush src (s.pushReg q src false ⟨v % 2 ^ 48, false⟩))

/-- QM_PUSHEND_WRITE (R261): NI `src` writes `v` to QM_PUSHEND(q): one item with END = 1, or REFUSED with its DETAIL. -/
def execQmPushendWrite (q src v : Nat) (s : State) : Answer :=
  actCore (okQueue q && decide (src < 1024)) s (State.answerPush src (s.pushReg q src true ⟨v % 2 ^ 48, false⟩))

/-! ### Queue states -/

/-- Where a command of R257 leads from a state, 0 for FLUSHING's; none where the table does not list it. -/
def queueGoal (op st : Nat) : Option Nat :=
  match op, st with
  | 1, 0 => some 1
  | 2, 1 | 2, 2 | 2, 3 => some 0
  | 3, 1 => some 2
  | 4, 1 => some 3
  | 5, 2 | 5, 3 => some 1
  | 6, 1 | 6, 2 | 6, 3 | 6, 5 => some 4
  | _, _ => none

/-- A command of R257 on queue `q`. -/
def State.queueCommand (s : State) (q op : Nat) : State :=
  let refuse := fun (s : State) (c : Nat) => s.wr (.qm .CMDSTAT_REFUSE) 0 0 c
  let st := s.qState q
  if op = 0 ∨ 6 < op then s
  else if s.qTick q && s.tickLive then refuse s 1
  else
    match queueGoal op st with
    | none => refuse s 2
    | some g =>
      if op = 2 ∧ s.qOcc q ≠ 0 then refuse s 3
      else if op = 6 ∧ s.rd (.qm .recordBad) 0 q = 1 then (refuse s 0).failQueue q
      else
        let s := (refuse s 0).wr (.qm .QSTAT_STATE) 0 q g
        if op = 6 then (s.wr (.qm .back) 0 q (if st = 5 then 1 else st)).wr (.qm .CMDSTAT_BUSY) 0 0 1 else s

/-- QM_ENABLE (R257): OFF to ACTIVE. -/
def execQmEnable (q : Nat) (s : State) : Answer := actCore (okQueue q) s (s.queueCommand q 1)

/-- QM_DISABLE (R257): an empty queue to OFF. -/
def execQmDisable (q : Nat) (s : State) : Answer := actCore (okQueue q) s (s.queueCommand q 2)

/-- QM_HOLD_PUSH (R257): ACTIVE to HOLD_PUSH. -/
def execQmHoldPush (q : Nat) (s : State) : Answer := actCore (okQueue q) s (s.queueCommand q 3)

/-- QM_HOLD_POP (R257): ACTIVE to HOLD_POP. -/
def execQmHoldPop (q : Nat) (s : State) : Answer := actCore (okQueue q) s (s.queueCommand q 4)

/-- QM_RELEASE (R257): a held queue to ACTIVE. -/
def execQmRelease (q : Nat) (s : State) : Answer := actCore (okQueue q) s (s.queueCommand q 5)

/-- QM_FLUSH (R257): the queue enters FLUSHING. -/
def execQmFlush (q : Nat) (s : State) : Answer := actCore (okQueue q) s (s.queueCommand q 6)

/-- The queues in FLUSHING. -/
def State.flushing (s : State) : Bool :=
  s.regs.any fun e => decide (e.1.f = .qm .QSTAT_STATE) && e.2 == 4

/-- A flush completes: every slot is freed and the queue returns to the state it came from, ACTIVE from FAILED. -/
def State.flushDone (s : State) (q : Nat) : State :=
  let s := s.emptyQueue q
  let s := (s.wr (.qm .QSTAT_STATE) 0 q (s.rd (.qm .back) 0 q)).wr (.qm .back) 0 q 0
  (s.wr (.qm .CMDSTAT_BUSY) 0 0 (b2n s.flushing)).endCond 0x5020 q

/-- QM_FLUSH_DONE (R257): the flush of a FLUSHING queue completes. -/
def execQmFlushDone (q : Nat) (s : State) : Answer :=
  actCore (okQueue q) s (if s.qState q = 4 then s.flushDone q else s)

/-- Whether a value of QM_QCFG(q) keeps the notice rules, for `q` and for the queues that it serves (R254). -/
def State.noticeRules (s : State) (q v : Nat) : Bool :=
  let mode := slice v 0 1
  let t := slice v 20 16
  (slice v 1 1 == 0 || (t != q && s.has (.qm .QCFG_NOTIFY_EN) 0 t 0 && s.has (.qm .QCFG_MODE) 0 t mode)) &&
    !(s.regs.any fun e => decide (e.1.f = .qm .QCFG_NOTIFY_EN) && e.1.j != q && e.2 == 1 &&
      s.has (.qm .QCFG_NOTIFY) 0 e.1.j q && (slice v 1 1 == 1 || !s.has (.qm .QCFG_MODE) 0 e.1.j mode))

/-- The fields of QM_QCFG(q) set (R261). -/
def State.setQcfg (s : State) (q v : Nat) : State :=
  let s := s.wr (.qm .QCFG_MODE) 0 q v
  let s := s.wr (.qm .QCFG_NOTIFY_EN) 0 q (v / 2)
  let s := s.wr (.qm .QCFG_HOSTPRIO) 0 q (slice v 2 2)
  let s := s.wr (.qm .QCFG_QUOTA) 0 q (slice v 4 16)
  let s := s.wr (.qm .QCFG_NOTIFY) 0 q (slice v 20 16)
  let s := s.wr (.qm .QCFG_CONSUMER) 0 q (slice v 36 10)
  s.wr (.qm .QCFG_STATUS) 0 q (slice v 46 1)

/-- A write of `v` to QM_QCFG(q) (R254, R257). -/
def State.writeQcfg (s : State) (q v : Nat) : State :=
  if s.qState q = 0 ∧ s.noticeRules q v then (s.setQcfg q v).wr (.qm .CMDSTAT_REFUSE) 0 0 0
  else s.wr (.qm .CMDSTAT_REFUSE) 0 0 4

/-- QM_QCFG_WRITE (R257): `v` is written to QM_QCFG(q), which applies only while the queue is OFF and its notice rules
hold. -/
def execQmQcfgWrite (q v : Nat) (s : State) : Answer := actCore (okQueue q) s (s.writeQcfg q v)

/-- QM_CNT_CLR (R261): writing 1 clears QM_ECC and resets MIN_FREE to FREE. -/
def execQmCntClr (v : Nat) (s : State) : Answer :=
  actCore true s
    (if v % 2 = 1 then
       let s := each [QmF.ECC_CE, .ECC_UE, .ECC_ABANDON, .ECC_PFWD] (fun f s => s.wr (.qm f) 0 0 0) s
       s.wr (.qm .POOL_MIN_FREE) 0 0 s.poolFree
     else s)

/-- OPEN_PACKET_TIMEOUT (R255): the open packet of `src` at priority `prio` in queue `q` has not been continued within
OPEN_TMO, so it is abandoned. -/
def execOpenPacketTimeout (q src prio : Nat) (s : State) : Answer :=
  actCore (okQueue q && decide (src < 1024) && decide (prio < 4)) s
    (s.abandon fun p => p.q == q && p.src == src && p.prio == prio)

end Sys2Proof.Machine
end

