-- ==== Sys2Proof/Machine/Images.lean ====
section
/-! DEFINITION. What an image leaves in the device and how it goes: the clearing of a die, of a niche and of the active
image (R382, R388, R404, R406), and the device default route tables (R379). -/

namespace Sys2Proof.Machine

/-- The dies that are there and not isolated. -/
def State.liveDies (s : State) : List Nat := dies.filter fun d => s.dieHere d

/-- Whether the active image uses die `d`: a logical die is mapped to it (R391 CFG_DIE.LOGICAL). -/
def State.dieUsed (s : State) (d : Nat) : Bool := s.imageActive && s.rd (.cfg .DIE_LOGICAL) (1 + d) != 15

/-! ### Route tables -/

/-- The fields of the route tables. -/
def isRouteField (f : Fld) : Bool :=
  decide (f = .erg .RT_ROUTE_ROUTE) || decide (f = .erg .RT_DEST_DEST) || decide (f = .erg .RT_DEST_VALID) ||
    decide (f = .erg .rtOwn) || decide (f = .erg .DT_CODE)

/-- The configuration fields of the routers (R165). -/
def isRouterField (f : Fld) : Bool :=
  decide (f = .erg .RTR_CFG_WRAP_X) || decide (f = .erg .RTR_CFG_WRAP_Y) || decide (f = .erg .RTR_CFG_PMAP) ||
    decide (f = .erg .topX) || decide (f = .erg .topY) || decide (f = .erg .topMap)

/-- The firmware computes the device default route tables, and the routers and ERG_MODE take their defaults (R165, R379,
R382). -/
def State.defaultRoutes (s : State) : State :=
  let s := s.resetKeys fun k => isRouteField k.f || isRouterField k.f || decide (k.f = .erg .MODE_DAXAT)
  let s := s.wr (.erg .routeGen) 0 0 (s.rd (.erg .routeGen) + 1)
  each (List.range (Config.n + 1)) (fun u s => s.wr (.erg .defRoutes) u 0 1) s

/-! ### User lanes -/

/-- The fields of user lane `u` that its image and its running set. -/
def laneFields : List PpF :=
  [.UCFG_USED, .UCFG_PAM4, .UCFG_WIDTH, .UCFG_REF, .UCFG_RATE, .UCFG_TXPOL, .UCFG_RXPOL, .UCFG_TREE, .USTAT_PLLLOCK,
    .USTAT_SIGDET, .USTAT_CDRLOCK, .USTAT_IDLE]

/-- A user lane is powered off (R288). -/
def State.dropLane (s : State) (u : Nat) : State :=
  let s := s.resetKeys fun k => decide (k.j = u) && decide (k.u = 0) && laneFields.any fun f => decide (k.f = .pp f)
  { s with laneBufs := s.laneBufs.filter fun x => x.lane != u }

/-! ### Fabric objects -/

/-- The declarations of a die are cleared, with their values, staged updates and pending writes: its gateway niche has left
ACTIVE (R489, R491). -/
def State.dropObjects (s : State) (d : Nat) : State :=
  let mine := (s.fobjs.filter fun o => o.die == d).map fun o => o.idx
  let s : State := { s with
    fobjs := s.fobjs.filter fun o => o.die != d
    fvals := s.fvals.filter fun e => !mine.contains (e.1 / 256)
    fstaged := s.fstaged.filter fun e => !mine.contains e.idx
    fwrites := s.fwrites.filter fun w => w.die != d }
  each [OdF.FPORT_READY, .FPORT_OPEN, .FPORT_DECLARED, .FPORT_PENDING] (fun f s => s.wr (.od f) 0 d 0) s

/-! ### A die -/

/-- What the configuration plane and the staged frames of a die set in its registers, and the state of its pins, banks
and slices that goes with them. -/
def isDieImageField (f : Fld) : Bool :=
  match f with
  | .fab g =>
    match g with
    | .TREE_DEPTH | .TREE_FMAX | .TREE_NOTHROTTLE | .RSTTREE_CLOCK | .RSTTREE_ASSERTED | .IOCFG_MODE | .IOCFG_STD
    | .IOCFG_DRIVE | .IOCFG_SLEW | .IOCFG_PULL | .IOCFG_TERM | .IOCFG_INIT | .IOCFG_INIT_OE | .IOCFG_VOID | .IOCFG_SAFE
    | .IOCFG_SER8 | .IOCFG_SERCLK | .IOSTAT_VCCO_OK | .IOSTAT_BANK_OFF | .IOSTAT_USED | .IOSTAT_VCCO_DECL | .tickIn
    | .outV | .outOE | .samV | .samOE | .keep | .safeNow | .clocksRun | .strobe | .doneLow | .rstHist | .inReg => true
    | _ => false
  | .slc g =>
    match g with
    | .CFG_SPLIT | .CFG_SIGN_A | .CFG_SIGN_B | .CFG_PRE | .CFG_ZSRC | .CFG_SHIFT | .CFG_RND | .CFG_SAT | .CFG_OUT_SIGNED
    | .CFG_TREE | .CFG_RST_TREE | .CFG_USED | .STAT_RANGE | .STAT_WRAP => true
    | _ => isSliceReg f
  | .bank g =>
    match g with
    | .CFG_USED | .CFG_MODE | .CFG_FLIP | .CFG_MAILBOX | .CFG_PORTB | .CFG_SIDE_A | .CFG_SIDE_B | .CFG_TREE_A
    | .CFG_TREE_B | .CFG_DUTY | .STAT_PWR | .STAT_BUSY | .STAT_LOCK_A | .STAT_LOCK_B | .readHalf | .blanking | .goal
    | .lockRowA | .lockRowB => true
    | _ => false
  | .erg g =>
    match g with
    | .CH_CFG_EN | .CH_CFG_CLASS | .CH_CFG_TMO | .mboxOn | .mboxBank => true
    | _ => false
  | .tick .UNIT_PRESENT => true
  | .clk g =>
    match g with
    | .relock => true
    | _ => false
  | .nch g =>
    match g with
    | .STAT_STATE | .STAT_LIVE => true
    | _ => false
  | .scrub .STAT_STATE => true
  | .cfg .DIE_LOGICAL => true
  | _ => false

/-- The clock fields of a die's fabric PLLs and trees, as the DIE frame sets them (R377): the PLLs 0 to 5 and the trees. -/
def isTreeClock (k : Key) : Bool :=
  match k.f with
  | .clk .PLL_N | .clk .PLL_F | .clk .PLL_D | .clk .PLL_EN | .clk .PLL_LOCK => decide (k.j < 6)
  | .clk .DOM_PLLSEL | .clk .DOM_TDIV | .clk .DOM_FNOM => decide (k.j < 16)
  | _ => false

/-- Every fabric side of a die is drained: what it has admitted is answered, and it is CLOSED (R193, R194). -/
def State.closeSides (s : State) (d : Nat) : State :=
  each (List.range 16) (fun k s => if s.has (.erg .fabState) (1 + d) k 2 then s else s.closeGate (1 + d) k) s

/-- Whether an element of the network belongs to the fabric of die `d`. -/
def ofDie (d ni : Nat) : Bool := ni / 16 == 1 + d

/-- What a die holds of its image in memories and buffers is gone. -/
def State.dropDieData (s : State) (d : Nat) : State :=
  { s with
    banks := s.banks.filter fun e => e.1 / (512 * 16384) != d
    writeBacks := s.writeBacks.filter fun w => w.die != d
    heldOps := s.heldOps.filter fun o => o.die != d
    scrubWaits := s.scrubWaits.filter fun k => k / (512 * 16384) != d
    cache := s.cache.filter fun l => l.die != d
    plane := s.plane.filter fun e => e.1 / 2 ^ 24 != d
    ffs := Sparse.clear (fun k => k / 64 / 49152 == d) s.ffs
    hops := Sparse.clear (fun k => k / 288 / 49152 == d) s.hops
    portOuts := Sparse.clear (fun k => k / 48 / 49152 == d) s.portOuts
    isoHeld := Sparse.clear (fun k => k / 288 / 49152 == d) s.isoHeld
    niWaits := s.niWaits.filter fun w => !ofDie d w.ni
    delivered := s.delivered.filter fun x => !ofDie d x.ni
    mailboxes := s.mailboxes.filter fun m => !ofDie d m.ni }

/-- The part of a die that an image configures is as after a reset: plane cleared, clocks stopped, banks OFF, pins with
their weak pull, user lanes off, scrubber and remote cache idle (R382). -/
def State.clearDie (s : State) (d : Nat) : State :=
  let u := 1 + d
  let s := s.closeSides d
  let s := s.resetKeys fun k => decide (k.u = u) && (isDieImageField k.f || isTreeClock k)
  let s := each (List.range 16) (fun x s => s.wr (.clk .DOM_ACT) u x (s.fallback u)) s
  let s := each (List.range 4) (fun k s => s.dropLane (4 * d + k)) s
  let s := s.dropObjects d
  let s := (s.wr (.mod .declared) 0 d 0).endCond 0x3210 (0x10 + d)
  s.dropDieData d

/-- FAB_STATE of a die. -/
def State.setFab (s : State) (d v : Nat) : State := s.wr (.fab .STATE_STATE) (1 + d) 0 v

/-! ### The active image -/

/-- The queues of the image go: flushed and OFF (R382). -/
def State.clearQueues (s : State) : State :=
  let s := s.abandon fun _ => true
  let s : State := { s with queues := [], queueSnaps := [] }
  let s := s.resetKeys fun k =>
    decide (k.f = .qm .QSTAT_STATE) || decide (k.f = .qm .tent) || decide (k.f = .qm .back) || decide (k.f = .qm .CMDSTAT_BUSY)
  s.endConds 0x5020

/-- Every word of the contexts is 0, and nothing waits in the engines (R382). -/
def State.clearContexts (s : State) : State :=
  State.caravanVoid { s with ctx := [], ctxImage := [], ctxShadow := [], ctxStaged := [], built := [] }

/-- The tick goes to STOPPED because the active image is cleared (R40); a halt ends. -/
def State.tickCleared (s : State) : State :=
  let s := each [TickF.wait, .decided, .ended, .midTick, .heldCause, .heldMask, .STATE_CONTRACT, .STATE_RESUMABLE]
    (fun f s => s.wr (.tick f) 0 0 0) s
  let s := each [DbgF.STAT_HALT, .STAT_PENDING, .STAT_STEPPING, .STAT_STEPS] (fun f s => s.wr (.dbg f) 0 0 0) s
  s.setTick 0

/-- The active image is cleared, with every configuration plane, queue, context and route table (R382, R388). TICK_PERIOD,
TICK_GUARD, TICK_PMIN and TICK_GMIN keep what they hold (log entry 114). -/
def State.clearImage (s : State) : State :=
  let s := s.tickCleared.wr (.tick .UNIT_PRESENT) 0 0 0
  let s := each s.liveDies (fun d s => (s.clearDie d).setFab d 0) s
  let s := s.clearQueues.clearContexts.defaultRoutes
  each [CfgF.STAT_ACTIVE, .STAT_PLACE, .STAT_LDIES, .IMAGE, .actPlace, .actFlags, .actSvn, .actDigest, .partN]
    (fun f s => s.wr (.cfg f) 0 0 0) s

/-! ### Niches -/

/-- The niche state codes (R400). -/
def State.nicheState (s : State) (d x : Nat) : Nat := s.rd (.nch .STAT_STATE) (1 + d) x

/-- The keys of die `d` whose block lies in niche `x` (R394): slices, banks, I/O cells and NI channels. -/
def keyInNiche (d x : Nat) (k : Key) : Bool :=
  decide (k.u = 1 + d) && isDieImageField k.f &&
    match k.f with
    | .slc _ => nicheOfSlice k.j == x
    | .bank _ => nicheOfBank k.j == x
    | .fab g =>
      match g with
      | .IOCFG_MODE | .IOCFG_STD | .IOCFG_DRIVE | .IOCFG_SLEW | .IOCFG_PULL | .IOCFG_TERM | .IOCFG_INIT | .IOCFG_INIT_OE
      | .IOCFG_VOID | .IOCFG_SAFE | .IOCFG_SER8 | .IOCFG_SERCLK | .tickIn | .outV | .outOE | .samV | .samOE | .keep
      | .safeNow | .inReg => nicheOfIo k.j == x
      | _ => false
    | .erg .CH_CFG_EN | .erg .CH_CFG_CLASS | .erg .CH_CFG_TMO | .erg .mboxOn | .erg .mboxBank => nicheOfNi (k.j / 4) == x
    | _ => false

/-- The fabric sides of niche `x` (R394). -/
def nicheSides (x : Nat) : List Nat := (List.range 16).filter fun k => nicheOfNi k == x

/-- The bank of a bank-row key lies in niche `x` of die `d`. -/
def rowInNiche (d x key : Nat) : Bool := key / (512 * 16384) == d && nicheOfBank (key / 16384 % 512) == x

/-- What a niche holds of its image in memories and buffers is gone. -/
def State.dropNicheData (s : State) (d x : Nat) : State :=
  { s with
    banks := s.banks.filter fun e => !rowInNiche d x e.1
    writeBacks := s.writeBacks.filter fun w => !(w.die == d && nicheOfBank w.bank == x)
    heldOps := s.heldOps.filter fun o => !(o.die == d && nicheOfBank o.bank == x)
    plane := s.plane.filter fun e => !(e.1 / 2 ^ 24 == d && nicheOfWord (e.1 % 2 ^ 24) == x)
    ffs := Sparse.clear (fun k => tileInNiche d x (k / 64)) s.ffs
    hops := Sparse.clear (fun k => tileInNiche d x (k / 288)) s.hops
    portOuts := Sparse.clear (fun k => tileInNiche d x (k / 48)) s.portOuts
    niWaits := s.niWaits.filter fun w => !(ofDie d w.ni && nicheOfNi (w.ni % 16) == x)
    delivered := s.delivered.filter fun e => !(ofDie d e.ni && nicheOfNi (e.ni % 16) == x)
    mailboxes := s.mailboxes.filter fun m => !(ofDie d m.ni && nicheOfNi (m.ni % 16) == x) }

/-- Steps 1 to 4 of R404 on niche `x` of die `d`: its isolation cells engage, its blocks are as unconfigured, its fabric sides are
drained, and for the gateway niche the OD port of the die is not ready. -/
def State.clearNiche (s : State) (d x : Nat) : State :=
  let s := s.engageCells d x
  let s := each (nicheSides x) (fun k s => if s.has (.erg .fabState) (1 + d) k 2 then s else s.closeGate (1 + d) k) s
  let s := s.resetKeys (keyInNiche d x)
  let s := each ((List.range 4).filter fun k => nicheOfLane k == x) (fun k s => s.dropLane (4 * d + k)) s
  let s := if x = 8 then s.dropObjects d else s
  s.dropNicheData d x

/-! ### The load in progress -/

/-- Whether a load is in progress (R364). -/
def State.loading (s : State) : Bool := s.rd (.cfg .loadKind) != 0

/-- Whether die `d` is a die of the placement of the load in progress (R386). -/
def State.placedDie (s : State) (d : Nat) : Bool :=
  s.has (.cfg .ldTable) 0 0 1 &&
    (List.range (s.rd (.cfg .ldM))).any fun l => slice (s.rd (.cfg .ldPlace)) (4 * l) 4 == d

/-- What is left of a load when it ends: nothing staged, nothing in its stream. -/
def State.endLoad (s : State) : State :=
  let s : State := { s with targets := [], staged := [], stream := [], imageBytes := [] }
  let s := each [CfgF.loadKind, .liveStart, .ldTable, .waits, .rdy, .STAT_STATE] (fun f s => s.wr (.cfg f) 0 0 0) s
  s.wr (.cfg .ignoring) 0 0 (b2n (s.has (.cfg .STAT_SRC) 0 0 0 && s.has (.cfg .csLow) 0 0 1))

/-- The load in progress fails with `status` (R388, R406): everything is cleared as at its start, or the niche is EMPTY;
CFG_ERR_N is held low, and the emergency is raised. -/
def State.failLoad (s : State) (status : Nat) : State :=
  let kind := s.rd (.cfg .loadKind)
  if kind = 0 then s
  else
    let d := s.rd (.cfg .loadDie)
    let x := s.rd (.cfg .loadNiche)
    let s := if kind = 1 then s.clearImage
      else if s.dieHere d then (s.clearNiche d x).wr (.nch .STAT_STATE) (1 + d) x 0 else s
    let s := if s.has (.cfg .STAT_STATE) 0 0 2 then s.wr (.cfg .ERRFRAME_INDEX) 0 0 (s.rd (.cfg .ldSeen)) else s
    let s := s.endLoad
    let s := (s.wr (.cfg .STAT_STATUS) 0 0 status).wr (.cfg .STAT_PARTIAL) 0 0 (b2n (kind == 2))
    let s := (s.wr (.cfg .errFail) 0 0 1).inc (.cfg .LOADS_FAILED) 0 0
    s.raiseEvent 0x6200 status (s.rd (.cfg .ERRFRAME_INDEX))

/-- A die of the placement of the load, or the die whose niche is loaded, is lost: the load fails with DIE (R386). -/
def State.dieLostToLoad (s : State) (d : Nat) : State :=
  if (s.has (.cfg .loadKind) 0 0 1 && s.placedDie d) || (s.has (.cfg .loadKind) 0 0 2 && s.dieUsed d) then s.failLoad 0x52
  else s

end Sys2Proof.Machine
end

