-- ==== Sys2Proof/Machine/FrameOps.lean ====
section
/-! DEFINITION. The frame records of an image: their layout, their targets, and the checks of R378 and R403. -/

namespace Sys2Proof.Machine

/-- A frame record taken apart (R375). -/
structure FrameRec where
  ftype : Nat
  unit : Nat
  place : Nat
  zero : Nat
  addr : Nat
  len : Nat
  crcOk : Bool
  body : List Nat
  deriving DecidableEq, Repr

/-- The words of a frame body: six bytes each, most significant first (R371). -/
def bodyWords : Nat → List Nat → List Nat
  | 0, _ => []
  | k + 1, l => fromBe (l.take 6) :: bodyWords k (l.drop 6)

/-- The record that bytes spell; `bytes` hold 16 and 6 LEN of them. -/
def frameOf (bytes : List Nat) : FrameRec :=
  let len := fromBe ((bytes.drop 8).take 4)
  ⟨bytes.getD 0 0, bytes.getD 1 0, bytes.getD 2 0, bytes.getD 3 0, fromBe ((bytes.drop 4).take 4), len,
    fromBe ((bytes.drop 12).take 4) == crc32c (bytes.take 12 ++ bytes.drop 16), bodyWords (bytes.length / 6 - 2) (bytes.drop 16)⟩

/-- The frame types of R376. -/
def dieType (t : Nat) : Bool := (decide (1 ≤ t) && decide (t ≤ 7)) || t == 0x14
def plinthType (t : Nat) : Bool := (decide (0x10 ≤ t) && decide (t ≤ 0x13)) || t == 0x1F
def eitherType (t : Nat) : Bool := t == 8 || t == 9 || t == 10

/-- Whether ADDR and LEN lie in the range of R376. -/
def frameInRange (t a n : Nat) : Bool :=
  match t with
  | 0x01 => decide (a < 2 ^ 16) && decide (a / 256 < 192) && n == 200
  | 0x02 => decide (a + n ≤ 24) && decide (a < 24)
  | 0x03 => a == 0 && n == 32
  | 0x04 => decide (a + n ≤ 4608) && decide (a < 4608)
  | 0x05 => decide (a + n ≤ 512) && decide (a < 512)
  | 0x06 => decide (a < 2 ^ 23) && decide (1 ≤ n) && decide (a / 512 + n ≤ 16384)
  | 0x07 => decide (a < 16) && n == 5
  | 0x08 => decide (a < 2 ^ 14) && n % 2 == 0 && decide (a / 16 + n / 2 ≤ 1024)
  | 0x09 => decide (a < 16) && n == 1
  | 0x0A => decide (a < 2 ^ 14) && decide (a / 16 + n ≤ 1024)
  | 0x10 => decide (a + n ≤ 65536) && decide (a < 65536)
  | 0x11 => decide (a < contextCount) && n == 64
  | 0x12 => decide (a < 6) && n == 5
  | 0x13 => decide (a < 24) && n == 2
  | 0x14 => decide (a < 4) && n == 2
  | 0x1F => a == 0
  | _ => false

/-- The FRAME row of R378, for an image of `m` logical dies and `places` placements. -/
def frameFormOk (f : FrameRec) (m places : Nat) : Bool :=
  (dieType f.ftype || plinthType f.ftype || eitherType f.ftype) && !(dieType f.ftype && f.unit == 0) &&
    !(plinthType f.ftype && f.unit != 0) && decide (f.unit ≤ m) && f.zero == 0 &&
    (f.place == 0xFF || decide (f.place < places)) && frameInRange f.ftype f.addr f.len &&
    (f.ftype != 8 || (List.range (f.len / 2)).all fun i =>
      decide (0x90 ≤ f.addr / 16 + i) || f.body.getD (2 * i + 1) 0 % 1024 == f.addr / 16 + i)

/-- The targets that a frame names (R378), `unit` its physical unit. -/
def frameTarget (f : FrameRec) (unit : Nat) : Target :=
  let first :=
    match f.ftype with
    | 0x06 => f.addr % 512 * 16384 + f.addr / 512
    | 0x08 | 0x0A => f.addr % 16 * 1024 + f.addr / 16
    | _ => f.addr
  let count :=
    match f.ftype with
    | 0x02 | 0x04 | 0x05 | 0x06 | 0x0A | 0x10 => f.len
    | 0x08 => f.len / 2
    | _ => 1
  ⟨f.ftype, unit, first, count⟩

/-- Whether two targets have a member in common. -/
def Target.meets (a b : Target) : Bool :=
  a.ftype == b.ftype && a.unit == b.unit && decide (a.first < b.first + b.count) && decide (b.first < a.first + a.count)

/-- Whether a frame's targets lie in niche `x` (R394, R403). -/
def frameInNiche (f : FrameRec) (x : Nat) : Bool :=
  match f.ftype with
  | 0x01 => nicheOf (f.addr % 256) (f.addr / 256) == x
  | 0x02 => (List.range f.len).all fun i => nicheOfIo (f.addr + i) == x
  | 0x04 => (List.range f.len).all fun i => nicheOfSlice (f.addr + i) == x
  | 0x05 => (List.range f.len).all fun i => nicheOfBank (f.addr + i) == x
  | 0x06 => nicheOfBank (f.addr % 512) == x
  | 0x07 => nicheOfNi f.addr == x
  | 0x08 => nicheOfNi (f.addr % 16) == x
  | 0x14 => nicheOfLane f.addr == x
  | _ => false

/-! ### Values that a register's rules refuse -/

/-- A word of a frame against a layout of `w` bits. -/
def fits (w v : Nat) : Bool := decide (v < 2 ^ w)

/-- FMAX of a tree in MHz, by its depth class and the speed grade (R84). -/
def fmaxOf (depth : Nat) : Nat :=
  match depth with
  | 3 => if Config.grade = 0 then 1000 else 800
  | 4 => if Config.grade = 0 then 800 else 640
  | _ => 0

/-- A PLL word of a DIE frame (R377). -/
def pllOf (w : Nat) : PllSet := ⟨slice w 0 7, slice w 7 24, slice w 31 7⟩

/-- A tree word of a DIE frame: legal values, and a NOTHROTTLE tree within its FMAX (R84, R377, R378). -/
def treeWordOk (body : List Nat) (w : Nat) : Bool :=
  let depth := slice w 0 3
  let k := slice w 3 3
  let pll := body.getD (16 + k) 0
  fits 10 w && (depth == 0 || depth == 3 || depth == 4) && decide (k < 6) &&
    (!w.testBit 8 || depth == 0 || !pll.testBit 38 || withinFmax (pllOf pll) (slice w 6 2) (fmaxOf depth))

/-- The body of a DIE frame (R347, R377). -/
def dieBodyOk (b : List Nat) : Bool :=
  ((List.range 16).all fun t => treeWordOk b (b.getD t 0)) &&
    ((List.range 6).all fun k =>
      let w := b.getD (16 + k) 0
      fits 39 w && (!w.testBit 38 || pllValid (pllOf w))) &&
    fits 12 (b.getD 22 0) && fits 19 (b.getD 23 0) && decide (b.getD 23 0 % 8 ≤ 4) &&
    ((List.range 8).all fun i => b.getD (24 + i) 0 == 0)

/-- A channel word of an NI frame (R377, R378). -/
def channelOk (w : Nat) : Bool :=
  fits 19 w && slice w 1 2 != 3 && !(w.testBit 0 && slice w 1 2 != 0 && slice w 3 16 == 0)

/-- The mailboxes of an NI frame that are enabled, as (mailbox, bank). -/
def frameMailboxes (b : List Nat) : List (Nat × Nat) :=
  ((List.range 4).filter fun m => (b.getD 4 0).testBit (36 + m)).map fun m => (m, slice (b.getD 4 0) (9 * m) 9)

/-- The body of an NI frame of NI `k` by itself: its channels, and the mailbox banks lie in the router region (R378). -/
def niBodyOk (k : Nat) (b : List Nat) : Bool :=
  let l := frameMailboxes b
  ((List.range 4).all fun c => channelOk (b.getD c 0)) && fits 40 (b.getD 4 0) &&
    l.all fun x => bankNi 0 x.2 == 16 + k

/-- The words of a context that the image writes (R264): 0 to 3 and 16 to 39. -/
def imageWord (w : Nat) : Bool := decide (w < 4) || (decide (16 ≤ w) && decide (w < 40))

/-- The body of a CONTEXT frame: R267, and nothing in a word that the image does not write. -/
def contextBodyOk (b : List Nat) : Bool :=
  cfgValid (b.getD 0 0) && slice (b.getD 2 0) 32 16 == 0 && slice (b.getD 3 0) 34 14 == 0 &&
    (List.range 64).all fun w => imageWord w || b.getD w 0 == 0

/-- The magnitudes of the five taps of an equalisation word sum to at most 63 (R313). -/
def tapSumOk (v : Nat) : Bool :=
  decide (tapSize (slice v 0 6) + tapSize (slice v 6 6) + tapSize (slice v 12 6) + slice v 18 6 + tapSize (slice v 24 6) ≤ 63)

/-- The body of a ULANE frame: no reserved value, and R313 for the modulation that it sets. -/
def laneBodyOk (b : List Nat) : Bool :=
  let c := b.getD 0 0
  let t := b.getD 1 0
  fits 39 c && slice c 2 2 != 3 && slice c 4 2 != 3 && fits 36 t && tapSumOk t &&
    (c.testBit 1 || (slice t 0 6 == 0 && slice t 6 6 == 0))

/-- The FIELD row of R378 for a frame by itself. -/
def fieldsOk (f : FrameRec) (daxat : Bool) : Bool :=
  match f.ftype with
  | 0x01 => ((List.range 64).all fun q => fits 25 (f.body.getD (135 + q) 0)) && fits 4 (f.body.getD 199 0)
  | 0x02 => f.body.all (fits 21)
  | 0x03 => dieBodyOk f.body
  | 0x04 => f.body.all (fits 26)
  | 0x05 => f.body.all (fits 31)
  | 0x07 => niBodyOk f.addr f.body
  | 0x08 => (List.range (f.len / 2)).all fun i => fits 11 (f.body.getD (2 * i + 1) 0)
  | 0x09 => fits 20 (f.body.getD 0 0) && isPermutation (slice (f.body.getD 0 0) 2 18)
  | 0x0A => daxat && f.body.all (fits 3)
  | 0x11 => contextBodyOk f.body
  | 0x12 =>
    fits 36 (f.body.getD 0 0) && fits 36 (f.body.getD 1 0) && fits 16 (f.body.getD 3 0) && fits 32 (f.body.getD 4 0) &&
      (List.range 5).all fun i => portRegValid i (f.body.getD i 0)
  | 0x13 => fits 12 (f.body.getD 0 0) && fits 36 (f.body.getD 1 0) && tapSumOk (f.body.getD 1 0)
  | 0x14 => laneBodyOk f.body
  | _ => true

/-! ### Committing into the plane (R379, R409) -/

/-- Fields of an array element written from a register word, whatever their access. -/
def State.putAll (s : State) (l : List Fld) (u j v : Nat) : State :=
  each l (fun f s => s.wr f u j (slice v f.info.lo f.info.width)) s

/-- The fields of AS_CFG(n). -/
def sliceFields : List Fld :=
  [AsF.CFG_SPLIT, .CFG_SIGN_A, .CFG_SIGN_B, .CFG_PRE, .CFG_ZSRC, .CFG_SHIFT, .CFG_RND, .CFG_SAT, .CFG_OUT_SIGNED,
    .CFG_TREE, .CFG_RST_TREE, .CFG_USED].map Fld.slc

/-- The fields of BANK_CFG(b). -/
def bankFields : List Fld :=
  [BankF.CFG_USED, .CFG_MODE, .CFG_FLIP, .CFG_MAILBOX, .CFG_PORTB, .CFG_SIDE_A, .CFG_SIDE_B, .CFG_TREE_A, .CFG_TREE_B,
    .CFG_DUTY].map Fld.bank

/-- A bank configured with USED = 1 is ON and blanked (R382). -/
def State.bankComesOn (s : State) (d b : Nat) : State :=
  if s.has (.bank .CFG_USED) (1 + d) b 1 then (s.blankBank d b).wr (.bank .STAT_PWR) (1 + d) b 1 else s

/-- A TILE, IOCELL, SLICE, BANKCFG or BANKDATA frame is committed into the plane of die `d`. -/
def State.commitFrame (s : State) (d : Nat) (f : FrameRec) : State :=
  let u := 1 + d
  match f.ftype with
  | 0x01 => s.commitWords d (tileBase (f.addr % 256) (f.addr / 256)) f.body
  | 0x02 => each (numbered f.addr f.body) (fun e s => s.putAll ioFields u e.1 e.2) (s.commitWords d (9835520 + f.addr) f.body)
  | 0x04 => each (numbered f.addr f.body) (fun e s => s.putAll sliceFields u e.1 e.2) (s.commitWords d (9830400 + f.addr) f.body)
  | 0x05 =>
    each (numbered f.addr f.body) (fun e s => (s.putAll bankFields u e.1 e.2).bankComesOn d e.1)
      (s.commitWords d (9835008 + f.addr) f.body)
  | _ =>
    each (numbered (f.addr / 512) f.body) (fun e s => s.storeRow d (f.addr % 512) e.1 (e.2 % 2 ^ 48)) s

/-! ### Relations between frames (R379) -/

/-- The tiles among `l` whose frames this load has committed. -/
def State.namedTiles (s : State) (d : Nat) (l : List (Nat × Nat)) : List (Nat × Nat) := l.filter fun q => s.tileNamed d q

/-- Whether the frame of slice `n` has come: in this load, or, outside the niche of a partial one, with the active image. -/
def State.sliceSettled (s : State) (d n : Nat) : Bool :=
  s.named 4 (1 + d) n || (s.has (.cfg .loadKind) 0 0 2 && nicheOfSlice n != s.rd (.cfg .loadNiche))

/-- The relations of slice `n` that can be checked: with its neighbours in the cascade, and with its tiles. -/
def State.sliceRelations (s : State) (d n : Nat) : Option Finding :=
  let prev := if 0 < n ∧ s.sliceSettled d (n - 1) then s.cascadeFinding d n else none
  let next := if s.sliceSettled d (n + 1) then s.cascadeFinding d (n + 1) else none
  match prev, next with
  | some e, _ => some e
  | none, some e => some e
  | none, none =>
    firstOf
      (fun q =>
        match s.unusedFinding d n q with
        | some e => some e
        | none => s.relationFinding d q)
      (s.namedTiles d (sliceTiles n))

/-- The relations of tile `q` that can be checked: with the block that it borders. -/
def State.tileRelations (s : State) (d : Nat) (q : Nat × Nat) : Option Finding :=
  if s.blockNamed d q.1 q.2 then
    match border q.1 q.2 with
    | .slice n _ =>
      match s.unusedFinding d n q with
      | some e => some e
      | none => s.relationFinding d q
    | _ => s.relationFinding d q
  else none

/-- The SELECT row of R378 for a frame that `s` has committed, its targets among those named: R82, R119 and R159 on the
frame itself, then the relations whose other side has come before it. -/
def State.frameFinding (s : State) (d : Nat) (f : FrameRec) : Option Finding :=
  let l := numbered f.addr f.body
  let own :=
    match f.ftype with
    | 0x01 => s.tileFinding d (f.addr % 256) (f.addr / 256)
    | 0x02 =>
      match firstOf (fun (e : Nat × Nat) => ioFinding e.1 (e.2 % 2 ^ 21)) l with
      | some e => some e
      | none => firstOf (fun (e : Nat × Nat) => s.pairFinding d e.1) l
    | 0x04 => firstOf (fun (e : Nat × Nat) => sliceFinding e.1 (e.2 % 2 ^ 26)) l
    | 0x05 => firstOf (fun (e : Nat × Nat) => bankFinding e.1 (e.2 % 2 ^ 31)) l
    | _ => none
  match own with
  | some e => some e
  | none =>
    match f.ftype with
    | 0x01 => s.tileRelations d (f.addr % 256, f.addr / 256)
    | 0x02 => firstOf (s.relationFinding d) (s.namedTiles d (l.map fun (e : Nat × Nat) => (0, 4 * e.1)))
    | 0x03 => firstOf (fun (p : Nat) => if s.blockNamed d 0 (4 * p) then s.serFinding d (0, 4 * p) else none) (List.range 24)
    | 0x04 => firstOf (fun (e : Nat × Nat) => s.sliceRelations d e.1) l
    | 0x05 => firstOf (s.relationFinding d) (s.namedTiles d (l.flatMap fun (e : Nat × Nat) => bankTiles e.1))
    | 0x14 => firstOf (s.relationFinding d) (s.namedTiles d ((List.range 9).map fun t => (0, 96 + 18 * f.addr + t)))
    | _ => none

/-- The mailboxes that the load has staged for die `d`, as (NI, mailbox, bank). -/
def State.stagedMailboxes (s : State) (d : Nat) : List (Nat × Nat × Nat) :=
  (s.staged.filter fun f => f.ftype == 7 && f.unit == 1 + d).flatMap fun f => (frameMailboxes f.body).map fun x => (f.addr, x.1, x.2)

/-- Whether bank `b` of die `d` may serve a mailbox: USED, tick-paired, MAILBOX (R377). -/
def State.mailboxBankOk (s : State) (d b : Nat) : Bool :=
  s.has (.bank .CFG_USED) (1 + d) b 1 && s.has (.bank .CFG_MODE) (1 + d) b 1 && s.has (.bank .CFG_MAILBOX) (1 + d) b 1

/-- What step 3 of R385 checks of the mailboxes of die `d` (R377, R378): no two enabled mailboxes name one bank, and every
bank named may serve a mailbox. -/
def State.mailboxesOk (s : State) (d : Nat) : Bool :=
  let banks := (s.stagedMailboxes d).map fun x => x.2.2
  banks.Nodup && banks.all fun b => s.mailboxBankOk d b

/-! ### A live niche (R401) -/

/-- Whether tree `t` of die `d` is free. -/
def State.freeTree (s : State) (d t : Nat) : Bool :=
  s.rd (.fab .TREE_DEPTH) (1 + d) t != 0 && s.has (.tick .UNIT_PRESENT) (1 + d) t 0

/-- Whether a frame of a partial image keeps the conditions of R401. -/
def State.frameLive (s : State) (d : Nat) (f : FrameRec) : Bool :=
  match f.ftype with
  | 0x01 => s.freeTree d (f.body.getD 199 0 % 16)
  | 0x02 => f.body.all fun v => slice v 0 3 != 4 && slice v 0 3 != 5
  | 0x04 => f.body.all fun v => slice v 25 1 == 0 || s.freeTree d (slice v (AsF.CFG_TREE |> asInfo).lo 4)
  | 0x05 =>
    f.body.all fun v =>
      slice v 0 1 == 0 || (slice v 1 1 == 0 && slice v 3 1 == 0 && s.freeTree d (slice v 7 4) &&
        (slice v 4 1 == 0 || s.freeTree d (slice v 11 4)))
  | 0x07 => ((List.range 4).all fun c => !(f.body.getD c 0).testBit 0) && (frameMailboxes f.body).isEmpty
  | 0x14 => slice (f.body.getD 0 0) 0 1 == 0 || s.freeTree d (slice (f.body.getD 0 0) 35 4)
  | _ => true

/-- Whether niche `x` of die `d` meets the active image's side of R401. A tile that nothing has configured is on no tree;
nor is a slice, a bank or a lane that the image does not use. -/
def State.nicheLive (s : State) (d x : Nat) : Bool :=
  let u := 1 + d
  x != 8 &&
    (s.plane.all fun e =>
      let k := e.1 % 2 ^ 24
      e.1 / 2 ^ 24 != d || decide (9830400 ≤ k) || nicheOfWord k != x || s.freeTree d (s.tileTree d (k / 200 % 256) (k / 200 / 256))) &&
    (s.regs.all fun e =>
      !keyInNiche d x e.1 ||
        match e.1.f with
        | .slc .CFG_USED => e.2 == 0 || s.freeTree d (s.rd (.slc .CFG_TREE) u e.1.j)
        | .bank .CFG_USED =>
          e.2 == 0 ||
            (s.has (.bank .CFG_MODE) u e.1.j 0 && s.has (.bank .CFG_MAILBOX) u e.1.j 0 &&
              s.freeTree d (s.rd (.bank .CFG_TREE_A) u e.1.j) &&
              (s.has (.bank .CFG_PORTB) u e.1.j 0 || s.freeTree d (s.rd (.bank .CFG_TREE_B) u e.1.j)))
        | .fab .IOCFG_MODE => e.2 != 4 && e.2 != 5
        | _ => true) &&
    ((List.range 4).all fun k =>
      nicheOfLane k != x || s.has (.pp .UCFG_USED) 0 (4 * d + k) 0 || s.freeTree d (s.rd (.pp .UCFG_TREE) 0 (4 * d + k))) &&
    ((nicheSides x).all fun k => s.has (.erg .fabState) u k 2)

/-! ### One frame record -/

/-- The physical unit of a frame: 0 the Plinth, 1 + d the die that its logical die is mapped to (R375). -/
def State.frameUnit (s : State) (unit : Nat) : Nat :=
  if unit = 0 then 0 else 1 + slice (s.rd (.cfg .ldPlace)) (4 * (unit - 1)) 4

/-- The NICHE row of R378, as R403 defines it: types, unit and targets of a partial image. -/
def State.frameOutside (s : State) (f : FrameRec) : Bool :=
  s.has (.cfg .loadKind) 0 0 2 &&
    (!(f.ftype == 1 || f.ftype == 2 || f.ftype == 4 || f.ftype == 5 || f.ftype == 6 || f.ftype == 7 || f.ftype == 8 ||
        f.ftype == 0x14) || f.unit == 0 || s.frameUnit f.unit != 1 + s.rd (.cfg .loadDie) ||
      !frameInNiche f (s.rd (.cfg .loadNiche)))

/-- The trees that a frame names and that R378 and R403 want used. -/
def frameTrees (f : FrameRec) : List Nat :=
  match f.ftype with
  | 0x01 => [f.body.getD 199 0 % 16]
  | 0x04 => (f.body.filter fun v => v.testBit 25).map fun v => slice v (asInfo .CFG_TREE).lo 4
  | 0x14 => if (f.body.getD 0 0).testBit 0 then [slice (f.body.getD 0 0) 35 4] else []
  | _ => []

/-- A frame that fails: the status, and what the record of the finding leaves. -/
abbrev FrameResult := Nat × State

/-- The checks of R378 from DUPLICATE on, R403 and R379 on a frame that is applied; status 0 where it passes, with the
frame committed or staged. -/
def State.applyFrame (s : State) (f : FrameRec) : FrameResult :=
  let u := s.frameUnit f.unit
  let d := u - 1
  let t := frameTarget f u
  let partialLoad := s.has (.cfg .loadKind) 0 0 2
  if s.targets.any t.meets then (0x22, s)
  else if f.ftype = 6 ∧ !(s.has (.bank .CFG_USED) u (f.addr % 512) 1 && s.has (.bank .CFG_MODE) u (f.addr % 512) 0 &&
      s.has (.bank .CFG_MAILBOX) u (f.addr % 512) 0) then (0x23, s)
  else if s.frameOutside f then (0x24, s)
  else
    let named : State := { s with targets := s.targets ++ [t] }
    let commits := decide (f.ftype = 1) || f.ftype == 2 || f.ftype == 4 || f.ftype == 5 || f.ftype == 6
    let next : State :=
      if commits then (named.commitFrame d f).inc (.cfg .DIE_FRAMES) u 0
      else if f.ftype = 0x1F then named
      else { named with staged := named.staged ++ [⟨f.ftype, u, f.addr, f.body⟩] }
    match next.frameFinding d f with
    | some e => (0x25, s.record d e)
    | none =>
      if !fieldsOk f ((s.rd (.cfg .ldFlags)).testBit 2) then (0x26, s)
      else if partialLoad && ((frameTrees f).any fun t => s.has (.fab .TREE_DEPTH) u t 0) then (0x26, s)
      else if s.has (.cfg .liveStart) 0 0 1 && !s.frameLive d f then (0x26, s)
      else (0, next)

/-- A frame record that has arrived (R378): the FCRC and FRAME rows, and for an applied frame the rest. -/
def State.frameArrives (s : State) (f : FrameRec) : FrameResult :=
  if !f.crcOk then (0x20, s)
  else if !frameFormOk f (s.rd (.cfg .ldM)) (s.rd (.cfg .ldPlaces)) then (0x21, s)
  else if f.place ≠ 0xFF ∧ f.place ≠ s.rd (.cfg .CTRL_PLACE) then (0, s)
  else s.applyFrame f

end Sys2Proof.Machine
end

