-- ==== Sys2Proof/Machine/Activate.lean ====
section
/-! DEFINITION. The checks of a header and a placement that are repeated (R373, R374), and activation, full (R385) and
partial (R404). -/

namespace Sys2Proof.Machine

/-! ### What the device permits -/

/-- Whether the life-cycle state permits loads (R429, R445). -/
def State.loadsPermitted (s : State) : Bool :=
  let lc := s.rd (.sec .STAT_LC)
  decide (1 ≤ lc) && decide (lc ≤ 4) && s.has (.sec .TAMPER_ACTIVE) 0 0 0

/-- Whether a slot signs images in the life-cycle state, and is provisioned (R429). -/
def State.imageSigner (s : State) (slot : Nat) : Bool :=
  let lc := s.rd (.sec .STAT_LC)
  (s.rd (.sec .KEYS_PRESENT)).testBit slot &&
    (if lc = 1 ∨ lc = 4 then slot == 2 else if lc = 2 ∨ lc = 3 then decide (4 ≤ slot) && decide (slot ≤ 7) else false)

/-- Whether a slot decrypts images (R429). -/
def State.imageDecryptor (s : State) (slot : Nat) : Bool :=
  let lc := s.rd (.sec .STAT_LC)
  decide (12 ≤ slot) && decide (slot ≤ 14) && (s.rd (.sec .KEYS_PRESENT)).testBit slot && (lc == 2 || lc == 3)

/-- Whether a DRAM subchannel is in one of the states `l`. -/
def State.anySub (s : State) (l : List Nat) : Bool := (List.range 8).any fun q => l.contains (s.subState q)

/-- The rows of R373 that the state of the device decides, for the header of the load in progress; 0 where all pass. -/
def State.headerStatus (s : State) : Nat :=
  let c := fun (f : CfgF) => s.rd (.cfg f)
  if s.rd (.seif .COMPAT_LEVEL) = 0 then 0x14
  else if s.rd (.seif .COMPAT_LEVEL) < c .ldLevel then 0x13
  else if (c .ldFlags).testBit 4 ∧ s.anySub [4] then 0x15
  else if c .ldSvn < s.rd (.sec .CNT_VALUE) 0 1 then 0x16
  else if !s.imageSigner (c .ldKeyslot) || ((c .ldFlags).testBit 3 && !s.imageDecryptor (c .ldDekslot)) then 0x17
  else if c .loadKind = 2 ∧ (c .STAT_ACTIVE = 0 ∨ c .ldBase ≠ c .IMAGE) then 0x19
  else 0

/-- REASON 4 of R218 stands while the header examined last wants a level above the common one. -/
def State.noteLevel (s : State) : State :=
  let l := s.rd (.seif .COMPAT_LEVEL)
  if l = 0 then s else s.wr (.seif .COMPAT_REASON) 0 0 (if l < s.rd (.cfg .ldLevel) then 4 else 0)

/-- The dies of the placement in force. -/
def State.placeDies (s : State) : List Nat := (List.range (s.rd (.cfg .ldM))).map fun l => slice (s.rd (.cfg .ldPlace)) (4 * l) 4

/-- Whether R229 lets the placement in force be used: its dies are there. -/
def State.placementOk (s : State) : Bool := s.placeDies.all fun d => s.dieHere d

/-! ### Supplies of the user I/O banks (R97, R99) -/

/-- The range of a declared VCCO in mV; none where none is declared. -/
def vccoRange : Nat → Option (Nat × Nat)
  | 1 => some (3135, 3465)
  | 2 => some (2375, 2625)
  | 3 => some (1710, 1890)
  | 4 => some (1140, 1260)
  | _ => none

/-- Whether a supply of `mv` lies in the range of a declaration. -/
def vccoIn (decl mv : Nat) : Bool :=
  match vccoRange decl with
  | some (a, b) => decide (a ≤ mv) && decide (mv ≤ b)
  | none => false

/-- The die power manager measures VCCO_d: the registers follow. -/
def State.measureVcco (s : State) (d mv : Nat) : State :=
  let u := 1 + d
  (s.wr (.fab .IOSTAT_VCCO_MV) u 0 mv).wr (.fab .IOSTAT_VCCO_OK) u 0 (b2n (vccoIn (s.rd (.fab .IOSTAT_VCCO_DECL) u) mv))

/-- Whether the image uses a pin of the bank. -/
def State.ioUsed (s : State) (d : Nat) : Bool := (List.range 24).any fun p => s.rd (.fab .IOCFG_MODE) (1 + d) p != 0

/-- An I/O bank goes off: its pins are high impedance, and its input latches and inputs read 0 (R99). -/
def State.bankOff (s : State) (d : Nat) : State :=
  (s.resetKeys fun k => decide (k.u = 1 + d) && (decide (k.f = .fab .tickIn) || decide (k.f = .fab .inReg))).wr
    (.fab .IOSTAT_BANK_OFF) (1 + d) 0 1

/-- VCCO_d at activation: outside its range the bank stays off, with the emergency. -/
def State.activateBank (s : State) (d mv : Nat) : State :=
  let u := 1 + d
  let s := (s.wr (.fab .IOSTAT_USED) u 0 (b2n (s.ioUsed d))).measureVcco d mv
  if s.has (.fab .IOSTAT_USED) u 0 1 && s.has (.fab .IOSTAT_VCCO_OK) u 0 0 then
    (s.bankOff d).raiseCond 0x3210 (0x10 + d) (s.rd (.fab .IOSTAT_VCCO_MV) u)
  else (s.wr (.fab .IOSTAT_BANK_OFF) u 0 0).endCond 0x3210 (0x10 + d)

/-- VCCO_MEASUREMENT (R99): every 100 µs the die power manager of die `d` measures VCCO_d, `mv` mV; a bank in use whose
supply leaves its range goes off, and stays so until a new activation. -/
def execVccoMeasurement (d mv : Nat) (s : State) : Answer :=
  actCore (okDie d && decide (mv < 65536)) s
    (let u := 1 + d
     if !s.dieUsed d || s.has (.fab .IOSTAT_USED) u 0 0 || s.isolated d then s
     else
       let s := s.measureVcco d mv
       if s.has (.fab .IOSTAT_VCCO_OK) u 0 1 || s.has (.fab .IOSTAT_BANK_OFF) u 0 1 then s
       else
         ((s.wr (.fab .IOSTAT_VCCO_BAD) u 0 1).bankOff d).raiseCond 0x3210 (0x10 + d) mv)

/-! ### Staged frames take effect -/

/-- A DIE frame (R84, R377): trees, fabric PLLs, reset trees, supply and power; the words enter the plane. -/
def State.applyDie (s : State) (d : Nat) (b : List Nat) : State :=
  let u := 1 + d
  let s := s.commitWords d 9835544 b
  let s := each (numbered 0 ((b.drop 16).take 6))
    (fun e s =>
      let p := pllOf e.2
      let s := ((s.wr (.clk .PLL_N) u e.1 p.n).wr (.clk .PLL_F) u e.1 p.f).wr (.clk .PLL_D) u e.1 p.d
      (s.wr (.clk .PLL_EN) u e.1 (slice e.2 38 1)).wr (.clk .PLL_LOCK) u e.1 (slice e.2 38 1)) s
  let s := each (numbered 0 (b.take 16))
    (fun e s =>
      let t := e.1
      let depth := slice e.2 0 3
      let k := slice e.2 3 3
      let s := ((s.wr (.fab .TREE_DEPTH) u t depth).wr (.fab .TREE_FMAX) u t (fmaxOf depth)).wr (.fab .TREE_NOTHROTTLE) u t
        (slice e.2 8 1)
      let s := (s.wr (.tick .UNIT_PRESENT) u t (slice e.2 9 1)).wr (.clk .DOM_PLLSEL) u t k
      let s := (s.wr (.clk .DOM_TDIV) u t (slice e.2 6 2)).setFnom u t
      if s.has (.clk .PLL_LOCK) u k 1 then s.setInput u t 0 else s) s
  let s := each [1, 2, 3] (fun r s => s.wr (.fab .RSTTREE_CLOCK) u r (slice (b.getD 22 0) (4 * r - 4) 4)) s
  (s.wr (.fab .IOSTAT_VCCO_DECL) u 0 (b.getD 23 0)).wr (.mod .declared) 0 d (slice (b.getD 23 0) 3 16)

/-- An NI frame: its channels and its mailboxes (R377). The ports of the Plinth are the device's (R197). -/
def State.applyNi (s : State) (u k : Nat) (b : List Nat) : State :=
  if u = 0 then s else
  let s := each (numbered (4 * k) (b.take 4))
    (fun e s => s.putAll [.erg .CH_CFG_EN, .erg .CH_CFG_CLASS, .erg .CH_CFG_TMO] u e.1 e.2) s
  each (List.range 4)
    (fun m s =>
      (s.wr (.erg .mboxOn) u (4 * k + m) (slice (b.getD 4 0) (36 + m) 1)).wr (.erg .mboxBank) u (4 * k + m)
        (slice (b.getD 4 0) (9 * m) 9)) s

/-- A ROUTE frame: the entries of NI `k` from `e` on. -/
def State.applyRoute (s : State) (u k e : Nat) (b : List Nat) : State :=
  each (List.range (b.length / 2))
    (fun i s =>
      let j := 1024 * k + e + i
      let v := b.getD (2 * i + 1) 0
      ((s.wr (.erg .RT_ROUTE_ROUTE) u j (b.getD (2 * i) 0)).wr (.erg .RT_DEST_DEST) u j v).wr (.erg .RT_DEST_VALID) u j
        (slice v 10 1)) s

/-- A queue's configuration and state, OFF or ACTIVE (R256). -/
def State.applyQueue (s : State) (q v : Nat) : State := (s.setQcfg q v).wr (.qm .QSTAT_STATE) 0 q (slice v 47 1)

/-- A CONTEXT frame: words 0 to 3, and the initial command (R264, R284). -/
def State.applyContext (s : State) (c : Nat) (b : List Nat) : State :=
  let s := each (numbered 0 b) (fun e s => if imageWord e.1 then s.setCtx (ctxKey c e.1) e.2 else s) s
  each (numbered 0 b)
    (fun e s =>
      if 16 ≤ e.1 ∧ e.1 < 40 then
        { s with ctxImage := Sparse.set id (fun _ => 0) s.ctxImage (ctxKey c e.1) (e.2 % 2 ^ 48) }
      else s) s

/-- The configuration of a port that no frame names: mode 0, every other field at its reset value (R383). -/
def unconfiguredPort (p : Nat) : List Nat :=
  (List.range 5).map fun reg =>
    (portRegFields reg).foldl (fun a f => a + (Fld.pp f).dflt 0 p * 2 ^ (ppInfo f).lo) 0

/-- A port at activation (R315): one that is UP and whose values do not change stays UP; every other goes to DISABLED,
takes the values, and starts where AUTOSTART is 1. -/
def State.activatePort (s : State) (p : Nat) (b : List Nat) : State :=
  if s.portUp p && (List.range 5).all fun i => s.portReg i p == b.getD i 0 then s
  else
    let s := s.disablePort p
    let s := each (numbered 0 b) (fun e s => s.putFields (portRegFields e.1) p e.2) s
    if s.has (.pp .CFG_AUTOSTART) 0 p 1 && s.rd (.pp .CFG_MODE) 0 p != 0 then s.startAttempt p 0 else s

/-- The polarity, error limit and equalisation of partner lane `j` (R313, R317). -/
def State.applyLane (s : State) (j : Nat) (b : List Nat) : State :=
  (s.putFields [.LCFG_TXPOL, .LCFG_RXPOL, .LCFG_SERLIM] j (b.getD 0 0)).writeTaps false j (b.getD 1 0)

/-- A user lane (R289, R312): one whose RATE lies outside the range of its modulation counts as unused. -/
def State.applyUlane (s : State) (u : Nat) (b : List Nat) : State :=
  let c := b.getD 0 0
  let rate := slice c 6 27
  let inRange := if c.testBit 1 then decide (20000000 ≤ rate) && decide (rate ≤ 106250000)
    else decide (1000000 ≤ rate) && decide (rate ≤ 28125000)
  let s := s.putFields [.UCFG_USED, .UCFG_PAM4, .UCFG_WIDTH, .UCFG_REF, .UCFG_RATE, .UCFG_TXPOL, .UCFG_RXPOL, .UCFG_TREE] u c
  let s := if inRange then s else s.wr (.pp .UCFG_USED) 0 u 0
  s.putFields [.UTX_PRE3, .UTX_PRE2, .UTX_PRE1, .UTX_MAIN, .UTX_POST, .UTX_CTLE, .UTX_ADAPT] u (b.getD 1 0)

/-- One staged frame takes effect. -/
def State.applyStaged (s : State) (f : SFrame) : State :=
  match f.ftype with
  | 0x03 => s.applyDie (f.unit - 1) f.body
  | 0x07 => s.applyNi f.unit f.addr f.body
  | 0x08 => s.applyRoute f.unit (f.addr % 16) (f.addr / 16) f.body
  | 0x09 =>
    State.takeTopology (((s.wr (.erg .RTR_CFG_WRAP_X) f.unit f.addr (f.body.getD 0 0)).wr (.erg .RTR_CFG_WRAP_Y) f.unit f.addr
      (f.body.getD 0 0 / 2)).wr (.erg .RTR_CFG_PMAP) f.unit f.addr (slice (f.body.getD 0 0) 2 18)) f.unit f.addr
  | 0x0A => each (numbered (1024 * (f.addr % 16) + f.addr / 16) f.body) (fun e s => s.wr (.erg .DT_CODE) f.unit e.1 e.2) s
  | 0x10 => each (numbered f.addr f.body) (fun e s => s.applyQueue e.1 e.2) s
  | 0x11 => s.applyContext f.addr f.body
  | 0x13 => s.applyLane f.addr f.body
  | 0x14 => s.applyUlane (4 * (f.unit - 1) + f.addr) f.body
  | _ => s

/-- The staged frames of a type. -/
def State.stagedOf (s : State) (ftype : Nat) : List SFrame := s.staged.filter fun f => f.ftype == ftype

/-- The queue configuration fields, which the image sets (R261). -/
def isQueueCfg (f : Fld) : Bool :=
  decide (f = .qm .QCFG_MODE) || decide (f = .qm .QCFG_NOTIFY_EN) || decide (f = .qm .QCFG_HOSTPRIO) ||
    decide (f = .qm .QCFG_QUOTA) || decide (f = .qm .QCFG_NOTIFY) || decide (f = .qm .QCFG_CONSUMER) ||
    decide (f = .qm .QCFG_STATUS) || decide (f = .qm .QSTAT_STATE)

/-- The lane fields that the image sets (R317): those of the partner lanes, and the taps of the user lanes. -/
def isLaneCfg (f : Fld) : Bool :=
  [PpF.LCFG_TXPOL, .LCFG_RXPOL, .LCFG_SERLIM, .LTX_PRE3, .LTX_PRE2, .LTX_PRE1, .LTX_MAIN, .LTX_POST, .LTX_CTLE, .UTX_PRE3,
    .UTX_PRE2, .UTX_PRE1, .UTX_MAIN, .UTX_POST, .UTX_CTLE].any fun g => decide (f = .pp g)

/-- The channel fields of a die's interfaces, which the image sets (R196). -/
def isChannelCfg (k : Key) : Bool :=
  decide (k.u ≠ 0) && (decide (k.f = .erg .CH_CFG_EN) || decide (k.f = .erg .CH_CFG_CLASS) || decide (k.f = .erg .CH_CFG_TMO))

/-- A fabric side that no channel and no mailbox uses is CLOSED; the others are OPEN (R399). -/
def State.settleSide (s : State) (u k : Nat) : State :=
  let used := ((List.range 4).any fun c => s.has (.erg .CH_CFG_EN) u (4 * k + c) 1 || s.has (.erg .mboxOn) u (4 * k + c) 1)
  (s.setFabState u k (if used then 0 else 2)).wr (.erg .fabNone) u k (b2n (!used))

/-- The contexts of both engines, their images and what was staged for them are cleared. -/
def State.dropContexts (s : State) : State := { s with ctx := [], ctxImage := [], ctxShadow := [], ctxStaged := [] }

/-- Step 4 of R385: what the staged frames and the header set, every field that no frame names at its unconfigured
value. The Caravan engines, unit 0 of the Plinth, are a unit of every image (R36, log entry 113). -/
def State.applyImage (s : State) : State :=
  let c := fun (f : CfgF) => s.rd (.cfg f)
  let flags := c .ldFlags
  let units := 0 :: s.placeDies.map fun d => 1 + d
  let s := each (List.range (Config.n + 1)) (fun u s => s.wr (.erg .MODE_DAXAT) u 0 (slice flags 2 1)) s
  let s := s.resetKeys fun k => isRouteField k.f || isRouterField k.f || isQueueCfg k.f || isLaneCfg k.f || isChannelCfg k
  let s := each units (fun u s => s.wr (.erg .defRoutes) u 0 0) s
  let s := s.dropContexts
  let ports := s.stagedOf 0x12
  let s := each (List.range 6)
    (fun p s =>
      s.activatePort p (match ports.find? fun f => f.addr == p with
        | some f => f.body
        | none => unconfiguredPort p)) s
  let s := each s.staged (fun f s => s.applyStaged f) s
  let s := s.wr (.tick .UNIT_PRESENT) 0 0 1
  let s := (s.wr (.tick .PMIN_PMIN) 0 0 (c .ldPmin)).wr (.tick .GMIN_GMIN) 0 0 (c .ldGmin)
  let s := s.wr (.tick .GUARD_G) 0 0 (c .ldGmin)
  (s.wr (.tick .STATE_CONTRACT) 0 0 (slice flags 0 1)).wr (.tick .STATE_RESUMABLE) 0 0 (slice flags 1 1)

/-! ### Step 3 -/

/-- The relations of R379 that are open when the last frame has come, against the unconfigured value. -/
def State.openFinding (s : State) (t : Target) : Option Finding :=
  let d := t.unit - 1
  match t.ftype with
  | 0x01 =>
    let q := (t.first % 256, t.first / 256)
    match border q.1 q.2 with
    | .slice n _ =>
      match s.unusedFinding d n q with
      | some e => some e
      | none => s.relationFinding d q
    | _ => s.relationFinding d q
  | 0x02 => firstOf (fun p => s.serFinding d (0, 4 * p)) ((List.range t.count).map fun i => t.first + i)
  | 0x04 => firstOf (s.cascadeFinding d) ((List.range t.count).map fun i => t.first + i)
  | _ => none

/-- The cascades that leave the niche of a partial load: a slice outside it that goes on from one inside (R119, R379). -/
def State.edgeFinding (s : State) : Option (Nat × Finding) :=
  let d := s.rd (.cfg .loadDie)
  let x := s.rd (.cfg .loadNiche)
  if s.has (.cfg .loadKind) 0 0 2 then
    (firstOf (s.cascadeFinding d) ((List.range 4608).filter fun n =>
      nicheOfSlice n != x && n % 96 != 0 && nicheOfSlice (n - 1) == x)).map fun e => (d, e)
  else none

/-- The tree of a target that must be used (R378, R403). -/
def State.openTree (s : State) (t : Target) : List Nat :=
  let d := t.unit - 1
  match t.ftype with
  | 0x01 => [s.tileTree d (t.first % 256) (t.first / 256)]
  | 0x04 =>
    (((List.range t.count).map fun i => t.first + i).filter fun n => s.has (.slc .CFG_USED) t.unit n 1).map fun n =>
      s.rd (.slc .CFG_TREE) t.unit n
  | 0x14 =>
    match s.stagedLane d t.first with
    | some f => if (f.body.getD 0 0).testBit 0 then [slice (f.body.getD 0 0) 35 4] else []
    | none => []
  | _ => []

/-- Whether the DIE frame of a unit gives tree `x` a depth: the staged one in a full load, the active one in a partial
load. -/
def State.treeGiven (s : State) (u x : Nat) : Bool :=
  if s.has (.cfg .loadKind) 0 0 2 then s.rd (.fab .TREE_DEPTH) u x != 0
  else (s.stagedOf 3).any fun f => f.unit == u && slice (f.body.getD x 0) 0 3 != 0

/-- The rules among queues and between contexts and queues (R254, R269, R270), on the state as step 4 would leave it. -/
def State.queueRulesOk (s : State) (staged : List SFrame) : Bool :=
  (staged.all fun f =>
    f.ftype != 0x10 || (numbered f.addr f.body).all fun e =>
      !e.2.testBit 1 ||
        (let t := slice e.2 20 16
         t != e.1 && s.has (.qm .QCFG_NOTIFY_EN) 0 t 0 && s.has (.qm .QCFG_MODE) 0 t (e.2 % 2))) &&
    staged.all fun f => f.ftype != 0x11 || (s.cmdqOk f.addr (f.body.getD 3 0) && s.stsqOk (f.body.getD 3 0))

/-- Whether the taps of a staged lane keep R313 on the modulation that the image's port mode gives. -/
def State.laneTapsOk (s : State) (staged : List SFrame) : Bool :=
  staged.all fun f => f.ftype != 0x13 || s.tapsHeld false f.addr || s.tapsValid false f.addr (f.body.getD 1 0)

/-- Step 3 of R385 and step 7 of R404: the status, and what a finding records. -/
def State.stepThree (s : State) : Nat × State :=
  let c := s.headerStatus
  let kind := s.rd (.cfg .loadKind)
  let dies := if kind = 2 then [s.rd (.cfg .loadDie)] else s.placeDies
  if c ≠ 0 then (c, s.noteLevel)
  else if !s.placementOk then (0x12, s)
  else if dies.any (fun d => (List.range 512).any fun b =>
      s.has (.bank .CFG_USED) (1 + d) b 1 && s.has (.bank .STAT_FAILED) (1 + d) b 1) then (0x40, s)
  else
    match (firstOf (fun t => (s.openFinding t).map fun e => (t.unit - 1, e)) s.targets).or s.edgeFinding with
    | some (d, e) => (0x26, s.record d e)
    | none =>
      if s.targets.any (fun t => (s.openTree t).any fun x => !s.treeGiven t.unit x) then (0x26, s)
      else if dies.any (fun d => !s.mailboxesOk d) then (0x26, s)
      else if kind = 1 ∧ !(s.applyImage.queueRulesOk s.staged && s.applyImage.laneTapsOk s.staged) then (0x26, s)
      else (0, s)

/-! ### Activation -/

/-- What both kinds of activation leave in the CFG block. -/
def State.loadDone (s : State) (isPartial : Bool) : State :=
  let s := (s.endLoad.wr (.cfg .STAT_STATUS) 0 0 0).wr (.cfg .STAT_PARTIAL) 0 0 (b2n isPartial)
  (s.wr (.cfg .donePin) 0 0 1).inc (.cfg .LOADS_OK) 0 0

/-- The I/O cells of die `d` that meet `p` take their modes: a keeper holds the level of the bank's weak pull (R561). -/
def State.keepersStart (s : State) (d : Nat) (p : Nat → Bool) : State :=
  each ((List.range 24).filter p) (fun i s => s.wr (.fab .keep) (1 + d) i (s.rd (.fab .IOPULL_UP) (1 + d))) s

/-- Steps 5 to 7 of R385 on one die of the placement: `l` its logical die, `mv` the supply of its I/O bank. -/
def State.activateDie (s : State) (l d mv : Nat) : State :=
  let u := 1 + d
  let s := s.activateBank d mv
  let s := each (s.usedBanks d) (fun b s => s.bankToOn (d, b)) s
  let s := s.keepersStart d fun _ => true
  let s := each (List.range 16) (fun k s => s.settleSide u k) s
  let s := s.wr (.fab .clocksRun) u 0 1
  let s := each (List.range 12) (fun x s => s.wr (.nch .STAT_STATE) u x 3) s
  let s := each (List.range 12) (fun x s => s.wr (.nch .STAT_LIVE) u x (b2n (s.nicheLive d x))) s
  let s := each [ScrubF.POS_CFG, .POS_BANK, .passCe, .warned] (fun f s => s.wr (.scrub f) u 0 0) s
  let s := s.wr (.scrub .STAT_STATE) u 0 1
  let s := (s.wr (.od .FPORT_READY) 0 d 1).wr (.od .FPORT_OPEN) 0 d 1
  (s.wr (.cfg .DIE_LOGICAL) u 0 l).setFab d 3

/-- Steps 4 to 7 of R385. `vcco` gives the measured supply of each die's I/O bank in mV. -/
def State.activateFull (s : State) (vcco : List Nat) : State :=
  let c := fun (f : CfgF) => s.rd (.cfg f)
  let place := s.placeDies
  let s := s.applyImage.runReset
  let s := each (numbered 0 place) (fun e s => s.activateDie e.1 e.2 (vcco.getD e.2 0)) s
  let s := each s.tickOutPins (fun q s => s.latchInit q) s
  let s := ((s.wr (.cfg .IMAGE) 0 0 (c .ldId)).wr (.cfg .actPlace) 0 0 (c .ldPlace)).wr (.cfg .actFlags) 0 0 (c .ldFlags)
  let s := ((s.wr (.cfg .actSvn) 0 0 (c .ldSvn)).wr (.cfg .actDigest) 0 0 (c .ldDigest)).wr (.cfg .partN) 0 0 0
  let s := (s.wr (.cfg .STAT_PLACE) 0 0 (c .CTRL_PLACE)).wr (.cfg .STAT_LDIES) 0 0 (c .ldM)
  (s.wr (.cfg .STAT_ACTIVE) 0 0 1).loadDone false

/-- The keys of the registers of the slices in niche `x` of die `d`. -/
def sliceRegInNiche (d x : Nat) (k : Key) : Bool := decide (k.u = 1 + d) && isSliceReg k.f && nicheOfSlice k.j == x

/-- Steps 8 to 10 of R404, and R405. -/
def State.activateNiche (s : State) : State :=
  let c := fun (f : CfgF) => s.rd (.cfg f)
  let d := c .loadDie
  let x := c .loadNiche
  let u := 1 + d
  let before := s.has (.nch .STAT_LIVE) u x 1
  let s := each s.staged (fun f s => s.applyStaged f) s
  let s := (s.loadInit (tileInNiche d x)).resetKeys (sliceRegInNiche d x)
  let s := s.keepersStart d fun p => nicheOfIo p == x
  let s := each (nicheSides x) (fun k s => s.settleSide u k) s
  let s := each (s.tickOutPins.filter fun q => q.1 == d && nicheOfIo q.2 == x) (fun q s => s.latchInit q) s
  let s := s.wr (.fab .IOSTAT_USED) u 0 (b2n (s.ioUsed d))
  let both := slice (c .actFlags) 0 2 &&& slice (c .ldFlags) 0 2
  let s := s.wr (.cfg .actFlags) 0 0 (c .actFlags / 4 * 4 + both)
  let s := s.wr (.tick .STATE_CONTRACT) 0 0 (slice both 0 1)
  let s := (s.wr (.cfg .partD) 0 (c .partN) (c .ldDigest)).inc (.cfg .partN) 0 0
  let s := (s.wr (.nch .STAT_STATE) u x 3).inc (.nch .STAT_PLOADS) u x
  let s := s.wr (.nch .STAT_LIVE) u x (b2n (s.nicheLive d x))
  let live := before && s.has (.nch .STAT_LIVE) u x 1
  let s := s.wr (.tick .STATE_RESUMABLE) 0 0 (if live then slice both 1 1 else 0)
  let s := if x = 8 then (s.wr (.od .FPORT_READY) 0 d 1).wr (.od .FPORT_OPEN) 0 d 1 else s
  s.loadDone true

/-- A load that has passed verification activates, or waits: a full image that uses DRAM for the subchannels (R553), a
partial one for the debugger (R404 step 8). -/
def State.activateLoad (s : State) (vcco : List Nat) : State :=
  let (c, s) := s.stepThree
  if c ≠ 0 then s.failLoad c
  else
    let s := s.wr (.cfg .STAT_STATE) 0 0 5
    if s.has (.cfg .loadKind) 0 0 1 then
      if (s.rd (.cfg .ldFlags)).testBit 4 && s.anySub [1, 2] then s.wr (.cfg .waits) 0 0 1 else s.activateFull vcco
    else if s.tick = 5 then s.wr (.cfg .waits) 0 0 2
    else s.activateNiche

/-- A partial load that waits for the debugger goes on when the halt is released (R404 step 8). -/
def State.nicheReleased (s : State) : State := if s.has (.cfg .waits) 0 0 2 then s.activateNiche else s

end Sys2Proof.Machine
end

