-- ==== Sys2Proof/Machine/Loads.lean ====
section
/-! DEFINITION. The commands of a load: its start, its stream, its end (R364 to R392), and the niche commands (R402 to
R407). -/

namespace Sys2Proof.Machine

/-! ### Starts -/

/-- The fields that a load's header and progress set. -/
def loadFields : List CfgF :=
  [.ldM, .ldPlaces, .ldLevel, .ldFlags, .ldKeyslot, .ldDekslot, .ldId, .ldBase, .ldSvn, .ldPmin, .ldGmin, .ldFrames,
    .ldLength, .ldPlace, .ldTable, .ldSeen, .ldDigest, .waits, .liveStart, .STAT_TAG_OK, .STAT_ECDSA_OK, .STAT_HSS_OK,
    .PROGRESS_BYTES, .ERRFRAME_INDEX, .ERRFRAME_FTYPE, .ERRFRAME_UNIT, .donePin, .errFail, .errRefuse, .ignoring]

/-- What the start of either kind of load does in the CFG block (R369 step 1, R388, R391). -/
def State.beginLoad (s : State) (kind : Nat) : State :=
  let s : State := { s with targets := [], staged := [], stream := [], imageBytes := [] }
  let s := each loadFields (fun f s => s.wr (.cfg f) 0 0 0) s
  let s := s.resetKeys fun k => decide (k.f = .cfg .DIE_FRAMES)
  let s := (s.wr (.cfg .loadKind) 0 0 kind).wr (.cfg .STAT_STATE) 0 0 1
  let s := s.wr (.cfg .STAT_STATUS) 0 0 1
  let src := s.rd (.cfg .CTRL_SRC)
  let s := (s.wr (.cfg .STAT_SRC) 0 0 src).wr (.cfg .STAT_WIDTH) 0 0 (if src = 0 then s.rd (.cfg .widthPin) else 0)
  s.wr (.cfg .rdy) 0 0 (1 - src)

/-- The refusal code of a full load's start (R365); 0 where it is accepted. -/
def State.startCode (s : State) : Nat :=
  if s.tickLive then 1 else if s.loading then 2 else if !s.loadsPermitted then 4 else 0

/-- A full load starts (R382), or its start is refused, with the code. -/
def State.startFull (s : State) : Nat × State :=
  let c := s.startCode
  let s := s.wr (.cfg .STAT_REFUSE) 0 0 c
  if c ≠ 0 then (c, s) else (0, s.clearImage.beginLoad 1)

/-- CFG_START (R365): START is written to CFG_CMD.OP: a full load from CFG_CTRL.SRC starts, or is refused. -/
def execCfgStart (s : State) : Answer := actFw true s s.startFull.2

/-- A falling edge of CFG_CS_N with the slave port open (R365, R366, R368): it starts a full load where SRC is 0 and AUTO
is 1 and no load from the port is paused; a refused start holds CFG_ERR_N low. -/
def State.csFalls (s : State) : State :=
  if s.loading && s.has (.cfg .STAT_SRC) 0 0 0 then s
  else if s.has (.cfg .CTRL_SRC) 0 0 0 && s.has (.cfg .CTRL_AUTO) 0 0 1 then
    let (c, s) := s.startFull
    if c = 0 then s else s.wr (.cfg .errRefuse) 0 0 1
  else s

/-- SLAVE_PORT_START (R369, R365): CFG_CS_N falls with CFG_WIDTH at `wide`; with AUTO set a full load starts. Before the
port opens the edge is only remembered (R552). -/
def execSlavePortStart (wide : Bool) (s : State) : Answer :=
  act true s
    (let low := s.has (.cfg .csLow) 0 0 1
     let s := (s.wr (.cfg .csLow) 0 0 1).wr (.cfg .widthPin) 0 0 (b2n wide)
     if s.booted && !low then s.csFalls else s)

/-- CFG_CS_N_RISE (R365, R368): CFG_CS_N rises: CFG_ERR_N is released after a refused start, and data are no longer
ignored. -/
def execCfgCsNRise (s : State) : Answer :=
  act true s (((s.wr (.cfg .csLow) 0 0 0).wr (.cfg .errRefuse) 0 0 0).wr (.cfg .ignoring) 0 0 0)

/-- CFG_ABORT (R370): ABORT fails the load in progress with ABORT, or is refused with code 2. -/
def execCfgAbort (s : State) : Answer :=
  actFw true s
    (if s.loading then (s.failLoad 0x50).wr (.cfg .STAT_REFUSE) 0 0 0 else s.wr (.cfg .STAT_REFUSE) 0 0 2)

/-- CFG_CLEAR (R388): CLEAR clears the active image and leaves STATUS, or is refused. -/
def execCfgClear (s : State) : Answer :=
  actFw true s
    (let c := if s.tickLive then 1 else if s.loading then 2 else 0
     let s := s.wr (.cfg .STAT_REFUSE) 0 0 c
     if c = 0 then s.clearImage else s)

/-- LOAD_TIMEOUT (R370): no byte has arrived for TMO, so the load that waits for bytes fails with TIMEOUT. -/
def execLoadTimeout (s : State) : Answer :=
  actCore true s
    (let st := s.rd (.cfg .STAT_STATE)
     if s.loading && decide (1 ≤ st) && decide (st ≤ 3) then s.failLoad 0x51 else s)

/-! ### The stream -/

/-- Bytes of the stream that the loader has taken. -/
def State.consumed (s : State) : Nat := s.rd (.cfg .PROGRESS_BYTES) - s.stream.length

/-- The next `k` bytes of the stream. From the slave port they are the command's; from the object dictionary they are
those appended before, and the command gives the plaintext where the section is encrypted (R381). None where they have
not all arrived. -/
def State.takeBytes (s : State) (given : List Nat) (k : Nat) (cipher : Bool) : Option (List Nat × State) :=
  let own := s.has (.cfg .STAT_SRC) 0 0 0 || cipher
  let l := if own then given else s.stream.take k
  if l.length ≠ k ∨ (s.has (.cfg .STAT_SRC) 0 0 1 ∧ s.stream.length < k) then none
  else
    let t : State := { s with stream := s.stream.drop k, imageBytes := s.imageBytes ++ l }
    some (l, if s.has (.cfg .STAT_SRC) 0 0 0 then t.wr (.cfg .PROGRESS_BYTES) 0 0 (s.rd (.cfg .PROGRESS_BYTES) + k) else t)

/-- Bytes appended to the stream by a write to 0x2200:08 (R370): the SDO abort code, 0 where they are taken. -/
def State.imageData (s : State) (bytes : List Nat) : Nat × State :=
  let st := s.rd (.cfg .STAT_STATE)
  let had := s.rd (.cfg .PROGRESS_BYTES)
  if !s.loading || s.has (.cfg .STAT_SRC) 0 0 0 || decide (st = 0) || decide (3 < st) then (0x08000020, s)
  else if s.rd (.cfg .ldLength) ≠ 0 ∧ s.rd (.cfg .ldLength) < had + bytes.length then (0x08000020, s)
  else (0, { s.wr (.cfg .PROGRESS_BYTES) 0 0 (had + bytes.length) with stream := s.stream ++ bytes })

/-- Operands that are bytes. -/
def areBytes (l : List Nat) : Bool := l.all fun b => decide (b < 256)

/-- IMAGE_DATA_WRITE (R370): a write to 0x2200:08 appends `bytes` to the load stream, or is aborted. -/
def execImageDataWrite (bytes : List Nat) (s : State) : Answer :=
  actFw (areBytes bytes) s
    (let (c, s) := s.imageData bytes
     s.emit .sdoAnswer 0 [0x2200, 8, c])

/-! ### Header and placement table -/

/-- A field of the header, most significant byte first. -/
def hfield (h : List Nat) (i k : Nat) : Nat := fromBe ((h.drop i).take k)

/-- Whether bytes `i` to `i + k - 1` are 0. -/
def hzero (h : List Nat) (i k : Nat) : Bool := hfield h i k == 0

/-- The rows MAGIC and HCRC of R373 on a header; `kind` is that of the load in progress. -/
def headerForm (h : List Nat) (kind : Nat) : Nat :=
  let k := hfield h 5 1
  let m := hfield h 6 1
  let places := hfield h 7 1
  let flags := hfield h 9 1
  let pmin := hfield h 24 4
  let gmin := hfield h 28 2
  let len := hfield h 40 8
  let niche := hfield h 10 1
  let ok :=
    hfield h 0 4 == 0x4C4D5354 && hfield h 4 1 == 1 && (k == 1 || (k == 2 && kind != 1)) && decide (1 ≤ m) && decide (m ≤ 8) &&
      decide (1 ≤ places) && decide (places ≤ (if k = 2 then 1 else 16)) && (hfield h 8 1 == 1 || hfield h 8 1 == 2) &&
      decide (flags < 32) && (if k = 2 then decide (niche / 16 < m) && decide (niche % 16 < 12) else niche == 0) &&
      decide (2000 ≤ pmin) && decide (pmin ≤ 65535000) && decide (400 ≤ gmin) && decide (gmin + 1000 ≤ pmin) &&
      hzero h 30 2 && hzero h 61 3 && hzero h 72 52 && (flags.testBit 3 || (hzero h 48 12 && hzero h 60 1)) &&
      (k == 2 || hzero h 64 8) && !(flags.testBit 2 && hfield h 8 1 == 1) && len % 4 == 0 &&
      decide (128 + 8 * places + 4 + 5192 ≤ len)
  if !ok then 0x10 else if hfield h 124 4 != crc32c (h.take 124) then 0x11 else 0

/-- The header's fields enter the load. -/
def State.takeHeader (s : State) (h : List Nat) : State :=
  each
    [(CfgF.ldM, 6, 1), (.ldPlaces, 7, 1), (.ldLevel, 8, 1), (.ldFlags, 9, 1), (.ldKeyslot, 11, 1), (.ldDekslot, 60, 1),
      (.ldId, 12, 8), (.ldBase, 64, 8), (.ldSvn, 20, 4), (.ldPmin, 24, 4), (.ldGmin, 28, 2), (.ldFrames, 32, 8),
      (.ldLength, 40, 8)]
    (fun x s => s.wr (.cfg x.1) 0 0 (hfield h x.2.1 x.2.2)) s

/-- The NICHE row of R403 on a partial load's header: KIND 2, and the niche of the logical die that the active placement
maps to the die. -/
def State.headerNiche (s : State) (h : List Nat) : Bool :=
  hfield h 5 1 == 2 && hfield h 10 1 % 16 == s.rd (.cfg .loadNiche) &&
    hfield h 10 1 / 16 == s.rd (.cfg .DIE_LOGICAL) (1 + s.rd (.cfg .loadDie))

/-- The header is checked (R373, R403). -/
def State.checkHeader (s : State) (h : List Nat) : State :=
  let kind := s.rd (.cfg .loadKind)
  let c := headerForm h kind
  if c ≠ 0 then s.failLoad c
  else
    let t := (s.takeHeader h).noteLevel
    let c := if hfield h 5 1 = 1 ∧ kind = 2 ∧ t.headerStatus = 0x19 then 0 else t.headerStatus
    if c ≠ 0 then t.failLoad c else if kind = 2 ∧ !t.headerNiche h then t.failLoad 0x24 else t

/-- LOAD_HEADER (R373, R403): the last of the 128 header bytes arrives, and the header is checked. -/
def execLoadHeader (bytes : List Nat) (s : State) : Answer :=
  actCore (areBytes bytes) s
    (if s.has (.cfg .STAT_STATE) 0 0 1 && s.has (.cfg .ldM) 0 0 0 then
       match s.takeBytes bytes 128 false with
       | none => s
       | some (h, s) => s.checkHeader h
     else s)

/-- An entry of a placement table for `m` logical dies that no check of its own refuses (R374). -/
def entryOk (e : List Nat) (m : Nat) : Bool :=
  let v := fromBe (e.take 4)
  let dies := (List.range m).map fun l => slice v (4 * l) 4
  fromBe ((e.drop 4).take 4) == 0 && (dies.all fun d => decide (d < 8)) && dies.Nodup &&
    (List.range (8 - m)).all fun i => slice v (4 * (m + i)) 4 == 15

/-- The placement table is checked (R374, R403). -/
def State.checkTable (s : State) (t : List Nat) : State :=
  let m := s.rd (.cfg .ldM)
  let k := s.rd (.cfg .ldPlaces)
  let p := s.rd (.cfg .CTRL_PLACE)
  let entries := (List.range k).map fun i => (t.drop (8 * i)).take 8
  let place := fromBe ((t.drop (8 * p)).take 4)
  let named := s.wr (.cfg .ldPlace) 0 0 place
  if fromBe ((t.drop (8 * k)).take 4) ≠ crc32c (t.take (8 * k)) then s.failLoad 0x11
  else if k ≤ p then s.failLoad 0x18
  else if !(entries.all fun e => entryOk e m) || !named.placementOk then s.failLoad 0x12
  else if s.rd (.cfg .loadKind) = 2 ∧ place ≠ s.rd (.cfg .actPlace) then s.failLoad 0x12
  else
    let s := (named.wr (.cfg .ldTable) 0 0 1).wr (.cfg .STAT_STATE) 0 0 (if s.rd (.cfg .ldFrames) = 0 then 3 else 2)
    if s.rd (.cfg .loadKind) = 1 then
      each s.placeDies
        (fun d s => each (List.range 12) (fun x s => s.wr (.nch .STAT_STATE) (1 + d) x 1) (s.setFab d 1)) s
    else s

/-- PLACEMENT_TABLE (R374, R403): the CRC of the placement table arrives, and the table is checked. -/
def execPlacementTable (bytes : List Nat) (s : State) : Answer :=
  actCore (areBytes bytes) s
    (if s.has (.cfg .STAT_STATE) 0 0 1 && !s.has (.cfg .ldM) 0 0 0 then
       match s.takeBytes bytes (8 * s.rd (.cfg .ldPlaces) + 4) false with
       | none => s
       | some (t, s) => s.checkTable t
     else s)

/-! ### Frames and trailer -/

/-- CFG_ERRFRAME records the frame (R378, R391). -/
def State.recordFrame (s : State) (f : FrameRec) : State :=
  ((s.wr (.cfg .ERRFRAME_INDEX) 0 0 (s.rd (.cfg .ldSeen))).wr (.cfg .ERRFRAME_FTYPE) 0 0 f.ftype).wr (.cfg .ERRFRAME_UNIT) 0 0
    f.unit

/-- A whole frame record has arrived. -/
def State.nextRecord (s : State) (bytes : List Nat) : State :=
  let f := frameOf bytes
  let (c, s) := s.frameArrives f
  if c ≠ 0 then (s.recordFrame f).failLoad c
  else
    let seen := s.rd (.cfg .ldSeen) + 1
    let s := s.wr (.cfg .ldSeen) 0 0 seen
    if seen = s.rd (.cfg .ldFrames) then s.wr (.cfg .STAT_STATE) 0 0 3 else s

/-- The bytes that the next record takes: 16, and six for each body word that its header names. -/
def recordSize (head : List Nat) : Nat := 16 + 6 * fromBe ((head.drop 8).take 4)

/-- FRAME_RECORD (R378, R375, R379, R403): a frame record arrives, is checked, and is committed, staged or skipped. A
record beyond FRAMES, or past the trailer's first byte, fails the load with LENGTH (R380). -/
def execFrameRecord (bytes : List Nat) (s : State) : Answer :=
  actCore (areBytes bytes && decide (16 ≤ bytes.length)) s
    (let st := s.rd (.cfg .STAT_STATE)
     let head := if s.has (.cfg .STAT_SRC) 0 0 1 && !(s.rd (.cfg .ldFlags)).testBit 3 then s.stream else bytes
     let size := recordSize head
     if s.has (.cfg .ldTable) 0 0 0 || (st != 2 && st != 3) || decide (head.length < 16) then s
     else if st = 3 ∨ s.rd (.cfg .ldLength) < s.consumed + size + 5192 then s.failLoad 0x27
     else
       match s.takeBytes bytes size ((s.rd (.cfg .ldFlags)).testBit 3) with
       | none => s
       | some (l, s) => s.nextRecord l)

/-- The dies, or the niche, of the load in progress are VERIFYING (R382, R404). -/
def State.verifying (s : State) : State :=
  let s := (s.wr (.cfg .STAT_STATE) 0 0 4).wr (.cfg .rdy) 0 0 0
  if s.has (.cfg .loadKind) 0 0 1 then
    each s.placeDies (fun d s => each (List.range 12) (fun x s => s.wr (.nch .STAT_STATE) (1 + d) x 2) (s.setFab d 2)) s
  else s.wr (.nch .STAT_STATE) (1 + s.rd (.cfg .loadDie)) (s.rd (.cfg .loadNiche)) 2

/-- The verdicts on the tag and the signatures (R381, R384). -/
def State.verify (s : State) (tagOk ecdsaOk hssOk : Bool) (vcco : List Nat) : State :=
  let tag := tagOk || !(s.rd (.cfg .ldFlags)).testBit 3
  let s := s.wr (.cfg .STAT_TAG_OK) 0 0 (b2n tag)
  if !tag then s.failLoad 0x30
  else
    let s := (s.wr (.cfg .STAT_ECDSA_OK) 0 0 (b2n ecdsaOk)).wr (.cfg .STAT_HSS_OK) 0 0 (b2n hssOk)
    if !(ecdsaOk && hssOk) then s.failLoad 0x31 else s.activateLoad vcco

/-- The digest D (R380): SHA-384 of the image as it was taken, up to TMAGIC, which 5,188 bytes follow. -/
def State.imageDigest (s : State) : Nat := sha384 (s.imageBytes.take (s.imageBytes.length - 5188))

/-- The padding and the trailer of an image. -/
def State.takeTrailer (s : State) (l : List Nat) (tagOk ecdsaOk hssOk : Bool) (vcco : List Nat) : State :=
  let pad := l.length - 5192
  if s.rd (.cfg .ldSeen) ≠ s.rd (.cfg .ldFrames) ∨ 3 < pad ∨ fromBe (l.take pad) ≠ 0 ∨
      fromBe ((l.drop pad).take 4) ≠ 0x4C454E44 then s.failLoad 0x27
  else (s.verifying.wr (.cfg .ldDigest) 0 0 s.imageDigest).verify tagOk ecdsaOk hssOk vcco

/-- LOAD_TRAILER (R380, R384, R385, R404): at time `t`, E, the last trailer byte arrives; `bytes` are the padding and the trailer, and
`tagOk`, `ecdsaOk` and `hssOk` are what the security processor finds of the tag and the two signatures. `vcco` gives the
supplies that the dies measure at activation, in mV. -/
def execLoadTrailer (bytes : List Nat) (t : Nat) (tagOk ecdsaOk hssOk : Bool) (vcco : List Nat) (s : State) : Answer :=
  actCore (areBytes bytes && decide (t < 2 ^ 80) && vcco.all fun v => decide (v < 65536)) s
    (let s := s.at t
     let st := s.rd (.cfg .STAT_STATE)
     if s.has (.cfg .ldTable) 0 0 0 || (st != 2 && st != 3) then s
     else
       match s.takeBytes bytes (s.rd (.cfg .ldLength) - s.consumed) ((s.rd (.cfg .ldFlags)).testBit 3) with
       | none => s
       | some (l, s) => s.takeTrailer l tagOk ecdsaOk hssOk vcco)

/-- ACTIVATION_DRAM_WAIT_END (R553): every subchannel is READY or FAILED: a waiting activation repeats step 3 and goes
on. -/
def execActivationDramWaitEnd (vcco : List Nat) (s : State) : Answer :=
  actCore (vcco.all fun v => decide (v < 65536)) s
    (if s.has (.cfg .waits) 0 0 1 && !s.anySub [1, 2] then (s.wr (.cfg .waits) 0 0 0).activateLoad vcco else s)

/-! ### Niche commands -/

/-- A niche number. -/
def okNiche (x : Nat) : Bool := decide (x < 12)

/-- The refusal code of a niche command (R402); 0 where it is accepted. -/
def State.nicheCode (s : State) (d x : Nat) (load : Bool) : Nat :=
  let st := s.tick
  if st = 5 ∨ ((st = 1 ∨ st = 2) ∧ (x = 8 ∨ s.has (.nch .STAT_LIVE) (1 + d) x 0)) then 1
  else if s.loading then 2
  else if !s.imageActive || s.rd (.fab .STATE_STATE) (1 + d) != 3 then 3
  else if !s.loadsPermitted then 4
  else if load ∧ s.rd (.cfg .CTRL_SRC) = 0 ∧ s.rd (.cfg .CTRL_AUTO) = 1 then 5
  else 0

/-- NCH_CTRL(x).CMD = LOAD: steps 1 to 4 of R404, or the refusal. -/
def State.nicheLoad (s : State) (d x : Nat) : State :=
  let c := s.nicheCode d x true
  let s := s.wr (.nch .STAT_REFUSE) (1 + d) x c
  if c ≠ 0 then s
  else
    let live := decide (s.tick = 1) || decide (s.tick = 2)
    let s := ((s.clearNiche d x).beginLoad 2).wr (.nch .STAT_STATE) (1 + d) x 1
    let s := (s.wr (.cfg .loadDie) 0 0 d).wr (.cfg .loadNiche) 0 0 x
    s.wr (.cfg .liveStart) 0 0 (b2n live)

/-- NCH_CTRL(x).CMD = CLEAR: the niche is EMPTY, or the refusal. -/
def State.nicheClear (s : State) (d x : Nat) : State :=
  let c := s.nicheCode d x false
  let s := s.wr (.nch .STAT_REFUSE) (1 + d) x c
  if c ≠ 0 then s else (s.clearNiche d x).wr (.nch .STAT_STATE) (1 + d) x 0

/-- NICHE_LOAD (R404, R402): LOAD for niche `x` of die `d` isolates and clears it and starts a partial load, or is
refused. -/
def execNicheLoad (d x : Nat) (s : State) : Answer := actCore (okDie d && okNiche x) s (s.nicheLoad d x)

/-- NICHE_CLEAR (R402): CLEAR empties niche `x` of die `d`, or is refused. -/
def execNicheClear (d x : Nat) (s : State) : Answer := actCore (okDie d && okNiche x) s (s.nicheClear d x)

end Sys2Proof.Machine
end

