-- ==== Sys2Proof/Machine/Scrub.lean ====
section
/-! DEFINITION. The scrubber of a die (R408 to R418). -/

namespace Sys2Proof.Machine

/-- The number of words of a configuration plane (R409). -/
def planeWords : Nat := 9835576

/-- The number of indices in the bank scrubber's sequence (R411). -/
def bankReads : Nat := 8388608

/-- The parity word of a setting (R413). -/
def settingParity (v : Nat) : Nat := slice v 0 4 ^^^ slice v 4 4 ^^^ slice v 8 4 ^^^ slice v 12 4

/-- A setting of die `d`, as voted. -/
def State.scrubSet (s : State) (d : Nat) : Nat := s.rd (.scrub .SET_SET) (1 + d)

/-- Whether the scrubber of a die runs. -/
def State.scrubRuns (s : State) (d : Nat) : Bool := s.has (.scrub .STAT_STATE) (1 + d) 0 1

/-- SCRUB_STAT, SCRUB_CNT and SCRUB_ERRLOG, bits [31:0] (R476). -/
def State.scrubStat (s : State) (d : Nat) : Nat :=
  (s.rd (.scrub .STAT_STATE) (1 + d) + s.rd (.scrub .STAT_SETERR) (1 + d) * 4 + s.rd (.scrub .STAT_RELOADS) (1 + d) * 8 +
    s.rd (.scrub .STAT_CFG_PASSES) (1 + d) * 2048 + s.rd (.scrub .STAT_BANK_PASSES) (1 + d) * 2 ^ 27) % 2 ^ 32
def State.scrubCnt (s : State) (d : Nat) : Nat :=
  s.rd (.scrub .CNT_CFG_CE) (1 + d) + s.rd (.scrub .CNT_CFG_UE) (1 + d) * 65536
def State.scrubErrlog (s : State) (d : Nat) : Nat :=
  (s.rd (.scrub .ERRLOG_VALID) (1 + d) + s.rd (.scrub .ERRLOG_WORD) (1 + d) * 2 + s.rd (.scrub .ERRLOG_NICHE) (1 + d) * 2 ^ 25 +
    s.rd (.scrub .ERRLOG_TICK) (1 + d) * 2 ^ 29) % 2 ^ 32

/-! ### Configuration scrubber -/

/-- The first word of the next run of words that may belong to another niche. -/
def nextRun (k : Nat) : Nat :=
  if k < 9830400 then
    let x := k / 200 % 256
    let y := k / 200 / 256
    200 * (256 * y + (if x < 62 then 62 else if x < 126 then 126 else if x < 190 then 190 else 256))
  else k + 1

/-- Whether the scrubber reads word `k`: a word of a niche that is ACTIVE, or of the DIE frame. -/
def State.scrubReads (s : State) (d k : Nat) : Bool :=
  nicheOfWord k == 15 || s.has (.nch .STAT_STATE) (1 + d) (nicheOfWord k) 3

/-- The next word to read from `k` upward; none where the plane ends first. -/
def State.nextWord (s : State) (d : Nat) : Nat → Nat → Option Nat
  | 0, _ => none
  | fuel + 1, k => if planeWords ≤ k then none else if s.scrubReads d k then some k else s.nextWord d fuel (nextRun k)

/-- A configuration pass ends (R410, R413, R417). -/
def State.passEnds (s : State) (d : Nat) : State :=
  let u := 1 + d
  let s := (s.inc (.scrub .STAT_CFG_PASSES) u 0).wr (.scrub .CNT_PASS_CE) u 0 (s.rd (.scrub .passCe) u)
  let s := ((s.wr (.scrub .passCe) u 0 0).wr (.scrub .warned) u 0 0).wr (.scrub .POS_CFG) u 0 0
  if (s.scrubSet d).testBit 13 then s.sendEmcy 0x6320 (0x10 + d) 0 else s

/-- A correctable word (R410, R413): the niche counts it, and the warning of the pass is raised at 4^CE_WARN. -/
def State.countCorrection (s : State) (d x : Nat) : State :=
  let u := 1 + d
  let s := s.inc (.scrub .CNT_CFG_CE) u 0
  let s := if x < 12 then s.inc (.nch .STAT_CE) u x else s
  let s := s.inc (.scrub .passCe) u 0
  let w := slice (s.scrubSet d) 9 3
  if w ≠ 7 ∧ 4 ^ w ≤ s.rd (.scrub .passCe) u ∧ s.rd (.scrub .warned) u = 0 then
    (s.wr (.scrub .warned) u 0 1).raiseEvent 0x6310 (0x10 + d) (s.scrubCnt d)
  else s

/-- An uncorrectable word `k` (R410, R417). -/
def State.noteBadWord (s : State) (d k x : Nat) : State :=
  let u := 1 + d
  let s := s.inc (.scrub .CNT_CFG_UE) u 0
  let s := if x < 12 then s.wr (.nch .STAT_UE) u x 1 else s
  if s.has (.scrub .ERRLOG_VALID) u 0 1 then s
  else
    let s := (s.wr (.scrub .ERRLOG_VALID) u 0 1).wr (.scrub .ERRLOG_WORD) u 0 k
    let s := (s.wr (.scrub .ERRLOG_NICHE) u 0 x).wr (.scrub .ERRLOG_TICK) u 0 s.tickTag
    s.raiseEvent 0x5010 (0x40 + d) (s.scrubErrlog d)

/-- Word `k` is read: `upset` is what upsets have flipped in its stored bits since it was written (R409, R410). -/
def State.readWord (s : State) (d k upset : Nat) : State :=
  let stored := s.planeAt d k ^^^ upset % 2 ^ 55
  let s := s.setPlane d k stored
  let r := readRow (stored + 7 * 2 ^ 55)
  let x := nicheOfWord k
  if r.poison then (s.noteBadWord d k x).consumePoison (1 + d)
  else if r.corr then
    let s := (s.setPlane d k (planeStored r.data)).countCorrection d x
    if (s.scrubSet d).testBit 12 then s.consumePoison (1 + d) else s
  else s

/-- CONFIG_SCRUB_READ (R410, R409, R412): the configuration scrubber of die `d` reads the next plane word, whose stored
bits upsets have flipped as `upset` says, and corrects or reports it. -/
def execConfigScrubRead (d upset : Nat) (s : State) : Answer :=
  actCore (okDie d && decide (upset < 2 ^ 55)) s
    (let u := 1 + d
     if !s.scrubRuns d || !(s.scrubSet d).testBit 0 then s
     else
       match s.nextWord d 8192 (s.rd (.scrub .POS_CFG) u) with
       | none => s.passEnds d
       | some k =>
         let s := (s.readWord d k upset).wr (.scrub .POS_CFG) u 0 (k + 1)
         if k + 1 = planeWords then s.passEnds d else s)

/-! ### Bank scrubber -/

/-- Whether the bank scrubber reads bank `b`: ON and USED, and not in a niche that a partial load changes (R411, R412). -/
def State.scrubsBank (s : State) (d b : Nat) : Bool :=
  s.bankOn d b && s.has (.nch .STAT_STATE) (1 + d) (nicheOfBank b) 3

/-- The next index of the sequence to read from `i` upward, at most `fuel` indices on; none where the sequence ends. -/
def State.nextIndex (s : State) (d : Nat) : Nat → Nat → Option Nat
  | 0, _ => none
  | fuel + 1, i => if bankReads ≤ i then none else if s.scrubsBank d (i % 512) then some i else s.nextIndex d fuel (i + 1)

/-- A bank pass ends (R411, R413). -/
def State.bankPassEnds (s : State) (d : Nat) : State :=
  let s := (s.inc (.scrub .STAT_BANK_PASSES) (1 + d) 0).wr (.scrub .POS_BANK) (1 + d) 0 0
  if (s.scrubSet d).testBit 13 then s.sendEmcy 0x6320 (0x10 + d) 1 else s

/-- BANK_SCRUB_READ (R411): the bank scrubber of die `d` issues its next bank row read, which waits for its bank's network
slot; at most 16 are outstanding. -/
def execBankScrubRead (d : Nat) (s : State) : Answer :=
  actCore (okDie d) s
    (let u := 1 + d
     let out := (s.scrubWaits.filter fun k => k / (512 * 16384) == d).length
     if !s.scrubRuns d || !(s.scrubSet d).testBit 1 || decide (16 ≤ out) then s
     else
       match s.nextIndex d 513 (s.rd (.scrub .POS_BANK) u) with
       | none => if (List.range 512).any fun b => s.scrubsBank d b then s.bankPassEnds d else s
       | some i =>
         let s : State := { s with scrubWaits := s.scrubWaits ++ [rowKey d (i % 512) (i / 512)] }
         let s := s.wr (.scrub .POS_BANK) u 0 (i + 1)
         if i + 1 = bankReads then s.bankPassEnds d else s)

/-! ### Settings -/

/-- The firmware writes SET and PAR (R414), and both parts go on from position 0. -/
def State.loadSettings (s : State) (d : Nat) : State :=
  let u := 1 + d
  let v := s.rd (.scrub .settings) u
  (s.wr (.scrub .SET_SET) u 0 v).wr (.scrub .SET_PAR) u 0 (settingParity v)

/-- The scrubber goes on from position 0 (R415 step 4). -/
def State.scrubResumes (s : State) (d : Nat) : State :=
  let s := each [ScrubF.POS_CFG, .POS_BANK, .passCe, .warned] (fun f s => s.wr (.scrub f) (1 + d) 0 0) s
  s.wr (.scrub .STAT_STATE) (1 + d) 0 1

/-- Whether one more reload would be the fourth within 1 s (R415). -/
def State.reloadsSpent (s : State) (d : Nat) : Bool :=
  s.has (.scrub .reloadHas) (1 + d) 2 1 && decide (s.time < s.rd (.scrub .reloadAt) (1 + d) 2 + nsec 1000000000)

/-- A reload is noted with its time. -/
def State.noteReload (s : State) (d : Nat) : State :=
  let u := 1 + d
  let s := each [(2, 1), (1, 0)]
    (fun x s =>
      (s.wr (.scrub .reloadAt) u x.1 (s.rd (.scrub .reloadAt) u x.2)).wr (.scrub .reloadHas) u x.1 (s.rd (.scrub .reloadHas) u x.2)) s
  (s.wr (.scrub .reloadAt) u 0 s.time).wr (.scrub .reloadHas) u 0 1

/-- SCRUB_PARITY_MISMATCH (R415): at time `t` the voted PAR of die `d` differs from the parity of the voted SET: the
scrubber stops, reloads its settings and goes on, or is HELD. -/
def execScrubParityMismatch (d t : Nat) (s : State) : Answer :=
  actCore (okDie d && decide (t < 2 ^ 80)) s
    (let u := 1 + d
     let s := s.at t
     let st := s.rd (.scrub .STAT_STATE) u
     if st ≠ 1 then s
     else
       let s := s.wr (.scrub .STAT_SETERR) u 0 1
       if s.reloadsSpent d then
         let s := s.wr (.scrub .STAT_STATE) u 0 3
         s.raiseCond 0x6300 (0x10 + d) (s.scrubStat d)
       else
         let s := ((s.loadSettings d).noteReload d).inc (.scrub .STAT_RELOADS) u 0
         let s := s.scrubResumes d
         s.raiseEvent 0x6300 (0x10 + d) (s.scrubStat d))

/-- A write to object 0x2720 + d:01 (R414, R418): the SDO abort code, 0 where it is taken; a HELD scrubber goes on. -/
def State.scrubSettings (s : State) (d v : Nat) : Nat × State :=
  if s.isolated d then (0x08000022, s)
  else if slice v 14 2 ≠ 0 then (0x08000020, s)
  else
    let s := (s.wr (.scrub .settings) (1 + d) 0 v).loadSettings d
    (0, if s.has (.scrub .STAT_STATE) (1 + d) 0 3 then (s.scrubResumes d).endCond 0x6300 (0x10 + d) else s)

/-- SCRUB_SETTINGS_WRITE (R414, R415, R418): `v` is written to 0x2720 + d:01. -/
def execScrubSettingsWrite (d v : Nat) (s : State) : Answer :=
  actFw (okDie d && decide (v < 65536)) s
    (let (c, s) := s.scrubSettings d v
     s.emit .sdoAnswer 0 [0x2720 + d, 1, c])

/-- A write of 1 to SCRUB_CNT_CLR (R417). -/
def State.clearScrubCounts (s : State) (d : Nat) : State :=
  let s := each [ScrubF.CNT_CFG_CE, .CNT_CFG_UE, .CNT_PASS_CE] (fun f s => s.wr (.scrub f) (1 + d) 0 0) s
  each (List.range 12) (fun x s => s.wr (.nch .STAT_CE) (1 + d) x 0) s

/-- SCRUB_CNT_CLR (R417): writing 1 clears SCRUB_CNT and the CE counts of the niches of die `d`. -/
def execScrubCntClr (d v : Nat) (s : State) : Answer :=
  actCore (okDie d) s (if v % 2 = 1 then s.clearScrubCounts d else s)

end Sys2Proof.Machine
end

