-- ==== Sys2Proof/Machine/Links.lean ====
section
/-! DEFINITION. The Seif link layer (R198 to R203): wires, blocks, credits and replay. -/

namespace Sys2Proof.Machine

/-! ### Links and sides -/

/-- The number of links: spokes 0 to n - 1, then ring links (R15). -/
def linkCount : Nat := 2 * Config.n

/-- The initiator side of a link, as (unit, link number of R233). -/
def initiator (lk : Nat) : Nat × Nat := if lk < Config.n then (0, lk) else (1 + (lk - Config.n), 0)

/-- The responder side of a link. -/
def responder (lk : Nat) : Nat × Nat :=
  if lk < Config.n then (1 + lk, 2) else (1 + (lk - Config.n + 1) % Config.n, 1)

/-- The two sides of a link. -/
def sidesOf (lk : Nat) : List (Nat × Nat) := [initiator lk, responder lk]

/-- The link that a side belongs to. -/
def linkOf (u l : Nat) : Nat :=
  if u = 0 then l else if l = 2 then u - 1 else if l = 0 then Config.n + (u - 1) else Config.n + (u + Config.n - 2) % Config.n

/-- A side of a link: a spoke endpoint of the Plinth, or one of a die's three links. -/
def okSide (u l : Nat) : Bool := if u = 0 then decide (l < Config.n) else decide (u ≤ Config.n) && decide (l < 3)

/-- The die behind a link (R206). -/
def dieBehind (lk : Nat) : Nat := (responder lk).1 - 1

/-- The dies at the ends of a link. -/
def endDies (lk : Nat) : List Nat := ((sidesOf lk).filter fun q => q.1 != 0).map fun q => q.1 - 1

/-- The links of a die. -/
def linksOf (d : Nat) : List Nat := [d, Config.n + d, Config.n + (d + Config.n - 1) % Config.n]

/-- A field of both sides of a link. -/
def State.both (s : State) (lk : Nat) (f : SeifF) (v : Nat) : State := each (sidesOf lk) (fun q s => s.wr (.seif f) q.1 q.2 v) s

/-- The state of a link, as its initiator side has it. -/
def State.linkState (s : State) (lk : Nat) : Nat := s.rd (.seif .STAT_STATE) (initiator lk).1 (initiator lk).2

/-- The other side of a side's link. -/
def partnerOf (u l : Nat) : Nat × Nat := if initiator (linkOf u l) = (u, l) then responder (linkOf u l) else initiator (linkOf u l)

/-! ### Flits and their virtual channels -/

/-- The slot code of a class (R201): 1 T, 2 M, 3 F. -/
def slotCode (cls : Nat) : Nat := match cls with | 0 => 1 | 1 => 3 | _ => 2

/-- The number of a pool, which CR_POOL names (R201): two virtual channels for each slot code. -/
def poolOf (code vc : Nat) : Nat := 2 * (code - 1) + vc

/-- The header word of a packet that carries virtual channel `vc` (R174). -/
def headerWord (p : Pkt) (vc : Nat) : Nat :=
  p.cls % 4 + b2n p.rsp * 4 + p.type % 16 * 2 ^ 3 + p.src % 1024 * 2 ^ 7 + p.dst % 1024 * 2 ^ 17 + p.tid % 256 * 2 ^ 27 +
    p.body.length % 64 * 2 ^ 35 + p.status % 16 * 2 ^ 41 + vc % 2 * 2 ^ 45 + p.gen % 4 * 2 ^ 46

/-- Words 0 to 3 of a head flit (R173). -/
def headWords (p : Pkt) (vc : Nat) : List Nat :=
  [p.route, headerWord p vc,
    if !p.rsp && p.type == 2 then p.mbox % 4 else p.addr % 2 ^ 40 + p.count % 128 * 2 ^ 40,
    p.seq % 65536 + p.tick % 65536 * 2 ^ 16 + p.prio % 4 * 2 ^ 32 + p.aux % 2 ^ 14 * 2 ^ 34]

/-- The 208 bits of flit `i` of a packet: four words and the sideband tag (R201). -/
def flitBits (p : Pkt) (vc i : Nat) : Nat :=
  let pack := fun (l : List Nat) (tag : Nat) =>
    (List.range 4).foldl (fun a w => a + l.getD w 0 % 2 ^ 48 * 2 ^ (48 * w)) (tag % 65536 * 2 ^ 192)
  match i with
  | 0 => pack (headWords p vc) p.htag
  | i + 1 => match p.body[i]? with | some q => pack [q.w0, q.w1, q.w2, q.w3] q.tag | none => 0

/-- Whether a packet leaves router `k` of unit `u` over link `l`, toward router `k'` of unit `u'`, and on which channel
(R163, R164). -/
def channelOver (u l : Nat) (a b : Nat × Nat) : Option Nat :=
  let (v, x) := partnerOf u l
  if a.1 ≠ u ∨ b.1 ≠ v then none
  else if u = 0 ∨ l = 2 then (if u = 0 ∨ v = 0 then some (a.2 % 4) else none)
  else if (l = 0 ∧ x = 1 ∧ a.2 % 4 = 3) ∨ (l = 1 ∧ x = 0 ∧ a.2 % 4 = 0) then some (a.2 / 4)
  else none

/-- Where a packet on the way `r` crosses from side (`u`, `l`): the channel, and the virtual channel that it has there, 1
from its first dateline on (R178); `seen` are the routers passed, the last one last. -/
def crossingOn (u l : Nat) (seen : List (Nat × Nat)) : List (Nat × Nat) → Option (Nat × Nat)
  | a :: b :: r =>
    match channelOver u l a b with
    | some c => some (c, b2n (crossesDateline (seen ++ [a, b])))
    | none => crossingOn u l (seen ++ [a]) (b :: r)
  | _ => none

/-- Where a packet crosses from side (`u`, `l`), if it does. -/
def State.crosses (s : State) (u l : Nat) (p : Pkt) : Option (Nat × Nat) := crossingOn u l [] (s.routeWay p).1

/-- The index of a pool of side (`u`, `l`) among its unit's. -/
def poolIndex (l ch pool : Nat) : Nat := 24 * l + 6 * ch + pool

/-- Whether a packet has been sent over a link only in part. -/
def Crossing.partly (x : Crossing) : Bool := decide (x.next ≤ x.pkt.body.length)

/-- Side (`u`, `l`) puts a flit into a slot (R202, R179): a packet that is in the network and crosses there on the slot's
channel, its flits in order, one packet of a class at a time, with a credit free; none where that is not so. -/
def State.putFlit (u l : Nat) (s : State) (f : LinkFlit) : Option State :=
  match s.crosses u l f.pkt with
  | none => none
  | some (ch, vc) =>
    let pool := poolIndex l ch (poolOf (slotCode f.pkt.cls) vc)
    let here := fun (x : Crossing) => x.u == u && x.l == l && x.ch == ch
    let old := s.crossing.filter here
    let begun := match old.find? fun x => x.partly && x.pkt.cls == f.pkt.cls with
      | some x => x.pkt == f.pkt && x.next == f.idx
      | none => f.idx == 0 && s.net.contains f.pkt && old.all fun x => x.pkt != f.pkt
    if f.slot / 3 ≠ ch ∨ f.pkt.body.length < f.idx ∨ 32 ≤ s.rd (.seif .credOut) u pool ∨ !begun then none
    else
      let rest := s.crossing.filter fun x => !(here x && x.pkt == f.pkt)
      some (State.inc { s with crossing := rest ++ [⟨u, l, ch, f.pkt, f.idx + 1⟩] } (.seif .credOut) u pool)

/-- The slots of a block rise, 0 to 11. -/
def slotsRise (l : List LinkFlit) : Bool :=
  (l.all fun f => decide (f.slot < 12)) && ((l.zip l.tail).all fun x => decide (x.1.slot < x.2.slot))

/-- Side (`u`, `l`) puts flits into a block; none where it cannot send them so. -/
def State.putFlits (s : State) (u l : Nat) (fs : List LinkFlit) : Option State :=
  let s : State := { s with crossing := s.crossing.filter fun x => x.partly || s.net.contains x.pkt }
  if slotsRise fs then fs.foldl (fun a f => a.bind fun s => s.putFlit u l f) (some s) else none

/-! ### Blocks -/

/-- One bit of the CRC-16 of a block: polynomial 0x1021, register shifted towards its high bit. -/
def crc16Bit (c b : Nat) : Nat :=
  if (c / 2 ^ 15 + b) % 2 = 1 then (2 * c % 65536) ^^^ 0x1021 else 2 * c % 65536

/-- The CRC of a block: over bits 0 to 47, then 64 to 2,559, ascending (R201). -/
def blockCrc (b : Nat) : Nat :=
  let c := (List.range 48).foldl (fun c i => crc16Bit c (slice b i 1)) 0xFFFF
  (List.range 2496).foldl (fun c i => crc16Bit c (slice b (64 + i) 1)) c

/-- Whether a block is sequenced: it carries a flit or credits (R202). -/
def blockSequenced (b : Nat) : Bool := slice b 0 24 != 0 || slice b 29 5 != 0

/-- The virtual channel of a flit in the slots of its sender. -/
def State.vcOver (s : State) (u l : Nat) (p : Pkt) : Nat := match s.crosses u l p with | some (_, vc) => vc | none => 0

/-- A block as R201 lays it out, with its CRC: of flits `fs` and a credit record, with SEQ, ACK and NAK. -/
def State.blockOf (s : State) (e : LinkBlock) (ack nak : Nat) : Nat :=
  let b := e.flits.foldl (fun a f =>
      a + slotCode f.pkt.cls * 2 ^ (2 * f.slot) + flitBits f.pkt (s.vcOver e.u e.l f.pkt) f.idx * 2 ^ (64 + 208 * f.slot))
    (e.crCh * 2 ^ 24 + e.crPool * 2 ^ 26 + e.crCount * 2 ^ 29 + e.seq * 2 ^ 34 + ack * 2 ^ 40 + nak * 2 ^ 46)
  b + blockCrc b * 2 ^ 48

/-- The replay buffer of side (`u`, `l`). -/
def State.unacked (s : State) (u l : Nat) : List LinkBlock := s.replay.filter fun e => e.u == u && e.l == l

/-- The pool of whose credits the most are pending at side (`u`, `l`), the lowest channel and pool where two are equal, as
(channel, pool, credits); pool 6, none, where no credit is pending (R201, R202). -/
def State.creditRecord (s : State) (u l : Nat) : Nat × Nat × Nat :=
  (List.range 24).foldl
    (fun best k =>
      let n := s.rd (.seif .credPend) u (24 * l + k)
      if best.2.2 < n then (k / 6, k % 6, n) else best)
    (0, 6, 0)

/-- Side (`u`, `l`) sends its next block (R202, R203): the first of those that wait to be resent; else a sequenced one with
the flits `fs` and a credit record, when there is something to send and at most 15 are unacknowledged; else one that is
not sequenced, with the SEQ of the next. A resent block carries the ACK and NAK of now. None where the side cannot send the
flits so. -/
def State.nextBlock (s : State) (u l : Nat) (fs : List LinkFlit) : Option (Nat × State) :=
  let ack := s.rd (.seif .expect) u l
  let nak := s.rd (.seif .nakOut) u l
  match (s.unacked u l).find? fun e => e.again with
  | some e =>
    let go := fun (x : LinkBlock) => if x = e then { x with again := false, resent := x.resent + 1 } else x
    some (s.blockOf e ack nak, (State.inc { s with replay := s.replay.map go } (.seif .ERR_REPLAY) u l).wr (.seif .nakOut) u l 0)
  | none =>
    let (ch, pool, n) := s.creditRecord u l
    let seq := s.rd (.seif .txSeq) u l
    let full := decide (16 ≤ (s.unacked u l).length)
    if full || (fs.isEmpty && n == 0) then
      some (s.blockOf ⟨u, l, seq, [], 0, 6, 0, false, 0⟩ ack nak, s.wr (.seif .nakOut) u l 0)
    else
      let count := min n 31
      let e : LinkBlock := ⟨u, l, seq, fs, ch, pool, count, false, 0⟩
      (s.putFlits u l fs).map fun t =>
        let t := if n = 0 then t else t.wr (.seif .credPend) u (poolIndex l ch pool) (n - count)
        (s.blockOf e ack nak,
          State.wr (State.wr { t with replay := t.replay ++ [e] } (.seif .txSeq) u l (seq + 1)) (.seif .nakOut) u l 0)

/-! ### Wires (R198, R200) -/

/-- The logical wires of a width code (R234). -/
def widthOf (code : Nat) : Nat := match code with | 1 => 16 | 2 => 32 | 3 => 64 | _ => 0

/-- U of the direction in which side (`u`, `l`) transmits. -/
def State.txSet (s : State) (u l : Nat) : Nat := s.rd (.seif .TXMAP_LO_MAP) u l + s.rd (.seif .TXMAP_HI_MAP) u l * 2 ^ 48

/-- The wires that carry the logical wires of that direction, in order: the lowest of U. -/
def State.txWires (s : State) (u l : Nat) : List Nat :=
  ((List.range 68).filter fun x => (s.txSet u l).testBit x).take (widthOf (s.rd (.seif .STAT_WIDTH) u l))

/-- The seed of the scrambler of a wire (R198). -/
def scramSeed (x : Nat) : Nat := 0x10000 + x

/-- The first `k` bits that a scrambler of x^23 + x^18 + 1 adds, bit 0 first, and its register after them: each bit is the sum
of those 23 and 18 before it, the register holds the last 23, the newest in bit 0. -/
def scramble (k r : Nat) : Nat × Nat :=
  (List.range k).foldl (fun a i => let b := (slice a.2 22 1 + slice a.2 17 1) % 2; (a.1 + b * 2 ^ i, (2 * a.2 + b) % 2 ^ 23)) (0, r)

/-- What wire `w` of `W` carries of a block, before scrambling: bit t in unit interval t (R200). -/
def wireBits (b W w : Nat) : Nat := (List.range (2560 / W)).foldl (fun a t => a + slice b (t * W + w) 1 * 2 ^ t) 0

/-- The bits that arrive on a wire, of those sent: the errors `flips`, as (wire, unit interval), invert some. -/
def struckWire (x v : Nat) (flips : List (Nat × Nat)) : Nat :=
  flips.foldl (fun a f => if f.1 = x then a ^^^ 2 ^ f.2 else a) v

/-- A block crosses from side (`u`, `l`) on its wires, scrambled, meets the errors `flips` there, and is descrambled: what
the partner receives. The words on the wires stand in `out`, each as wire + 128 times its bits; every other wire stands
still. -/
def State.overWires (s : State) (u l b : Nat) (flips : List (Nat × Nat)) : Nat × State :=
  let ws := s.txWires u l
  let W := ws.length
  let T := 2560 / W
  let key := fun (x : Nat) => scramble T (s.rd (.seif .scram) u (68 * l + x))
  let sent := ws.zipIdx.map fun x => (x.1, wireBits b W x.2 ^^^ (key x.1).1)
  let got := sent.zipIdx.map fun x => (x.2, struckWire x.1.1 x.1.2 flips % 2 ^ T ^^^ (key x.1.1).1)
  let b' := got.foldl (fun a x => (List.range T).foldl (fun a t => a + slice x.2 t 1 * 2 ^ (t * W + x.1)) a) 0
  let s := each ws (fun x t => t.wr (.seif .scram) u (68 * l + x) (key x).2) s
  (b', s.emit .seif (16 * u + l) (sent.map fun x => x.1 + 128 * x.2))

/-! ### The receiver (R202, R203) -/

/-- Slot `k` of an accepted block: its flit is filed in the virtual channel that its head names, or that its packet has, and
the router takes it on, so that its credit is pending. -/
def State.fileSlot (u l b : Nat) (s : State) (k : Nat) : State :=
  let code := slice b (2 * k) 2
  if code = 0 then s
  else
    let ch := k / 3
    let at' := 12 * l + 3 * ch + (code - 1)
    let prog := s.rd (.seif .rxProg) u at'
    let hdr := slice b (64 + 208 * k + 48) 48
    let vc := if 2 ≤ prog then prog % 2 else slice hdr 45 1
    let left := if 2 ≤ prog then prog / 2 - 1 else slice hdr 35 6
    (s.wr (.seif .rxProg) u at' (2 * left + vc)).inc (.seif .credPend) u (poolIndex l ch (poolOf code vc))

/-- The flits and credits of an accepted block are delivered (R203). -/
def State.acceptBlock (s : State) (u l b : Nat) : State :=
  let s := (List.range 12).foldl (State.fileSlot u l b) s
  let pool := slice b 26 3
  let i := poolIndex l (slice b 24 2) pool
  let s := if pool < 6 then s.wr (.seif .credOut) u i (s.rd (.seif .credOut) u i - slice b 29 5) else s
  s.wr (.seif .expect) u l (s.rd (.seif .expect) u l + 1)

/-- ACK of a block frees what side (`u`, `l`) has sent before it; NAK has the rest sent again (R203). -/
def State.takeAck (s : State) (u l b : Nat) : State :=
  let mine := s.unacked u l
  let ack := slice b 40 6
  let done := match mine with | [] => 0 | e :: _ => (ack + 64 - e.seq % 64) % 64
  let kept := if done ≤ mine.length then mine.drop done else mine
  let kept := if b.testBit 46 then kept.map fun e => { e with again := true } else kept
  { s with replay := (s.replay.filter fun e => !(e.u == u && e.l == l)) ++ kept }

/-- Whether a block of side (`u`, `l`) has been resent 8 times and is to be sent again, unacknowledged (R205). -/
def State.resentOut (s : State) (u l : Nat) : Bool := (s.unacked u l).any fun e => e.again && decide (8 ≤ e.resent)

/-- Side (`u`, `l`) receives a block (R203): a failed CRC is counted and answered with NAK, and what follows is discarded until
the expected block comes; the expected one is delivered. -/
def State.receiveBlock (s : State) (u l b : Nat) : State :=
  let wanted := slice b 34 6 == s.rd (.seif .expect) u l
  if blockCrc b ≠ slice b 48 16 then ((s.inc (.seif .ERR_CRC) u l).wr (.seif .nakOut) u l 1).wr (.seif .discard) u l 1
  else if !wanted && (blockSequenced b || s.has (.seif .discard) u l 1) then s
  else
    let s := s.wr (.seif .discard) u l 0
    let s := if blockSequenced b then s.acceptBlock u l b else s
    s.takeAck u l b

/-! ### Loss (R205) -/

/-- Of the packets `gone`, those in flight that cross from side (`u`, `l`) and have no flit in its replay buffer. -/
def State.lostHere (s : State) (u l : Nat) (gone : List Pkt) : List Pkt :=
  gone.filter fun p => s.net.contains p && (s.crosses u l p).isSome && (s.unacked u l).all fun e => e.flits.all fun f => f.pkt != p

/-- The flits in the buffers of a link are discarded and counted at the side that has sent them: those of its replay buffer, and
of the packets `gone`, which stand in the buffers of the receiver. A packet that has lost a flit or has crossed only in part
does not arrive. The loss is counted at both sides (R205). -/
def State.dropLink (s : State) (lk : Nat) (gone : List Pkt) : State :=
  let struck := (sidesOf lk).flatMap fun q =>
    ((s.unacked q.1 q.2).flatMap fun e => e.flits.map fun f => f.pkt) ++ s.lostHere q.1 q.2 gone ++
      ((s.crossing.filter fun x => x.partly && x.u == q.1 && x.l == q.2).map fun x => x.pkt)
  let k := fun (q : Nat × Nat) =>
    (((s.unacked q.1 q.2).map fun (e : LinkBlock) => e.flits.length) ++
      ((s.lostHere q.1 q.2 gone).map fun (p : Pkt) => 1 + p.body.length)).foldl (· + ·) 0
  let s' := each (sidesOf lk) (fun q t => (t.add (.seif .ERR_LOST) q.1 q.2 (k q)).inc (.seif .TRAIN_LOSSES) q.1 q.2) s
  { s' with net := s'.net.filter fun p => !struck.contains p }

/-- What either side of a link still holds of blocks and packets goes. -/
def State.dropReplay (s : State) (lk : Nat) : State :=
  let mine := fun (u l : Nat) => (sidesOf lk).contains (u, l)
  { s with
    replay := s.replay.filter fun e => !mine e.u e.l
    crossing := s.crossing.filter fun x => !mine x.u x.l }

/-- The link layer of both sides of a link starts anew. -/
def State.clearLink (s : State) (lk : Nat) : State :=
  let s := [SeifF.expect, .nakOut, .discard, .txSeq].foldl (fun s f => s.both lk f 0) s
  let s := each (sidesOf lk) (fun q s =>
      let s := each (List.range 12) (fun k s => s.wr (.seif .rxProg) q.1 (12 * q.2 + k) 0) s
      each (List.range 24) (fun k s => (s.wr (.seif .credOut) q.1 (24 * q.2 + k) 0).wr (.seif .credPend) q.1 (24 * q.2 + k) 0) s) s
  s.dropReplay lk

/-- Training seeds the scramblers of both directions (R198). -/
def State.seedLink (s : State) (lk : Nat) : State :=
  each (sidesOf lk) (fun q s => each (List.range 68) (fun x s => s.wr (.seif .scram) q.1 (68 * q.2 + x) (scramSeed x)) s) s

end Sys2Proof.Machine
end

