-- ==== Sys2Proof/Machine/Seif.lean ====
section
/-! DEFINITION. Dies and Seif links (R198 to R236): training, isolation and its end, steppings, power budgets. -/

namespace Sys2Proof.Machine

/-! ### The status words -/

/-- SEIF_STAT(ℓ) [31:0] (R476). -/
def State.seifStat (s : State) (u l : Nat) : Nat :=
  let r := fun (f : SeifF) => s.rd (.seif f) u l
  r .STAT_STATE + r .STAT_WIDTH * 8 + r .STAT_ROUNDS * 32 + r .STAT_ROLE * 128 + r .STAT_HOLD * 256 + r .STAT_REFUSE * 2048 +
    r .STAT_DEGRADED * 8192 + r .STAT_PEER * 16384 + r .STAT_LAST_FAIL * 2 ^ 22

/-- SEIF_COMPAT [31:0] (R476). -/
def State.seifCompat (s : State) : Nat :=
  let r := fun (f : SeifF) => s.rd (.seif f)
  (r .COMPAT_LEVEL + r .COMPAT_REASON * 16 + r .COMPAT_DIE * 256 + r .COMPAT_PLINTH * 4096 + r .COMPAT_MATRIX * 2 ^ 20) % 2 ^ 32

/-! ### What follows from the links' states -/

/-- The state of a die that is there (R234): ACTIVE with every link at full width, DEGRADED with a link held down or
degraded, PRESENT before its spoke is up. -/
def State.dieStateOf (s : State) (d : Nat) : Nat :=
  let at' := fun (lk : Nat) (f : SeifF) => s.rd (.seif f) (initiator lk).1 (initiator lk).2
  if s.linkState d ≠ 4 then 1
  else if (linksOf d).any fun lk => s.linkState lk == 5 || (s.linkState lk == 4 && at' lk .STAT_WIDTH != 3) then 3
  else if (linksOf d).all fun lk => s.linkState lk == 4 then 2
  else 1

/-- Whether the configuration is degraded (R228). -/
def State.degraded (s : State) : Bool :=
  (dies.any fun d => s.has (.seif .DIE_STATE) 0 d 4) ||
    (List.range linkCount).any fun lk =>
      s.linkState lk == 5 || (s.linkState lk == 4 && s.rd (.seif .STAT_WIDTH) (initiator lk).1 (initiator lk).2 != 3)

/-- The states of the dies and DEGRADED follow the links (R228, R234). -/
def State.settleSeif (s : State) : State :=
  let s := each dies (fun d s => if s.dieHere d then s.wr (.seif .DIE_STATE) 0 d (s.dieStateOf d) else s) s
  if s.degraded then (s.wr (.seif .COMPAT_DEGRADED) 0 0 1).raiseCond 0x7120 0 s.seifCompat
  else (s.wr (.seif .COMPAT_DEGRADED) 0 0 0).endCond 0x7120 0

/-- A link goes down, to be trained again, with empty buffers. -/
def State.linkDown (s : State) (lk : Nat) : State :=
  ((s.both lk .STAT_STATE 0).both lk .STAT_WIDTH 0).clearLink lk

/-- A link is held down with a cause (R207, R212). -/
def State.linkHeld (s : State) (lk cause : Nat) : State :=
  ((s.linkDown lk).both lk .STAT_STATE 5).both lk .STAT_HOLD cause

/-! ### The common feature level (R214 to R218) -/

/-- The matrix entry of a compute-die stepping with the Plinth's, release 0x0003 (R216); 0 outside it. -/
def matrixEntry (die plinth : Nat) : Nat :=
  match die, plinth with
  | 0x20, 0x11 | 0x20, 0x20 | 0x21, 0x11 => 1
  | 0x21, 0x20 | 0x30, 0x20 => 2
  | _, _ => 0

/-- Whether a pairing of ring neighbours lies within the matrix (R217). -/
def ringPairOk (a b : Nat) : Bool :=
  (a == 0x20 || a == 0x21 || a == 0x30) && (b == 0x20 || b == 0x21 || b == 0x30) &&
    !((a == 0x20 && b == 0x30) || (a == 0x30 && b == 0x20))

/-- The stepping of a die, as the MAP message of its spoke has given it (R214). -/
def State.stepOf (s : State) (d : Nat) : Nat := s.rd (.seif .STAT_PEER) 0 d

/-- The refusal of R218: the reason and the first die concerned; none where the level follows from the matrix. -/
def State.compatRefusal (s : State) : Option (Nat × Nat) :=
  let here := dies.filter fun d => s.dieHere d
  let step := s.stepOf
  match here.find? fun d => matrixEntry (step d) (s.rd (.seif .fuseStep) 0) == 0 with
  | some d => some (1, d)
  | none =>
    match here.find? fun d => here.contains ((d + 1) % Config.n) && !ringPairOk (step d) (step ((d + 1) % Config.n)) with
    | some d => some (2, d)
    | none => (here.find? fun d => s.has (.seif .fuseBad) (1 + d) 0 1).map fun d => (3, d)

/-- The Plinth sets the common feature level (R216 to R218); below level 2 the links at width 16 retrain (R209). -/
def State.setCompat (s : State) : State :=
  let here := dies.filter fun d => s.dieHere d
  let entry := fun (d : Nat) => matrixEntry (s.stepOf d) (s.rd (.seif .fuseStep) 0)
  let s := each here
    (fun d s =>
      ((s.wr (.seif .DIE_STEP) 0 d (s.stepOf d)).wr (.seif .DIE_LEVEL) 0 d (entry d)).wr (.seif .DIE_FUSE_BAD) 0 d
        (s.rd (.seif .fuseBad) (1 + d))) s
  let level := here.foldl (fun a d => min a (entry d)) 15
  let s := (s.wr (.seif .COMPAT_MATRIX) 0 0 3).wr (.seif .levelSet) 0 0 1
  let s :=
    match s.compatRefusal with
    | some (r, d) => ((s.wr (.seif .COMPAT_LEVEL) 0 0 0).wr (.seif .COMPAT_REASON) 0 0 r).wr (.seif .COMPAT_DIE) 0 0 d
    | none =>
      ((s.wr (.seif .COMPAT_LEVEL) 0 0 (if here.isEmpty then 0 else level)).wr (.seif .COMPAT_REASON) 0 0 0).wr (.seif .COMPAT_DIE) 0 0 0
  if s.rd (.seif .COMPAT_LEVEL) < 2 then
    each ((List.range linkCount).filter fun lk =>
        s.linkState lk == 4 && s.rd (.seif .STAT_WIDTH) (initiator lk).1 (initiator lk).2 == 1)
      (fun lk s => (s.linkDown lk).both lk .mustFull 1) s
  else s

/-- The Plinth sets the level once every spoke of a die that is there has trained, ACTIVE or held down, at start-up or after a
REJOIN (R216). -/
def State.tryCompat (s : State) : State :=
  if s.has (.seif .levelSet) 0 0 0 && (dies.filter fun d => s.dieHere d).all fun d => s.linkState d == 4 || s.linkState d == 5 then
    s.setCompat
  else s

/-- A link has trained or is given up: the firmware, where it runs, looks whether the level is to be set. -/
def State.trained (s : State) : State := if s.served && s.has (.sec .STAT_RECOVERY) 0 0 0 then s.tryCompat else s

/-! ### Isolation (R224, R225) -/

/-- What the standby rail holds for a die whose core rail is off (R550), and what fuses give it again. -/
def standbyHeld (f : Fld) : Bool :=
  match f with
  | .fab .IOPULL_UP | .nch .ISO_CODES | .scrub .settings | .mod .DPWR_TRIP | .mod .DPWR_TJ | .clk .FIOTRIM_SRC | .clk .OSC_SIO_OK
  | .clk .OSC_SIO_FAIL => true
  | .seif .fuseStep | .seif .fuseBad | .bank .STAT_FAILED | .bank .STAT_REPAIRED => true
  | _ => false

/-- The registers of a die whose core rail goes off. -/
def State.dieRailOff (s : State) (d : Nat) : State :=
  let s := (s.resetKeys fun k => decide (k.u = 1 + d) && !standbyHeld k.f).wr (.mod .dieOn) 0 d 0
  ((s.wr (.mod .GRANT_GRANT) 0 d 0).wr (.mod .sentHas) 0 d 0).wr (.mod .DRAIL_STBY) (1 + d) 0 1

/-- A REJOIN ends without success: the die is ISOLATED as before, its rail off and its links held down (R225, R227). -/
def State.endJoin (s : State) (d : Nat) : State :=
  let s := (s.wr (.seif .joining) 0 d 0).dieRailOff d
  (each (linksOf d) (fun l s => if s.linkState l = 5 then s else s.linkHeld l 3) s).settleSeif.trained

/-- A die is isolated with a cause of R224 (R225); one that rejoins is isolated again. -/
def State.isolateDie (s : State) (d cause : Nat) : State :=
  if s.has (.seif .joining) 0 d 1 then (s.wr (.seif .DIE_CAUSE) 0 d cause).endJoin d
  else if !s.dieHere d then s
  else
    let used := s.dieUsed d
    let s := s.voidTick 0x0C 0 (1 + d)
    let s := each (linksOf d) (fun lk s => if s.linkState lk = 4 then s.dropLink lk [] else s) s
    let s := s.dieLostToLoad d
    let s := if used && s.imageActive then s.clearImage else s.clearDie d
    let s := s.closeGate (1 + d) 16
    let s := s.dieRailOff d
    let s := ((s.setFab d 4).wr (.erg .DOM_STAT_STATE) (1 + d) 0 2)
    let s := each (linksOf d) (fun lk s => if s.linkState lk = 5 then s.both lk .STAT_STATE 5 else s.linkHeld lk 3) s
    let s := (s.wr (.seif .DIE_STATE) 0 d 4).wr (.seif .DIE_CAUSE) 0 d cause
    (s.raiseCond 0x7110 (0x10 + d) cause).settleSeif

/-- ISOLATE (R224, R225): the host writes ISOLATE for die `d`, in any tick state. -/
def execIsolate (d : Nat) (s : State) : Answer :=
  actFw (decide (d < 8)) s
    (if okDie d then (s.wr (.seif .DIE_REFUSE) 0 d 0).isolateDie d 4 else s.wr (.seif .DIE_REFUSE) 0 d 3)

/-- THERMAL_TRIP (R222): the hottest junction sensor of die `d` reads `tj` °C, 110 or more: the die trips and is isolated. -/
def execThermalTrip (d tj : Nat) (s : State) : Answer :=
  actCore (okDie d && decide (110 ≤ tj) && decide (tj < 128)) s
    (if !s.dieHere d && s.has (.seif .joining) 0 d 0 then s
     else ((s.wr (.mod .DPWR_TJ) (1 + d) 0 tj).wr (.mod .DPWR_TRIP) (1 + d) 0 1).isolateDie d 3)

/-- DIE_SUPPLY_FAILURE (R224): the supply of die `d` fails and cannot be recovered: the die is isolated. -/
def execDieSupplyFailure (d : Nat) (s : State) : Answer := actCore (okDie d) s (s.isolateDie d 5)

/-! ### Loss of a link (R205, R211) -/

/-- A link is lost: the flits in its buffers, with the packets `gone` among them, are discarded and counted, the tick voids, a
load that needs the die fails, and the link goes down. -/
def State.loseLink (s : State) (lk : Nat) (gone : List Pkt) : State :=
  if s.linkState lk ≠ 4 then s
  else
    let s := (s.dropLink lk gone).linkDown lk
    let s := s.voidTick 0x0C 0 (1 + dieBehind lk)
    let s := each (endDies lk) (fun d s => s.dieLostToLoad d) s
    s.settleSeif

/-- LINK_CRC_SILENCE (R205): side (`u`, `l`) has received no block with a correct CRC for 1 µs, so the link is lost with the
packets `gone` in its buffers. -/
def execLinkCrcSilence (u l : Nat) (gone : List Pkt) (s : State) : Answer := actCore (okSide u l) s (s.loseLink (linkOf u l) gone)

/-- A side of a link resets while the other stays powered (R211): an ACTIVE link is lost, and a round in progress ends. -/
def State.partialReset (s : State) (lk : Nat) (gone : List Pkt) : State :=
  if s.linkState lk = 4 then s.loseLink lk gone
  else if s.linkState lk = 5 then s
  else s.linkDown lk

/-- DIE_SUPPLY_RECOVERY (R211): the power manager of die `d` recovers its supply, and its links partially reset. -/
def execDieSupplyRecovery (d : Nat) (gone : List Pkt) (s : State) : Answer :=
  actCore (okDie d) s (if s.dieHere d then each (linksOf d) (fun lk s => s.partialReset lk gone) s else s)

/-- SEIF_BLOCK_RECEIVED (R198, R200 to R203, R205): side (`u`, `l`) receives the next block that its partner sends, with the
flits `flits` where it sends new ones, after the bit errors `flips` on the wires. A block that is to be sent again after 8 times
without an acknowledgement loses the link. Nothing happens on a link that is not ACTIVE, or where the partner cannot send
the flits so. -/
def execSeifBlockReceived (u l : Nat) (flits : List LinkFlit) (flips : List (Nat × Nat)) (s : State) : Answer :=
  let q := partnerOf u l
  actCore (okSide u l && flips.all fun x => decide (x.1 < 68) && decide (x.2 < 160)) s
    (if s.linkState (linkOf u l) ≠ 4 then s
     else
       match s.nextBlock q.1 q.2 flits with
       | none => s
       | some (b, s) =>
         let (b, s) := s.overWires q.1 q.2 b flips
         let s := s.receiveBlock u l b
         if s.resentOut u l then s.loseLink (linkOf u l) [] else s)

/-! ### Training (R207 to R213) -/

/-- Whether a stepping sets the W16 capability bit (R209). -/
def w16Capable (u step : Nat) : Bool := if u = 0 then step == 0x20 else step == 0x21 || step == 0x30

/-- A round may begin on a link: both dies powered, and not isolated for good. -/
def State.canTrain (s : State) (lk : Nat) : Bool :=
  s.linkState lk == 0 && (endDies lk).all fun d => s.dieHere d || s.has (.seif .joining) 0 d 1

/-- Whether the next round of a link is a full one (R208, R210, R211). -/
def State.fullRound (s : State) (lk : Nat) : Bool :=
  (sidesOf lk).any fun q => s.has (.seif .mustFull) q.1 q.2 1 || s.has (.seif .pHeld) q.1 q.2 0

/-- TRAINING_ROUND (R208, R209): a round begins on link `lk`, a spoke below n or a ring link above. In a full round the wires
are tested: `tx` and `rx` are what the initiator then marks good, `tx'` and `rx'` the responder. -/
def execTrainingRound (lk tx rx tx' rx' : Nat) (s : State) : Answer :=
  actCore (decide (lk < linkCount) && decide (tx < 2 ^ 68) && decide (rx < 2 ^ 68) && decide (tx' < 2 ^ 68) && decide (rx' < 2 ^ 68)) s
    (if !s.canTrain lk then s
     else
       let s := each (sidesOf lk) (fun q s => s.inc (.seif .TRAIN_ROUNDS) q.1 q.2) s
       if s.fullRound lk then
         let a := initiator lk
         let b := responder lk
         let s := (s.wr (.seif .txok) a.1 a.2 tx).wr (.seif .rxok) a.1 a.2 rx
         let s := (s.wr (.seif .txok) b.1 b.2 tx').wr (.seif .rxok) b.1 b.2 rx'
         (s.both lk .mustFull 0).both lk .STAT_STATE 1
       else s.both lk .STAT_STATE 2)

/-- MAP_MESSAGE (R207 to R209, R214): side (`u`, `l`) receives its partner's MAP message of the round, with its stepping, its W16
bit and its wires, and goes on to compare digests; the partner, which has sent it, has ended its wire test and is in MAP. -/
def execMapMessage (u l : Nat) (s : State) : Answer :=
  actCore (okSide u l) s
    (let st := s.rd (.seif .STAT_STATE) u l
     if st < 1 ∨ 3 < st then s
     else
       let p := partnerOf u l
       let step := s.rd (.seif .fuseStep) p.1
       let s := (s.wr (.seif .pTx) u l (s.rd (.seif .txok) p.1 p.2)).wr (.seif .pRx) u l (s.rd (.seif .rxok) p.1 p.2)
       let s := (s.wr (.seif .pW16) u l (b2n (w16Capable p.1 step))).wr (.seif .pHeld) u l 1
       let s := (s.wr (.seif .STAT_PEER) u l step).wr (.seif .STAT_STATE) u l 3
       let s := if u = 0 then s.wr (.seif .DIE_STEP) 0 l step else s
       if s.has (.seif .STAT_STATE) p.1 p.2 1 then s.wr (.seif .STAT_STATE) p.1 p.2 2 else s)

/-- The ones of a map of 68 wires. -/
def wireCount (m : Nat) : Nat := (List.range 68).foldl (fun a i => a + slice m i 1) 0

/-- Whether width 16 is allowed at a side (R209). -/
def State.w16Allowed (s : State) (u l : Nat) : Bool :=
  w16Capable u (s.rd (.seif .fuseStep) u) && s.has (.seif .pW16) u l 1 &&
    (s.has (.seif .levelSet) 0 0 0 || s.has (.seif .COMPAT_LEVEL) 0 0 2)

/-- U_fwd and U_rev as a side computes them (R208). -/
def State.usableSets (s : State) (lk : Nat) (q : Nat × Nat) : Nat × Nat :=
  let f := fun (g : SeifF) => s.rd (.seif g) q.1 q.2
  let out := f .txok &&& f .pRx
  let into := f .pTx &&& f .rxok
  if initiator lk = q then (out, into) else (into, out)

/-- The width code of two usable sets (R209): 0 where neither is wide enough. -/
def widthCode (w16 : Bool) (a b : Nat) : Nat :=
  let k := min (wireCount a) (wireCount b)
  if 64 ≤ k then 3 else if 32 ≤ k then 2 else if 16 ≤ k ∧ w16 then 1 else 0

/-- What a side computes: U_fwd, U_rev and the width. -/
def State.agreed (s : State) (lk : Nat) (q : Nat × Nat) : Nat × Nat × Nat :=
  let (a, b) := s.usableSets lk q
  (a, b, widthCode (s.w16Allowed q.1 q.2) a b)

/-- A round fails with a reason (R208, R210, R212). -/
def State.failRound (s : State) (lk reason : Nat) : State :=
  let rounds := s.rd (.seif .STAT_ROUNDS) (initiator lk).1 (initiator lk).2 + 1
  let s := ((s.linkDown lk).both lk .STAT_ROUNDS rounds).both lk .STAT_LAST_FAIL reason
  let s :=
    if reason = 3 then
      each [SeifF.pHeld, .pTx, .pRx, .pW16, .txok, .rxok] (fun f s => s.both lk f 0) (s.both lk .mustFull 1)
    else s
  if rounds < 3 then s
  else
    let out := (endDies lk).filter fun d => !s.dieHere d
    let d := dieBehind lk
    if out.isEmpty then ((s.linkHeld lk 1).isolateDie d (if lk < Config.n then 1 else 2)).settleSeif.trained
    else if lk < Config.n ∧ s.rd (.seif .joining) 0 d = 1 then (s.linkHeld lk 1).endJoin d
    else (s.linkHeld lk 3).settleSeif

/-- The spoke of a die that rejoins is ACTIVE: the die is UNCONFIGURED and no longer isolated (R227). -/
def State.rejoined (s : State) (d : Nat) : State :=
  let s := ((s.wr (.seif .joining) 0 d 0).wr (.seif .DIE_STATE) 0 d 1).wr (.seif .DIE_CAUSE) 0 d 0
  let s := (s.setFab d 0).wr (.erg .DOM_STAT_STATE) (1 + d) 0 0
  let s := (s.loadSettings d).wr (.erg .defRoutes) (1 + d) 0 1
  let s := (s.wr (.bank .POLICY_POISON) (1 + d) 0 (s.rd (.bank .POLICY_POISON))).endCond 0x7110 (0x10 + d)
  s.setCompat

/-- A link enters ACTIVE with U_fwd `a`, U_rev `b` and width code `w` (R208, R213, R234). -/
def State.linkUp (s : State) (lk a b w : Nat) : State :=
  let i := initiator lk
  let r := responder lk
  let maps := fun (q : Nat × Nat) (tx rx : Nat) (s : State) =>
    (((s.wr (.seif .TXMAP_LO_MAP) q.1 q.2 tx).wr (.seif .TXMAP_HI_MAP) q.1 q.2 (tx / 2 ^ 48)).wr (.seif .RXMAP_LO_MAP) q.1 q.2 rx).wr
      (.seif .RXMAP_HI_MAP) q.1 q.2 (rx / 2 ^ 48)
  let u := a + b * 2 ^ 68
  let was := s.has (.seif .lastHas) i.1 i.2 1 && s.rd (.seif .lastU) i.1 i.2 != u
  let deg := b2n (decide (w < 3) || was)
  let new := decide (deg = 1) && s.has (.seif .STAT_DEGRADED) i.1 i.2 0
  let idle := wireCount ((2 ^ 64 - 1) &&& ((2 ^ 68 - 1) ^^^ a)) + wireCount ((2 ^ 64 - 1) &&& ((2 ^ 68 - 1) ^^^ b))
  let s := maps r b a (maps i a b s)
  let s := (((s.both lk .STAT_STATE 4).both lk .STAT_WIDTH w).both lk .STAT_ROUNDS 0).seedLink lk
  let s := ((s.both lk .TRAIN_SPARES (min 7 idle)).both lk .STAT_DEGRADED deg).both lk .lastU u
  let s := s.both lk .lastHas 1
  let s := if new then s.raiseEvent 0x7100 (16 * i.1 + i.2) (s.seifStat i.1 i.2) else s
  let s := if lk < Config.n ∧ s.rd (.seif .joining) 0 lk = 1 then s.rejoined lk else s
  s.settleSeif.trained

/-- CONFIRM_COMPLETE (R208, R209, R210, R212, R213): each side of link `lk` has received enough CONFIRM blocks, computed with the
last partner MAP that it holds: with equal
digests the link enters ACTIVE, and otherwise, or with too few wires, the round fails. -/
def execConfirmComplete (lk : Nat) (s : State) : Answer :=
  actCore (decide (lk < linkCount)) s
    (let ready := (sidesOf lk).all fun q =>
       s.has (.seif .pHeld) q.1 q.2 1 && decide (1 ≤ s.rd (.seif .STAT_STATE) q.1 q.2 ∧ s.rd (.seif .STAT_STATE) q.1 q.2 ≤ 3)
     if !ready then s
     else
       let x := s.agreed lk (initiator lk)
       let y := s.agreed lk (responder lk)
       if x.2.2 = 0 ∨ y.2.2 = 0 then s.failRound lk 4
       else if x ≠ y then s.failRound lk 3
       else s.linkUp lk x.1 x.2.1 x.2.2)

/-- ROUND_TIMEOUT (R208, R212): the round on link `lk` has not reached ACTIVE within 50 µs and fails with reason 1. -/
def execRoundTimeout (lk : Nat) (s : State) : Answer :=
  actCore (decide (lk < linkCount)) s
    (if (sidesOf lk).any fun q => decide (1 ≤ s.rd (.seif .STAT_STATE) q.1 q.2) && decide (s.rd (.seif .STAT_STATE) q.1 q.2 ≤ 3) then
       s.failRound lk 1
     else s)

/-! ### Commands -/

/-- The refusal code of a command to a side (R234); 0 where it is accepted. -/
def State.sideCode (s : State) (u l cmd : Nat) : Nat :=
  if cmd = 3 then
    let hold := s.rd (.seif .STAT_HOLD) u l
    if s.rd (.seif .STAT_STATE) u l ≠ 5 ∨ hold = 3 ∨ hold = 4 then 2 else 0
  else if s.tickLive then 1
  else 0

/-- A command written to SEIF_CTRL(ℓ) (R211, R212, R234): 1 RETRAIN, 2 HOLD, 3 RELEASE. -/
def State.sideCommand (s : State) (u l cmd : Nat) : State :=
  let lk := linkOf u l
  let c := s.sideCode u l cmd
  let s := s.wr (.seif .STAT_REFUSE) u l c
  if c ≠ 0 then s
  else if cmd = 1 then (if s.linkState lk = 5 then s else ((s.linkDown lk).both lk .mustFull 1).settleSeif)
  else if cmd = 2 then (s.linkHeld lk 2).settleSeif
  else
    let s := ((s.linkDown lk).both lk .STAT_HOLD 0).both lk .STAT_ROUNDS 0
    (if (endDies lk).all fun d => s.dieHere d || s.has (.seif .joining) 0 d 1 then s else s.linkHeld lk 3).settleSeif

/-- SEIF_RETRAIN (R234, R211): RETRAIN at side (`u`, `l`) starts a full round, or is refused. -/
def execSeifRetrain (u l : Nat) (s : State) : Answer := actCore (okSide u l) s (s.sideCommand u l 1)

/-- SEIF_HOLD (R234, R207): HOLD at side (`u`, `l`) holds the link down with cause 2, or is refused. -/
def execSeifHold (u l : Nat) (s : State) : Answer := actCore (okSide u l) s (s.sideCommand u l 2)

/-- SEIF_RELEASE (R212, R234): RELEASE at side (`u`, `l`) takes the link out of HELD and resets its failed rounds, or is
refused. -/
def execSeifRelease (u l : Nat) (s : State) : Answer := actCore (okSide u l) s (s.sideCommand u l 3)

/-- The refusal code of REJOIN (R234); 0 where it is accepted. -/
def State.rejoinCode (s : State) (d : Nat) : Nat :=
  let tj := s.rd (.mod .DPWR_TJ) (1 + d)
  if !okDie d then 3
  else if s.tickLive then 1
  else if s.rd (.seif .DIE_STATE) 0 d ≠ 4 then 2
  else if 95 < tj ∧ tj < 128 then 4
  else 0

/-- REJOIN (R227): the host writes REJOIN for die `d`: the die is powered and its links train, or the command is refused. -/
def execRejoin (d : Nat) (s : State) : Answer :=
  actFw (decide (d < 8)) s
    (let c := s.rejoinCode d
     let s := s.wr (.seif .DIE_REFUSE) 0 d c
     if c ≠ 0 then s
     else
       let s := ((s.wr (.mod .dieOn) 0 d 1).wr (.mod .DRAIL_CORE) (1 + d) 0 2).enablePlls (1 + d)
       let s := (s.wr (.seif .joining) 0 d 1).wr (.seif .levelSet) 0 0 0
       each (linksOf d)
         (fun lk s =>
           if s.linkState lk = 5 ∧ s.rd (.seif .STAT_HOLD) (initiator lk).1 (initiator lk).2 ≠ 2 ∧
               (endDies lk).all (fun e => s.dieHere e || s.has (.seif .joining) 0 e 1) then
             (((s.linkDown lk).both lk .STAT_HOLD 0).both lk .STAT_ROUNDS 0).both lk .mustFull 1
           else s) s)

/-! ### Power (R220 to R223) -/

/-- The thermal cap of a junction temperature, in W (R222); `tj` is two's complement of 8 bits. -/
def thermalCap (tj : Nat) : Nat := if 128 ≤ tj ∨ tj ≤ 95 then 30 else if tj < 103 then 30 - 3 * (tj - 95) else 6

/-- Six watts, the least grant that the caps leave, in units of 10 mW. -/
def leastGrant : Nat := 600

/-- The dies that get a grant. -/
def State.grantDies (s : State) : List Nat := dies.filter fun d => s.dieHere d

/-- The grant of a die at level `l` (R221). -/
def State.grantAt (s : State) (l d : Nat) : Nat :=
  min (100 * s.rd (.mod .GRANT_CAP) 0 d) (max (s.rd (.mod .BUDGET_FLOOR)) (min (s.rd (.mod .GRANT_REQ) 0 d) l))

/-- The sum of all grants at a level. -/
def State.grantSum (s : State) (l : Nat) : Nat := (s.grantDies.map (s.grantAt l)).foldl (· + ·) 0

/-- L of R221: the largest level, up to the largest request of 30 W, at which the grants fit. -/
def State.grantLevel (s : State) : Nat :=
  (((List.range 3001).reverse.find? fun l => decide (s.grantSum l ≤ s.rd (.mod .BUDGET_A)))).getD 0

/-- A moves by 10 W with the input current limiting (R221). -/
def State.moveBudget (s : State) : State :=
  let a := s.rd (.mod .BUDGET_A)
  let a' := if s.has (.mod .STAT_LIMITING) 0 0 1 then max (Config.n * leastGrant) (a - 1000) else min 24000 (a + 1000)
  (s.wr (.mod .BUDGET_A) 0 0 a').wr (.mod .BUDGET_LIMITING) 0 0 (b2n (decide (a' < 24000)))

/-- BUDGET_PERIOD (R221, R220, R222): every 100 µs the module power manager adjusts A, works the grants out, and sends each
die its grant. -/
def execBudgetPeriod (s : State) : Answer :=
  actCore true s
    (let s := s.moveBudget
     let s := each dies (fun d s => s.wr (.mod .GRANT_CAP) 0 d (thermalCap (s.rd (.mod .DPWR_TJ) (1 + d)))) s
     let a := s.rd (.mod .BUDGET_A)
     let tight := decide (a < Config.n * s.rd (.mod .BUDGET_FLOOR))
     let l := s.grantLevel
     each s.grantDies
       (fun d s =>
         let g := if tight then min (100 * s.rd (.mod .GRANT_CAP) 0 d) (a / Config.n) else s.grantAt l d
         let s := (s.wr (.mod .GRANT_GRANT) 0 d g).wr (.mod .sentGrant) 0 d g
         (s.wr (.mod .sentSeq) 0 d (s.rd (.mod .sentSeq) 0 d + 1)).wr (.mod .sentHas) 0 d 1) s)

/-- DIE_POWER_REQUEST (R220): every 100 µs the power manager of die `d` writes its request, from the measured average `avg` of
the last 100 µs in units of 10 mW, over its spoke; the spec leaves the rounding of the 10 % open. -/
def execDiePowerRequest (d avg : Nat) (s : State) : Answer :=
  actCore (okDie d && decide (avg < 65536)) s
    (if !s.dieHere d || !s.linkActive 0 d then s
     else
       let exact := 11 * avg % 10 == 0
       let r := if exact then 0 else s.freeValue 1
       let s := if exact then s else s.spend
       s.wr (.mod .GRANT_REQ) 0 d (min 3000 (max (s.rd (.mod .declared) 0 d) (11 * avg / 10 + r))))

/-- MOD_DPWR [31:0] (R476). -/
def State.dpwr (s : State) (d : Nat) : Nat :=
  let r := fun (f : ModF) => s.rd (.mod f) (1 + d)
  r .DPWR_POWER + r .DPWR_TJ * 65536 + r .DPWR_K * 2 ^ 24 + r .DPWR_OVER * 2 ^ 29 + r .DPWR_STALE * 2 ^ 30 + r .DPWR_TRIP * 2 ^ 31

/-- The throttle k moves towards the grant (R223). How far it moves at once the spec leaves open: a free value within its
range. At k = 4 and still above the grant the die sets OVER, with the warning. -/
def State.moveThrottle (s : State) (d : Nat) : State :=
  let u := 1 + d
  let p := s.rd (.mod .DPWR_POWER) u
  let g := s.rd (.mod .DGRANT_GRANT) u
  let k := s.rd (.mod .DPWR_K) u
  if g < p then
    if k ≤ 4 then
      if s.has (.mod .DPWR_OVER) u 0 1 then s
      else
        let s := s.wr (.mod .DPWR_OVER) u 0 1
        s.raiseEvent 0x2310 (0x10 + d) (s.dpwr d)
    else (s.wr (.mod .DPWR_K) u 0 (4 + s.freeValue 8 % (k - 4))).spend
  else if p < g ∧ k < 16 then (s.wr (.mod .DPWR_K) u 0 (k + s.freeValue 8 % (17 - k))).spend
  else s

/-- DIE_GRANT (R223, R220, R206): the grant on its way over the spoke reaches die `d`, which adjusts its throttle. -/
def execDieGrant (d : Nat) (s : State) : Answer :=
  actCore (okDie d) s
    (if !s.dieHere d || !s.linkActive 0 d || s.has (.mod .sentHas) 0 d 0 then s
     else
       let u := 1 + d
       let s := (s.wr (.mod .DGRANT_GRANT) u 0 (s.rd (.mod .sentGrant) 0 d)).wr (.mod .DGRANT_SEQ) u 0 (s.rd (.mod .sentSeq) 0 d)
       ((s.wr (.mod .sentHas) 0 d 0).wr (.mod .DPWR_STALE) u 0 0).moveThrottle d)

/-- DIE_POWER_MEASUREMENT (R223): every 10 µs die `d` measures its power, in units of 10 mW, and its hottest junction `tj` (two's
complement), and moves k toward its grant. The power manager of an isolated die measures on, from the standby rail (R225). -/
def execDiePowerMeasurement (d power tj : Nat) (s : State) : Answer :=
  actCore (okDie d && decide (power < 65536) && decide (tj < 256)) s
    (let s := (s.wr (.mod .DPWR_POWER) (1 + d) 0 power).wr (.mod .DPWR_TJ) (1 + d) 0 tj
     if s.dieHere d then s.moveThrottle d else s)

/-- GRANT_STALE (R223): no grant has reached die `d` for 300 µs, so it takes FLOOR and sets STALE. -/
def execGrantStale (d : Nat) (s : State) : Answer :=
  actCore (okDie d) s
    (if !s.dieHere d then s
     else ((s.wr (.mod .DGRANT_GRANT) (1 + d) 0 (s.rd (.mod .BUDGET_FLOOR))).wr (.mod .DPWR_STALE) (1 + d) 0 1).moveThrottle d)

end Sys2Proof.Machine
end

