-- ==== Sys2Proof/Machine/Module.lean ====
section
/-! DEFINITION. The module: insertion, park and grant, removal, the 48 V input, the cold plate and the life record
(R531 to R549), power-on and the core rails (R550, R551, R556). -/

namespace Sys2Proof.Machine

/-- MOD_STAT (R547). -/
def State.modStat (s : State) : Nat :=
  s.packed ([ModF.STAT_STATE, .STAT_GRANT, .STAT_LEVER, .STAT_EJSRC, .STAT_LIMITING, .STAT_LIMIT_SEEN, .STAT_HOT, .STAT_COLD,
    .STAT_GRAD, .STAT_RAILFAIL, .STAT_LASTPF, .STAT_LASTTRIP].map Fld.mod) 0 0

/-! ### The life record -/

/-- The fields of the life record (R545, R547). -/
def lifeFields : List ModF :=
  [.LIFE_EQ_EQH, .LIFE_EQ_CONSUMED, .LIFE_CNT_PWRH, .LIFE_CNT_MATES, .LIFE_CNT_TRIPS, .LIFE_CYC_TCYC, .LIFE_CYC_EJECTS,
    .LIFE_CYC_PFAIL, .eqFrac, .pwrSec, .cycUp, .cycExt, .cycHas]

/-- The record is written to its store. -/
def State.writeLife (s : State) : State :=
  each (List.range lifeFields.length) (fun i s => s.wr (.mod .stored) 0 i (s.rd (.mod (lifeFields.getD i .eqFrac)))) s

/-- The record is read from its store. -/
def State.readLife (s : State) : State :=
  each (List.range lifeFields.length) (fun i s => s.wr (.mod (lifeFields.getD i .eqFrac)) 0 0 (s.rd (.mod .stored) 0 i)) s

/-! ### Power -/

/-- What outlives the core rails: the standby-held settings of R550, the tamper latches, the fuses, the secure flash, the
life record and the power manager's own state (R556). -/
def standbyKept (f : Fld) : Bool :=
  match f with
  | .mod g =>
    match g with
    | .BUDGET_A | .BUDGET_FLOOR | .BUDGET_LIMITING | .GRANT_GRANT | .GRANT_REQ | .GRANT_CAP | .DGRANT_GRANT | .DGRANT_SEQ
    | .DPWR_POWER | .DPWR_TJ | .DPWR_K | .DPWR_OVER | .DPWR_STALE | .DRAIL_CORE | .DRAIL_VCORE | .coreOn
    | .declared | .sentGrant | .sentSeq | .sentHas | .dieOn => false
    | _ => true
  | .sec g =>
    match g with
    | .STAT_DBG_LEVEL | .STAT_DBG_CONSUME | .STAT_RECOVERY | .STAT_OASIS_BUSY | .STAT_ATT | .CMDSTAT_RESULT | .CMDSTAT_BUSY
    | .CMDSTAT_CODE | .tokLo | .tokHi | .tokCount | .tokTime | .lateOasis => false
    | _ => true
  | .fab .IOPULL_UP | .clk .REF_SRC | .clk .REF_ALT | .nch .ISO_CODES | .seif .fuseStep | .seif .fuseBad => true
  | .od .NODE_NODE_ID | .od .NODE_VALID | .od .NODE_BR | .od .NODE_FD | .cfg .csLow | .cfg .widthPin => true
  | _ => false

/-- What outlives the standby rail too: fuses, secure flash and the store of the life record (R545, R556). -/
def powerKept (f : Fld) : Bool :=
  match f with
  | .mod g =>
    match g with
    | .stored | .mated | .latchedOpen | .tripAt | .tripHas | .tripWait | .leverOut | .lastPf | .lastTrip | .STAT_LEVER
    | .STAT_GRANT => true
    | _ => false
  | .sec g =>
    match g with
    | .TAMPER_ACTIVE | .TAMPER_LATCHED | .tamperWait => false
    | _ => standbyKept f
  | .seif .fuseStep | .seif .fuseBad | .cfg .csLow | .cfg .widthPin => true
  | _ => false

/-- Every block but those that `kept` names is as after power-on; what the device has said and the waiting commands stay. -/
def State.unpowered (s : State) (kept : Fld → Bool) (conds : Nat × Nat → Bool) : State :=
  { State.reset with
    regs := Sparse.clear (fun k => !kept k.f) s.regs
    free := s.free
    out := s.out
    conditions := s.conditions.filter conds
    sealedOasis := s.sealedOasis
    keySlots := s.keySlots
    certificate := s.certificate
    copyA := s.copyA
    copyB := s.copyB
    tamperLog := s.tamperLog
    pending := s.pending }

/-- The core rails go off (R538, R539, R556). -/
def State.coreOff (s : State) : State := s.unpowered standbyKept fun c => c.1 == 0xFF00 || c.1 == 0x9000

/-- The standby rail falls. -/
def State.standbyOff (s : State) : State := (s.unpowered powerKept fun _ => false).wr (.mod .stby) 0 0 0

/-- How many of the eleven slot pins read 1. -/
def onesOf (w v : Nat) : Nat := (List.range w).foldl (fun a i => a + slice v i 1) 0

/-- The slot pins are sampled (R452): SLOT_ID in bits 0 to 6, SLOT_BR in 7 and 8, SLOT_FD in 9, SLOT_PAR in 10. -/
def State.samplePins (s : State) (pins : Nat) : State :=
  let id := slice pins 0 7
  let valid := decide (1 ≤ id) && onesOf 11 pins % 2 == 0
  (((s.wr (.od .NODE_NODE_ID) 0 0 (if valid then id else 0)).wr (.od .NODE_VALID) 0 0 (b2n valid)).wr (.od .NODE_BR) 0 0
    (slice pins 7 2)).wr (.od .NODE_FD) 0 0 (slice pins 9 1)

/-- Power-on: the standby rail rises, the slot pins are sampled and the module is PARKED (R534, R550). -/
def State.powerOn (s : State) (pins : Nat) : State :=
  let s := ((s.unpowered powerKept fun _ => false).wr (.mod .stby) 0 0 1).readLife
  let s := (s.wr (.mod .tripWait) 0 0 0).wr (.mod .leverOut) 0 0 0
  let s := each (List.range (Config.n + 1)) (fun u s => s.wr (.clk .OSC_SIO_OK) u 0 1) s
  (each dies (fun d s => s.wr (.mod .DRAIL_STBY) (1 + d) 0 1) s).samplePins pins

/-- Eleven slot pins. -/
def okPins (pins : Nat) : Bool := decide (pins < 2 ^ 11)

/-- INSERTION (R534): MATE_N makes with the input at `vin`, units of 10 mV: above 35 V the stage soft-starts, and the module
is PARKED with its slot pins sampled. -/
def execInsertion (pins vin : Nat) (s : State) : Answer :=
  act (okPins pins && decide (vin < 2 ^ 16)) s
    (let s := (s.wr (.mod .mated) 0 0 1).readLife
     let s := (s.inc (.mod .LIFE_CNT_MATES) 0 0).writeLife
     if vin ≤ 3500 then s.standbyOff else (s.powerOn pins).wr (.mod .VIN_VIN) 0 0 vin)

/-- INPUT_TURN_ON (R531): with the module mated, VIN rises above 35 V, to `vin`, having fallen below 20 V before (`fell`) or
not; a stage that a third trip latched open starts only if it has. -/
def execInputTurnOn (pins vin : Nat) (fell : Bool) (s : State) : Answer :=
  act (okPins pins && decide (3500 < vin) && decide (vin < 2 ^ 16)) s
    (let s := if fell then s.wr (.mod .latchedOpen) 0 0 0 else s
     if s.has (.mod .stby) 0 0 1 ∨ s.has (.mod .mated) 0 0 0 ∨ s.has (.mod .latchedOpen) 0 0 1 ∨ s.has (.mod .leverOut) 0 0 1
     then s
     else (s.powerOn pins).wr (.mod .VIN_VIN) 0 0 vin)

/-- TRIP_RETRY (R533): 2 s after a trip the stage starts again, unless a third trip within 60 s keeps it open. -/
def execTripRetry (pins : Nat) (s : State) : Answer :=
  act (okPins pins) s
    (if s.has (.mod .tripWait) 0 0 1 ∧ s.has (.mod .latchedOpen) 0 0 0 ∧ s.has (.mod .mated) 0 0 1 then s.powerOn pins else s)

/-! ### Grant -/

/-- The cold-plate sensors, °C. -/
def State.coldPlate (s : State) : List Int := (List.range 4).map fun i => toSigned 8 (slice (s.rd (.mod .TEMP_TCP)) (8 * i) 8)

/-- The greatest of a list. -/
def hottest (l : List Int) : Int := l.foldl max (-128)

/-- The least of a list. -/
def coldest (l : List Int) : Int := l.foldl min 127

/-- The grade minimum of the cold plate (R540). -/
def gradeMinimum : Int := if Config.tempGrade = 0 then -25 else -40

/-- The registers of the object dictionary's ports as the slot pins and DEVICE_ID give them (R453, R454, R457, R493). -/
def State.odPins (s : State) : State :=
  let s := each [0, 1] (fun c s => (s.wr (.od .CAN_FD) 0 c (s.rd (.od .NODE_FD))).wr (.od .CAN_NBR) 0 c (s.rd (.od .NODE_BR))) s
  let id := s.rd (.od .NODE_NODE_ID)
  let host := if s.has (.od .NODE_VALID) 0 0 1 then 100 * 256 + id else 127 * 256 + 254
  let s := s.wr (.od .ETH_ADDR) 0 0 (0xA9FE0000 + host)
  s.wr (.od .MAC_ADDR) 0 0 (2 * 2 ^ 40 + s.rd (.sec .DEVID_ID) 0 0 % 2 ^ 40)

/-- The core rails of the Plinth and of the dies are good: step 1 of R551. -/
def State.railsGood (s : State) : State :=
  let s := (s.wr (.mod .coreOn) 0 0 1).wr (.mod .STAT_STATE) 0 0 2
  let s := (s.wr (.mod .STAT_EJSRC) 0 0 0).wr (.mod .firstBoot) 0 0 1
  let s := (s.wr (.mod .STAT_LASTPF) 0 0 (s.rd (.mod .lastPf))).wr (.mod .STAT_LASTTRIP) 0 0 (s.rd (.mod .lastTrip))
  let s := each (List.range (Config.n + 1)) (fun u s => (s.wr (.clk .OSC_SIO_OK) u 0 1).enablePlls u) s
  let s := each dies
    (fun d s => (((s.wr (.mod .dieOn) 0 d 1).wr (.mod .DRAIL_CORE) (1 + d) 0 2).wr (.mod .DRAIL_STBY) (1 + d) 0 1).wr
      (.seif .DIE_STATE) 0 d 1) s
  ((s.at 0).setLocked true).odPins

/-- The repair and stepping fuses as the die power managers read them (R153, R214): (die, bank, columns replaced), 3 for a word whose
parity fails. Number 512 stands for the die's stepping fuses (R214). -/
def State.readBankFuses (s : State) (l : List (Nat × Nat × Nat)) : State :=
  each l (fun x s =>
    if x.2.1 = 512 then (if x.2.2 = 3 then s.wr (.seif .fuseBad) (1 + x.1) 0 1 else s)
    else if x.2.2 = 3 then s.wr (.bank .STAT_FAILED) (1 + x.1) x.2.1 1 else s.wr (.bank .STAT_REPAIRED) (1 + x.1) x.2.1 x.2.2) s

/-- GRANT (R153, R536, R551): the pins of the grant conditions are met. Within the cold-plate limits the core rails start: with
every rail of the Plinth and the DRAM good (`good`) the module is RUNNING, and each die of `failed` whose core rail failed is
isolated, and the repair and stepping fuses read as `fuses`; else every core rail is switched off and RAILFAIL is set. -/
def execGrant (good : Bool) (failed : Nat) (fuses : List (Nat × Nat × Nat)) (s : State) : Answer :=
  act (decide (failed < 2 ^ Config.n) && fuses.all fun x => okDie x.1 && decide (x.2.1 < 513) && decide (x.2.2 < 4)) s
    (if s.has (.mod .stby) 0 0 0 ∨ s.rd (.mod .STAT_STATE) ≠ 0 then s
     else
       let s := (s.wr (.mod .STAT_GRANT) 0 0 1).wr (.mod .STAT_LEVER) 0 0 1
       let l := s.coldPlate
       let hot := decide (70 < hottest l)
       let cold := decide (coldest l < gradeMinimum)
       if hot || cold then
         let s := if hot then s.wr (.mod .STAT_HOT) 0 0 1 else s
         if cold then s.wr (.mod .STAT_COLD) 0 0 1 else s
       else if !good then s.wr (.mod .STAT_RAILFAIL) 0 0 1
       else each (dies.filter fun d => failed.testBit d) (fun d s => s.isolateDie d 5) (s.railsGood.readBankFuses fuses))

/-! ### Removal -/

/-- Steps 1 and 2 of R538: the tick voids with cause 0x0E and a load in progress fails with TAMPER; the life record counts the
source and is written. -/
def State.beginEject (s : State) (src : Nat) : State :=
  let s := (s.wr (.mod .STAT_EJSRC) 0 0 src).wr (.mod .STAT_STATE) 0 0 3
  let s := (s.voidTick 0x0E 0 0).failLoad 0x53
  (s.inc (.mod (if src ≤ 2 then .LIFE_CYC_EJECTS else .LIFE_CYC_PFAIL)) 0 0).writeLife

/-- Step 3 of R538: the emergency of the ejection goes out, after those that wait, where emergencies are served. -/
def State.sayEject (s : State) (event : Nat) : State :=
  if s.served && !s.has (.od .NODE_NMT) 0 0 4 then
    let s := s.raiseEvent 0xFF00 event s.modStat
    each s.emcyQueue (fun e s => s.sendOut e) s
  else s

/-- The power-down is remembered for the next start (R539, R547). -/
def State.noteDown (s : State) (pf trip : Bool) : State :=
  (s.wr (.mod .lastPf) 0 0 (b2n pf)).wr (.mod .lastTrip) 0 0 (b2n trip)

/-- EJECT_LEVER (R537, R538): the lever opens the eject switch: the eject sequence with source 1, after which the stage is
open. -/
def execEjectLever (s : State) : Answer :=
  act true s
    (if s.has (.mod .stby) 0 0 0 then s.wr (.mod .STAT_LEVER) 0 0 0
     else
       let s := (s.wr (.mod .STAT_LEVER) 0 0 0).beginEject 1
       ((s.sayEject 5).noteDown false false).standbyOff.wr (.mod .leverOut) 0 0 1)

/-- LEVER_RECLOSED (R538): the lever is closed again after a completed source 1 sequence with MATE_N still low: the stage
restarts. -/
def execLeverReclosed (pins : Nat) (s : State) : Answer :=
  act (okPins pins) s
    (let s := s.wr (.mod .STAT_LEVER) 0 0 1
     if s.has (.mod .leverOut) 0 0 1 ∧ s.has (.mod .mated) 0 0 1 ∧ s.has (.mod .stby) 0 0 0 then s.powerOn pins else s)

/-- GRANT_WITHDRAWN (R537, R538): GRANT_N has been high for 1 ms: RUNNING, the eject sequence with source 2 leads to
PARKED. -/
def execGrantWithdrawn (s : State) : Answer :=
  act true s
    (let s := s.wr (.mod .STAT_GRANT) 0 0 0
     if s.has (.mod .stby) 0 0 0 ∨ s.rd (.mod .STAT_STATE) ≠ 2 then s
     else (((s.beginEject 2).sayEject 6).noteDown false false).coreOff.wr (.mod .STAT_STATE) 0 0 0)

/-- The power-down of sources 3 and 4 (R539): no emergency is sent, and the standby rail runs down. -/
def State.failPower (s : State) (src : Nat) (trip : Bool) : State := ((s.beginEject src).noteDown true trip).standbyOff

/-- INPUT_FAILURE (R531, R537, R539): the input fails, or overvoltage opens the stage: source 3. -/
def execInputFailure (s : State) : Answer := act true s (if s.has (.mod .stby) 0 0 0 then s else s.failPower 3 false)

/-- MATE_LOST (R537, R539): MATE_N opens: while not PARKED the module powers down with source 4. -/
def execMateLost (s : State) : Answer :=
  act true s
    (let s := s.wr (.mod .mated) 0 0 0
     if s.has (.mod .stby) 0 0 0 ∨ s.has (.mod .STAT_STATE) 0 0 0 then s else s.failPower 4 false)

/-- HOT_SWAP_TRIP (R533, R539): at power manager time `ms` the stage trips and opens, an input failure; the third trip within
60 s latches it open. -/
def execHotSwapTrip (ms : Nat) (s : State) : Answer :=
  act (decide (ms < 2 ^ 80)) s
    (if s.has (.mod .stby) 0 0 0 then s
     else
       let third := s.has (.mod .tripHas) 0 1 1 && decide (ms ≤ s.rd (.mod .tripAt) 0 1 + 60000)
       let s := ((s.wr (.mod .tripAt) 0 1 (s.rd (.mod .tripAt) 0 0)).wr (.mod .tripHas) 0 1 (s.rd (.mod .tripHas) 0 0)).wr
         (.mod .tripAt) 0 0 ms
       let s := (s.wr (.mod .tripHas) 0 0 1).inc (.mod .LIFE_CNT_TRIPS) 0 0
       let s := s.failPower 3 true
       if third then s.wr (.mod .latchedOpen) 0 0 1 else s.wr (.mod .tripWait) 0 0 1)

/-! ### The input and the cold plate -/

/-- INPUT_CURRENT_LIMITING (R533): the 100 µs average of the input current crosses 9.0 A, with what MOD_VIN then reads. -/
def execInputCurrentLimiting (vin iin pin : Nat) (s : State) : Answer :=
  act (decide (vin < 2 ^ 16) && decide (iin < 2 ^ 16) && decide (pin < 2 ^ 16)) s
    (if s.has (.mod .stby) 0 0 0 then s
     else
       let s := ((s.wr (.mod .VIN_VIN) 0 0 vin).wr (.mod .VIN_IIN) 0 0 iin).wr (.mod .VIN_PIN) 0 0 pin
       if 9000 ≤ iin then
         ((s.wr (.mod .STAT_LIMITING) 0 0 1).wr (.mod .STAT_LIMIT_SEEN) 0 0 1).raiseCond 0xFF00 1 (vin + iin * 65536)
       else (s.wr (.mod .STAT_LIMITING) 0 0 0).endCond 0xFF00 1)

/-- The four sensors read `tcp` (R547 MOD_TEMP). -/
def State.setTemps (s : State) (tcp : Nat) : State :=
  let s := s.wr (.mod .TEMP_TCP) 0 0 tcp
  let l := s.coldPlate
  (s.wr (.mod .TEMP_HOTTEST) 0 0 (ofSigned 8 (hottest l))).wr (.mod .TEMP_SPREAD) 0 0 (ofSigned 8 (hottest l - coldest l))

/-- One limit of R540: its flag is set and its condition of R549 holds while it is passed. -/
def State.plateLimit (s : State) (passed : Bool) (f : ModF) (event arg : Nat) : State :=
  if passed then (s.wr (.mod f) 0 0 1).raiseCond 0xFF00 event arg else s.endCond 0xFF00 event

/-- COLD_PLATE_LIMIT (R540): the sensors, now at `tcp`, cross a limit. -/
def execColdPlateLimit (tcp : Nat) (s : State) : Answer :=
  act (decide (tcp < 2 ^ 32)) s
    (if s.has (.mod .stby) 0 0 0 then s
     else
       let s := s.setTemps tcp
       let l := s.coldPlate
       let s := s.plateLimit (decide (70 < hottest l)) .STAT_HOT 2 tcp
       let s := s.plateLimit (decide (coldest l < gradeMinimum)) .STAT_COLD 3 tcp
       s.plateLimit (decide (8 < hottest l - coldest l)) .STAT_GRAD 4
         (tcp / 65536 + s.rd (.mod .TEMP_HOTTEST) * 65536 + s.rd (.mod .TEMP_SPREAD) * 2 ^ 24))

/-! ### The thirty-year life -/

/-- exp (num / den) in units of 2^-64, for an exponent below 64: the series at a 64th of it, squared six times. -/
def expFixed (num den : Nat) : Nat :=
  let y := num * 2 ^ 64 / (den * 64)
  let e := ((List.range 24).foldl (fun a k => (a.1 + a.2, a.2 * y / (2 ^ 64 * (k + 1)))) (0, 2 ^ 64)).1
  (List.range 6).foldl (fun a _ => a * a / 2 ^ 64) e

/-- AF of R545 at `t` °C, in units of 2^-40. -/
def acceleration (t : Int) : Nat :=
  let den := 32815 * (27315 + 100 * t).toNat
  if 55 ≤ t then expFixed (81230000 * (t - 55).toNat) den / 2 ^ 24
  else 2 ^ 104 / expFixed (81230000 * (55 - t).toNat) den

/-- CONSUMED of an EQH (R547), to the nearest unit. -/
def consumedOf (eqh : Nat) : Nat := min 65535 ((eqh * 10000 + 1314000) / 2628000)

/-- Equivalent hours of one second at `t` °C are added (R545), with the events of R549 as CONSUMED reaches their marks. -/
def State.addLife (s : State) (t : Int) : State :=
  let sum := s.rd (.mod .eqFrac) + acceleration t
  let unit := 360 * 2 ^ 40
  let s := (s.wr (.mod .eqFrac) 0 0 (sum % unit)).add (.mod .LIFE_EQ_EQH) 0 0 (sum / unit)
  let was := s.rd (.mod .LIFE_EQ_CONSUMED)
  let now := consumedOf (s.rd (.mod .LIFE_EQ_EQH))
  let s := s.wr (.mod .LIFE_EQ_CONSUMED) 0 0 now
  let mark := fun (k event : Nat) (s : State) =>
    if was < k ∧ k ≤ now then s.raiseEvent 0xFF00 event (s.rd (.mod .LIFE_EQ_EQH)) else s
  mark 10000 10 (mark 8000 9 s)

/-- A temperature cycle is followed (R545): a rise of 30 K from the last minimum, then a fall of 30 K from the maximum. -/
def State.followCycle (s : State) (t : Int) : State :=
  let put := fun (s : State) => s.wr (.mod .cycExt) 0 0 (ofSigned 8 t)
  let e := toSigned 8 (s.rd (.mod .cycExt))
  if s.has (.mod .cycHas) 0 0 0 then put (s.wr (.mod .cycHas) 0 0 1)
  else if s.has (.mod .cycUp) 0 0 0 then
    if e + 30 ≤ t then put (s.wr (.mod .cycUp) 0 0 1) else if t < e then put s else s
  else if t ≤ e - 30 then put ((s.wr (.mod .cycUp) 0 0 0).inc (.mod .LIFE_CYC_TCYC) 0 0)
  else if e < t then put s else s

/-- A second with the standby rail up is counted (R547 PWRH). -/
def State.countSecond (s : State) : State :=
  let k := s.rd (.mod .pwrSec) + 1
  if k < 3600 then s.wr (.mod .pwrSec) 0 0 k else (s.wr (.mod .pwrSec) 0 0 0).inc (.mod .LIFE_CNT_PWRH) 0 0

/-- LIFE_ACCOUNTING (R545): a second has passed with the sensors at `tcp`. -/
def execLifeAccounting (tcp : Nat) (s : State) : Answer :=
  act (decide (tcp < 2 ^ 32)) s
    (if s.has (.mod .stby) 0 0 0 then s
     else
       let s := s.setTemps tcp
       let t := hottest s.coldPlate
       ((s.addLife t).followCycle t).countSecond)

/-- LIFE_RECORD_WRITE (R545): the hourly write of the life record. -/
def execLifeRecordWrite (s : State) : Answer := act true s (if s.has (.mod .stby) 0 0 0 then s else s.writeLife)

end Sys2Proof.Machine
end

