-- ==== Sys2Proof/Machine/OdInit.lean ====
section
/-! DEFINITION. Initialisation of the object dictionary (R460): the communication objects at their defaults, the boot-up
message, and the emergencies that are raised again after it (R555). -/

namespace Sys2Proof.Machine

/-- The key of sub-index `sub` of object `idx`. -/
def odKey (idx sub : Nat) : Nat := 256 * idx + sub

/-- What the dictionary holds for an object; 0 where nothing else has been set. -/
def State.odGet (s : State) (idx sub : Nat) : Nat := Sparse.get (fun _ => 0) s.odVals (odKey idx sub)

/-- An object that the dictionary holds takes a value. -/
def State.odSet (s : State) (idx sub v : Nat) : State :=
  { s with odVals := Sparse.set id (fun _ => 0) s.odVals (odKey idx sub) v }

/-- The node ID, 0 when the slot ID is not valid (R452). -/
def State.nodeId (s : State) : Nat := s.rd (.od .NODE_NODE_ID)

/-- The defaults of R478 other than 0. -/
def State.commDefaults (s : State) : List (Nat × Nat × Nat) :=
  let id := s.nodeId
  [(0x1005, 0, 0x80), (0x1014, 0, 0x80 + id), (0x1017, 0, 100)] ++
    ((List.range 8).flatMap fun n =>
      [(0x1400 + n, 1, if n < 4 then 0x200 + 0x100 * n + id else 0x80000000), (0x1400 + n, 2, 255),
       (0x1800 + n, 1, if n < 4 then 0x40000180 + 0x100 * n + id else 0xC0000000), (0x1800 + n, 2, 254)])

/-- The state that the services of the communication area keep beside their objects. -/
def isCommState (f : Fld) : Bool :=
  match f with
  | .od g =>
    match g with
    | .armed | .syncCount | .syncOn | .pdoSaid | .tpdoAt | .tpdoHas | .emcyAt | .emcyHas | .udpSeq | .cyclePeriod | .timeCob
    | .eventBits => true
    | _ => false
  | _ => false

/-- Held CAN settings take effect (R456). -/
def State.applyHeld (s : State) (c : Nat) : State :=
  if s.has (.od .CAN_PENDING) 0 c 0 then s
  else
    let s := ((s.wr (.od .CAN_FD) 0 c (s.rd (.od .heldFd) 0 c)).wr (.od .CAN_NBR) 0 c (s.rd (.od .heldNbr) 0 c)).wr (.od .CAN_DBR) 0 c
      (s.rd (.od .heldDbr) 0 c)
    s.wr (.od .CAN_PENDING) 0 c 0

/-- Whether tamper sensor `k` is of class 2 (R444). -/
def class2 (k : Nat) : Bool := k == 1 || k == 2 || k == 3 || k == 7

/-- MOD_TEMP [47:16], the ARG of the spread (R549). -/
def State.spreadArg (s : State) : Nat :=
  s.rd (.mod .TEMP_TCP) / 65536 + s.rd (.mod .TEMP_HOTTEST) * 65536 + s.rd (.mod .TEMP_SPREAD) * 2 ^ 24

/-- EVENT and ARG of a condition row that holds under `key`, from the registers as they now read (R476, R549). -/
def State.conditionReport (s : State) (code key : Nat) : Nat × Nat :=
  match code with
  | 0x3210 => (key, s.rd (.fab .IOSTAT_VCCO_MV) (1 + (key - 0x10)))
  | 0x5020 => (0, key)
  | 0x5113 => (key / 2, s.oscWord (key / 2))
  | 0x6010 => (1, 0)
  | 0x6100 => (key, s.rd (.tick .NUMBER) % 2 ^ 32)
  | 0x6120 => (s.rd (.tick .SRC_SRC), s.rd (.clk .TBSTAT_OFFSET))
  | 0x6300 => (key, s.scrubStat (key - 0x10))
  | 0x7110 => (key, s.rd (.seif .DIE_CAUSE) 0 (key - 0x10))
  | 0x7120 => (0, s.seifCompat)
  | 0x7200 | 0x7210 => (key, s.portStatus key)
  | 0x7300 => (key, s.ddrStat key)
  | 0x8120 => (key, s.rd (.od .CAN_TEC) 0 key + s.rd (.od .CAN_REC) 0 key * 256)
  | 0x9000 => (key, if class2 key then 2 else 1)
  | 0xFF00 =>
    if key = 1 then (1, s.rd (.mod .VIN_VIN) + s.rd (.mod .VIN_IIN) * 65536)
    else if key = 4 then (4, s.spreadArg)
    else (key, s.rd (.mod .TEMP_TCP))
  | _ => (key, 0)

/-- The emergencies of the conditions that hold, and after the first boot-up message of a start those of the last
power-down (R460, R549, R555). -/
def State.raiseAgain (s : State) : State :=
  let s := each s.conditions
    (fun c s => s.sendEmcy c.1 (s.conditionReport c.1 c.2).1 (s.conditionReport c.1 c.2).2) s
  if s.has (.mod .firstBoot) 0 0 0 then s
  else
    let s := s.wr (.mod .firstBoot) 0 0 0
    if s.has (.mod .STAT_LASTTRIP) 0 0 1 then s.raiseEvent 0xFF00 8 (s.rd (.mod .LIFE_CNT_TRIPS))
    else if s.has (.mod .STAT_LASTPF) 0 0 1 then s.raiseEvent 0xFF00 7 (s.rd (.mod .LIFE_CYC_PFAIL))
    else s

/-- What communication has left in the dictionary, the sessions and the emergencies is gone. -/
def State.dropComm (s : State) : State :=
  { s with
    odVals := Sparse.clear (fun k => decide (odKey 0x1000 0 ≤ k) && decide (k < odKey 0x2000 0)) s.odVals
    sessions := []
    rpdoHeld := []
    emcyQueue := []
    emcyHistory := []
    conditions := s.conditions.filter fun c => c.1 != 0x8130 && c.1 != 0x8250 }

/-- Initialisation of the object dictionary and the boot-up message (R460): objects from 0x2000 stay; a consumer entry or
an event timer at its default watches nothing, so its condition ends. -/
def State.initialise (s : State) : State :=
  let s := s.dropComm
  let s := s.resetKeys fun k => isCommState k.f
  let s := each s.commDefaults (fun x s => s.odSet x.1 x.2.1 x.2.2) s
  let s := (s.applyHeld 0).applyHeld 1
  let s := s.wr (.od .up) 0 0 1
  let s := (s.sendAll .bootUp [s.nodeId]).wr (.od .NODE_NMT) 0 0 127
  s.raiseAgain

end Sys2Proof.Machine
end

