-- ==== Sys2Proof/Machine/Security.lean ====
section
/-! DEFINITION. Security: the debug level, the Oasis and its wipe, signed commands and the life cycle, firmware packages,
debug tokens, attestation, tamper, and secure boot (R419 to R451). -/

namespace Sys2Proof.Machine

/-- SEC_STAT.LC (R429). -/
def State.lc (s : State) : Nat := s.rd (.sec .STAT_LC)

/-- Counter `k` of R434. -/
def State.secCnt (s : State) (k : Nat) : Nat := s.rd (.sec .CNT_VALUE) 0 k

/-- DEVICE_ID as a 128-bit integer (R450). -/
def State.deviceId (s : State) : Nat :=
  s.rd (.sec .DEVID_ID) 0 0 + s.rd (.sec .DEVID_ID) 0 1 * 2 ^ 48 + s.rd (.sec .DEVID_ID) 0 2 * 2 ^ 96

/-- The root of R424. -/
def State.rootSlot (s : State) : Nat := if (s.rd (.sec .KEYS_REVOKED)).testBit 0 then 1 else 0

/-- Whether slot `k` is provisioned and usable (R450). -/
def State.slotUsable (s : State) (k : Nat) : Bool := (s.rd (.sec .KEYS_PRESENT)).testBit k

/-! ### The debug level (R438, R509) -/

/-- A comparator is disarmed. -/
def State.disarm (s : State) (d c : Nat) : State := s.wr (.dbg .CMP_CFG_SRC) (1 + d) c 0

/-- The granted level becomes `l`: below 2 comparators with a halt action are disarmed, a pending halt and a STEP are
dropped and a halt is released; at 0 every comparator is disarmed. -/
def State.setLevel (s : State) (l : Nat) : State :=
  let was := s.rd (.sec .STAT_DBG_LEVEL)
  let s := s.wr (.sec .STAT_DBG_LEVEL) 0 0 l
  let s := if l < 2 then s.wr (.sec .STAT_DBG_CONSUME) 0 0 0 else s
  let halting := fun (d c : Nat) => decide (2 ≤ s.rd (.dbg .CMP_CFG_ACTION) (1 + d) c)
  let s := each dies
    (fun d s => each ((List.range 8).filter fun c => l == 0 || (decide (l < 2) && halting d c)) (fun c s => s.disarm d c) s) s
  if 2 ≤ l ∨ was < 2 then s
  else
    let pend := s.has (.dbg .STAT_PENDING) 0 0 1 || s.has (.dbg .STAT_STEPPING) 0 0 1
    let s := if pend then s.wr (.dbg .STAT_DROPPED) 0 0 1 else s
    let s := ((s.wr (.dbg .STAT_PENDING) 0 0 0).wr (.dbg .STAT_STEPPING) 0 0 0).wr (.dbg .STAT_STEPS) 0 0 0
    if s.tick ≠ 5 then s
    else
      let ahead := if s.has (.dbg .STAT_HALT) 0 0 2 then nsec (s.rd (.tick .PERIOD_P)) else nsec 20000
      ((s.wr (.dbg .STAT_AUTOREL) 0 0 1).release (s.indexFrom (s.time + ahead)) []).nicheReleased

/-- DROP_DEBUG (R438): the host writes DROP_DEBUG, and the level falls to 0. -/
def execDropDebug (s : State) : Answer := actFw true s (s.setLevel 0)

/-- Whether the tick number has left the window of the grant, or too many boundaries have committed (R438). -/
def State.grantOver (s : State) : Bool :=
  let n := s.rd (.tick .NUMBER)
  decide (n < s.rd (.sec .tokLo)) || decide (s.rd (.sec .tokHi) < n) ||
    decide (s.rd (.sec .tokHi) - s.rd (.sec .tokLo) + 1 < s.rd (.sec .tokCount))

/-- DEBUG_GRANT_TIMEOUT (R438): the grant ends: its window or its count of boundaries is over, or 86,400 s of powered time
have passed (`powered`). -/
def execDebugGrantTimeout (powered : Bool) (s : State) : Answer :=
  actCore true s (if powered || s.grantOver then s.setLevel 0 else s)

/-! ### The Oasis (R441 to R443) -/

/-- A wipe begins: every row reads zero and every request is denied until it ends. -/
def State.wipeOasis (s : State) : State :=
  State.wr (State.wr { s with oasis := [] } (.sec .STAT_OASIS_BUSY) 0 0 1) (.sec .lateOasis) 0 0 0

/-- The sealed copy is erased. -/
def State.eraseSeal (s : State) : State := State.wr { s with sealedOasis := [] } (.sec .STAT_OASIS_SEALED) 0 0 0

/-- WIPE_OASIS (R442): the host starts a wipe. -/
def execWipeOasis (s : State) : Answer := actFw true s s.wipeOasis

/-- OASIS_WIPE_DONE (R442): the wipe ends, and requests are served again. -/
def execOasisWipeDone (s : State) : Answer :=
  actCore true s
    (if s.has (.sec .STAT_OASIS_BUSY) 0 0 0 then s else State.wr { s with oasis := [] } (.sec .STAT_OASIS_BUSY) 0 0 0)

/-- Sealing begins; without a derived key it does not (R422, R443). -/
def State.seal (s : State) : State := if s.has (.sec .kill) 0 0 1 then s else s.wr (.sec .lateOasis) 0 0 1

/-- SEAL (R443): the host starts the writing of the sealed copy. -/
def execSeal (s : State) : Answer := actFw true s s.seal

/-- SEAL_COMPLETE (R443): the sealed copy holds the whole Oasis. -/
def execSealComplete (s : State) : Answer :=
  actFw true s
    (if s.has (.sec .lateOasis) 0 0 0 then s
     else State.wr (State.wr { s with sealedOasis := s.oasis } (.sec .STAT_OASIS_SEALED) 0 0 1) (.sec .lateOasis) 0 0 0)

/-- A word is stored in the Oasis (R128, R441). -/
def State.oasisStore (s : State) (w row : Nat) : State := { s with oasis := Sparse.set id (fun _ => 0) s.oasis w row }

/-- Words of the Oasis. -/
def oasisWords : Nat := 262144

/-- The reason of a refused item is left in SEC_CMDSTAT.RESULT (R433, R451). -/
def State.secResult (s : State) (c : Nat) : State := s.wr (.sec .CMDSTAT_RESULT) 0 0 c

/-- A PUT of R441: 0 and its writes, or the code of its refusal. -/
def State.oasisPut (s : State) (l : List Nat) (v : Verdict) : Nat × State :=
  let o := fromBe ((l.drop 12).take 4)
  let c := fromBe ((l.drop 16).take 4)
  let code :=
    if l.length ≠ 36 + 6 * c ∨ oasisWords < o + c then 2
    else if (s.lc ≠ 2 ∧ s.lc ≠ 3) ∨ !s.slotUsable 15 then 5
    else if !v.tags.headD false then 12
    else 0
  let s := s.secResult code
  if code ≠ 0 ∨ s.has (.sec .STAT_OASIS_BUSY) 0 0 1 then (code, s)
  else (0, each (List.range c) (fun i s => s.oasisStore (o + i) (encodeRow (v.plain.getD i 0))) s)

/-- OASIS_PUT (R441): a complete PUT download is decrypted and written into the Oasis, or refused. -/
def execOasisPut (bytes : List Nat) (v : Verdict) (s : State) : Answer := actFw (areBytes bytes) s (s.oasisPut bytes v).2

/-! ### Signed commands (R430 to R433) -/

/-- Whether a life-cycle transition changes the owner (R431). -/
def ownerChanging (code : Nat) : Bool := code == 2 || code == 5 || code == 6 || code == 7

/-- Whether a command moves the life cycle. -/
def isTransition (code : Nat) : Bool := decide (1 ≤ code) && decide (code ≤ 7)

/-- The bytes of a public slot's keys: 97 of ECDSA, uncompressed, and 60 of HSS (R422, R431). -/
def publicBytes : Nat := 157

/-- The bytes of a wrapped secret (R423). -/
def wrappedBytes : Nat := 60

/-- Whether a slot is public and an owner's. -/
def ownerPublic (k : Nat) : Bool := decide (4 ≤ k) && decide (k ≤ 10)

/-- Whether a slot is secret. -/
def ownerSecret (k : Nat) : Bool := decide (12 ≤ k) && decide (k ≤ 15)

/-- Whether the payload of a command has its form (R431). -/
def payloadOk (code : Nat) (p : List Nat) : Bool :=
  let k := p.headD 0
  match code with
  | 0x01 => decide (publicBytes ≤ p.length)
  | 0x02 => p.length == 7 * publicBytes + 4 * wrappedBytes
  | 0x03 | 0x04 | 0x05 | 0x06 | 0x07 => p.isEmpty
  | 0x10 => (ownerPublic k && p.length == 1 + publicBytes) || (ownerSecret k && p.length == 1 + wrappedBytes)
  | 0x11 => p.length == 5 && (k == 1 || k == 2)
  | 0x12 => p.length == 1 && decide (k ≤ 1)
  | _ => false

/-- The slot that must sign a command in the state of the device, if the state accepts it (R429, R431). -/
def State.signerOf (s : State) (code : Nat) (p : List Nat) : Option Nat :=
  let lc := s.lc
  let owned := lc == 2 || lc == 3
  match code with
  | 0x01 => if lc = 0 then some s.rootSlot else none
  | 0x02 => if lc = 1 then some 2 else none
  | 0x03 => if lc = 2 then some 10 else none
  | 0x04 => if lc = 3 then some 10 else none
  | 0x05 => if owned then some 10 else none
  | 0x06 => if lc = 4 then some 2 else none
  | 0x07 => if lc = 0 then some s.rootSlot else if lc = 1 ∨ lc = 4 then some 2 else if owned then some 10 else none
  | 0x10 => if lc = 2 then some 10 else none
  | 0x11 => if owned then some 10 else if lc = 1 ∨ lc = 4 then some 2 else none
  | 0x12 =>
    let other := 1 - p.headD 0
    if 1 ≤ lc ∧ lc ≤ 4 ∧ !(s.rd (.sec .KEYS_REVOKED)).testBit other then some other else none
  | _ => none

/-- The lowest TRANS bit from `lo` on, below `hi`, that is not burnt (R432). -/
def State.freeBit (s : State) (lo hi : Nat) : Option Nat :=
  ((List.range hi).filter fun i => decide (lo ≤ i) && !(s.rd (.sec .fuses)).testBit i).head?

/-- A TRANS bit is burnt (R421, R432). -/
def State.burn (s : State) (b : Option Nat) : State :=
  match b with
  | some i => (s.wr (.sec .fuses) 0 0 (s.rd (.sec .fuses) ||| 2 ^ i)).wr (.sec .STAT_TRANS) 0 0 (s.rd (.sec .STAT_TRANS) + 1)
  | none => s

/-- Key material is put into a slot. -/
def State.putSlot (s : State) (k v : Nat) (usable : Bool) : State :=
  let s : State := { s with keySlots := Sparse.set id (fun _ => 0) s.keySlots k v }
  let m := s.rd (.sec .KEYS_PRESENT)
  s.wr (.sec .KEYS_PRESENT) 0 0 (if usable then m ||| 2 ^ k else m - slice m k 1 * 2 ^ k)

/-- Slots are erased. -/
def State.eraseSlots (s : State) (l : List Nat) : State := each l (fun k s => s.putSlot k 0 false) s

/-- The code with which a command is refused, 0 where it is accepted (R433): `l` its bytes. -/
def State.commandCode (s : State) (l : List Nat) (v : Verdict) : Nat :=
  let code := l.getD 5 0
  let plen := fromBe ((l.drop 32).take 4)
  let p := (l.drop 36).take plen
  let signer := l.getD 6 0
  let wrapped := if code = 2 then 4 else if code = 0x10 ∧ ownerSecret (p.headD 0) then 1 else 0
  if fromBe (l.take 4) ≠ 0x47434D44 ∨ l.getD 4 0 ≠ 1 ∨ l.getD 7 0 ≠ 0 ∨ l.length ≠ 36 + plen + 5172 ∨ !payloadOk code p then 2
  else if fromBe ((l.drop 8).take 16) ≠ s.deviceId then 3
  else if fromBe ((l.drop 24).take 8) ≠ s.secCnt 3 + 1 then 4
  else if s.signerOf code p ≠ some signer then 5
  else if !s.slotUsable signer || !v.ecdsa || !v.hss then 6
  else if ownerChanging code && s.tick != 0 && s.tick != 4 then 7
  else if s.loading then 8
  else if s.rd (.sec .TAMPER_ACTIVE) ≠ 0 then 9
  else if code = 0x11 ∧ fromBe (p.drop 1) < s.secCnt (p.headD 0) then 10
  else if !((List.range wrapped).all fun i => v.tags.getD i false) then 12
  else if isTransition code && code != 7 && (s.freeBit 0 56).isNone then 13
  else 0

/-- The life-cycle state that a transition leads to (R431). -/
def nextLc (code : Nat) : Nat :=
  match code with
  | 0x01 => 1 | 0x02 => 2 | 0x03 => 3 | 0x04 => 2 | 0x05 => 4 | 0x06 => 1 | _ => 5

/-- The `k` bytes from `i` as one number. -/
def bytesAt (l : List Nat) (i k : Nat) : Nat := fromBe ((l.drop i).take k)

/-- What a command does to the slots, the counters and the latches, beside the state itself (R431). -/
def State.commandEffect (s : State) (code : Nat) (p : List Nat) (v : Verdict) : State :=
  let k := p.headD 0
  match code with
  | 0x01 =>
    let s := s.putSlot 2 (bytesAt p 0 publicBytes) (v.usable.testBit 2)
    State.wr { s with certificate := p.drop publicBytes } (.sec .STAT_CREDIT) 0 0 64
  | 0x02 =>
    let s := each (List.range 7) (fun i s => s.putSlot (4 + i) (bytesAt p (publicBytes * i) publicBytes) (v.usable.testBit (4 + i))) s
    each (List.range 4) (fun i s => s.putSlot (12 + i) (v.plain.getD i 0) true) s
  | 0x05 => s.eraseSlots [12, 13, 14, 15]
  | 0x06 =>
    let s := s.eraseSlots [4, 5, 6, 7, 8, 9, 10, 12, 13, 14, 15]
    let s := ((s.wr (.sec .CNT_VALUE) 0 1 0).wr (.sec .CNT_VALUE) 0 2 0).wr (.sec .TAMPER_CLASS2) 0 0 0
    s.wr (.sec .TAMPER_LATCHED) 0 0 (s.rd (.sec .TAMPER_LATCHED) &&& 0xB8)
  | 0x07 => (State.eraseSlots { s with certificate := [] } [2, 4, 5, 6, 7, 8, 9, 10, 12, 13, 14, 15]).wr (.sec .kill) 0 0 1
  | 0x10 =>
    if ownerPublic k then s.putSlot k (bytesAt p 1 publicBytes) (v.usable.testBit k) else s.putSlot k (v.plain.getD 0 0) true
  | 0x11 => s.wr (.sec .CNT_VALUE) 0 k (fromBe (p.drop 1))
  | 0x12 => s.wr (.sec .KEYS_REVOKED) 0 0 (s.rd (.sec .KEYS_REVOKED) ||| 2 ^ k)
  | _ => s

/-- Steps 2 to 4 of R432 for a transition. -/
def State.transition (s : State) (code : Nat) : State :=
  let s := (s.wipeOasis.eraseSeal).setLevel 0
  let s := if ownerChanging code && s.imageActive then s.clearImage else s
  (s.burn (s.freeBit 0 56)).wr (.sec .STAT_LC) 0 0 (nextLc code)

/-- A signed command is checked, and takes effect or is refused (R430 to R433): its code of R433 and the state after it. -/
def State.signedCommand (s : State) (l : List Nat) (v : Verdict) : Nat × State :=
  let code := l.getD 5 0
  let c := s.commandCode l v
  let s := (s.secResult c).wr (.sec .CMDSTAT_CODE) 0 0 code
  if c ≠ 0 then (c, s)
  else
    let p := (l.drop 36).take (fromBe ((l.drop 32).take 4))
    let s := if isTransition code then s.transition code else s
    let s := s.commandEffect code p v
    let s := s.wr (.sec .CNT_VALUE) 0 3 (s.secCnt 3 + 1)
    (0, if isTransition code then s.raiseEvent 0xFF10 s.lc (s.rd (.sec .STAT_TRANS)) else s)

/-- The form of a signed command's meaning: the bytes of one download whose CODE is `code`. -/
def State.signedRow (s : State) (code : Nat) (bytes : List Nat) (v : Verdict) : Answer :=
  actFw (areBytes bytes && bytes.getD 5 0 == code) s (s.signedCommand bytes v).2

/-- PROVISION (R431): BLANK becomes PROVISIONED, with slot 2 and the device certificate. -/
def execProvision (bytes : List Nat) (v : Verdict) (s : State) : Answer := s.signedRow 0x01 bytes v

/-- CLAIM (R431): PROVISIONED becomes OWNED, with the owner's keys. -/
def execClaim (bytes : List Nat) (v : Verdict) (s : State) : Answer := s.signedRow 0x02 bytes v

/-- DEPLOY (R431): OWNED becomes FIELD. -/
def execDeploy (bytes : List Nat) (v : Verdict) (s : State) : Answer := s.signedRow 0x03 bytes v

/-- MAINTAIN (R431): FIELD becomes OWNED. -/
def execMaintain (bytes : List Nat) (v : Verdict) (s : State) : Answer := s.signedRow 0x04 bytes v

/-- RMA (R431): OWNED or FIELD becomes RETURN, and the secret slots are erased. -/
def execRma (bytes : List Nat) (v : Verdict) (s : State) : Answer := s.signedRow 0x05 bytes v

/-- REFURBISH (R431): RETURN becomes PROVISIONED in a new owner epoch. -/
def execRefurbish (bytes : List Nat) (v : Verdict) (s : State) : Answer := s.signedRow 0x06 bytes v

/-- DECOMMISSION (R431): any other state becomes DECOMMISSIONED, with KILL set. -/
def execDecommission (bytes : List Nat) (v : Verdict) (s : State) : Answer := s.signedRow 0x07 bytes v

/-- KEYSET (R431): one owner slot is replaced. -/
def execKeyset (bytes : List Nat) (v : Verdict) (s : State) : Answer := s.signedRow 0x10 bytes v

/-- SVN_SET (R431): IMG_SVN or TOK_SVN is raised. -/
def execSvnSet (bytes : List Nat) (v : Verdict) (s : State) : Answer := s.signedRow 0x11 bytes v

/-- REVOKE_ROOT (R424, R431): the revocation bit of a root is set. -/
def execRevokeRoot (bytes : List Nat) (v : Verdict) (s : State) : Answer := s.signedRow 0x12 bytes v

/-- COMMIT (R435): FW_SVN and IMG_SVN rise to the running versions. -/
def State.commitSvn (s : State) : State :=
  let s := s.wr (.sec .CNT_VALUE) 0 0 (max (s.secCnt 0) (s.rd (.sec .fwSvn) 0 (s.rd (.sec .FW_COPY))))
  if s.imageActive then s.wr (.sec .CNT_VALUE) 0 1 (max (s.secCnt 1) (s.rd (.cfg .actSvn))) else s

/-- COMMIT (R435): the host raises FW_SVN and IMG_SVN to the running versions. -/
def execCommit (s : State) : Answer := actFw true s s.commitSvn

/-! ### Firmware packages (R428) -/

/-- Whether the header and the lengths of a firmware package are in order. -/
def packageForm (l : List Nat) : Bool :=
  let blen := bytesAt l 12 4
  bytesAt l 0 4 == 0x47465750 && l.getD 4 0 == 1 && l.getD 7 0 == 0 && decide (1 ≤ blen) && decide (blen ≤ 6291456) &&
    bytesAt l 18 46 == 0 && l.length == 64 + blen + 5192 && bytesAt l (64 + blen) 4 == 0x4746454E && bytesAt l (68 + blen) 16 == 0

/-- A copy of the firmware takes a content. -/
def State.putCopy (s : State) (j : Nat) (l : List Nat) : State := if j = 0 then { s with copyA := l } else { s with copyB := l }

/-- A firmware package is written into the copy that is not active and verified there (R428): its code of R433. -/
def State.firmwarePackage (s : State) (l : List Nat) (v : Verdict) : Nat × State :=
  let j := 1 - s.rd (.sec .active)
  let svn := bytesAt l 8 4
  if packageForm l && decide (svn < s.secCnt 0) then (10, s.secResult 10)
  else
    let c := if !packageForm l then 2 else if !s.slotUsable s.rootSlot || !v.ecdsa || !v.hss then 6 else 0
    let s := s.secResult c
    if c ≠ 0 then
      (c, (((s.putCopy j []).wr (.sec .fwOk) 0 j 0).wr (.sec .FW_PENDING) 0 0 0).wr (.sec .FW_OTHER_OK) 0 0 0)
    else
      let s := ((s.putCopy j l).wr (.sec .fwOk) 0 j 1).wr (.sec .fwRel) 0 j (bytesAt l 5 2)
      let s := (s.wr (.sec .fwSvn) 0 j svn).wr (.sec .fwMatrix) 0 j (bytesAt l 16 2)
      (0, (s.wr (.sec .FW_PENDING) 0 0 1).wr (.sec .FW_OTHER_OK) 0 0 1)

/-- FIRMWARE_PACKAGE (R427, R428): a complete download of a firmware package. -/
def execFirmwarePackage (bytes : List Nat) (v : Verdict) (s : State) : Answer :=
  actOd (areBytes bytes) s (s.firmwarePackage bytes v).2

/-! ### Debug tokens (R436, R437) -/

/-- Whether the state permits a token's signer and level (R429). -/
def State.tokenPermitted (s : State) (signer level : Nat) (field : Bool) : Bool :=
  if s.lc = 1 ∨ s.lc = 4 then signer == 2
  else if s.lc = 2 then signer == 8 || signer == 9
  else if s.lc = 3 then (signer == 8 || signer == 9) && (level == 1 || field)
  else false

/-- Whether a token is accepted (R437). -/
def State.tokenOk (s : State) (l : List Nat) (v : Verdict) : Bool :=
  let level := l.getD 5 0
  let signer := l.getD 6 0
  let flags := l.getD 7 0
  let n := s.rd (.tick .NUMBER)
  l.length == 5220 && bytesAt l 0 4 == 0x47444254 && l.getD 4 0 == 1 && (level == 1 || level == 2) && decide (flags < 4) &&
    bytesAt l 44 4 == 0 && bytesAt l 8 16 == s.deviceId && decide (s.secCnt 2 ≤ bytesAt l 40 4) &&
    s.tokenPermitted signer level (flags.testBit 0) && s.slotUsable signer && v.ecdsa && v.hss &&
    decide (bytesAt l 24 8 ≤ n) && decide (n ≤ bytesAt l 32 8)

/-- A token is presented (R437): whether it is accepted, and the level that it leaves. -/
def State.presentToken (s : State) (l : List Nat) (v : Verdict) : Bool × State :=
  if s.tokenOk l v then
    let s := s.setLevel (l.getD 5 0)
    let s := s.wr (.sec .STAT_DBG_CONSUME) 0 0 (b2n ((l.getD 7 0).testBit 1 && l.getD 5 0 == 2))
    let s := (s.wr (.sec .tokLo) 0 0 (bytesAt l 24 8)).wr (.sec .tokHi) 0 0 (bytesAt l 32 8)
    (true, (s.wr (.sec .tokCount) 0 0 0).wr (.sec .tokTime) 0 0 s.time)
  else (false, s.setLevel 0)

/-- DEBUG_TOKEN (R437): a debug token is presented, and sets the granted level. -/
def execDebugToken (bytes : List Nat) (v : Verdict) (s : State) : Answer := actFw (areBytes bytes) s (s.presentToken bytes v).2

/-! ### Attestation (R439, R440) -/

/-- The reason why a report is refused, as SEC_STAT.ATT codes it; 0 where none is (R440). -/
def State.reportRefusal (s : State) : Nat :=
  if s.has (.sec .STAT_CREDIT) 0 0 0 then 2
  else if s.lc < 1 ∨ 4 < s.lc then 5
  else if 1048576 ≤ s.secCnt 4 then 3
  else if s.rd (.sec .TAMPER_ACTIVE) ≠ 0 then 4
  else 0

/-- The SHA-384 over the D of the partial images activated since the full load, 0 where there is none (R439). -/
def State.partialDigest (s : State) : Nat :=
  let k := s.rd (.cfg .partN)
  if k = 0 then 0 else sha384 ((List.range k).flatMap fun j => beBytes 48 (s.rd (.cfg .partD) 0 j))

/-- The body of a report (R439). -/
def State.reportBody (s : State) (nonce : List Nat) : List Nat :=
  let on := s.imageActive
  let flags := b2n (s.has (.tick .STATE_CONTRACT) 0 0 1) + 2 * b2n (s.has (.seif .COMPAT_DEGRADED) 0 0 1) + 4 * b2n on +
    8 * s.rd (.sec .STAT_RECOVERY) + 16 * s.rd (.sec .TAMPER_CLASS2)
  beBytes 4 0x47415454 ++ [1, s.lc, s.rd (.seif .COMPAT_LEVEL), s.rd (.sec .STAT_DBG_LEVEL)] ++ beBytes 16 s.deviceId ++ nonce ++
    beBytes 2 (s.rd (.sec .FW_RELEASE)) ++ beBytes 2 (s.rd (.sec .fwMatrix) 0 (s.rd (.sec .FW_COPY))) ++
    ((List.range 5).flatMap fun k => beBytes 4 (s.secCnt k)) ++ beBytes 8 (s.rd (.sec .fuses)) ++
    beBytes 8 (if on then s.rd (.cfg .IMAGE) else 0) ++ beBytes 48 (if on then s.rd (.cfg .actDigest) else 0) ++
    beBytes 48 (if on then s.partialDigest else 0) ++ beBytes 8 (s.rd (.tick .NUMBER)) ++ beBytes 4 (s.rd (.sec .TAMPER_EVENTS)) ++
    beBytes 4 flags

/-- The 8-byte prefix of a signed report and the digest of its body: the message M of R419. -/
def reportMessage (body : List Nat) : List Nat := beBytes 8 0x474C564154545354 ++ beBytes 48 (sha384 body)

/-- A report is made, or refused (R439, R440): whether it was made, and the state after it. -/
def State.attest (s : State) (nonce : List Nat) : Bool × State :=
  let c := if nonce.length ≠ 32 then 5 else s.reportRefusal
  let s := s.wr (.sec .STAT_ATT) 0 0 c
  if c ≠ 0 then (false, s)
  else
    let body := s.reportBody nonce
    let q := s.secCnt 4
    let m := reportMessage body
    let s := (s.wr (.sec .CNT_VALUE) 0 4 (q + 1)).wr (.sec .STAT_CREDIT) 0 0 (s.rd (.sec .STAT_CREDIT) - 1)
    let l := body ++ beBytes 96 (Config.signed false q m) ++ beBytes 5076 (Config.signed true q m)
    (true, State.emit { s with report := l } .report 0 l)

/-- ATTESTATION_NONCE (R439, R440): a 32-byte nonce starts a report, or the request is refused. -/
def execAttestationNonce (nonce : List Nat) (s : State) : Answer :=
  actFw (areBytes nonce && nonce.length == 32) s (s.attest nonce).2

/-- CREDIT_ACCRUAL (R440): 2,700 s of powered time have passed, and the report credit rises by one, up to 64. -/
def execCreditAccrual (s : State) : Answer :=
  act true s
    (if s.has (.mod .stby) 0 0 0 then s else s.wr (.sec .STAT_CREDIT) 0 0 (min 64 (s.rd (.sec .STAT_CREDIT) + 1)))

/-! ### Tamper (R444 to R447) -/

/-- The conditions of the sensors become `present`: those that are gone end (R445, R476). -/
def State.setPresent (s : State) (present : Nat) : State :=
  let s := s.wr (.sec .TAMPER_ACTIVE) 0 0 present
  each ((List.range 8).filter fun i => !present.testBit i) (fun i s => s.endCond 0x9000 (i + 1)) s

/-- Step 7 of R447: the event is logged. -/
def State.logTamper (s : State) (k : Nat) : State :=
  let c := b2n (class2 k)
  let n := s.rd (.tick .NUMBER)
  let s := ((s.inc (.sec .TAMPER_EVENTS) 0 0).wr (.sec .TLOG_SENSOR) 0 0 k).wr (.sec .TLOG_CLASS) 0 0 c
  let log := s.tamperLog ++ [(k, c, n)]
  State.wr { s with tamperLog := log.drop (log.length - 256) } (.sec .TLOG_TICK) 0 0 n

/-- Step 8 of R447: the secret slots are erased, and OWNED and FIELD become RETURN. -/
def State.loseSecrets (s : State) : State :=
  let s := s.eraseSlots [12, 13, 14, 15]
  if s.lc = 2 ∨ s.lc = 3 then (s.burn (s.freeBit 56 64)).wr (.sec .STAT_LC) 0 0 4 else s

/-- The response to a trip of sensor `k` (R447). -/
def State.tamperResponse (s : State) (k : Nat) : State :=
  let s := s.voidTick 0x0D 0 0
  let s := (s.wipeOasis.setLevel 0).failLoad 0x53
  let s := s.wr (.sec .TAMPER_LATCHED) 0 0 (s.rd (.sec .TAMPER_LATCHED) ||| 2 ^ (k - 1))
  let s := if class2 k then s.wr (.sec .TAMPER_CLASS2) 0 0 1 else s
  let s := s.raiseCond 0x9000 k (if class2 k then 2 else 1)
  let s := if (s.rd (.sec .TAMPER_ACTIVE)).testBit (k - 1) then s else s.endCond 0x9000 k
  let s := if s.imageActive then s.clearImage else s
  let s := (s.logTamper k).eraseSeal
  if class2 k then s.loseSecrets else s

/-- TAMPER_EVENT (R444, R447): sensor `k` trips, with the conditions of `present` standing, bit i for sensor i + 1. While the
security processor is held in reset the trip is latched for secure boot (R550). -/
def execTamperEvent (k present : Nat) (s : State) : Answer :=
  act (decide (1 ≤ k) && decide (k ≤ 8) && decide (present < 256)) s
    (if s.has (.mod .stby) 0 0 0 then s
     else
       let s := s.setPresent present
       if s.served then s.tamperResponse k
       else
         let s := s.wr (.sec .TAMPER_LATCHED) 0 0 (s.rd (.sec .TAMPER_LATCHED) ||| 2 ^ (k - 1))
         s.wr (.sec .tamperWait) 0 0 (s.rd (.sec .tamperWait) ||| 2 ^ (k - 1)))

/-! ### Secure boot (R426, R427, R551) -/

/-- Whether firmware copy `j` boots: it holds a package whose signatures verify, of a security version that may run. -/
def State.copyBoots (s : State) (j : Nat) (ok : Bool) : Bool :=
  ok && s.has (.sec .fwOk) 0 j 1 && decide (s.secCnt 0 ≤ s.rd (.sec .fwSvn) 0 j) && s.slotUsable s.rootSlot

/-- The copy that starts (R426 steps 3 to 5): the pending or else the active one, then the other. -/
def State.bootCopy (s : State) (okA okB : Bool) : Option Nat :=
  let act := s.rd (.sec .active)
  let first := if s.has (.sec .FW_PENDING) 0 0 1 then 1 - act else act
  [first, 1 - first].find? fun j => s.copyBoots j (if j = 0 then okA else okB)

/-- Copy `j` runs (R426 step 6, R450 SEC_FW). -/
def State.runCopy (s : State) (j : Nat) : State :=
  let s := if j = s.rd (.sec .active) then s else (s.wr (.sec .active) 0 0 j).wr (.sec .FW_PENDING) 0 0 0
  let s := ((s.wr (.sec .FW_COPY) 0 0 j).wr (.sec .FW_RELEASE) 0 0 (s.rd (.sec .fwRel) 0 j)).wr (.sec .FW_ROOT) 0 0 s.rootSlot
  s.wr (.sec .FW_OTHER_OK) 0 0 (s.rd (.sec .fwOk) 0 (1 - j))

/-- The sealed Oasis is restored where its tag verifies, and erased where it does not (R443). -/
def State.restoreOasis (s : State) (ok : Bool) : State :=
  if s.has (.sec .STAT_OASIS_SEALED) 0 0 0 then s else if ok then { s with oasis := s.sealedOasis } else s.eraseSeal

/-- SECURE_BOOT (R426, R427, R551): the security processor's reset is released. `fuses`: every fuse word has its parity;
`roots`: the root slots that match their digests, one bit each; `okA`, `okB`: the hash and both signatures of each copy
verify; `present`: the tamper conditions that stand; `sealOk`: the tag of the sealed copy verifies; `link`: the management
link is up. -/
def execSecureBoot (fuses : Bool) (roots : Nat) (okA okB : Bool) (present : Nat) (sealOk link : Bool) (s : State) : Answer :=
  actCore (decide (roots < 4) && decide (present < 256)) s
    (if s.has (.od .up) 0 0 1 then s
     else
       let s := s.wr (.sec .KEYS_PRESENT) 0 0 (s.rd (.sec .KEYS_PRESENT) / 4 * 4 + roots)
       let s := if s.has (.sec .kill) 0 0 1 then s.wr (.sec .STAT_LC) 0 0 5 else s
       let s := s.setPresent present
       let seen := s.rd (.sec .tamperWait) ||| present
       let s := each ((List.range 8).filter fun i => seen.testBit i) (fun i s => s.tamperResponse (i + 1)) s
       let s := ((s.wr (.sec .tamperWait) 0 0 0).wr (.sec .STAT_OASIS_BUSY) 0 0 0).wr (.od .ETH_LINK) 0 0 (b2n link)
       match if fuses then s.bootCopy okA okB else none with
       | none =>
         let s := s.wr (.sec .STAT_RECOVERY) 0 0 1
         State.initialise { s with conditions := s.conditions ++ [(0x6010, 1)] }
       | some j =>
         let s := ((s.runCopy j).restoreOasis sealOk).defaultRoutes.tryCompat
         let s := s.initialise
         if s.has (.cfg .csLow) 0 0 1 then s.csFalls else s)

end Sys2Proof.Machine
end

