-- ==== Sys2Proof/Machine/Csr.lean ====
section
/-! DEFINITION. Access to the registers of CSR space (R12, R20, R21): what a register reads as, and what a write to it does,
for the initiator that makes it (NI 0x000 the service processors, NI 0x002 the debug master). -/

namespace Sys2Proof.Machine

/-! ### Where fields stand -/

/-- The fields of a block code (R21). -/
def codeFields (block : Nat) : List Fld :=
  match block with
  | 0 => blockFields 6
  | 1 => blockFields 0
  | 2 => blockFields 11
  | 3 => blockFields 12
  | 4 => blockFields 15
  | 5 => blockFields 17
  | 6 => blockFields 4
  | 7 => blockFields 5
  | 8 => blockFields 1
  | 9 => blockFields 2
  | 10 => blockFields 3 ++ blockFields 14
  | 11 => blockFields 13
  | 12 | 13 | 14 | 15 => blockFields 7
  | 16 => blockFields 8
  | 17 => blockFields 9
  | 18 => blockFields 10
  | 19 => blockFields 16
  | _ => []

/-- How many registers of a field's array unit `u` has: a die has three links, and the Plinth one unit, five PLLs and five
domains (R71, R233, R361). -/
def countIn (f : Fld) (u : Nat) : Nat :=
  match f with
  | .seif _ => if u ≠ 0 then min 3 f.info.count else f.info.count
  | .tick .UNIT_SLACK | .tick .UNIT_PRESENT | .tick .UNIT_LATE => if u = 0 then 1 else 16
  | .clk .PLL_N | .clk .PLL_F | .clk .PLL_D | .clk .PLL_EN | .clk .PLL_LOCK | .clk .PLL_UNLOCK | .clk .PLL_LOSSES => if u = 0 then 5 else 7
  | .clk .DOM_ACT | .clk .DOM_PLLSEL | .clk .DOM_TDIV | .clk .DOM_AUTORET | .clk .DOM_INTR | .clk .DOM_FORCED | .clk .DOM_GUARD
  | .clk .DOM_FNOM | .clk .DOMCTL_CMD | .clk .DOMCTL_REFUSE => if u = 0 then 5 else 18
  | _ => f.info.count

/-- The index of a field whose register stands at offset `off` of unit `u`, if it does. -/
def fieldAt (u off : Nat) (f : Fld) : Option (Fld × Nat) :=
  let i := f.info
  let k := off - i.reg
  if i.acc ≠ .hid ∧ (if u = 0 then i.plinth else i.die) ∧ i.reg ≤ off ∧ k % i.stride = 0 ∧ k / i.stride < countIn f u then
    some (f, k / i.stride)
  else none

/-- The offset within the window of the queue manager, which spans four block codes (R21). -/
def windowOff (block off : Nat) : Nat := if 12 ≤ block ∧ block ≤ 15 then (block - 12) * 2 ^ 18 + off else off

/-- The fields of the register at an offset, each with its index. -/
def csrFields (u block off : Nat) : List (Fld × Nat) := (codeFields block).filterMap (fieldAt u (windowOff block off))

/-- A register of a 64-bit pair (R72): the pair's number and whether it is _HI. -/
def pairAt (u block off : Nat) : Option (Nat × Bool) :=
  if u ≠ 0 then none
  else if block = 1 ∧ 6 ≤ off ∧ off ≤ 13 then some ((off - 6) / 2, off % 2 == 1)
  else if block = 3 ∧ (off = 4 ∨ off = 5) then some (4, off == 5)
  else none

/-- Whether the register exists. -/
def csrExists (u block off : Nat) : Bool := (pairAt u block off).isSome || !(csrFields u block off).isEmpty

/-! ### Reads -/

/-- The head of the queue of debug events (R520). -/
def State.dbgHead (s : State) : Nat := s.dbgEvents.headD 0

/-- What a field reads as: what it holds, or what its rule computes from the state. -/
def State.fieldValue (s : State) (f : Fld) (u j : Nat) : Nat :=
  match f with
  | .qm .POOL_FREE => s.poolFree
  | .qm .QSTAT_OCC => s.qOcc j
  | .qm .QSTAT_OPEN => s.qOpen j
  | .qm .QSTAT_CURRENT => b2n ((s.qPkts j).any fun p => p.stage == .current)
  | .qm .QSTAT_STAGED => b2n ((s.qPkts j).any fun p => p.stage == .staged || p.stage == .hostStaged)
  | .qm .QCNT_LO_CNT0 => s.qCount j 0
  | .qm .QCNT_LO_CNT1 => s.qCount j 1
  | .qm .QCNT_HI_CNT2 => s.qCount j 2
  | .qm .QCNT_HI_CNT3 => s.qCount j 3
  | .slc .SUM_RANGE_SLICES => s.stickyCount (u - 1) (.slc .STAT_RANGE)
  | .slc .SUM_WRAP_SLICES => s.stickyCount (u - 1) (.slc .STAT_WRAP)
  | .slc .STAT_ACTIVE => b2n (s.sliceRuns (u - 1) j && s.rd (.fab .TREE_DEPTH) u (s.rd (.slc .CFG_TREE) u j) != 0)
  | .fab .RSTTREE_ASSERTED => b2n (if j = 0 then s.runResetOn else s.userReset (u - 1) j (s.rd (.fab .RSTTREE_CLOCK) u j))
  | .erg .RTR_CFG_NO_T => b2n (s.noT u j)
  | .erg .RT_ROUTE_ROUTE => s.rtString u j
  | .erg .RT_DEST_DEST => s.rtDest u j
  | .erg .RT_DEST_VALID => b2n (s.rtValid u j)
  | .erg .DOM_CTRL_LIMIT => if u = 0 then 0 else s.rd f u j
  | .dbg .EVENT_VALID => slice s.dbgHead 0 1
  | .dbg .EVENT_UNIT => slice s.dbgHead 1 4
  | .dbg .EVENT_CMP => slice s.dbgHead 5 3
  | .dbg .EVENT_TICK => slice s.dbgHead 8 16
  | .dbg .EVENT_POS => slice s.dbgHead 24 24
  | .dbg .EVENT_PEEK_EVENT => s.dbgHead
  | .od .ETH_OPEN => s.sessions.length
  | .od .FPORT_DECLARED => (s.fobjs.filter fun o => o.die == j).length
  | .od .FPORT_PENDING => (s.fwrites.filter fun w => w.die == j).length
  | f => if f.info.acc = .wo then 0 else s.rd f u j

/-- A register as a read without side effects returns it. -/
def State.csrGet (s : State) (u block off : Nat) : Nat :=
  match pairAt u block off with
  | some (p, hi) => if hi then s.rd (pairLatch p) else s.pairValue p % 2 ^ 48
  | none => (csrFields u block off).foldl (fun a x => a + s.fieldValue x.1 u x.2 * 2 ^ x.1.info.lo) 0

/-- The bits of a register that the spec's rules leave to the lines, the supplies and the clock edges, as a mask (R317, R349,
R547): signal, lock, SNR and error counts of a lane in use, FEC counts of a port that is UP, the edges that a cycle guard has
suppressed, the voltage of a core rail that is on. -/
def State.liveMask (s : State) (u block off : Nat) : Nat :=
  if block = 17 ∧ u = 0 then
    if 0x120 ≤ off ∧ off < 0x138 then (if s.has (.pp .LSTAT_INUSE) 0 (off - 0x120) 1 then 0x3FFFFFF0 + 3 else 0)
    else if 0x220 ≤ off ∧ off < 0x240 then (if s.has (.pp .UCFG_USED) 0 (off - 0x220) 1 then 0x7FE6 else 0)
    else if 0xB0 ≤ off ∧ off < 0xB6 then (if s.portUp (off - 0xB0) then 2 ^ 48 - 1 else 0)
    else 0
  else if block = 0 ∧ u ≠ 0 ∧ off = 0 then (if s.has (.mod .dieOn) 0 (u - 1) 1 then 0x7FF8 else 0)
  else if block = 2 ∧ 0x20 ≤ off ∧ off < 0x32 then 0x1FFFE0000
  else 0

/-- What a read of a register comes to: status and DETAIL of R182, the value, its poison mark, and the state after it. -/
structure CsrRead where
  status : Nat
  detail : Nat
  value : Nat
  poison : Bool
  st : State
  deriving DecidableEq, Repr

/-- A read that returns a value. -/
def CsrRead.ok (v : Nat) (s : State) : CsrRead := ⟨0, 0, v, false, s⟩

/-- Whether NI `src` is the debug master at level 2, which the monitor's requests are (R501). -/
def State.monitorTwo (s : State) (src : Nat) : Bool := src == 2 && s.has (.sec .STAT_DBG_LEVEL) 0 0 2

/-- The raw row registers of the checker test (R152). -/
def isTestReg (u block off : Nat) : Bool := u != 0 && block == 10 && decide (0x20 ≤ off) && decide (off ≤ 0x23)

/-- Whether a register belongs to a user lane of an isolated die, which reads and writes DOMAIN_OFF (R312). -/
def State.laneGone (s : State) (u block off : Nat) : Bool :=
  u == 0 && block == 17 && decide (0x200 ≤ off) && decide (off < 0x280) && s.isolated (off % 32 / 4)

/-- A read of QM_POP(q) or QM_PEEK(q) (R261). -/
def State.queueRegRead (s : State) (q src : Nat) (pop : Bool) : CsrRead :=
  match if pop then s.popReg q (s.logicalNi src) ⟨[], []⟩ else s.peekReg q ⟨[], []⟩ with
  | (.inl c, s) => ⟨10, c, 0, false, s⟩
  | (.inr i, s) => ⟨0, 0, i.data, i.poison, s⟩

/-- The oldest debug event leaves its queue (R520). -/
def State.popEvent (s : State) : State :=
  let l := s.dbgEvents.drop 1
  State.wr { s with dbgEvents := l } (.dbg .STAT_QUEUED) 0 0 l.length

/-- A read of the register at `off` of a block of unit `u` by NI `src` (R12, R14, R72, R182). -/
def State.csrRead (s : State) (src u block off : Nat) : CsrRead :=
  if !csrExists u block off then ⟨1, 0, 0, false, s⟩
  else if (u != 0 && s.isolated (u - 1)) || s.laneGone u block off then ⟨4, 0, 0, false, s⟩
  else if isTestReg u block off && !s.monitorTwo src then ⟨3, 0, 0, false, s⟩
  else
    let w := windowOff block off
    if 12 ≤ block ∧ block ≤ 15 ∧ 0x80000 ≤ w ∧ (w % 8 = 4 ∨ w % 8 = 5) then
      s.queueRegRead ((w - 0x80000) / 8) src (w % 8 == 4)
    else
      match pairAt u block off with
      | some (p, false) => .ok (s.pairValue p % 2 ^ 48) (s.wr (pairLatch p) 0 0 (s.pairValue p / 2 ^ 48))
      | some (p, true) => .ok (s.rd (pairLatch p)) s
      | none =>
        let v := s.csrGet u block off
        if u = 0 ∧ block = 5 ∧ off = 2 then .ok v s.popEvent
        else
          let m := s.liveMask u block off
          if m = 0 then .ok v s
          else .ok ((v &&& ((2 ^ 48 - 1) ^^^ m)) ||| (s.freeValue 48 &&& m)) s.spend

/-! ### Writes -/

/-- What a write to a register comes to: status and DETAIL of R182, whether the block has refused or ignored it (R465
0x0800_0020), and the state after it. -/
structure CsrWrite where
  status : Nat
  detail : Nat
  dropped : Bool
  st : State
  deriving DecidableEq, Repr

/-- A write that the block has taken. -/
def took (s : State) : CsrWrite := ⟨0, 0, false, s⟩

/-- A write that the block ignores. -/
def ignored (s : State) : CsrWrite := ⟨0, 0, true, s⟩

/-- A write that is denied. -/
def denied (s : State) : CsrWrite := ⟨3, 0, true, s⟩

/-- A command whose refusal code field `f` then holds; 0 is accepted. -/
def judged (f : Fld) (u j : Nat) (s : State) : CsrWrite := ⟨0, 0, s.rd f u j != 0, s⟩

/-- A field is written from its bits of `v` as its access code says (R12). -/
def State.putField (s : State) (u : Nat) (v : Nat) (x : Fld × Nat) : State :=
  let i := x.1.info
  match i.acc with
  | .rw => s.wr x.1 u x.2 (slice v i.lo i.width)
  | .w1c => s.wr x.1 u x.2 (s.rd x.1 u x.2 &&& ((2 ^ i.width - 1) ^^^ slice v i.lo i.width))
  | _ => s

/-- A register is written field by field as the access codes say. -/
def State.plainWrite (s : State) (u block off v : Nat) : State := each (csrFields u block off) (fun x s => s.putField u v x) s

/-- Only the w1c fields of a register are written. -/
def State.clearBits (s : State) (u block off v : Nat) : State :=
  each ((csrFields u block off).filter fun x => x.1.info.acc == .w1c) (fun x s => s.putField u v x) s

/-- A change of TICK_SRC.SRC: a free-running time base runs at CLK_TB.FREE and is locked, and another source has yet to bring it into lock (R31). -/
def State.sourceChanged (s : State) : State := if s.has (.tick .SRC_SRC) 0 0 0 then s.freeRate.gainLock else s.loseLock

/-- TICK_CTRL.CMD (R40, R72). -/
def State.tickCommand (s : State) (cmd : Nat) : CsrWrite :=
  match cmd with
  | 1 => judged (.tick .STATE_REFUSE) 0 0 (after (execTickArm s.time s) s)
  | 2 => judged (.tick .STATE_REFUSE) 0 0 (after (execTickResume s.time s) s)
  | 3 => judged (.tick .STATE_REFUSE) 0 0 (after (execTickPause s) s)
  | 4 => judged (.tick .STATE_REFUSE) 0 0 (after (execTickStop s) s)
  | _ => took s

/-- A register of the TICK block (R72, R73). A write of _HI is kept in every tick state, and a reserved code of TICK_SRC as it
is written; a change of SRC alone decides lock anew (log entries 20, 115). -/
def State.writeTick (s : State) (u off v : Nat) : CsrWrite :=
  if u ≠ 0 then
    if off = 4 then took (after (execTickSlackClr (u - 1) v s) s) else took (s.plainWrite u 1 off v)
  else
    match off with
    | 0 => s.tickCommand (v % 8)
    | 2 | 3 => if s.tickIdle then took (s.plainWrite 0 1 off v) else ignored s
    | 6 => if s.tickIdle then took (after (execPairLoWrite 0 v s) s) else ignored s
    | 7 => took (s.wr (.tick .originHi) 0 0 v)
    | 8 => took (after (execPairLoWrite 1 v s) s)
    | 9 => took (s.wr (.tick .startHi) 0 0 v)
    | 10 => if s.tick = 0 ∨ s.tick = 4 then took (after (execPairLoWrite 2 v s) s) else ignored s
    | 11 => took (s.wr (.tick .numberHi) 0 0 v)
    | 14 =>
      let t := s.plainWrite 0 1 14 v
      took (if t.rd (.tick .SRC_SRC) = s.rd (.tick .SRC_SRC) then t else t.sourceChanged)
    | 17 => took (after (execTickWdogPeriodWrite v s) s)
    | 18 => took (after (execTickWdogKick v s) s)
    | _ => took (s.plainWrite 0 1 off v)

/-- CLK_REF (R345, R362): a new selection moves the reference to it, or to its replacement while it is not good. -/
def State.writeReference (s : State) (v : Nat) : CsrWrite :=
  let src := v % 4
  if src = 3 then ignored s
  else
    let was := s.rd (.clk .REF_SRC)
    let s := s.plainWrite 0 2 3 v
    if src = was then took s
    else
      let good := fun (k : Nat) => k != 0 && s.has (.clk .XIN_GOOD) 0 (k - 1) 1
      took (s.switchReference
        (if src = 0 then 0 else if good src then src else if s.has (.clk .REF_ALT) 0 0 1 && good (3 - src) then 3 - src else 0))

/-- CLK_XIN(i) (R344, R362): a frequency outside its range is ignored; 0 marks the input unused. -/
def State.writeXin (s : State) (i v : Nat) : CsrWrite :=
  let f := v % 65536
  let s := s.clearBits 0 2 (4 + i) v
  if f ≠ 0 ∧ (f < 10000 ∨ 50000 < f) then ignored s
  else
    let s := s.wr (.clk .XIN_FREQ) 0 i f
    took (if f = 0 ∧ s.has (.clk .XIN_GOOD) 0 i 1 then after (execXinLost i s) s else s)

/-- A register of the CLK block (R361, R362). -/
def State.writeClk (s : State) (u off v : Nat) : CsrWrite :=
  if off = 2 then (if v % 4 = 3 then ignored s else took (s.plainWrite u 2 2 v))
  else if u = 0 ∧ off = 3 then s.writeReference v
  else if u = 0 ∧ (off = 4 ∨ off = 5) then s.writeXin (off - 4) v
  else if u = 0 ∧ off = 8 then
    let free := toSigned 24 (slice v 16 24)
    if free < -200000 ∨ 200000 < free then ignored s
    else took (State.freeRate ((s.wr (.clk .TB_STEP) 0 0 v).wr (.clk .TB_FREE) 0 0 (slice v 16 24)))
  else if 0x10 ≤ off ∧ off < 0x17 then
    let k := off - 0x10
    let s := s.clearBits u 2 off v
    let p := s.pllSet u k
    if p.n = slice v 0 7 ∧ p.f = slice v 7 24 ∧ p.d = slice v 31 7 then took s
    else if u = 0 ∨ k = 6 then ignored s
    else
      let s := s.rewritePll u k v
      let q := s.pllSet u k
      ⟨0, 0, !(q.n == slice v 0 7 && q.f == slice v 7 24 && q.d == slice v 31 7), s⟩
  else if 0x20 ≤ off ∧ off < 0x32 then
    let x := off - 0x20
    let s := (s.clearBits u 2 off v).wr (.clk .DOM_AUTORET) u x (slice v 7 1)
    if u = 0 ∨ 16 ≤ x then took s
    else if slice v 2 3 = s.rd (.clk .DOM_PLLSEL) u x ∧ slice v 5 2 = s.rd (.clk .DOM_TDIV) u x then took s
    else judged (.clk .DOMCTL_REFUSE) u x (s.rewriteTree u x v)
  else if 0x40 ≤ off ∧ off < 0x52 then
    let x := off - 0x40
    match v % 4 with
    | 1 => judged (.clk .DOMCTL_REFUSE) u x (after (execClkRestore u x s) s)
    | 2 => judged (.clk .DOMCTL_REFUSE) u x (after (execClkFallback u x s) s)
    | _ => took s
  else took (s.plainWrite u 2 off v)

/-- A register of the CFG block (R391). -/
def State.writeCfg (s : State) (u off v : Nat) : CsrWrite :=
  if u = 0 ∧ off = 1 then
    if s.loading then ignored (s.wr (.cfg .STAT_REFUSE) 0 0 3)
    else
      let s := ((s.wr (.cfg .CTRL_SRC) 0 0 v).wr (.cfg .CTRL_AUTO) 0 0 (v / 2)).wr (.cfg .CTRL_PLACE) 0 0 (slice v 2 4)
      if slice v 6 16 = 0 then ignored s else took (s.wr (.cfg .CTRL_TMO) 0 0 (slice v 6 16))
  else if u = 0 ∧ off = 2 then
    match v % 4 with
    | 1 => judged (.cfg .STAT_REFUSE) 0 0 (after (execCfgStart s) s)
    | 2 => judged (.cfg .STAT_REFUSE) 0 0 (after (execCfgAbort s) s)
    | 3 => judged (.cfg .STAT_REFUSE) 0 0 (after (execCfgClear s) s)
    | _ => took s
  else took (s.plainWrite u 3 off v)

/-- A register of the SEC block (R449): every field but the latches of class 1 is denied. -/
def State.writeSec (s : State) (off v : Nat) : CsrWrite :=
  if off = 0x10 then took (s.wr (.sec .TAMPER_LATCHED) 0 0 (s.rd (.sec .TAMPER_LATCHED) &&& (0xFF ^^^ (slice v 8 8 &&& 0xB8))))
  else denied s

/-- A register of the DBG block (R519, R520): only the monitor writes comparators; a write of CFG arms anew. -/
def State.writeDbg (s : State) (src u off v : Nat) : CsrWrite :=
  if u = 0 then took s
  else if 0x10 ≤ off ∧ off < 0x30 then
    if src ≠ 2 then denied s
    else
      let s := s.plainWrite u 5 off v
      took (if off % 4 = 0 then s.wr (.dbg .CMP_CNT_HITS) u ((off - 0x10) / 4) 0 else s)
  else took s

/-- A route entry that the default tables gave becomes the host's own, as it stood (R170). -/
def State.ownRoute (s : State) (u j : Nat) : State :=
  if s.rtDefault u j then
    let r := s.rtString u j
    let d := s.rtDest u j
    let v := s.rtValid u j
    (((s.wr (.erg .rtOwn) u j 1).wr (.erg .RT_ROUTE_ROUTE) u j r).wr (.erg .RT_DEST_DEST) u j d).wr (.erg .RT_DEST_VALID) u j (b2n v)
  else s

/-- A register of the ERG block (R196, R197). -/
def State.writeErg (s : State) (u off v : Nat) : CsrWrite :=
  if 0x10 ≤ off ∧ off < 0x20 then
    let r := off - 0x10
    match v % 4 with
    | 1 => judged (.erg .RTR_STAT_REFUSE) u r (after (execRouterClose u r s) s)
    | 2 => judged (.erg .RTR_STAT_REFUSE) u r (after (execRouterOpen u r s) s)
    | _ => took s
  else if 0x30 ≤ off ∧ off < 0x40 then
    judged (.erg .RTR_STAT_REFUSE) u (off - 0x30) (after (execRouterCfgWrite u (off - 0x30) 0 v s) s)
  else if 0x40 ≤ off ∧ off < 0x50 then (if v % 65536 = 0 then ignored s else took (s.wr (.erg .NI_CFG_QUAR) u (off - 0x40) v))
  else if off = 0x80 then (if u = 0 ∨ v % 65536 = 0 then ignored s else took (s.wr (.erg .DOM_CTRL_LIMIT) u 0 v))
  else if 0x100 ≤ off ∧ off < 0x140 then
    (if slice v 3 16 = 0 then ignored s else took (s.wr (.erg .CH_CFG_TMO) u (off - 0x100) (slice v 3 16)))
  else if 0x10000 ≤ off ∧ off < 0x18000 then
    let j := (off - 0x10000) / 2
    let s := s.ownRoute u j
    if off % 2 = 0 then took (s.wr (.erg .RT_ROUTE_ROUTE) u j v)
    else
      let s := s.wr (.erg .RT_DEST_VALID) u j (slice v 10 1)
      if j % 1024 < 0x90 then ⟨0, 0, v % 1024 != j % 1024, s.wr (.erg .RT_DEST_DEST) u j (j % 1024)⟩
      else took (s.wr (.erg .RT_DEST_DEST) u j v)
  else if 0x20000 ≤ off then
    let j := off - 0x20000
    judged (.erg .RTR_STAT_REFUSE) u (j / 1024) (after (execRouterCfgWrite u (j / 1024) (1 + j % 1024) v s) s)
  else took (s.plainWrite u 6 off v)

/-- A register of the SEIF block (R234). -/
def State.writeSeif (s : State) (u off v : Nat) : CsrWrite :=
  if off < 0x80 ∧ off % 16 = 0 then
    let l := off / 16
    if v % 4 = 0 then took s else judged (.seif .STAT_REFUSE) u l (s.sideCommand u l (v % 4))
  else if 0x120 ≤ off ∧ off < 0x128 then
    let d := off - 0x120
    match v % 4 with
    | 1 => judged (.seif .DIE_REFUSE) 0 d (after (execIsolate d s) s)
    | 2 => judged (.seif .DIE_REFUSE) 0 d (after (execRejoin d s) s)
    | _ => took s
  else took (s.plainWrite u 7 off v)

/-- A register of the MOD block (R236, R547). -/
def State.writeMod (s : State) (u off v : Nat) : CsrWrite :=
  if u = 0 ∧ off = 0x100 then
    let f := slice v 16 16
    if f < 600 ∨ 3000 < f then ignored s else took (s.wr (.mod .BUDGET_FLOOR) 0 0 f)
  else if u ≠ 0 ∧ off = 0x100 then denied s
  else took (s.plainWrite u 0 off v)

/-- A register of the BANK block and the scrubber's beside it (R152, R161, R416, R417). -/
def State.writeBank (s : State) (src u off v : Nat) : CsrWrite :=
  let d := u - 1
  let two := s.monitorTwo src
  if off = 2 then took (s.setPolicy v)
  else if off = 0x10 then (if v % 2 = 0 ∧ s.tick ≠ 0 then ignored s else took (s.plainWrite u 10 off v))
  else if off = 5 then took (after (execBankEccClr d v s) s)
  else if isTestReg u 10 off then
    if !two then denied s
    else if off = 0x23 then
      match v % 4 with
      | 1 => took (after (execBankTestWriteRaw d true s) s)
      | 2 => took (after (execBankTestReadRaw d true s) s)
      | _ => took s
    else took (s.plainWrite u 10 off v)
  else if 0x1800 ≤ off ∧ off < 0x1A00 then
    let b := off - 0x1800
    let req := v % 8
    if req = 0 ∨ req = 7 then took s else judged (.bank .STAT_REFUSE) u b (s.powerRequest d b req two)
  else if off = 0x2000 then
    if src ≠ 0 then denied s
    else
      let (c, s) := s.scrubSettings d (v % 65536)
      if c = 0 then took s else ignored s
  else if off = 0x2005 then took (after (execScrubCntClr d v s) s)
  else took (s.plainWrite u 10 off v)

/-- The codes `v` of a word of 24 isolation cells as they are stored over `old`: a code of 3 is not taken (R397). -/
def isoCodes (old v : Nat) : Nat :=
  (List.range 24).foldl (fun a j => let c := slice v (2 * j) 2
    a + (if c = 3 then slice old (2 * j) 2 else c) * 4 ^ j) 0

/-- Word `w` of NCH_ISO of die `d`: a cell that is engaged and changes to HOLD holds what it drives (R397). -/
def State.writeIso (s : State) (d w v : Nat) : State :=
  let old := s.rd (.nch .ISO_CODES) (1 + d) w
  each (List.range 24) (fun i s => s.holdDriven d (w / 3) (24 * (w % 3) + i) (slice old (2 * i) 2))
    (s.wr (.nch .ISO_CODES) (1 + d) w (isoCodes old v))

/-- A register of the NCH block (R417). -/
def State.writeNch (s : State) (u off v : Nat) : CsrWrite :=
  if 0x10 ≤ off ∧ off < 0x1C then
    let x := off - 0x10
    match v % 4 with
    | 1 => judged (.nch .STAT_REFUSE) u x (s.nicheLoad (u - 1) x)
    | 2 => judged (.nch .STAT_REFUSE) u x (s.nicheClear (u - 1) x)
    | _ => took s
  else if 0x40 ≤ off ∧ off < 0x64 then took (s.writeIso (u - 1) (off - 0x40) v)
  else took (s.plainWrite u 11 off v)

/-- A register of the QM block (R248, R261). -/
def State.writeQm (s : State) (src w v : Nat) (poison : Bool) : CsrWrite :=
  if w = 1 then (if v % 65536 = 0 then ignored s else took (s.wr (.qm .CFG_OPEN_TMO) 0 0 v))
  else if w = 3 then
    let op := slice v 16 3
    if op = 0 ∨ op = 7 then took s else judged (.qm .CMDSTAT_REFUSE) 0 0 (s.queueCommand (v % 65536) op)
  else if w = 7 then took (after (execQmCntClr v s) s)
  else if 0x80000 ≤ w then
    let q := (w - 0x80000) / 8
    match w % 8 with
    | 0 => judged (.qm .CMDSTAT_REFUSE) 0 0 (s.writeQcfg q v)
    | 1 => took (each [QmF.QSTAT_DROP, .QSTAT_ABANDON, .QSTAT_NOTICE_LOST, .QSTAT_POISON] (fun f s => s.putField 0 v (.qm f, q)) s)
    | 6 | 7 =>
      let (c, s) := s.pushReg q (s.logicalNi src) (w % 8 == 7) ⟨v % 2 ^ 48, poison⟩
      if c = 0 then took s else ⟨10, c, true, s⟩
    | _ => took s
  else took (s.plainWrite 0 12 w v)

/-- The configuration registers of a partner port, by their distance of 16 from PP_CFG (R316, R317). -/
def portRegOf (k : Nat) : Option Nat := [(2, 0), (3, 1), (5, 2), (6, 3), (7, 4)].lookup k

/-- A register of the PP block (R317). -/
def State.writePp (s : State) (off v : Nat) : CsrWrite :=
  let p := off % 16
  if off = 1 then (if v.testBit 40 then took (s.wr (.pp .GRP_MAC_ADDR) 0 0 v) else ignored s)
  else if 0x10 ≤ off ∧ off < 0x20 then
    match v % 8 with
    | 1 => judged (.pp .STAT_REFUSE) 0 p (after (execPpEnable p s) s)
    | 2 => judged (.pp .STAT_REFUSE) 0 p (after (execPpDisable p s) s)
    | 3 => judged (.pp .STAT_REFUSE) 0 p (after (execPpRestart p s) s)
    | _ => took s
  else if off < 0x100 then
    match portRegOf (off / 16) with
    | some r => judged (.pp .STAT_REFUSE) 0 p (s.writePortReg r p v)
    | none => took (s.plainWrite 0 17 off v)
  else if 0x140 ≤ off ∧ off < 0x158 then judged (.pp .LTX_REFUSE) 0 (off - 0x140) (s.writeTaps false (off - 0x140) v)
  else if 0x160 ≤ off ∧ off < 0x178 then
    let j := off - 0x160
    let s := if v.testBit 37 then s.wr (.pp .LPRBS_ERR) 0 j 0 else s
    let t := s.writePattern false j v
    ⟨0, 0, !(t.has (.pp .LPRBS_GEN) 0 j (slice v 0 2) && t.has (.pp .LPRBS_CHK) 0 j (slice v 2 2)), t⟩
  else if 0x240 ≤ off ∧ off < 0x260 then judged (.pp .UTX_REFUSE) 0 (off - 0x240) (s.writeTaps true (off - 0x240) v)
  else if 0x260 ≤ off ∧ off < 0x280 then
    let j := off - 0x260
    let s := if v.testBit 37 then s.wr (.pp .UPRBS_ERR) 0 j 0 else s
    took (s.writePattern true j v)
  else took (s.plainWrite 0 17 off v)

/-- A register of the DDR block (R341). -/
def State.writeDdr (s : State) (off v : Nat) : CsrWrite :=
  if off = 1 then
    let op := v % 8
    if op = 1 ∨ op = 2 then judged (.ddr .CMDSTAT_REFUSE) 0 0 (s.ddrCommand op (slice v 3 3)) else took s
  else if off = 5 then took (after (execDdrCntClr v s) s)
  else took (s.plainWrite 0 18 off v)

/-- OD_CAN(i) (R456): EN and PROTO at once, the rates held; leaving the device without a path is refused. -/
def State.writeOdCan (s : State) (i v : Nat) : CsrWrite :=
  let en := v % 2
  if en = 0 ∧ s.has (.od .CAN_EN) 0 (1 - i) 0 ∧ s.has (.od .ETH_EN) 0 0 0 then ignored s
  else
    let s := (s.wr (.od .CAN_EN) 0 i en).wr (.od .CAN_PROTO) 0 i (slice v 6 1)
    let s := if en = 0 then s.wr (.od .CAN_STATE) 0 i 3 else if s.has (.od .CAN_STATE) 0 i 3 then s.wr (.od .CAN_STATE) 0 i 0 else s
    let s := ((s.wr (.od .heldFd) 0 i (v / 2)).wr (.od .heldNbr) 0 i (slice v 2 2)).wr (.od .heldDbr) 0 i (slice v 4 2)
    took (s.wr (.od .CAN_PENDING) 0 i
      (b2n (!(s.has (.od .CAN_FD) 0 i (slice v 1 1) && s.has (.od .CAN_NBR) 0 i (slice v 2 2) && s.has (.od .CAN_DBR) 0 i (slice v 4 2)))))

/-- Every UDP session is closed. -/
def State.closeSessions (s : State) : State := { s with sessions := [] }

/-- OD_ETH (R457, R493): a new ADDR takes effect at once and closes every session; a PREFIX outside 8 to 30 is ignored; the
last enabled path cannot be disabled (R456). -/
def State.writeOdEth (s : State) (v : Nat) : CsrWrite :=
  let en := v % 2
  if en = 0 ∧ s.has (.od .CAN_EN) 0 0 0 ∧ s.has (.od .CAN_EN) 0 1 0 then ignored s
  else
    let s := (s.wr (.od .ETH_EN) 0 0 en).wr (.od .ETH_ADDR) 0 0 (slice v 2 32)
    let s := s.closeSessions
    let k := slice v 34 6
    if k < 8 ∨ 30 < k then ignored s else took (s.wr (.od .ETH_PREFIX) 0 0 k)

/-- A write of `v` to the register at `off` of a block of unit `u` by NI `src` (R12, R182). -/
def State.csrWrite (s : State) (src u block off v : Nat) : CsrWrite :=
  if !csrExists u block off then ⟨1, 0, true, s⟩
  else if (u != 0 && s.isolated (u - 1)) || s.laneGone u block off then ⟨4, 0, true, s⟩
  else
    match block with
    | 0 => s.writeMod u off v
    | 1 => s.writeTick u off v
    | 2 => s.writeClk u off v
    | 3 => s.writeCfg u off v
    | 4 => s.writeSec off v
    | 5 => s.writeDbg src u off v
    | 6 => s.writeErg u off v
    | 7 => s.writeSeif u off v
    | 10 => s.writeBank src u off v
    | 11 => s.writeNch u off v
    | 12 | 13 | 14 | 15 => s.writeQm src (windowOff block off) v false
    | 17 => s.writePp off v
    | 18 => s.writeDdr off v
    | 9 => if off = 3 then took (if v % 2 = 1 then after (execAsStickyClr (u - 1) s) s else s) else took (s.plainWrite u 9 off v)
    | 16 => if off = 6 then took (after (execCvnCntClr v s) s) else took (s.plainWrite u 16 off v)
    | 19 =>
      match off with
      | 2 | 3 => s.writeOdCan (off - 2) v
      | 4 => s.writeOdEth v
      | _ => took (s.plainWrite u 19 off v)
    | _ => took (s.plainWrite u block off v)

/-- A word of a packet written to a register: QM_PUSH and QM_PUSHEND keep its poison mark (R241), another register takes 0 for
a poisoned word. -/
def State.csrWriteMarked (s : State) (src u block off : Nat) (x : Nat × Bool) : CsrWrite :=
  let w := windowOff block off
  if x.2 ∧ u = 0 ∧ 12 ≤ block ∧ block ≤ 15 ∧ 0x80000 ≤ w ∧ 6 ≤ w % 8 then s.writeQm src w 0 true
  else s.csrWrite src u block off (if x.2 then 0 else x.1)

/-- Whether a Plinth initiator does not reach a unit: the spoke of a die is not ACTIVE, so that the request receives ROUTE (R206). -/
def State.noSpoke (s : State) (u : Nat) : Bool := u != 0 && !s.linkActive 0 (u - 1)

/-- A read by a Plinth initiator, which crosses the die's spoke (R206). -/
def State.hubRead (s : State) (u block off : Nat) : CsrRead :=
  if csrExists u block off && s.noSpoke u && !s.isolated (u - 1) then ⟨7, 0, 0, false, s⟩ else s.csrRead 0 u block off

/-- A write by a Plinth initiator `src`, which crosses the die's spoke (R206). -/
def State.hubWrite (s : State) (src u block off v : Nat) : CsrWrite :=
  if csrExists u block off && s.noSpoke u && !s.isolated (u - 1) then ⟨7, 0, true, s⟩ else s.csrWrite src u block off v

/-- REGISTER_WRITE (R12): NI `src` writes `v` to the register at `off` of block `block` of unit `u`; what is no register of
its own row acts by its access code. A Plinth NI reaches a die over its spoke (R206). -/
def execRegisterWrite (src u block off v : Nat) (s : State) : Answer :=
  actCore (blockExists u block && csrExists u block off && decide (v < 2 ^ 48)) s
    (if src < 16 then s.hubWrite src u block off v else s.csrWrite src u block off v).st

end Sys2Proof.Machine
end

