-- ==== Sys2Proof/Machine/OdObjects.lean ====
section
/-! DEFINITION. The object dictionary's table (R461 to R465, R477 to R491 and the object tables of the chapters): which objects
there are, their types, access and mapping, and where their values come from. -/

namespace Sys2Proof.Machine

/-- Access codes of R464. -/
inductive OAcc where
  | ro | wo | rw | rww | rwr | const
  deriving DecidableEq, Repr

/-- Objects with a rule of their own. -/
inductive Own where
  /-- 0x1001, 0x1003:00 and 0x1003:01 to 10 (R475, R478). -/
  | errorRegister | errorCount | errorField (k : Nat)
  /-- 0x1006 and 0x1012 (R359). -/
  | cyclePeriod | timeCob
  /-- Commands that name their target: clock domains (R363), niches (R418), the selected queue (R262). -/
  | clockCommand (u : Nat) | nicheCommand (d : Nat) | queueCommand | queueRefusal
  /-- Registers of the selected queue and word `w` of the selected context (R262, R287). -/
  | queueConfig | queuePop | queuePeek | queuePush (last : Bool) | ctxWord (w : Nat)
  /-- 0x2700:01 and 0x2720 + d:01 (R484, R418). -/
  | policy | scrubSet (d : Nat)
  /-- 0x2200:08 (R370). -/
  | imageData
  /-- The security functions (R451). -/
  | signedCommand | firmware | nonce | token | hostCommand | oasisPut
  /-- The monitor's request (R521). -/
  | monitorRequest
  /-- Sub-index `sub` of fabric object `idx` (R489 to R491). -/
  | fabric (idx sub : Nat)
  deriving DecidableEq, Repr

/-- Where an object's value comes from. -/
inductive ObjSrc where
  /-- A fixed value. -/
  | val (v : Nat)
  /-- A fixed string of bytes. -/
  | bytes (l : List Nat)
  /-- A value that the dictionary itself holds. -/
  | held
  /-- A register (R462). -/
  | reg (u block off : Nat)
  /-- One field of a register, read only. -/
  | fld (f : Fld) (u j : Nat)
  /-- A register pair of the Plinth presented as one value (R72, R462). -/
  | pair (block off : Nat)
  /-- Reads 0, and a write is ignored (R363, R481). -/
  | empty
  | own (k : Own)
  deriving DecidableEq, Repr

/-- One sub-index: data type of R461, access, whether it may be mapped, and its source. -/
structure ObjRow where
  type : Nat
  acc : OAcc
  map : Bool
  src : ObjSrc
  deriving DecidableEq, Repr

/-- Whether a data type is an integer type. -/
def isInteger (t : Nat) : Bool := typeBytes t != 0 && t != 0x0C

/-- A constant UNSIGNED8: the highest sub-index of an object. -/
def highest (v : Nat) : Option ObjRow := some ⟨0x05, .const, false, .val v⟩

/-- Some row. -/
def obj (t : Nat) (a : OAcc) (m : Bool) (src : ObjSrc) : Option ObjRow := some ⟨t, a, m, src⟩

/-- UNSIGNED8, read and write, held. -/
def heldByte : Option ObjRow := obj 0x05 .rw false .held

/-! ### Communication (R478) -/

/-- A decimal digit as a character. -/
def digit (v : Nat) : Nat := 0x30 + v % 10

/-- A stepping of R214 as two characters. -/
def stepText (v : Nat) : List Nat := [0x40 + v / 16, digit (v % 16)]

/-- 0x1018:03 (R218, R219). -/
def State.revisionNumber (s : State) : Nat :=
  s.rd (.seif .COMPAT_LEVEL) * 65536 + s.rd (.sec .FW_RELEASE)

/-- 0x1018:02. -/
def productCode : Nat :=
  Config.n * 2 ^ 24 + (if Config.grade = 0 then 10 else 8) * 65536 + (if Config.tempGrade = 0 then 0x45 else 0x58) * 256 +
    (0x40 + Config.revision)

/-- 0x100A. -/
def State.softwareVersion (s : State) : List Nat :=
  let r := s.rd (.sec .FW_RELEASE)
  [0x46, 0x57, 0x20, digit (r / 10000), digit (r / 1000), digit (r / 100), digit (r / 10), digit r]

/-- A PDO's communication and mapping parameters, `k` 0 for an RPDO and 1 for a TPDO. -/
def pdoRow (mapping : Bool) (tx : Bool) (sub : Nat) : Option ObjRow :=
  if mapping then
    if sub = 0 then heldByte else if sub ≤ 16 then obj 0x07 .rw false .held else none
  else
    match sub with
    | 0 => highest (if tx then 6 else 5)
    | 1 => obj 0x07 .rw false .held
    | 2 => heldByte
    | 3 => if tx then obj 0x06 .rw false .held else none
    | 5 => obj 0x06 .rw false .held
    | 6 => if tx then heldByte else none
    | _ => none

/-- The objects 0x1000 to 0x1A07. -/
def State.commRow (s : State) (idx sub : Nat) : Option ObjRow :=
  let only := fun (r : Option ObjRow) => if sub = 0 then r else none
  match idx with
  | 0x1000 => only (obj 0x07 .const false (.val (Config.n * 65536)))
  | 0x1001 => only (obj 0x05 .ro true (.own .errorRegister))
  | 0x1003 =>
    if sub = 0 then obj 0x05 .rw false (.own .errorCount)
    else if sub ≤ 16 then obj 0x07 .ro false (.own (.errorField sub)) else none
  | 0x1005 => only (obj 0x07 .rw false .held)
  | 0x1006 => only (obj 0x07 .rw false (.own .cyclePeriod))
  | 0x1008 => only (obj 0x09 .const false (.bytes [0x47, 0x4C, 0x56, digit Config.n]))
  | 0x1009 => only (obj 0x09 .const false (.bytes ([0x4D, 0x40 + Config.revision, 0x20, 0x50] ++ stepText Config.plinthStep)))
  | 0x100A => only (obj 0x09 .ro false (.bytes s.softwareVersion))
  | 0x1012 => only (obj 0x07 .rw false (.own .timeCob))
  | 0x1014 => only (obj 0x07 .rw false .held)
  | 0x1015 => only (obj 0x06 .rw false .held)
  | 0x1016 => if sub = 0 then highest 4 else if sub ≤ 4 then obj 0x07 .rw false .held else none
  | 0x1017 => only (obj 0x06 .rw false .held)
  | 0x1018 =>
    match sub with
    | 0 => highest 4
    | 1 => obj 0x07 .const false (.val 0xA1D)
    | 2 => obj 0x07 .const false (.val productCode)
    | 3 => obj 0x07 .ro false (.val s.revisionNumber)
    | 4 => obj 0x07 .const false (.val (s.deviceId % 2 ^ 32))
    | _ => none
  | 0x1019 => only heldByte
  | 0x1029 => if sub = 0 then highest 1 else if sub = 1 then heldByte else none
  | 0x1200 =>
    match sub with
    | 0 => highest 2
    | 1 => obj 0x07 .ro false (.val (0x600 + s.nodeId))
    | 2 => obj 0x07 .ro false (.val (0x580 + s.nodeId))
    | _ => none
  | _ =>
    if 0x1400 ≤ idx ∧ idx < 0x1408 then pdoRow false false sub
    else if 0x1600 ≤ idx ∧ idx < 0x1608 then pdoRow true false sub
    else if 0x1800 ≤ idx ∧ idx < 0x1808 then pdoRow false true sub
    else if 0x1A00 ≤ idx ∧ idx < 0x1A08 then pdoRow true true sub
    else none

/-! ### Module, network, clocks, configuration (R363, R392, R418, R479, R480, R548) -/

/-- The objects 0x2000 to 0x2044. -/
def moduleRow (idx sub : Nat) : Option ObjRow :=
  match idx with
  | 0x2000 =>
    match sub with
    | 0 => highest 1
    | 1 => obj 0x19 .rw true (.reg 0 0 0x100)
    | _ => none
  | 0x2001 =>
    match sub with
    | 0 => highest 4
    | 1 => obj 0x06 .rw true (.reg 0 0 1)
    | 2 => obj 0x19 .ro true (.reg 0 0 2)
    | 3 => obj 0x19 .ro true (.reg 0 0 3)
    | 4 => obj 0x06 .const false (.reg 0 0 0)
    | _ => none
  | 0x2002 =>
    match sub with
    | 0 => highest 3
    | 1 => obj 0x19 .ro true (.reg 0 0 0x10)
    | 2 => obj 0x19 .ro false (.reg 0 0 0x11)
    | 3 => obj 0x19 .ro false (.reg 0 0 0x12)
    | _ => none
  | 0x2003 => if sub = 0 then highest Config.n else if sub ≤ Config.n then obj 0x06 .ro true (.reg sub 0 0) else none
  | 0x2040 =>
    match sub with
    | 0 => highest 1
    | 1 => obj 0x19 .ro true (.reg 0 19 1)
    | _ => none
  | 0x2041 | 0x2042 =>
    match sub with
    | 0 => highest 1
    | 1 => obj 0x19 .rw false (.reg 0 19 (2 + (idx - 0x2041)))
    | _ => none
  | 0x2043 =>
    match sub with
    | 0 => highest 4
    | 1 => obj 0x19 .rw false (.reg 0 19 4)
    | 2 => obj 0x19 .rw false (.reg 0 19 5)
    | 3 => obj 0x07 .rw false (.reg 0 19 6)
    | 4 => obj 0x19 .ro false (.reg 0 19 7)
    | _ => none
  | 0x2044 => if sub = 0 then highest Config.n else if sub ≤ Config.n then obj 0x19 .ro true (.reg 0 19 (0x0F + sub)) else none
  | _ =>
    let d := idx - 0x2010
    if 0x2010 ≤ idx ∧ d < Config.n then
      match sub with
      | 0 => highest 2
      | 1 => obj 0x19 .ro true (.reg 0 0 (0x110 + d))
      | 2 => obj 0x07 .rw true (.reg (1 + d) 0 0x101)
      | _ => none
    else none

/-- A register of an array that unit `u` may not have: then the sub-index reads 0. -/
def arrayReg (u block off : Nat) : ObjSrc := if csrExists u block off then .reg u block off else .empty

/-- The objects 0x2100 and 0x2110 + u (R363). -/
def clockRow (idx sub : Nat) : Option ObjRow :=
  if idx = 0x2100 then
    match sub with
    | 0 => highest 5
    | 1 => obj 0x05 .rw false (.reg 0 2 3)
    | 2 => obj 0x07 .rw false (.reg 0 2 4)
    | 3 => obj 0x07 .rw false (.reg 0 2 5)
    | 4 => obj 0x19 .rw false (.reg 0 2 8)
    | 5 => obj 0x19 .ro true (.reg 0 2 9)
    | _ => none
  else
    let u := idx - 0x2110
    if Config.n < u then none
    else if sub = 0 then highest 0x1D
    else if sub = 1 then obj 0x07 .ro true (.reg u 2 1)
    else if sub = 2 then obj 0x06 .rw false (.reg u 2 2)
    else if sub < 0x0A then obj 0x19 .rw false (arrayReg u 2 (0x10 + (sub - 3)))
    else if sub < 0x1C then obj 0x19 .rw true (arrayReg u 2 (0x20 + (sub - 0x0A)))
    else if sub = 0x1C then obj 0x06 .wo false (.own (.clockCommand u))
    else if sub = 0x1D then obj 0x05 .ro false .held
    else none

/-- The objects 0x2200 to 0x2251 (R392, R418, R480). -/
def State.configRow (s : State) (idx sub : Nat) : Option ObjRow :=
  let d := idx % 16
  if idx = 0x2200 then
    match sub with
    | 0 => highest 8
    | 1 => obj 0x07 .rw false (.reg 0 3 1)
    | 2 => obj 0x05 .wo false (.reg 0 3 2)
    | 3 => obj 0x07 .ro true (.reg 0 3 3)
    | 4 => obj 0x1B .ro false (.pair 3 4)
    | 5 => obj 0x19 .ro true (.reg 0 3 6)
    | 6 => obj 0x19 .ro false (.reg 0 3 7)
    | 7 => obj 0x19 .ro false (.reg 0 3 8)
    | 8 => obj 0x0F .wo false (.own .imageData)
    | _ => none
  else if idx = 0x2210 then
    if sub = 0 then highest Config.n else if sub ≤ Config.n then obj 0x05 .rw false (.reg sub 8 0x61) else none
  else if idx = 0x2250 then
    match sub with
    | 0 => highest 2
    | 1 => heldByte
    | 2 => obj 0x06 .rw false .held
    | _ => none
  else if idx = 0x2251 then
    let u := 1 + s.odGet 0x2250 1
    let n := s.odGet 0x2250 2
    match sub with
    | 0 => highest 2
    | 1 => obj 0x05 .rw true (.reg u 9 (0x1000 + n))
    | 2 => obj 0x07 .ro false (.reg u 9 (0x3000 + n))
    | _ => none
  else if Config.n ≤ d then none
  else
    match idx / 16 with
    | 0x222 =>
      if sub = 0 then highest 0x0E
      else if sub ≤ 12 then obj 0x19 .rw true (.reg (1 + d) 11 (0x1F + sub))
      else if sub = 13 then obj 0x05 .wo false (.own (.nicheCommand d))
      else if sub = 14 then obj 0x05 .ro false .held
      else none
    | 0x223 => if sub = 0 then highest 0x24 else if sub ≤ 0x24 then obj 0x19 .rw false (.reg (1 + d) 11 (0x3F + sub)) else none
    | 0x224 =>
      let u := 1 + d
      if sub = 0 then highest 0x2E
      else if sub = 1 then obj 0x05 .ro true (.reg u 8 1)
      else if sub = 2 then obj 0x19 .rw false (.reg u 8 2)
      else if sub = 3 then obj 0x07 .rw true (.reg u 8 0x60)
      else if sub = 4 then obj 0x07 .rw false (.reg u 9 1)
      else if sub = 5 then obj 0x07 .ro true (.reg u 9 2)
      else if sub = 6 then obj 0x05 .wo false (.reg u 9 3)
      else if sub < 0x17 then obj 0x06 .ro false (.reg u 8 (0x10 + (sub - 7)))
      else if sub < 0x2F then obj 0x07 .ro false (.reg u 8 (0x40 + (sub - 0x17)))
      else none
    | _ => none

/-! ### Security, tick, dies and links (R451, R481, R482) -/

/-- The object 0x2300. -/
def State.securityRow (s : State) (sub : Nat) : Option ObjRow :=
  if sub = 0 then highest 0x14
  else if 0x0B ≤ sub ∧ sub ≤ 0x0F then obj 0x07 .ro false (.reg 0 4 (8 + (sub - 0x0B)))
  else
    match sub with
    | 1 => obj 0x05 .ro true (.fld (.sec .STAT_LC) 0 0)
    | 2 => obj 0x07 .ro true (.reg 0 4 1)
    | 3 => obj 0x0A .ro false (.bytes (beBytes 16 s.deviceId))
    | 4 => obj 0x0F .wo false (.own .signedCommand)
    | 5 => obj 0x06 .ro true (.reg 0 4 2)
    | 6 => obj 0x0F .wo false (.own .firmware)
    | 7 => obj 0x07 .ro false (.reg 0 4 0x12)
    | 8 => obj 0x0A .wo false (.own .nonce)
    | 9 => obj 0x0F .ro false (.bytes s.report)
    | 0x0A => obj 0x0F .wo false (.own .token)
    | 0x10 => obj 0x19 .rw true (.reg 0 4 0x10)
    | 0x11 => obj 0x19 .ro false (.reg 0 4 0x11)
    | 0x12 => obj 0x05 .wo false (.own .hostCommand)
    | 0x13 => obj 0x0F .wo false (.own .oasisPut)
    | 0x14 => obj 0x0F .ro false (.bytes s.certificate)
    | _ => none

/-- The objects 0x2400 and 0x2410 + u. -/
def tickRow (idx sub : Nat) : Option ObjRow :=
  if idx = 0x2400 then
    match sub with
    | 0 => highest 0x10
    | 1 => obj 0x05 .wo false (.reg 0 1 0)
    | 2 => obj 0x06 .rw true (.reg 0 1 1)
    | 3 => obj 0x07 .rw false (.reg 0 1 2)
    | 4 => obj 0x06 .rw false (.reg 0 1 3)
    | 5 => obj 0x07 .ro false (.reg 0 1 4)
    | 6 => obj 0x06 .ro false (.reg 0 1 5)
    | 7 => obj 0x1B .rw false (.pair 1 6)
    | 8 => obj 0x1B .rw false (.pair 1 8)
    | 9 => obj 0x1B .rw true (.pair 1 10)
    | 0x0A => obj 0x1B .ro true (.pair 1 12)
    | 0x0B => obj 0x07 .rw false (.reg 0 1 14)
    | 0x0C => obj 0x19 .ro true (.reg 0 1 15)
    | 0x0D => obj 0x07 .rw false (.reg 0 1 16)
    | 0x0E => obj 0x07 .rw true (.reg 0 1 17)
    | 0x0F => obj 0x05 .wo true (.reg 0 1 18)
    | 0x10 => heldByte
    | _ => none
  else
    let u := idx - 0x2410
    let at' := fun (off : Nat) => if u = 0 then ObjSrc.empty else .reg u 1 off
    if Config.n < u then none
    else
      match sub with
      | 0 => highest 0x15
      | 1 => obj 0x07 .ro true (at' 0)
      | 2 => obj 0x07 .ro true (at' 1)
      | 3 => obj 0x07 .rw false (at' 2)
      | 4 => obj 0x07 .ro true (at' 3)
      | 5 => obj 0x05 .wo false (at' 4)
      | 6 => obj 0x07 .ro true (.reg u 1 0x20)
      | _ => if sub ≤ 0x15 then obj 0x07 .ro true (at' (0x20 + (sub - 6))) else none

/-- The objects 0x2500 to 0x2567. -/
def linkRow (idx sub : Nat) : Option ObjRow :=
  if idx = 0x2500 then
    match sub with
    | 0 => highest 1
    | 1 => obj 0x19 .ro true (.reg 0 7 0x100)
    | _ => none
  else if idx < 0x2520 then
    let d := idx - 0x2510
    if idx < 0x2510 ∨ Config.n ≤ d then none
    else
      match sub with
      | 0 => highest 2
      | 1 => obj 0x07 .ro true (.reg 0 7 (0x110 + d))
      | 2 => obj 0x05 .wo false (.reg 0 7 (0x120 + d))
      | _ => none
  else
    let u := (idx - 0x2520) / 8
    let l := (idx - 0x2520) % 8
    if Config.n < u ∨ (u = 0 ∧ Config.n ≤ l) ∨ (0 < u ∧ 3 ≤ l) then none
    else
      let r := fun (k : Nat) => ObjSrc.reg u 7 (16 * l + k)
      match sub with
      | 0 => highest 8
      | 1 => obj 0x05 .wo false (r 0)
      | 2 => obj 0x07 .ro true (r 1)
      | 3 => obj 0x19 .ro false (r 2)
      | 4 => obj 0x07 .ro false (r 3)
      | 5 => obj 0x19 .ro false (r 4)
      | 6 => obj 0x07 .ro false (r 5)
      | 7 => obj 0x19 .ro true (r 6)
      | 8 => obj 0x19 .ro false (r 7)
      | _ => none

/-! ### Erg, banks, scrubbers, DRAM (R342, R418, R483, R484) -/

/-- The objects 0x2600 to 0x2621. -/
def State.ergRow (s : State) (idx sub : Nat) : Option ObjRow :=
  if idx = 0x2600 then
    match sub with
    | 0 => highest 1
    | 1 => obj 0x05 .ro false (.reg 0 6 1)
    | _ => none
  else if idx = 0x2620 then
    match sub with
    | 0 => highest 3
    | 1 | 2 => heldByte
    | 3 => obj 0x06 .rw false .held
    | _ => none
  else if idx = 0x2621 then
    let u := s.odGet 0x2620 1
    let j := 1024 * s.odGet 0x2620 2 + s.odGet 0x2620 3
    match sub with
    | 0 => highest 3
    | 1 => obj 0x19 .rw false (.reg u 6 (0x10000 + 2 * j))
    | 2 => obj 0x06 .rw false (.reg u 6 (0x10001 + 2 * j))
    | 3 => obj 0x05 .rw false (.reg u 6 (0x20000 + j))
    | _ => none
  else
    let u := idx - 0x2610
    if idx < 0x2610 ∨ Config.n < u then none
    else if sub = 0 then highest 0xA2
    else if sub ≤ 0x10 then obj 0x05 .wo false (.reg u 6 (0x0F + sub))
    else if sub ≤ 0x20 then obj 0x19 .ro true (.reg u 6 (0x0F + sub))
    else if sub ≤ 0x30 then obj 0x07 .rw false (.reg u 6 (0x0F + sub))
    else if sub ≤ 0x40 then obj 0x07 .rw false (.reg u 6 (0x0F + sub))
    else if sub ≤ 0x50 then obj 0x19 .ro true (.reg u 6 (0x0F + sub))
    else if sub ≤ 0x60 then obj 0x19 .rw false (.reg u 6 (0x0F + sub))
    else if sub = 0x61 then obj 0x06 .rw false (.reg u 6 0x80)
    else if sub = 0x62 then obj 0x19 .ro true (.reg u 6 0x81)
    else if sub ≤ 0xA2 then obj 0x07 .rw false (.reg u 6 (0x100 + (sub - 0x63)))
    else none

/-- The objects 0x2700 to 0x2741. -/
def State.bankRow (s : State) (idx sub : Nat) : Option ObjRow :=
  let d := idx % 16
  let u := 1 + d
  if idx = 0x2700 then
    match sub with
    | 0 => highest 1
    | 1 => obj 0x05 .rw false (.own .policy)
    | _ => none
  else if idx = 0x2740 then
    match sub with
    | 0 => highest 2
    | 1 => heldByte
    | 2 => obj 0x06 .rw false .held
    | _ => none
  else if idx = 0x2741 then
    let u := 1 + s.odGet 0x2740 1
    let b := s.odGet 0x2740 2
    match sub with
    | 0 => highest 3
    | 1 => obj 0x07 .ro false (.reg u 10 (0x1000 + b))
    | 2 => obj 0x07 .rw true (.reg u 10 (0x1400 + b))
    | 3 => obj 0x05 .wo false (.reg u 10 (0x1800 + b))
    | _ => none
  else if Config.n ≤ d then none
  else
    match idx / 16, sub with
    | 0x271, 0 => highest 8
    | 0x271, 1 => obj 0x19 .ro true (.reg u 10 3)
    | 0x271, 2 => obj 0x19 .rw false (.reg u 10 4)
    | 0x271, 3 => obj 0x05 .wo false (.reg u 10 5)
    | 0x271, 4 => obj 0x07 .rw false (.reg u 10 0x10)
    | 0x271, 5 => obj 0x19 .ro true (.reg u 10 0x11)
    | 0x271, 6 => obj 0x19 .ro true (.reg u 10 0x12)
    | 0x271, 7 => obj 0x07 .ro false (.reg u 10 0x13)
    | 0x271, 8 => obj 0x06 .rw false (.reg u 10 1)
    | 0x272, 0 => highest 4
    | 0x272, 1 => obj 0x06 .rw false (.own (.scrubSet d))
    | 0x272, 2 => obj 0x19 .rw true (.reg u 10 0x2001)
    | 0x272, 3 => obj 0x19 .ro true (.reg u 10 0x2003)
    | 0x272, 4 => obj 0x19 .rw false (.reg u 10 0x2004)
    | _, _ => none

/-- The objects 0x2800 and 0x2810 + q. -/
def dramObjRow (idx sub : Nat) : Option ObjRow :=
  if idx = 0x2800 then
    match sub with
    | 0 => highest 0x0A
    | 1 => obj 0x05 .wo false (.reg 0 18 1)
    | 2 => obj 0x05 .ro false (.reg 0 18 2)
    | 3 => obj 0x07 .rw false (.reg 0 18 3)
    | 4 => obj 0x19 .rw false (.reg 0 18 4)
    | 0x0A => obj 0x05 .wo false (.reg 0 18 5)
    | _ => if 5 ≤ sub ∧ sub ≤ 9 then obj 0x19 .rw false (.reg 0 18 (0x10 + (sub - 5))) else none
  else
    let q := idx - 0x2810
    if idx < 0x2810 ∨ 8 ≤ q then none
    else
      match sub with
      | 0 => highest 3
      | 1 => obj 0x07 .rw true (.reg 0 18 (0x20 + q))
      | 2 => obj 0x19 .ro true (.reg 0 18 (0x30 + q))
      | 3 => obj 0x19 .ro true (.reg 0 18 (0x40 + q))
      | _ => none

/-! ### Ports and lanes, debug, queues, contexts (R262, R287, R318, R485, R521) -/

/-- The objects 0x2900 to 0x294F. -/
def portObjRow (idx sub : Nat) : Option ObjRow :=
  let k := idx - 0x2900
  if k < 6 then
    let r := fun (off : Nat) => ObjSrc.reg 0 17 (off + k)
    match sub with
    | 0 => highest 0x0B
    | 1 => obj 0x19 .rw false (r 0x20)
    | 2 => obj 0x19 .rw false (r 0x30)
    | 3 => obj 0x19 .rw true (r 0x40)
    | 4 => obj 0x19 .rw false (r 0x50)
    | 5 => obj 0x06 .rw false (r 0x60)
    | 6 => obj 0x19 .rw false (r 0x70)
    | 7 => obj 0x19 .ro true (r 0x80)
    | 8 => obj 0x19 .ro true (r 0x90)
    | 9 => obj 0x19 .ro true (r 0xA0)
    | 0x0A => obj 0x19 .ro true (r 0xB0)
    | 0x0B => obj 0x05 .wo false (r 0x10)
    | _ => none
  else if k = 8 then (if sub = 0 then obj 0x19 .rw false (.reg 0 17 1) else none)
  else if 0x10 ≤ k ∧ k < 0x28 then
    let j := k - 0x10
    match sub with
    | 0 => highest 4
    | 1 => obj 0x06 .rw false (.reg 0 17 (0x100 + j))
    | 2 => obj 0x07 .ro true (.reg 0 17 (0x120 + j))
    | 3 => obj 0x19 .rw false (.reg 0 17 (0x140 + j))
    | 4 => obj 0x19 .rw false (.reg 0 17 (0x160 + j))
    | _ => none
  else if 0x30 ≤ k ∧ k < 0x30 + 4 * Config.n then
    let j := k - 0x30
    match sub with
    | 0 => highest 4
    | 1 => obj 0x19 .ro false (.reg 0 17 (0x200 + j))
    | 2 => obj 0x06 .rw true (.reg 0 17 (0x220 + j))
    | 3 => obj 0x19 .rw false (.reg 0 17 (0x240 + j))
    | 4 => obj 0x19 .rw false (.reg 0 17 (0x260 + j))
    | _ => none
  else none

/-- The object 0x2A00. -/
def State.debugRow (s : State) (sub : Nat) : Option ObjRow :=
  match sub with
  | 0 => highest 4
  | 1 => obj 0x0F .wo false (.own .monitorRequest)
  | 2 => obj 0x0F .ro false (.bytes s.response)
  | 3 => obj 0x19 .ro true (.reg 0 5 1)
  | 4 => obj 0x19 .ro true (.reg 0 5 3)
  | _ => none

/-- The objects 0x3000 to 0x3002. -/
def State.queueRow (s : State) (idx sub : Nat) : Option ObjRow :=
  let q := s.odGet 0x3000 1
  match idx, sub with
  | 0x3000, 0 => highest 2
  | 0x3000, 1 => obj 0x06 .rw false .held
  | 0x3000, 2 => obj 0x06 .ro false (.own .queueRefusal)
  | 0x3001, 0 => highest 0x0C
  | 0x3001, 1 => obj 0x19 .rw false (.own .queueConfig)
  | 0x3001, 2 => obj 0x19 .rw false (.reg 0 14 (8 * q + 1))
  | 0x3001, 3 => obj 0x07 .ro true (.fld (.qm .QCNT_LO_CNT0) 0 q)
  | 0x3001, 4 => obj 0x07 .ro true (.fld (.qm .QCNT_LO_CNT1) 0 q)
  | 0x3001, 5 => obj 0x07 .ro true (.fld (.qm .QCNT_HI_CNT2) 0 q)
  | 0x3001, 6 => obj 0x07 .ro true (.fld (.qm .QCNT_HI_CNT3) 0 q)
  | 0x3001, 7 => obj 0x1B .ro false (.own .queuePop)
  | 0x3001, 8 => obj 0x1B .ro true (.own .queuePeek)
  | 0x3001, 9 => obj 0x19 .wo true (.own (.queuePush false))
  | 0x3001, 0x0A => obj 0x19 .wo true (.own (.queuePush true))
  | 0x3001, 0x0B => obj 0x05 .wo false (.own .queueCommand)
  | 0x3001, 0x0C => obj 0x07 .ro true (.fld (.qm .POOL_FREE) 0 0)
  | 0x3002, 0 => highest 5
  | 0x3002, 1 => obj 0x07 .rw false (.reg 0 12 1)
  | 0x3002, 2 => obj 0x19 .ro true (.reg 0 12 2)
  | 0x3002, 3 => obj 0x19 .ro true (.reg 0 12 5)
  | 0x3002, 4 => obj 0x19 .rw false (.reg 0 12 6)
  | 0x3002, 5 => obj 0x05 .wo false (.reg 0 12 7)
  | _, _ => none

/-- The objects 0x4000 to 0x4002. -/
def contextRow (idx sub : Nat) : Option ObjRow :=
  if idx = 0x4000 then
    match sub with
    | 0 => highest 2
    | 1 => obj 0x06 .rw false .held
    | 2 => obj 0x05 .ro false .held
    | _ => none
  else if idx = 0x4001 then
    if sub = 0 then highest 0x40
    else if 0x40 < sub then none
    else
      let w := sub - 1
      obj 0x19 (if w ≤ 3 ∨ (7 ≤ w ∧ w ≤ 9) then .rw else .ro)
        (w == 5 || w == 6 || decide (16 ≤ w)) (.own (.ctxWord w))
  else
    match sub with
    | 0 => highest 0x0C
    | 1 => obj 0x07 .ro true (.reg 0 16 1)
    | 2 => obj 0x19 .ro true (.reg 0 16 2)
    | 3 => obj 0x07 .ro true (.reg 0 16 3)
    | 4 => obj 0x07 .ro true (.reg 0 16 4)
    | 5 => obj 0x19 .rw false (.reg 0 16 5)
    | 6 => obj 0x05 .wo false (.reg 0 16 6)
    | _ => if sub ≤ 0x0C then obj 0x07 .ro true (.reg 0 16 (0x10 + (sub - 7))) else none

/-! ### Fabric objects and the whole table -/

/-- The access code of a declaration (R489). -/
def accOf (c : Nat) : OAcc :=
  match c with
  | 0 => .ro
  | 1 => .wo
  | 2 => .rw
  | 3 => .rww
  | _ => .rwr

/-- The objects 0x5000 to 0x5FFF that stand (R489). -/
def State.fabricRow (s : State) (idx sub : Nat) : Option ObjRow :=
  match s.fobjs.find? fun o => o.idx == idx with
  | none => none
  | some o =>
    if sub = 0 then highest o.top
    else if sub ≤ o.top then obj o.type (accOf o.access) o.mappable (.own (.fabric idx sub))
    else none

/-- A sub-index of the dictionary; none where it does not exist (R477). -/
def State.objRow (s : State) (idx sub : Nat) : Option ObjRow :=
  if idx < 0x2000 then s.commRow idx sub
  else if idx < 0x2100 then moduleRow idx sub
  else if idx = 0x2100 ∨ (0x2110 ≤ idx ∧ idx < 0x2120) then clockRow idx sub
  else if 0x2200 ≤ idx ∧ idx < 0x2300 then s.configRow idx sub
  else if idx = 0x2300 then s.securityRow sub
  else if idx = 0x2400 ∨ (0x2410 ≤ idx ∧ idx < 0x2420) then tickRow idx sub
  else if 0x2500 ≤ idx ∧ idx < 0x2600 then linkRow idx sub
  else if 0x2600 ≤ idx ∧ idx < 0x2700 then s.ergRow idx sub
  else if 0x2700 ≤ idx ∧ idx < 0x2800 then s.bankRow idx sub
  else if 0x2800 ≤ idx ∧ idx < 0x2900 then dramObjRow idx sub
  else if 0x2900 ≤ idx ∧ idx < 0x2A00 then portObjRow idx sub
  else if idx = 0x2A00 then s.debugRow sub
  else if 0x3000 ≤ idx ∧ idx ≤ 0x3002 then s.queueRow idx sub
  else if 0x4000 ≤ idx ∧ idx ≤ 0x4002 then contextRow idx sub
  else if 0x5000 ≤ idx ∧ idx < 0x6000 then s.fabricRow idx sub
  else none

end Sys2Proof.Machine
end

