-- ==== Sys2Proof/Machine/OdAccess.lean ====
section
/-! DEFINITION. Reads and writes of objects, whatever the transport (R458 to R465, R470, R475, R478, R486, R487, R490, R491):
the abort code, the value, and what the access does. -/

namespace Sys2Proof.Machine

/-! ### Existence and state -/

/-- The die whose area an object belongs to, where every access for an isolated die is aborted (R318, R363, R418). -/
def dieOfIndex (idx : Nat) : Option Nat :=
  if 0x2111 ≤ idx ∧ idx < 0x2120 then some (idx - 0x2111)
  else if 0x2220 ≤ idx ∧ idx < 0x2240 then some (idx % 16)
  else if 0x2720 ≤ idx ∧ idx < 0x2730 then some (idx % 16)
  else if 0x2930 ≤ idx ∧ idx < 0x2A00 then some ((idx - 0x2930) / 4)
  else none

/-- The objects that recovery serves (R427). -/
def recoveryServes (idx sub : Nat) : Bool :=
  idx == 0x1000 || idx == 0x1001 || idx == 0x1018 || (idx == 0x2300 && decide (1 ≤ sub) && decide (sub ≤ 7))

/-- Why a sub-index cannot be reached, 0 where it can: it does not exist (R465, R477), the fabric has none while its
gateway niche is not ACTIVE (R398), its die is isolated, or recovery does not serve it. -/
def State.objAbort (s : State) (idx sub : Nat) : Nat :=
  let gateway := dies.any fun d => s.has (.od .FPORT_READY) 0 d 1
  if s.has (.sec .STAT_RECOVERY) 0 0 1 && !recoveryServes idx sub then 0x08000022
  else if (s.objRow idx sub).isNone then
    if (s.objRow idx 0).isSome then 0x06090011
    else if 0x5000 ≤ idx ∧ idx < 0x6000 ∧ !gateway then 0x08000022
    else 0x06020000
  else
    match dieOfIndex idx with
    | some d => if s.isolated d then 0x08000022 else 0
    | none => 0

/-! ### Reads -/

/-- What a read of an object comes to: an abort code, or its value as bytes, least significant first where it is a number,
and the state after it. -/
structure OdRead where
  code : Nat
  numeric : Bool
  bytes : List Nat
  st : State
  deriving DecidableEq, Repr

/-- A read that is aborted. -/
def OdRead.abort (c : Nat) (s : State) : OdRead := ⟨c, true, [], s⟩

/-- The abort code of a register access by its status (R182, R465). -/
def statusAbort (st : Nat) : Nat := if st = 0 then 0 else if st = 4 ∨ st = 7 then 0x08000022 else 0x08000020

/-- 0x3000:02 takes the DETAIL of the last aborted access (R262). -/
def State.noteQueue (s : State) (detail : Nat) : State := s.odSet 0x3000 2 (detail % 256)

/-- An entry of the error history as 0x1003 shows it (R478). -/
def Emcy.field (e : Emcy) : Nat := e.code % 65536 + e.event % 256 * 65536 + e.arg % 256 * 2 ^ 24

/-- The value of an object with a rule of its own: an abort code or 0, the value, and the state after the read. -/
def State.ownRead (s : State) (k : Own) : Nat × Nat × State :=
  let v := fun (x : Nat) => (0, x, s)
  match k with
  | .errorRegister => v s.errorRegister
  | .errorCount => v s.emcyHistory.length
  | .errorField k => v (match s.emcyHistory[k - 1]? with | some e => e.field | none => 0)
  | .cyclePeriod => v (s.rd (.od .cyclePeriod))
  | .timeCob => v (s.rd (.od .timeCob))
  | .queueRefusal => v (s.odGet 0x3000 2 + s.rd (.qm .CMDSTAT_REFUSE) * 256)
  | .queueConfig => v (s.csrGet 0 14 (8 * s.odGet 0x3000 1))
  | .queuePop =>
    let q := s.odGet 0x3000 1
    match s.popReg q 0 ⟨[], []⟩ with
    | (.inl c, s) => (0x08000020, 0, s.noteQueue c)
    | (.inr i, s) => (0, i.data + s.rd (.qm .QSTAT_LAST_END) 0 q * 2 ^ 48 + s.rd (.qm .QSTAT_LAST_IDLE) 0 q * 2 ^ 49 +
        s.rd (.qm .QSTAT_LAST_PRIO) 0 q * 2 ^ 50, s)
  | .queuePeek =>
    let q := s.odGet 0x3000 1
    let r := if s.qState q = 3 then idleResult else s.qLook q 1
    match s.peekReg q ⟨[], []⟩ with
    | (.inl c, s) => (0x08000020, 0, s.noteQueue c)
    | (.inr i, s) => (0, i.data + b2n r.last * 2 ^ 48 + b2n r.idle * 2 ^ 49 + r.prio * 2 ^ 50, s)
  | .ctxWord w => v (s.ctxWord (64 * s.odGet 0x4000 1 + w))
  | .policy => v (s.rd (.bank .POLICY_POISON))
  | .scrubSet d => if s.noSpoke (1 + d) then (0x08000022, 0, s) else v (s.rd (.scrub .settings) (1 + d))
  | .fabric idx sub =>
    match s.fobjs.find? fun o => o.idx == idx with
    | some o =>
      if s.has (.od .FPORT_READY) 0 o.die 1 then v (Sparse.get (fun _ => 0) s.fvals (256 * idx + sub)) else (0x08000022, 0, s)
    | none => (0x06020000, 0, s)
  | _ => v 0

/-- A readable object's value. -/
def State.rowRead (s : State) (idx sub : Nat) (r : ObjRow) : OdRead :=
  let num := fun (v : Nat) (s : State) => OdRead.mk 0 true (leBytes (typeBytes r.type) v) s
  match r.src with
  | .val v => num v s
  | .bytes l => ⟨0, false, l, s⟩
  | .held => num (s.odGet idx sub) s
  | .reg u block off =>
    let c := s.hubRead u block off
    if c.status ≠ 0 then .abort (statusAbort c.status) c.st else num c.value c.st
  | .fld f u j => if s.noSpoke u then .abort 0x08000022 s else num (s.fieldValue f u j) s
  | .pair block off => num (match pairAt 0 block off with | some (p, _) => s.pairValue p | none => 0) s
  | .empty => num 0 s
  | .own k =>
    let (c, v, s) := s.ownRead k
    if c ≠ 0 then .abort c s else num v s

/-- A read of an object (R461 to R465); with `peek`, of its peek alias where it has one (R498). -/
def State.odRead (s : State) (idx sub : Nat) (peek : Bool) : OdRead :=
  let sub := if peek && idx == 0x3001 && sub == 7 then 8 else sub
  let c := s.objAbort idx sub
  if c ≠ 0 then .abort c s
  else
    match s.objRow idx sub with
    | none => .abort 0x06020000 s
    | some r => if r.acc = .wo then .abort 0x06010001 s else s.rowRead idx sub r

/-! ### PDO mapping (R464, R470) -/

/-- Whether the COB-ID of PDO `n` has bit 31 set. -/
def State.pdoOff (s : State) (tx : Bool) (n : Nat) : Bool := (s.odGet ((if tx then 0x1800 else 0x1400) + n) 1).testBit 31

/-- Whether an object may be mapped in a direction (R464). -/
def mappable (r : ObjRow) (tx : Bool) : Bool :=
  r.map && (if tx then r.acc == .ro || r.acc == .rw || r.acc == .rwr || r.acc == .const else r.acc == .wo || r.acc == .rww)

/-- The abort code of a mapping entry, 0 where it is in order. -/
def State.entryAbort (s : State) (tx : Bool) (v : Nat) : Nat :=
  let idx := v / 65536
  let sub := v / 256 % 256
  let c := s.objAbort idx sub
  if c ≠ 0 then c
  else
    match s.objRow idx sub with
    | none => 0x06020000
    | some r => if !mappable r tx then 0x06040041 else if v % 256 ≠ 8 * typeBytes r.type then 0x06070010 else 0

/-- The first `k` mapping entries of PDO `n`. -/
def State.mapEntries (s : State) (tx : Bool) (n k : Nat) : List Nat :=
  (List.range k).map fun i => s.odGet ((if tx then 0x1A00 else 0x1600) + n) (1 + i)

/-- The abort code of a write of `v` to a mapping object. -/
def State.mapAbort (s : State) (tx : Bool) (n sub v : Nat) : Nat :=
  let on := s.odGet ((if tx then 0x1A00 else 0x1600) + n) 0 != 0
  if !s.pdoOff tx n then 0x08000022
  else if sub ≠ 0 then (if on then 0x08000022 else if v = 0 then 0 else s.entryAbort tx v)
  else if 16 < v then 0x06090030
  else if v = 0 then 0
  else if on then 0x08000022
  else
    let l := s.mapEntries tx n v
    match (l.map fun e => s.entryAbort tx e).find? fun c => c != 0 with
    | some c => c
    | none => if 512 < l.foldl (fun a e => a + e % 256) 0 then 0x06040042 else 0

/-! ### Writes of values that the dictionary holds -/

/-- The largest value of a select object or of 0x2400:10 (R481, R486); none for the others. -/
def heldLimit (idx sub : Nat) : Option Nat :=
  match idx, sub with
  | 0x2250, 1 | 0x2740, 1 => some (Config.n - 1)
  | 0x2250, 2 => some 4607
  | 0x2620, 1 => some Config.n
  | 0x2620, 2 => some 15
  | 0x2620, 3 => some 1023
  | 0x2740, 2 => some 511
  | 0x4000, 1 => some 49151
  | 0x2400, 0x10 | 0x1029, 1 => some 2
  | _, _ => none

/-- Whether every PDO is disabled. -/
def State.pdosOff (s : State) : Bool := (List.range 8).all fun n => s.pdoOff false n && s.pdoOff true n

/-- The abort code of a write of `v` to a value that the dictionary holds, 0 where it is stored. -/
def State.heldAbort (s : State) (idx sub v : Nat) : Nat :=
  let range := fun (ok : Bool) => if ok then 0 else 0x06090030
  match heldLimit idx sub with
  | some m => range (decide (v ≤ m))
  | none =>
    if idx = 0x1005 then range (!v.testBit 30)
    else if idx = 0x1019 then
      (if v = 1 ∨ 240 < v then 0x06090030 else if s.pdosOff then 0 else 0x08000022)
    else if 0x1400 ≤ idx ∧ idx < 0x1408 ∧ sub = 2 then range (!(decide (241 ≤ v) && decide (v ≤ 253)))
    else if 0x1800 ≤ idx ∧ idx < 0x1808 ∧ sub = 2 then range (v != 0 && !(decide (241 ≤ v) && decide (v ≤ 253)))
    else if 0x1800 ≤ idx ∧ idx < 0x1808 ∧ sub = 1 then range (v.testBit 30)
    else if 0x1600 ≤ idx ∧ idx < 0x1608 then s.mapAbort false (idx - 0x1600) sub v
    else if 0x1A00 ≤ idx ∧ idx < 0x1A08 then s.mapAbort true (idx - 0x1A00) sub v
    else 0

/-- What follows a write of a held value: a consumer entry waits for its first heartbeat anew (R473), and a remapped PDO
may report its length again (R470). -/
def State.heldAfter (s : State) (idx sub old : Nat) : State :=
  if idx = 0x1016 then (s.wr (.od .armed) 0 (sub - 1) 0).endCond 0x8130 (old / 65536 % 256)
  else if 0x1600 ≤ idx ∧ idx < 0x1608 then s.wr (.od .pdoSaid) 0 (idx - 0x1600) 0
  else if 0x1A00 ≤ idx ∧ idx < 0x1A08 then s.wr (.od .pdoSaid) 0 (8 + (idx - 0x1A00)) 0
  else s

/-- A write of a held value. -/
def State.heldWrite (s : State) (idx sub v : Nat) : Nat × State :=
  let c := s.heldAbort idx sub v
  if c ≠ 0 then (c, s) else (0, (s.odSet idx sub v).heldAfter idx sub (s.odGet idx sub))

/-! ### Writes of objects with a rule of their own -/

/-- The history and the event bits are cleared (R475, R478). -/
def State.clearHistory (s : State) : State :=
  State.errorRegisterFell s.errorRegister (State.wr { s with emcyHistory := [] } (.od .eventBits) 0 0 0)

/-- 0x0800_0020 for a refusal code that is not 0. -/
def refusedCode (c : Nat) : Nat := if c = 0 then 0 else 0x08000020

/-- The abort code of a register write. -/
def CsrWrite.abort (w : CsrWrite) : Nat := if w.status ≠ 0 then statusAbort w.status else if w.dropped then 0x08000020 else 0

/-- A host write to a fabric object joins the pending list of its die (R491). -/
def State.fabricWrite (s : State) (idx sub v : Nat) : Nat × State :=
  match s.fobjs.find? fun o => o.idx == idx with
  | none => (0x06020000, s)
  | some o =>
    if s.has (.od .FPORT_READY) 0 o.die 0 then (0x08000022, s)
    else if 256 ≤ (s.fwrites.filter fun w => w.die == o.die).length then (0x08000020, s.inc (.od .FPORT_OVERFLOW) 0 o.die)
    else (0, { s with fwrites := s.fwrites ++ [⟨o.die, idx, sub, v, false, false⟩] })

/-- A host command of 0x2300:12 (R451). -/
def State.hostCommand (s : State) (v : Nat) : Nat × State :=
  match v with
  | 1 => (0, s.commitSvn)
  | 2 => (0, s.seal)
  | 3 => (0, s.wipeOasis)
  | 4 => (0, s.setLevel 0)
  | _ => (0x08000020, s)

/-- A write of a number to an object with a rule of its own. -/
def State.ownWrite (s : State) (k : Own) (v : Nat) : Nat × State :=
  match k with
  | .errorCount => if v = 0 then (0, s.clearHistory) else (0x06090030, s)
  | .cyclePeriod => (0, s.wr (.od .cyclePeriod) 0 0 v)
  | .timeCob => if v.testBit 30 then (0x06090030, s) else (0, s.wr (.od .timeCob) 0 0 v)
  | .clockCommand u =>
    let x := v % 256
    if !csrExists u 2 (0x40 + x) then (0x08000020, s)
    else
      let w := s.hubWrite 0 u 2 (0x40 + x) (v / 256 % 4)
      (w.abort, w.st.odSet (0x2110 + u) 0x1D (w.st.rd (.clk .DOMCTL_REFUSE) u x))
  | .nicheCommand d =>
    let x := v % 16
    if 12 ≤ x then (0x08000020, s)
    else
      let w := s.hubWrite 0 (1 + d) 11 (0x10 + x) (v / 16 % 4)
      (w.abort, w.st.odSet (0x2220 + d) 0x0E (w.st.rd (.nch .STAT_REFUSE) (1 + d) x))
  | .queueCommand =>
    if v = 0 ∨ 6 < v then (0, s)
    else
      let s := s.queueCommand (s.odGet 0x3000 1) v
      (refusedCode (s.rd (.qm .CMDSTAT_REFUSE)), s)
  | .queueConfig =>
    let s := s.writeQcfg (s.odGet 0x3000 1) v
    (refusedCode (s.rd (.qm .CMDSTAT_REFUSE)), s)
  | .queuePush last =>
    let (c, s) := s.pushReg (s.odGet 0x3000 1) 0 last ⟨v % 2 ^ 48, false⟩
    if c = 0 then (0, s) else (0x08000020, s.noteQueue c)
  | .ctxWord w =>
    let (c, s) := s.ctxWrite 0 (64 * s.odGet 0x4000 1 + w) [v]
    if c = 0 then (0, s) else (0x08000020, s.odSet 0x4000 2 c)
  | .policy => if v < 2 then (0, s.setPolicy v) else (0x06090030, s)
  | .scrubSet d => if s.noSpoke (1 + d) then (0x08000022, s) else s.scrubSettings d v
  | .hostCommand => s.hostCommand v
  | .fabric idx sub => s.fabricWrite idx sub v
  | _ => (0x08000020, s)

/-- A complete download of bytes to an object with a rule of its own (R441, R428, R430, R436, R439, R451). -/
def State.ownDownload (s : State) (k : Own) (l : List Nat) (v : Verdict) : Nat × State :=
  match k with
  | .imageData => s.imageData l
  | .signedCommand =>
    let (c, s) := s.signedCommand l v
    (refusedCode c, s)
  | .firmware =>
    let (c, s) := s.firmwarePackage l v
    (refusedCode c, s)
  | .token =>
    let (ok, s) := s.presentToken l v
    (if ok then 0 else 0x08000020, s)
  | .nonce =>
    if l.length ≠ 32 then (0x06070010, s)
    else
      let (ok, s) := s.attest l
      (if ok then 0 else 0x08000020, s)
  | .oasisPut =>
    let (c, s) := s.oasisPut l v
    (refusedCode c, s)
  | _ => (0x08000020, s)

/-! ### Writes -/

/-- A register pair written as one value (R72, R462). -/
def State.pairWrite (s : State) (block off v : Nat) : Nat × State :=
  let w := (s.csrWrite 0 0 block (off + 1) (v / 2 ^ 48)).st.csrWrite 0 0 block off (v % 2 ^ 48)
  (w.abort, w.st)

/-- A register of a clock block written: the refusal is kept for 0x2110 + u:1D (R363). -/
def CsrWrite.noteClock (w : CsrWrite) (idx : Nat) : State :=
  if 0x2110 ≤ idx ∧ idx < 0x2120 then w.st.odSet idx 0x1D (if w.dropped then 4 else 0) else w.st

/-- A write of a number to an object that has a row. -/
def State.rowWrite (s : State) (idx sub v : Nat) (r : ObjRow) : Nat × State :=
  match r.src with
  | .held => s.heldWrite idx sub v
  | .reg u block off =>
    let w := s.hubWrite 0 u block off v
    (w.abort, if w.status = 0 then w.noteClock idx else w.st)
  | .pair block off => s.pairWrite block off v
  | .own k => s.ownWrite k v
  | _ => (0x08000020, s)

/-- A complete write of an object (R461 to R465): bytes least significant first where the object is a number; `v` is what
cryptography finds in a signed or wrapped item. The abort code, 0 where it is done. -/
def State.odWrite (s : State) (idx sub : Nat) (l : List Nat) (v : Verdict) : Nat × State :=
  let c := s.objAbort idx sub
  if c ≠ 0 then (c, s)
  else
    match s.objRow idx sub with
    | none => (0x06020000, s)
    | some r =>
      let k := typeBytes r.type
      if r.acc = .ro ∨ r.acc = .const then (0x06010002, s)
      else if k ≠ 0 then (if l.length ≠ k then (0x06070010, s) else s.rowWrite idx sub (fromLe l) r)
      else
        match r.src with
        | .own o => s.ownDownload o l v
        | _ => (0x08000020, s)

/-- The bytes of a value in the order of R11 over UDP, or back: a number is turned round. -/
def State.turned (s : State) (idx sub : Nat) (l : List Nat) : List Nat :=
  match s.objRow idx sub with
  | some r => if typeBytes r.type = 0 then l else l.reverse
  | none => l

/-! ### Selects (R486, R487) -/

/-- The select objects that a window's SELECT value sets. -/
def selectTargets (idx v : Nat) : Option (List (Nat × Nat × Nat)) :=
  match idx with
  | 0x3001 => some [(0x3000, 1, v)]
  | 0x4001 => some [(0x4000, 1, v)]
  | 0x2251 => some [(0x2250, 1, slice v 16 8), (0x2250, 2, slice v 0 16)]
  | 0x2741 => some [(0x2740, 1, slice v 16 8), (0x2740, 2, slice v 0 16)]
  | 0x2621 => some [(0x2620, 1, slice v 24 8), (0x2620, 2, slice v 16 8), (0x2620, 3, slice v 0 16)]
  | _ => none

/-- A SELECT value is written: 0x0609_0011 for another index, 0x0609_0030 outside the range, and then nothing is stored. -/
def State.writeSelect (s : State) (idx v : Nat) : Nat × State :=
  match selectTargets idx v with
  | none => (0x06090011, s)
  | some l =>
    if l.all fun x => x.2.2 ≤ (heldLimit x.1 x.2.1).getD 65535 then (0, each l (fun x s => s.odSet x.1 x.2.1 x.2.2) s)
    else (0x06090030, s)

end Sys2Proof.Machine
end

