-- ==== Sys2Proof/Machine/Targets.lean ====
section
/-! DEFINITION. READ and WRITE packets at their targets: bank interfaces, CSR blocks, the context store, the Oasis and the
DRAM controllers (R139 to R146, R175, R182, R267, R395, R441). -/

namespace Sys2Proof.Machine

/-! ### Bank interfaces -/

/-- The status with which a bank interface refuses an access by NI `src` to offset `a` of a bank, 0 where it serves it: a
mailbox bank (R144), a bank that does not serve (R141, R152), a store to the read side (R142), a locked word for the debug
master (R146). -/
def State.bankRefusal (s : State) (src : Nat) (store : Bool) (d b a : Nat) : Nat :=
  let u := 1 + d
  if s.has (.bank .CFG_USED) u b 1 && s.has (.bank .CFG_MAILBOX) u b 1 then 1
  else if !(s.bankOn d b) && !(s.has (.bank .CFG_USED) u b 1 && s.bankPwr d b == 3 && src == 2) then 4
  else if store && s.pairedBank d b && decide (a < 8192) then 1
  else if src == 2 && (s.lockedBy d b 0 a || s.lockedBy d b 1 a) then 8
  else 0

/-- Whether an access to offset `a` of a bank waits: its word is locked, or its side is being blanked (R143, R146). -/
def State.bankBlocks (s : State) (d b a : Nat) : Bool :=
  s.lockedBy d b 0 a || s.lockedBy d b 1 a ||
    (s.pairedBank d b && decide (8192 ≤ a) && s.rd (.bank .blanking) (1 + d) b != 0)

/-- The word addresses of a packet, in order. -/
def pktAddrs (p : Pkt) : List Nat := (List.range (countOf p.count)).map fun i => p.addr + i

/-- The status with which the bank interface refuses a packet: that of the first word it refuses. -/
def State.bankPktRefusal (s : State) (p : Pkt) : Nat :=
  (((pktAddrs p).map fun w =>
    match regionOf w with
    | .bank d b a _ => s.bankRefusal p.src (p.type == 1) d b a
    | _ => 1).find? fun c => c != 0).getD 0

/-- Whether a word of a packet waits at its bank. -/
def State.bankPktWaits (s : State) (p : Pkt) : Bool :=
  (pktAddrs p).any fun w =>
    match regionOf w with
    | .bank d b a _ => s.bankBlocks d b a
    | _ => false

/-- Words read through a plain window or an alias, in order (R140, R142). -/
def State.bankReads (s : State) : List Nat → List (Nat × Bool) × State
  | [] => ([], s)
  | w :: l =>
    match regionOf w with
    | .bank d b a _ =>
      let (r, s) := s.readPhys d b (s.physRow d b a) 2
      let (ws, s) := s.bankReads l
      ((r.data, r.poison) :: ws, s)
    | _ => ([], s)

/-- One word written through the plain window, the set alias or the clear alias; a poisoned word makes its row
uncorrectable (R132, R140). -/
def State.bankWrite (s : State) (addr : Nat) (x : Nat × Bool) : State :=
  match regionOf addr with
  | .bank d b a mode =>
    let row := s.physRow d b a
    if x.2 then s.storePoison d b row
    else if mode = 0 then s.storeRow d b row x.1
    else (s.modifyRow d b row 2 (mode == 2) x.1).2
  | _ => s

/-- A bank serves a request: the words are read, or written, and the response leaves. -/
def State.bankServe (s : State) (p : Pkt) : State :=
  if p.type = 0 then
    let (ws, s) := s.bankReads (pktAddrs p)
    s.respond p p.dst 0 0 0 (quadsOf (s.tagOf p.cls) 32 ws)
  else
    let s := each ((pktAddrs p).zip (s.wordsOf p)) (fun x s => s.bankWrite x.1 x.2) s
    s.respond p p.dst 1 0 0 []

/-- Whether a packet addresses bank `b` of die `d` with its first word. -/
def pktAtBank (p : Pkt) (d b : Nat) : Bool :=
  match regionOf p.addr with
  | .bank d' b' _ _ => d' == d && b' == b
  | _ => false

/-- The write-back that the network slot of a bank serves before anything else: that of a row found by a network read (R139). -/
def State.slotWriteBack (s : State) (d b : Nat) : Option WriteBack :=
  s.writeBacks.find? fun w => w.die == d && w.bank == b && w.network

/-- A request reaches the bank interface of bank `b` of die `d` (R139, R141, R146). -/
def State.bankRequest (s : State) (p : Pkt) (d b : Nat) : State :=
  let c := s.bankPktRefusal p
  if c ≠ 0 then s.respondErr p p.dst c 0
  else if s.bankPktWaits p || (s.slotWriteBack d b).isSome || s.bankWaits.any fun x => pktAtBank x d b then { s with bankWaits := s.bankWaits ++ [p] }
  else s.bankServe p

/-- The network slot's request of a bank: the first that waits, unless it must go on waiting. -/
def State.slotRequest (s : State) (d b : Nat) : Option Pkt :=
  match s.bankWaits.find? fun p => pktAtBank p d b with
  | some p => if s.bankPktWaits p then none else some p
  | none => none

/-- The scrubber read of a bank that waits longest. -/
def State.slotScrub (s : State) (d b : Nat) : Option Nat := s.scrubWaits.find? fun k => k / 16384 == 512 * d + b

/-- BANK_NETWORK_SLOT (R139): a network slot of bank `b` of die `d` serves, in order of priority, a correction write-back,
the network request that came first, and a scrubber read. -/
def execBankNetworkSlot (d b : Nat) (s : State) : Answer :=
  actCore (okDie d && okBank b) s
    (match s.slotWriteBack d b with
     | some w => s.landWriteBack w
     | none =>
       match s.slotRequest d b with
       | some p => State.bankServe { s with bankWaits := removeFirst p s.bankWaits } p
       | none =>
         match s.slotScrub d b with
         | none => s
         | some k =>
           let s : State := { s with scrubWaits := removeFirst k s.scrubWaits }
           if s.bankOn d b then (s.readPhys d b (k % 16384) 3).2 else s)

/-! ### CSR blocks -/

/-- Registers read in the order of their addresses; the first that is not served ends the request. -/
def State.csrReads (s : State) (src : Nat) : List Nat → (Nat × Nat) × List (Nat × Bool) × State
  | [] => ((0, 0), [], s)
  | w :: l =>
    match regionOf w with
    | .csr u block off =>
      let r := s.csrRead src u block off
      if r.status ≠ 0 then ((r.status, r.detail), [], r.st)
      else
        let (c, ws, s) := r.st.csrReads src l
        (c, (r.value, r.poison) :: ws, s)
    | _ => ((1, 0), [], s)

/-- Registers written in the order of their addresses; the first that is not served ends the request. -/
def State.csrWrites (s : State) (src : Nat) : List (Nat × Nat × Bool) → (Nat × Nat) × State
  | [] => ((0, 0), s)
  | x :: l =>
    match regionOf x.1 with
    | .csr u block off =>
      let r := s.csrWriteMarked src u block off x.2
      if r.status ≠ 0 then ((r.status, r.detail), r.st) else r.st.csrWrites src l
    | _ => ((1, 0), s)

/-- Whether a word address names a register. -/
def isCsr (w : Nat) : Bool :=
  match regionOf w with
  | .csr u block off => csrExists u block off
  | _ => false

/-- A request to a CSR block is served (R12, R182); one with a word that is no register reads no data and writes nothing
(R19). -/
def State.csrRequest (s : State) (p : Pkt) : State :=
  if (pktAddrs p).any fun w => !isCsr w then s.respondErr p p.dst 1 0
  else if p.type = 0 then
    let (c, ws, s) := s.csrReads p.src (pktAddrs p)
    if c.1 ≠ 0 then s.respondErr p p.dst c.1 c.2
    else s.respond p p.dst 0 0 0 (quadsOf (s.tagOf p.cls) 32 ws)
  else
    let (c, s) := s.csrWrites p.src ((pktAddrs p).zip (s.wordsOf p))
    if c.1 ≠ 0 then s.respondErr p p.dst c.1 c.2 else s.respond p p.dst 1 0 0 []

/-! ### The context store -/

/-- A request to the context store (R267, R268). -/
def State.ctxRequest (s : State) (p : Pkt) (k : Nat) : State :=
  if p.type = 0 then
    s.respond p p.dst 0 0 0
      (quadsOf (s.tagOf p.cls) 32 ((List.range (countOf p.count)).map fun i => (s.ctxWord (k + i), false)))
  else
    let (c, s) := s.ctxWrite p.src k ((s.wordsOf p).map fun x => if x.2 then 0 else x.1)
    if c ≠ 0 then s.respondErr p p.dst 10 c else s.respond p p.dst 1 0 0 []

/-! ### The Oasis -/

/-- Whether NI `src` reaches the Oasis: the security processor, or the gateway niche's fabric side of a compute die
(R19, R395). -/
def oasisInitiator (src : Nat) : Bool := src == 1 || (decide (16 ≤ src) && src % 16 == 12)

/-- Words of the Oasis read in order; a correctable row, or one whose valid copies disagree, is written back (R128, R131,
R441). -/
def State.oasisReads (s : State) : List Nat → List (Nat × Bool) × State
  | [] => ([], s)
  | w :: l =>
    let row := Sparse.get (fun _ => 0) s.oasis w
    let r := readRow row
    let s :=
      if r.poison || !(r.corr || r.splitVote) then s
      else s.oasisStore w (if r.zero then low 55 row else encodeRow r.data)
    let (ws, s) := s.oasisReads l
    ((r.data, r.poison) :: ws, s)

/-- A request to the Oasis from word `k` on (R19, R395, R441, R442). -/
def State.oasisRequest (s : State) (p : Pkt) (k : Nat) : State :=
  if !oasisInitiator p.src || s.has (.sec .STAT_OASIS_BUSY) 0 0 1 then s.respondErr p p.dst 3 0
  else if p.type = 0 then
    let (ws, s) := s.oasisReads ((List.range (countOf p.count)).map fun i => k + i)
    s.respond p p.dst 0 0 0 (quadsOf (s.tagOf p.cls) 32 ws)
  else
    let ws := s.wordsOf p
    let s := each (List.range ws.length) (fun i s =>
      let x := ws.getD i (0, false)
      s.oasisStore (k + i) (if x.2 then poisonRow else encodeRow x.1)) s
    s.respond p p.dst 1 0 0 []

/-! ### The commands -/

/-- A READ or WRITE packet is served by the block that its address names; another type receives TYPE (R175). -/
def State.target (s : State) (p : Pkt) : State :=
  if 1 < p.type then s.respondErr p p.dst 9 0
  else
    match regionOf p.addr with
    | .csr .. => s.csrRequest p
    | .bank d b _ _ => s.bankRequest p d b
    | .ctx k => s.ctxRequest p k
    | .oasis k => s.oasisRequest p k
    | .dram _ => s.dramRequest p
    | .reserved => s.respondErr p p.dst 1 0

/-- READ_REQUEST (R175): the READ packet `p` in flight, or one of a reserved type, reaches its target. -/
def execReadRequest (p : Pkt) (s : State) : Answer :=
  actCore (okNi (p.dst / 16) (p.dst % 16)) s (s.arrive p (!p.rsp && (p.type == 0 || decide (4 < p.type))) fun s => s.target p)

/-- WRITE_REQUEST (R175): the WRITE packet `p` in flight reaches its target. -/
def execWriteRequest (p : Pkt) (s : State) : Answer :=
  actCore (okNi (p.dst / 16) (p.dst % 16)) s (s.arrive p (!p.rsp && p.type == 1) fun s => s.target p)

/-- Whether a packet is a WRITE through alias `mode` of a bank window. -/
def aliasWrite (p : Pkt) (mode : Nat) : Bool :=
  !p.rsp && p.type == 1 &&
    match regionOf p.addr with
    | .bank _ _ _ m => m == mode
    | _ => false

/-- SET_ALIAS_WRITE (R140): the WRITE packet `p` in flight through a set alias reaches its bank, and sets the bits of each
word in one atomic access. -/
def execSetAliasWrite (p : Pkt) (s : State) : Answer :=
  actCore (okNi (p.dst / 16) (p.dst % 16)) s (s.arrive p (aliasWrite p 1) fun s => s.target p)

/-- CLEAR_ALIAS_WRITE (R140): the WRITE packet `p` in flight through a clear alias reaches its bank, and clears the bits of
each word in one atomic access. -/
def execClearAliasWrite (p : Pkt) (s : State) : Answer :=
  actCore (okNi (p.dst / 16) (p.dst % 16)) s (s.arrive p (aliasWrite p 2) fun s => s.target p)

end Sys2Proof.Machine
end

