-- ==== Sys2Proof/Machine/Sessions.lean ====
section
/-! DEFINITION. The UDP transport (R466 to R469): datagrams, sessions, and the bodies that read and write objects, which the
resident monitor uses too (R496). -/

namespace Sys2Proof.Machine

/-- Whether the management port takes datagrams. -/
def State.udpUp (s : State) : Bool := s.has (.od .ETH_EN) 0 0 1 && s.has (.od .ETH_LINK) 0 0 1

/-- A datagram of the device (R466), from MAGIC to the end of the body. -/
def State.datagram (s : State) (kind session seq : Nat) (body : List Nat) : List Nat :=
  beBytes 2 0x544D ++ [1, kind] ++ beBytes 2 session ++ beBytes 2 seq ++ beBytes 2 body.length ++ [s.nodeId, 0] ++ body

/-- A datagram goes to an address and port, which head it here, where it can be sent (R457). -/
def State.sendTo (s : State) (addr port kind session seq : Nat) (body : List Nat) : State :=
  if s.canReach addr then s.emit .udp 2 (addr :: port :: s.datagram kind session seq body) else s

/-! ### Sessions (R468) -/

/-- Whether a session has a key. -/
def Session.keyed (x : Session) (addr port id : Nat) : Bool := x.addr == addr && x.port == port && x.id == id

/-- The session of a key. -/
def State.sessionOf (s : State) (addr port id : Nat) : Option Session := s.sessions.find? fun x => x.keyed addr port id

/-- A session becomes the one used last; a ninth drops the one idle longest. -/
def State.useSession (s : State) (x : Session) : State :=
  { s with sessions := x :: (s.sessions.filter fun y => !y.keyed x.addr x.port x.id).take 7 }

/-- What a session holds after a request, unless the request has closed it. -/
def State.keepSession (s : State) (x : Session) : State :=
  { s with sessions := s.sessions.map fun y => if y.keyed x.addr x.port x.id then x else y }

/-- Whether the request with SEQ `seq` is the next of its session: SEQ 0 opens or restarts one. -/
def State.nextOf (s : State) (addr port id seq : Nat) : Option Session :=
  if seq = 0 then some ⟨addr, port, id, 0, [], 0, 0, []⟩
  else (s.sessionOf addr port id).filter fun x => (x.seq + 1) % 65536 == seq

/-- A request of a session: `run` executes it and answers the KIND of its response with the body, and the session; a repeated
one gets the kept response, and any other SEQ the response `bad`. -/
def State.exchange (s : State) (addr port id seq : Nat) (bad : List Nat) (run : Session → State → List Nat × Session × State) : State :=
  let answer := fun (l : List Nat) (s : State) => s.sendTo addr port (l.headD 3) id seq l.tail
  match s.nextOf addr port id seq with
  | some x =>
    let x := { x with seq := seq, kept := [] }
    let (l, x, s) := run x (s.useSession x)
    answer l (s.keepSession { x with kept := l })
  | none =>
    match s.sessionOf addr port id with
    | some x => if x.seq = seq then answer x.kept (s.useSession x) else answer (3 :: bad) s
    | none => answer (3 :: bad) s

/-! ### Bodies of R467 -/

/-- The body of a RESPONSE. -/
def responseBody (idx sub code total : Nat) (data : List Nat) : List Nat :=
  beBytes 2 idx ++ [sub, 0] ++ beBytes 4 code ++ beBytes 4 total ++ data

/-- Whether an object is a DOMAIN value; every other one is accessed whole, at OFFSET 0. -/
def State.isDomain (s : State) (idx sub : Nat) : Bool :=
  match s.objRow idx sub with
  | some r => r.type == 0x0F
  | none => false

/-- A READ: the abort code, the body of its response and the state. -/
def State.objectRead (s : State) (idx sub offset : Nat) (peek : Bool) : Nat × List Nat × State :=
  if s.objAbort idx sub = 0 ∧ offset ≠ 0 ∧ !s.isDomain idx sub then (0x05040001, responseBody idx sub 0x05040001 0 [], s)
  else
    let r := s.odRead idx sub peek
    if r.code ≠ 0 then (r.code, responseBody idx sub r.code 0 [], r.st)
    else
      let l := if r.numeric then r.bytes.reverse else r.bytes
      (0, responseBody idx sub 0 l.length ((l.drop offset).take 1440), r.st)

/-- The series of a DOMAIN value that a WRITE goes on with or begins (R469): none where its OFFSET does not follow. -/
def nextSeries (old : Nat × Nat × List Nat) (idx sub offset : Nat) (data : List Nat) : Option (List Nat) :=
  if offset = 0 then some data
  else if old.1 = idx ∧ old.2.1 = sub ∧ offset = old.2.2.length then some (old.2.2 ++ data)
  else none

/-- No unfinished series. -/
def noSeries : Nat × Nat × List Nat := (0, 0, [])

/-- A WRITE of data at OFFSET: the abort code, the unfinished series, and the state. `put` does a complete download. A part of
0x2200:08 joins the stream at once. -/
def State.objectWrite (s : State) (series : Nat × Nat × List Nat) (idx sub offset : Nat) (data : List Nat) (last : Bool)
    (put : Nat → Nat → List Nat → State → Nat × State) : Nat × (Nat × Nat × List Nat) × State :=
  let c := s.objAbort idx sub
  if c ≠ 0 then (c, series, s)
  else if !s.isDomain idx sub then
    if offset ≠ 0 then (0x05040001, series, s)
    else
      let (c, s) := put idx sub (s.turned idx sub data) s
      (c, series, s)
  else if idx = 0x2200 ∧ sub = 8 then
    if offset ≠ s.rd (.cfg .PROGRESS_BYTES) then (0x08000020, series, s)
    else
      let (c, s) := put idx sub data s
      (c, series, s)
  else
    match nextSeries series idx sub offset data with
    | none => (0x05040001, series, s)
    | some l =>
      if last then
        let (c, s) := put idx sub l s
        (c, noSeries, s)
      else (0, (idx, sub, l), s)

end Sys2Proof.Machine
end

