-- ==== Sys2Proof/Machine/Debug.lean ====
section
/-! DEFINITION. Run control and debug (R494 to R521): the resident monitor, the debug master, halts, comparators and
readback. -/

namespace Sys2Proof.Machine

/-! ### Halts (R503 to R513) -/

/-- Whether a HALT or STEP must wait: a boundary halt is pending, or a STEP is in progress (R503). -/
def State.haltBusy (s : State) : Bool := s.has (.dbg .STAT_PENDING) 0 0 1 || s.has (.dbg .STAT_STEPPING) 0 0 1

/-- A halt is requested: CAUSE, CMP and UNIT name it, and DROPPED is no longer set. -/
def State.haltFor (s : State) (cause c unit : Nat) : State :=
  (((s.wr (.dbg .STAT_CAUSE) 0 0 cause).wr (.dbg .STAT_CMP) 0 0 c).wr (.dbg .STAT_UNIT) 0 0 unit).wr (.dbg .STAT_DROPPED) 0 0 0

/-- A request that came after step 3 of R45 leaves the coming boundary out (R504, R510). -/
def State.noteLate (s : State) : State := s.wr (.dbg .later) 0 0 (b2n (s.has (.tick .ended) 0 0 1))

/-- A boundary halt awaits its boundary (R504). -/
def State.boundaryHalt (s : State) : State := (s.wr (.dbg .STAT_PENDING) 0 0 1).noteLate

/-- DBG_TREEPOS of a tree that a halt stops (R505): the count of its cycles is an open value. -/
def State.stopTree (s : State) (d t : Nat) : State :=
  ((s.wr (.dbg .TREEPOS_POS) (1 + d) t (s.freeValue 32)).spend).wr (.dbg .TREEPOS_STOPPED) (1 + d) t 1

/-- Every tree of a die whose clocks run stops. -/
def State.stopTrees (s : State) (d : Nat) : State :=
  if s.fabricRuns d then
    each ((List.range 16).filter fun t => s.rd (.fab .TREE_DEPTH) (1 + d) t != 0) (fun t s => s.stopTree d t)
      (s.wr (.fab .clocksRun) (1 + d) 0 0)
  else s

/-- An immediate halt (R505): every fabric clock stops in the middle of the tick, whose deadline and end the release sets
anew (R506); no slack is recorded for it (R513). -/
def State.immediateHalt (s : State) : State :=
  let s := each dies (fun d s => s.stopTrees d) s
  let s := ((s.wr (.tick .midTick) 0 0 1).wr (.tick .ended) 0 0 0).wr (.tick .decided) 0 0 0
  s.enterHalt 2 (s.rd (.dbg .STAT_CAUSE))

/-- How far ahead of its acceptance a release must fall, in units of the time base: of a chosen k_r, and of the one that the
device chooses (R506). -/
def State.releaseLead (s : State) : Nat := if s.has (.dbg .STAT_HALT) 0 0 2 then nsec (s.rd (.tick .PERIOD_P)) else nsec 20000

/-- The time index of a release: k_r, none where its boundary falls too soon; 0 selects the earliest allowed (R506). -/
def State.releaseIndex (s : State) (k : Nat) : Option Nat :=
  if k = 0 then some (s.indexFrom (s.time + s.releaseLead))
  else if s.boundaryAt k < s.time + nsec 20000 then none
  else some k

/-- The tick is released at time index `k`, and niches that waited for it go on (R404, R506). -/
def State.releaseAt (s : State) (k : Nat) (pins : List (Nat × Nat × Nat)) : State := (s.release k pins).nicheReleased

/-! ### The debug master (R500 to R502) -/

/-- A write or a consume read while the tick is RUNNING or HALTED (R500). -/
def State.touch (s : State) : State := if s.tick = 2 ∨ s.tick = 5 then s.wr (.dbg .STAT_TOUCHED) 0 0 1 else s

/-- The routers of a trip from NI `ni` to NI `toward` on the auto entry, and the router that discards it, if one does
(R172). -/
def State.tripPath (s : State) (ni toward : Nat) : List (Nat × Nat) × Option (Nat × Nat) :=
  if s.daxat then s.daxatPath toward 15 (ni / 16) (ni % 16)
  else
    match s.pathOf ni (s.rtString (ni / 16) (1024 * (ni % 16) + toward)) with
    | some l => (l, none)
    | none => ([], some (ni / 16, ni % 16))

/-- A packet of `quads` payload quads makes a trip: whether it arrives. -/
def State.trip (s : State) (ni toward quads : Nat) : Bool × State :=
  let w := s.tripPath ni toward
  let s := s.countFlits w.1 (1 + quads)
  match w.2 with
  | some r => (false, s.inc (.erg .RTR_STAT_DISCARD) r.1 r.2)
  | none => (true, s)

/-- A register without its side effect: the peek alias of a consuming one (R498). -/
def peekAlias (a : Nat) : Nat :=
  match regionOf a with
  | .csr 0 5 2 => a + 1
  | .csr 0 block off => if 12 ≤ block ∧ block ≤ 15 ∧ 0x80000 ≤ windowOff block off ∧ off % 8 = 4 then a + 1 else a
  | _ => a

/-- What a request of the debug master comes to at its target: status and words. -/
abbrev Served := Nat × List (Nat × Bool) × State

/-- A READ of `k` words from `a` at its target. -/
def State.debugRead (s : State) (a k : Nat) (consume : Bool) : Served :=
  let l := (List.range k).map fun i => a + i
  match regionOf a with
  | .csr .. =>
    let l := if consume then l else l.map peekAlias
    let (c, ws, s) := if l.all isCsr then s.csrReads 2 l else ((1, 0), [], s)
    (c.1, if c.1 = 0 then ws else [], s)
  | .bank .. =>
    let c := (l.map fun w => match regionOf w with
      | .bank d b a _ => s.bankRefusal 2 false d b a
      | _ => 1).find? fun c => c != 0
    match c with
    | some c => (c, [], s)
    | none =>
      let (ws, s) := s.bankReads l
      (0, ws, s)
  | .ctx w => (0, (List.range k).map fun i => (s.ctxWord (w + i), false), s)
  | .dram i =>
    match s.subState (subOf i) with
    | 4 => (0, List.replicate k (0, true), s)
    | 3 =>
      let (ws, s) := s.takeSlots (subOf i) 0 [] ((List.range k).map fun n => i + n)
      (0, ws, s)
    | _ => (10, [], s)
  | _ => (3, [], s)

/-- The oldest bursts of a write queue are stored until `k` more fit (R331). -/
def State.makeRoom (s : State) (q k : Nat) : State :=
  each ((s.writesOf q).take ((s.writesOf q).length + k - 64)) (fun w s => s.landWrite w) s

/-- The write-queue entries of words for the slots from `i` on. -/
def debugEntries (i : Nat) (ws : List Nat) : List DramWrite :=
  let l := slotted i (ws.map fun w => (w, false))
  (burstsOf i ws.length).map fun b =>
    ⟨subOf i, (l.filter fun x => x.1 / 8 == b).map fun x => (x.1, encodeSlot x.1 x.2.1 true false), false, 0⟩

/-- Words enter the write queue, which cancels the write-backs of their slots (R324, R331). -/
def State.debugPost (s : State) (i : Nat) (ws : List Nat) : State :=
  let es := debugEntries i ws
  let hit := fun (j : Nat) => decide (i ≤ j) && decide (j < i + ws.length)
  let s := s.makeRoom (subOf i) es.length
  { s with dramWrites := (s.dramWrites.filter fun w => !(w.back && w.slots.any fun x => hit x.1)) ++ es }

/-- A WRITE of words from `a` on at its target. -/
def State.debugWrite (s : State) (a : Nat) (ws : List Nat) : Served :=
  let l := (List.range ws.length).map fun i => a + i
  match regionOf a with
  | .csr .. =>
    let (c, s) := if l.all isCsr then s.csrWrites 2 (l.zip (ws.map fun v => (v, false))) else ((1, 0), s)
    (c.1, [], s)
  | .bank .. =>
    let c := (l.map fun w => match regionOf w with
      | .bank d b a _ => s.bankRefusal 2 true d b a
      | _ => 1).find? fun c => c != 0
    match c with
    | some c => (c, [], s)
    | none => (0, [], each (l.zip ws) (fun x s => s.bankWrite x.1 (x.2, false)) s)
  | .ctx w =>
    let (c, s) := s.ctxWrite 2 w ws
    (if c = 0 then 0 else 10, [], s)
  | .dram i => if s.subState (subOf i) = 3 then (0, [], s.debugPost i ws) else (10, [], s)
  | _ => (3, [], s)

/-- An error that NI 0x002 delivers is logged, and a timeout counted (R196). -/
def State.debugError (s : State) (type addr k dest status : Nat) : State :=
  let s := if status = 5 then s.inc (.erg .NI_STAT_TIMEOUTS) 0 2 else s
  s.logNiError ⟨2, 0, (s.freeTid 2).getD 0, 0, true, dest, dest, 2, type, addr, k, 0, none⟩ status

/-- The quads of `k` words. -/
def quadCount (k : Nat) : Nat := (k + 3) / 4

/-- An M-class request of the debug master for `k` words from `addr`, to its response: the checks at issue, the way there,
the target's work `run` at the physical address, and the way back, without which the request times out (R171, R182, R183,
R501). -/
def State.debugRequest (s : State) (type addr k : Nat) (run : Nat → State → Served) : Served :=
  match s.issueCheck 2 2 ⟨0, true, type, k % 128, 0, addr, 0, 0, 0, []⟩ with
  | .refused c peer => (c, [], s.debugError type addr k peer c)
  | .go dest _ a =>
    let (there, s) := s.trip 2 dest (if type = 1 then quadCount k else 0)
    if !there then (5, [], s.debugError type addr k dest 5)
    else
      let (c, ws, s) := run a s
      if !s.routeOk dest 2 (some 2) then (5, [], (s.inc (.erg .NI_STAT_DISCARD) (dest / 16) (dest % 16)).debugError type addr k dest 5)
      else
        let (back, s) := s.trip dest 2 (if type = 0 ∧ c = 0 then quadCount k else 0)
        if !back then (5, [], s.debugError type addr k dest 5)
        else if c ≠ 0 then (c, [], s.debugError type addr k dest c)
        else (0, ws, s)

/-- The words of the request that begins `left` words before the end of an access at `a`: at most 128, and in one chunk of
the DRAM (R329, R501). -/
def chunk (a left : Nat) : Nat :=
  match regionOf a with
  | .dram i => min left (128 - i % 128)
  | _ => min left 128

/-- The outcome of a READ or WRITE so far: the words read, and the first failure as DETAIL, 0 for none. -/
abbrev Access := List (Nat × Bool) × Nat × State

/-- DETAIL of a failure at word `i` (R497). -/
def failDetail (c i : Nat) : Nat := c + 16 * i

/-- READ requests in ascending address order until `left` words are read; every word of a failed one reads 0 (R502). -/
def State.readChunks (s : State) (a : Nat) (consume : Bool) : Nat → Nat → Nat → List (Nat × Bool) → Nat → Access
  | 0, _, _, got, fail => (got, fail, s)
  | fuel + 1, i, left, got, fail =>
    if left = 0 then (got, fail, s)
    else
      let k := chunk (a + i) left
      let (c, ws, s) := s.debugRequest 0 (a + i) k fun at' s => s.debugRead at' k consume
      let ws := if c = 0 then ws else List.replicate k (0, false)
      s.readChunks a consume fuel (i + k) (left - k) (got ++ ws) (if fail = 0 ∧ c ≠ 0 then failDetail c i else fail)

/-- WRITE requests in ascending address order, up to the first that fails (R502): its DETAIL, 0 for none. -/
def State.writeChunks (s : State) (a : Nat) : Nat → Nat → List Nat → Nat × State
  | 0, _, _ => (0, s)
  | fuel + 1, i, ws =>
    if ws.isEmpty then (0, s)
    else
      let k := chunk (a + i) ws.length
      let (c, _, s) := s.debugRequest 1 (a + i) k fun at' s => s.debugWrite at' (ws.take k)
      if c ≠ 0 then (failDetail c i, s) else s.writeChunks a fuel (i + k) (ws.drop k)

/-! ### Operations (R496, R497) -/

/-- The answer of an operation: STATUS, DETAIL, data, and the state. -/
structure MonRes where
  status : Nat
  detail : Nat
  data : List Nat
  st : State
  deriving DecidableEq, Repr

/-- An operation that does nothing but report. -/
def MonRes.no (status : Nat) (s : State) : MonRes := ⟨status, 0, [], s⟩

/-- An operation that is done. -/
def MonRes.ok (data : List Nat) (s : State) : MonRes := ⟨0, 0, data, s⟩

/-- What an operation meets outside its body: the levels driven on input pins where it samples them, and what cryptography
finds in an item that it presents. -/
structure MonEnv where
  pins : List (Nat × Nat × Nat)
  verdict : Verdict
  deriving DecidableEq, Repr

/-- The level that is granted. -/
def State.dbgLevel (s : State) : Nat := s.rd (.sec .STAT_DBG_LEVEL)

/-- Whether reads with CONSUME are granted (R499). -/
def State.mayConsume (s : State) : Bool := s.dbgLevel == 2 && s.has (.sec .STAT_DBG_CONSUME) 0 0 1

/-- TOKEN: a part joins those before it, and the last presents the token. -/
def State.monToken (s : State) (e : MonEnv) (last : Bool) (b : List Nat) : MonRes :=
  let off := bytesAt b 0 4
  let part := b.drop 4
  if b.length < 5 ∨ 1404 < b.length then .no 7 s
  else if off ≠ 0 ∧ off ≠ s.tokenParts.length then .no 3 s
  else
    let l := if off = 0 then part else s.tokenParts ++ part
    if last then .ok [] (State.presentToken { s with tokenParts := [] } l e.verdict).2
    else .ok [] { s with tokenParts := l }

/-- STATUS. -/
def State.monStatus (s : State) (b : List Nat) : MonRes :=
  if b ≠ [] then .no 7 s
  else .ok (beBytes 6 s.dbgStat ++ beBytes 2 (s.csrGet 0 1 1 % 65536) ++ beBytes 8 (s.rd (.tick .NUMBER)) ++ [s.dbgLevel]) s

/-- HALT (R503 to R505). -/
def State.monHalt (s : State) (b : List Nat) : MonRes :=
  if b.length ≠ 1 then .no 7 s
  else if 1 < b.headD 0 then .no 3 s
  else if s.tick ≠ 2 then .no 2 s
  else if s.has (.tick .GROUP_EN) 0 0 1 then .no 6 s
  else if s.haltBusy then .no 4 s
  else
    let s := (s.haltFor 0 0 0).wr (.dbg .STAT_AUTOREL) 0 0 0
    .ok [] (if b.headD 0 = 0 then s.boundaryHalt else s.immediateHalt)

/-- RELEASE (R506). -/
def State.monRelease (s : State) (e : MonEnv) (b : List Nat) : MonRes :=
  if b.length ≠ 8 then .no 7 s
  else if s.tick ≠ 5 then .no 2 s
  else
    match s.releaseIndex (bytesAt b 0 8) with
    | none => .no 3 s
    | some k => .ok [] (s.releaseAt k e.pins)

/-- A STEP of `n` ticks begins (R510). -/
def State.beginStep (s : State) (n : Nat) : State :=
  ((s.wr (.dbg .STAT_STEPPING) 0 0 1).wr (.dbg .STAT_STEPS) 0 0 n).wr (.dbg .STAT_DROPPED) 0 0 0

/-- STEP (R503, R510). -/
def State.monStep (s : State) (e : MonEnv) (b : List Nat) : MonRes :=
  let n := bytesAt b 0 2
  if b.length ≠ 10 then .no 7 s
  else if n = 0 then .no 3 s
  else if s.tick ≠ 2 ∧ s.tick ≠ 5 then .no 2 s
  else if s.has (.tick .GROUP_EN) 0 0 1 then .no 6 s
  else if s.haltBusy then .no 4 s
  else if s.tick = 2 then .ok [] (s.beginStep n).noteLate
  else
    match s.releaseIndex (bytesAt b 2 8) with
    | none => .no 3 s
    | some k => .ok [] (((s.beginStep n).wr (.dbg .later) 0 0 0).releaseAt k e.pins)

/-- The poison map of a READ: 25 bytes whose value has bit `i` set for word `i`. -/
def poisonMap (ws : List (Nat × Bool)) : Nat := (List.range ws.length).foldl (fun a i => a + b2n (ws.getD i (0, false)).2 * 2 ^ i) 0

/-- READ (R498, R499, R502). -/
def State.monRead (s : State) (consume : Bool) (b : List Nat) : MonRes :=
  let k := b.getD 5 0
  if b.length ≠ 6 then .no 7 s
  else if k = 0 ∨ 200 < k then .no 3 s
  else if consume && !s.mayConsume then .no 1 s
  else
    let s := if consume then s.touch else s
    let (ws, fail, s) := s.readChunks (bytesAt b 0 5) consume (k + 1) 0 k [] 0
    ⟨if fail = 0 then 0 else 5, fail, (ws.flatMap fun w => beBytes 6 (if w.2 then 0 else w.1)) ++ beBytes 25 (poisonMap ws), s⟩

/-- WRITE (R500, R502). -/
def State.monWrite (s : State) (b : List Nat) : MonRes :=
  let k := b.getD 5 0
  if b.length < 6 then .no 7 s
  else if k = 0 ∨ 200 < k then .no 3 s
  else if b.length ≠ 6 + 6 * k then .no 7 s
  else
    let ws := (List.range k).map fun i => bytesAt b (6 + 6 * i) 6
    let (fail, s) := s.touch.writeChunks (bytesAt b 0 5) (k + 1) 0 ws
    ⟨if fail = 0 then 0 else 5, fail, [], s⟩

/-- The unfinished series of OBJECT writes. -/
def State.monSeries (s : State) : Nat × Nat × List Nat := (s.objectParts.getD 0 0, s.objectParts.getD 1 0, s.objectParts.drop 2)

/-- OBJECT: a body of eight bytes reads, a longer one writes (R467, R496, R498, R499). -/
def State.monObject (s : State) (e : MonEnv) (consume last : Bool) (b : List Nat) : MonRes :=
  let idx := bytesAt b 0 2
  let sub := b.getD 2 0
  let off := bytesAt b 4 4
  let write := decide (8 < b.length)
  if b.length < 8 ∨ 1448 < b.length ∨ b.getD 3 0 ≠ 0 ∨ (write ∧ consume) ∨ (!write ∧ last) then .no 7 s
  else if (write && decide (s.dbgLevel < 2)) || (consume && !s.mayConsume) then .no 1 s
  else if write then
    let (c, x, s) := s.objectWrite s.monSeries idx sub off (b.drop 8) last fun i j l s => s.odWrite i j l e.verdict
    .ok (responseBody idx sub c 0 []) { s with objectParts := if x.2.2 = [] then [] else x.1 :: x.2.1 :: x.2.2 }
  else
    let s := if consume then s.touch else s
    let (c, l, s) := s.objectRead idx sub off (!consume)
    if consume && c == 0x08000020 then ⟨5, 10, [], s⟩ else .ok l s

/-! ### Readback (R517, R518) -/

/-- A string as words of 48 bits, bit i in bit i mod 48 of word i / 48. -/
def stringWords (k v : Nat) : List Nat := (List.range k).map fun i => slice v (48 * i) 48

/-- Bits as a number, the first the lowest. -/
def bitsNat (l : List Bool) : Nat := l.foldr (fun b a => b2n b + 2 * a) 0

/-- A tile's string: its flip-flops and its hop arrival registers. -/
def State.readTile (s : State) (d n : Nat) : List Nat :=
  stringWords 8 (bitsNat (((List.range 64).map fun q => s.ff d n q) ++
    (List.range 288).map fun i => (Sparse.get (fun _ => 0) s.hops (hopKey d n i)).testBit 0))

/-- A slice's string. Of the fields that hold CE, LOAD and NEG, CE stands lowest (log entry 119). -/
def State.readSlice (s : State) (d m : Nat) : List Nat :=
  let v := fun (f : AsF) => s.rd (.slc f) (1 + d) m
  stringWords 11
    (v .acc + v .s1pa * 2 ^ 120 + v .s1b * 2 ^ 172 + v .s1ctl * 2 ^ 220 + v .s2p * 2 ^ 223 + v .s2ctl % 4 * 2 ^ 343 +
      v .s3p * 2 ^ 345 + v .s3ctl % 4 * 2 ^ 465 + v .s4ce * 2 ^ 467 + v .y0 * 2 ^ 468 + v .range * 2 ^ 516 +
      v .wrap * 2 ^ 520 + v .valid * 2 ^ 524)

/-- The two words of a bank port. -/
def State.readPort (s : State) (d b p : Nat) : List Nat :=
  let j := 2 * b + p
  let op := s.heldOps.find? fun o => o.die == d && o.bank == b && o.port == p
  let pipe := match op with
    | some o => 2 ^ 8 + low 14 o.addr * 2 ^ 9 + o.op % 8 * 2 ^ 23
    | none => 0
  let lock := if s.portLocks d b p then 2 ^ 26 + s.lockRow d b p * 2 ^ 27 else 0
  [s.rd (.bank .rdata) (1 + d) j, s.rd (.bank .flags) (1 + d) j + pipe + lock]

/-- The registers of a pin: those of a tick latch, which drives nothing in a bank that is off (R99), or those of a cell that
the tile's tree clocks: of a SERDES cell and of a DDR cell's outputs the first bit (log entry 119). -/
def State.readPin (s : State) (d p : Nat) : Nat :=
  let u := 1 + d
  let high := 2 ^ 5 * s.rd (.fab .outOE) u p + 2 ^ 4 * s.rd (.fab .outV) u p
  let safe := s.rd (.fab .IOCFG_SAFE) u p
  let clocked := fun (w oe : Nat) =>
    s.rd (.fab .inReg) u p % 2 ^ w + 2 ^ 2 * b2n (s.portOut d (tileNo 0 (4 * p)) 0) + 2 ^ 3 * b2n (s.portOut d (tileNo 0 (4 * p)) oe)
  match s.rd (.fab .IOCFG_MODE) u p with
  | 4 => s.rd (.fab .tickIn) u p
  | 5 =>
    2 ^ 2 * s.rd (.fab .samV) u p + 2 ^ 3 * s.rd (.fab .samOE) u p +
      (if s.has (.fab .IOSTAT_BANK_OFF) u 0 1 then 0
       else if s.has (.fab .safeNow) u p 0 then high else if safe = 2 then 0 else 2 ^ 4 * safe + 2 ^ 5)
  | 1 => clocked 1 1
  | 2 => clocked 2 2
  | 3 => clocked 1 8
  | _ => 0

/-- READBACK. -/
def State.monReadback (s : State) (b : List Nat) : MonRes :=
  let d := b.getD 0 0
  let i := bytesAt b 2 4
  let words := fun (l : List Nat) => MonRes.ok (l.flatMap fun w => beBytes 6 w) s
  if b.length ≠ 6 then .no 7 s
  else if !okDie d || s.isolated d then .no 8 s
  else if s.tick ≠ 5 then .no 2 s
  else
    match b.getD 1 0 with
    | 0 => if i < 192 * 256 then words (s.readTile d i) else .no 3 s
    | 1 => if i < 4608 then words (s.readSlice d i) else .no 3 s
    | 2 => if i < 1024 then words (s.readPort d (i / 2) (i % 2)) else .no 3 s
    | 3 => if i < 24 then words [s.readPin d i] else .no 3 s
    | _ => .no 3 s

/-! ### Comparators (R514 to R516) -/

/-- COMPARE: a comparator is armed. -/
def State.monCompare (s : State) (b : List Nat) : MonRes :=
  let d := b.getD 0 0
  let c := b.getD 1 0
  let cfg := bytesAt b 2 6
  if b.length ≠ 22 ∨ 2 ^ 40 ≤ cfg then .no 7 s
  else if slice cfg 4 2 ≠ 0 ∧ s.dbgLevel < 2 then .no 1 s
  else if !okDie d || s.isolated d then .no 8 s
  else if 8 ≤ c ∨ 5 < cfg % 8 ∨ 3 < slice cfg 3 3 then .no 3 s
  else
    let o := 0x10 + 4 * c
    let s := (s.writeDbg 2 (1 + d) o cfg).st
    let s := (s.writeDbg 2 (1 + d) (o + 1) (bytesAt b 8 6)).st
    let s := (s.writeDbg 2 (1 + d) (o + 2) (bytesAt b 14 6)).st
    let s := (s.writeDbg 2 (1 + d) (o + 3) (bytesAt b 20 2)).st
    .ok [] { s with matched := s.matched.filter fun m => m != 8 * d + c }

/-- An event joins DBG_EVENT, or is dropped and counted (R516, R520). -/
def State.logEvent (s : State) (d c pos : Nat) : State :=
  if 64 ≤ s.dbgEvents.length then s.inc (.dbg .STAT_LOST) 0 0
  else
    let l := s.dbgEvents ++ [1 + (1 + d) * 2 + c * 2 ^ 5 + s.tickTag * 2 ^ 8 + pos % 2 ^ 24 * 2 ^ 24]
    State.wr { s with dbgEvents := l } (.dbg .STAT_QUEUED) 0 0 l.length

/-- A halt that a comparator asks for, or DROPPED (R503). -/
def State.comparatorHalt (s : State) (d c : Nat) (now : Bool) : State :=
  if s.tick ≠ 2 || s.has (.tick .GROUP_EN) 0 0 1 || s.haltBusy then s.wr (.dbg .STAT_DROPPED) 0 0 1
  else
    let s := s.haltFor 1 c (1 + d)
    if now then s.immediateHalt else s.boundaryHalt

/-- The action of a comparator. -/
def State.comparatorAct (s : State) (d c pos : Nat) : State :=
  let a := s.rd (.dbg .CMP_CFG_ACTION) (1 + d) c
  let s := if s.has (.dbg .CMP_CFG_ONCE) (1 + d) c 1 then s.disarm d c else s
  match a with
  | 1 => s.logEvent d c pos
  | 2 => s.comparatorHalt d c false
  | 3 => s.comparatorHalt d c true
  | _ => s

/-- Whether the value that a comparator observes matches (R514). -/
def State.comparatorHits (s : State) (d c observed : Nat) : Bool :=
  (observed ^^^ s.rd (.dbg .CMP_VAL_VAL) (1 + d) c) &&& s.rd (.dbg .CMP_MASK_MASK) (1 + d) c == 0

/-- A match is counted, and brings HITS to a multiple of LIMIT or not (R515). -/
def State.comparatorMatch (s : State) (d c pos : Nat) : State :=
  let u := 1 + d
  let chained := c != 0 && s.has (.dbg .CMP_CFG_CHAIN) u c 1
  let s' : State := { s with matched := if s.matched.contains (8 * d + c) then s.matched else s.matched ++ [8 * d + c] }
  if chained && !s.matched.contains (8 * d + (c - 1)) then s'
  else
    let was := s.rd (.dbg .CMP_CNT_HITS) u c
    let s := s'.inc (.dbg .CMP_CNT_HITS) u c
    let limit := max 1 (s.rd (.dbg .CMP_CNT_LIMIT) u c)
    if s.rd (.dbg .CMP_CNT_HITS) u c ≠ was ∧ s.rd (.dbg .CMP_CNT_HITS) u c % limit = 0 then s.comparatorAct d c pos else s

/-- The crossbar source that a FABRIC comparator watches, in bit 0 (R514): none where its tile is not clocked. -/
def State.fabricObserved (s : State) (d c : Nat) : Option Nat :=
  let sel := s.rd (.dbg .CMP_CFG_SEL) (1 + d) c
  let x := slice sel 0 8
  let y := slice sel 8 8
  if 192 ≤ y || !s.tileRuns d x y then none else some (b2n (s.source d x y (s.settled d x y) (slice sel 16 9)))

/-- COMPARATOR_MATCH (R515): comparator `c` of die `d` samples its source, with the task-cycle count `pos` of its tree; where it
matches, it counts, logs or halts. TICK observes the tick number and FABRIC the crossbar source of its tile; what the other
sources present is `observed`. -/
def execComparatorMatch (d c observed pos : Nat) (s : State) : Answer :=
  actCore (okDie d && decide (c < 8) && decide (observed < 2 ^ 48)) s
    (match s.rd (.dbg .CMP_CFG_SRC) (1 + d) c with
     | 0 | 6 | 7 => s
     | 5 =>
       if s.fabricRuns d && s.tick == 2 && s.comparatorHits d c (s.rd (.tick .NUMBER) % 2 ^ 48) then s.comparatorMatch d c 0 else s
     | 1 =>
       match s.fabricObserved d c with
       | none => s
       | some v => if s.comparatorHits d c v then s.comparatorMatch d c pos else s
     | _ => if s.fabricRuns d && s.comparatorHits d c observed then s.comparatorMatch d c pos else s)

/-- DBG_EVENT_READ (R520): a consuming read of DBG_EVENT returns the oldest event and pops it. -/
def execDbgEventRead (s : State) : Answer := actCore true s (State.popEvent (s.emit .readBack 0 [s.dbgHead]))

/-! ### The monitor (R494 to R497) -/

/-- The level that an operation needs; none for an OP that does not exist. -/
def opLevel (op : Nat) : Option Nat :=
  match op with
  | 1 | 2 => some 0
  | 3 | 4 | 5 | 7 | 9 => some 2
  | 6 | 8 | 10 => some 1
  | _ => none

/-- Whether the flags of a request suit its operation: CONSUME on READ and OBJECT, LAST on TOKEN and OBJECT. -/
def opFlags (op flags : Nat) : Bool :=
  decide (flags < 4) && (!flags.testBit 0 || op == 6 || op == 8) && (!flags.testBit 1 || op == 1 || op == 8)

/-- An operation by its OP, with the checks that all have in common. -/
def State.monitorOp (s : State) (e : MonEnv) (op flags : Nat) (b : List Nat) : MonRes :=
  match opLevel op with
  | none => .no 7 s
  | some need =>
    if !opFlags op flags then .no 7 s
    else if s.dbgLevel < need then .no 1 s
    else
      match op with
      | 1 => s.monToken e (flags.testBit 1) b
      | 2 => s.monStatus b
      | 3 => s.monHalt b
      | 4 => s.monRelease e b
      | 5 => s.monStep e b
      | 6 => s.monRead (flags.testBit 0) b
      | 7 => s.monWrite b
      | 8 => s.monObject e (flags.testBit 0) (flags.testBit 1) b
      | 9 => s.monReadback b
      | _ => s.monCompare b

/-- A request body is carried out, and its response takes the place of the one before (R494, R495). -/
def State.monitorBody (s : State) (e : MonEnv) (b : List Nat) : State :=
  let op := b.getD 0 0
  let r := if b.length < 4 then MonRes.no 7 s else s.monitorOp e op (b.getD 1 0) (b.drop 4)
  { r.st with response := [op, r.status, b.getD 2 0, b.getD 3 0] ++ beBytes 2 r.detail ++ r.data }

/-- A request by the path that it comes on: over UDP in its session, kind 0x11 with the response; as a download, where NMT
serves SDO (R458), it leaves its response for 0x2A00:02. -/
def State.monitor (s : State) (e : MonEnv) (via : Via) (b : List Nat) : State :=
  match via with
  | .object => if s.has (.od .NODE_NMT) 0 0 127 || s.has (.od .NODE_NMT) 0 0 5 then s.monitorBody e b else s
  | .udp addr port id seq =>
    if s.udpUp then
      s.exchange addr port id seq (responseBody 0x2A00 1 0x08000000 0 []) fun x s =>
        let s := s.monitorBody e b
        (0x11 :: s.response, x, s)
    else s

/-- A verdict on nothing: no item is presented. -/
def noVerdict : Verdict := ⟨false, false, [], [], 0⟩

/-- The body of a request. -/
def requestBody (op flags tag : Nat) (b : List Nat) : List Nat := [op, flags] ++ beBytes 2 tag ++ b

/-- Operands of a monitor request that are such: bytes. -/
def okRequest (flags tag : Nat) (b : List Nat) : Bool := areBytes b && decide (flags < 256) && decide (tag < 2 ^ 16)

/-- Levels of input pins. -/
def okLevels (pins : List (Nat × Nat × Nat)) : Bool :=
  pins.all fun p => okDie p.1 && decide (p.2.1 < 24) && decide (p.2.2 < 2)

/-- MONITOR_TOKEN (R496): a debug token is presented in parts, `b` holding OFFSET and the part's bytes. -/
def execMonitorToken (via : Via) (flags tag : Nat) (b : List Nat) (v : Verdict) (s : State) : Answer :=
  actFw (okRequest flags tag b) s (s.monitor ⟨[], v⟩ via (requestBody 1 flags tag b))

/-- MONITOR_STATUS (R496): the debug and tick state is returned. -/
def execMonitorStatus (via : Via) (flags tag : Nat) (b : List Nat) (s : State) : Answer :=
  actFw (okRequest flags tag b) s (s.monitor ⟨[], noVerdict⟩ via (requestBody 2 flags tag b))

/-- MONITOR_HALT (R503): a boundary or an immediate halt is requested, `b` holding MODE. -/
def execMonitorHalt (via : Via) (flags tag : Nat) (b : List Nat) (s : State) : Answer :=
  actFw (okRequest flags tag b) s (s.monitor ⟨[], noVerdict⟩ via (requestBody 3 flags tag b))

/-- MONITOR_RELEASE (R506): at time `t` the tick is released at boundary k_r, which `b` holds, with the levels `pins` driven on
input pins there as (die, pin, level). -/
def execMonitorRelease (via : Via) (flags tag : Nat) (b : List Nat) (pins : List (Nat × Nat × Nat)) (t : Nat) (s : State) : Answer :=
  actFw (okRequest flags tag b && okLevels pins && decide (t < 2 ^ 80)) s
    ((s.at t).monitor ⟨pins, noVerdict⟩ via (requestBody 4 flags tag b))

/-- MONITOR_STEP (R510): at time `t` a number of ticks is asked for, `b` holding the count and k_r; the levels `pins` stand on
input pins where the tick opens. -/
def execMonitorStep (via : Via) (flags tag : Nat) (b : List Nat) (pins : List (Nat × Nat × Nat)) (t : Nat) (s : State) : Answer :=
  actFw (okRequest flags tag b && okLevels pins && decide (t < 2 ^ 80)) s
    ((s.at t).monitor ⟨pins, noVerdict⟩ via (requestBody 5 flags tag b))

/-- MONITOR_READ (R502): words are read through the debug master, `b` holding ADDR and COUNT. -/
def execMonitorRead (via : Via) (flags tag : Nat) (b : List Nat) (s : State) : Answer :=
  actFw (okRequest flags tag b) s (s.monitor ⟨[], noVerdict⟩ via (requestBody 6 flags tag b))

/-- MONITOR_WRITE (R502): words are written through the debug master, `b` holding ADDR, COUNT and the words. -/
def execMonitorWrite (via : Via) (flags tag : Nat) (b : List Nat) (s : State) : Answer :=
  actFw (okRequest flags tag b) s (s.monitor ⟨[], noVerdict⟩ via (requestBody 7 flags tag b))

/-- MONITOR_OBJECT (R496): an object is read or written, `b` holding a body of R467. -/
def execMonitorObject (via : Via) (flags tag : Nat) (b : List Nat) (v : Verdict) (s : State) : Answer :=
  actFw (okRequest flags tag b) s (s.monitor ⟨[], v⟩ via (requestBody 8 flags tag b))

/-- MONITOR_READBACK (R517): user state is read through the configuration plane, `b` holding die, KIND and INDEX. -/
def execMonitorReadback (via : Via) (flags tag : Nat) (b : List Nat) (s : State) : Answer :=
  actFw (okRequest flags tag b) s (s.monitor ⟨[], noVerdict⟩ via (requestBody 9 flags tag b))

/-- MONITOR_COMPARE (R514): a comparator is armed, `b` holding its die, number, CFG, VAL, MASK and LIMIT. -/
def execMonitorCompare (via : Via) (flags tag : Nat) (b : List Nat) (s : State) : Answer :=
  actFw (okRequest flags tag b) s (s.monitor ⟨[], noVerdict⟩ via (requestBody 10 flags tag b))

end Sys2Proof.Machine
end

