-- ==== Sys2Proof/Machine/OdNet.lean ====
section
/-! DEFINITION. Network management, SDO and USDO, the UDP transport, PDOs, heartbeat and emergencies (R452 to R478). -/

namespace Sys2Proof.Machine

/-! ### Paths that bring messages -/

/-- Whether controller `c` receives: enabled and not in bus-off. -/
def State.canHears (s : State) (c : Nat) : Bool := s.has (.od .CAN_EN) 0 c 1 && !s.has (.od .CAN_STATE) 0 c 2

/-- Whether path `p` brings messages: a controller, or 2 the management port. -/
def State.hears (s : State) (p : Nat) : Bool := if p = 2 then s.udpUp else s.canHears p

/-- The NMT state, as its heartbeat code (R458). -/
def State.nmt (s : State) : Nat := s.rd (.od .NODE_NMT)

/-- Whether SDO, USDO, and UDP READ and WRITE are served (R458). -/
def State.sdoServed (s : State) : Bool := s.nmt == 127 || s.nmt == 5

/-- Whether PDOs are served. -/
def State.pdoServed (s : State) : Bool := s.nmt == 5

/-- Whether controller `c` runs an SDO server: it answers, so the slot ID is valid (R453, R455). -/
def State.sdoServer (s : State) (c : Nat) : Bool := s.canHears c && s.has (.od .NODE_VALID) 0 0 1 && s.sdoServed

/-! ### Network management (R458 to R460) -/

/-- Whether an NMT command to `node` on path `p` is for this device and served. -/
def State.nmtFor (s : State) (p node : Nat) : Bool := s.hears p && s.nmt != 0 && (node == 0 || node == s.nodeId)

/-- The NMT state changes. -/
def State.setNmt (s : State) (v : Nat) : State := s.wr (.od .NODE_NMT) 0 0 v

/-- Reset node: the active image is cleared unless the tick is ARMED, RUNNING or HALTED or a load is in progress (R388), and a
reset communication follows. -/
def State.resetNode (s : State) : State :=
  if s.tickLive then s.initialise.raiseEvent 0x6010 2 0
  else (if s.loading then s else s.clearImage).initialise

/-- The NMT command of a specifier. -/
def State.nmtCommand (s : State) (specifier : Nat) : State :=
  match specifier with
  | 0x01 => s.setNmt 5
  | 0x02 => s.setNmt 4
  | 0x80 => s.setNmt 127
  | 0x81 => s.resetNode
  | 0x82 => s.initialise
  | _ => s

/-- NMT_START (R459): controller `c` receives Start for `node`, 0 for every node: Operational. -/
def execNmtStart (c node : Nat) (s : State) : Answer :=
  actOd (decide (c < 2) && decide (node < 128)) s (if s.nmtFor c node then s.setNmt 5 else s)

/-- NMT_STOP (R459): controller `c` receives Stop for `node`: Stopped. -/
def execNmtStop (c node : Nat) (s : State) : Answer :=
  actOd (decide (c < 2) && decide (node < 128)) s (if s.nmtFor c node then s.setNmt 4 else s)

/-- NMT_ENTER_PRE_OPERATIONAL (R459): controller `c` receives the command for `node`: Pre-operational. -/
def execNmtEnterPreOperational (c node : Nat) (s : State) : Answer :=
  actOd (decide (c < 2) && decide (node < 128)) s (if s.nmtFor c node then s.setNmt 127 else s)

/-- NMT_RESET_COMMUNICATION (R460): controller `c` receives the command for `node`: the communication objects are initialised
and the boot-up message is sent. -/
def execNmtResetCommunication (c node : Nat) (s : State) : Answer :=
  actOd (decide (c < 2) && decide (node < 128)) s (if s.nmtFor c node then s.initialise else s)

/-- NMT_RESET_NODE (R459): controller `c` receives the command for `node`: the image is cleared where the tick allows it, and a
reset communication follows. -/
def execNmtResetNode (c node : Nat) (s : State) : Answer :=
  actOd (decide (c < 2) && decide (node < 128)) s (if s.nmtFor c node then s.resetNode else s)

/-! ### SDO and USDO (R455, R463, R465) -/

/-- What a complete download of an object does; one to 0x2A00:01 is a request of the monitor (R494, R521). -/
def State.download (s : State) (e : MonEnv) (idx sub : Nat) (l : List Nat) : Nat × State :=
  if idx = 0x2A00 ∧ sub = 1 ∧ s.objAbort idx sub = 0 then
    if l.length < 4 then (0x06070010, s) else (0, s.monitorBody e l)
  else s.odWrite idx sub l e.verdict

/-- SDO_UPLOAD (R463): controller `c` completes an upload of an object: its bytes, least significant first, or the abort. -/
def execSdoUpload (c idx sub : Nat) (s : State) : Answer :=
  actOd (decide (c < 2) && decide (idx < 2 ^ 16) && decide (sub < 256)) s
    (if s.sdoServer c then
       let r := s.odRead idx sub false
       r.st.emit .sdoAnswer c ([idx, sub, r.code] ++ r.bytes)
     else s)

/-- The answer to a complete download on controller `c`. -/
def State.sdoDownload (s : State) (e : MonEnv) (c idx sub : Nat) (l : List Nat) : State :=
  let (code, s) := s.download e idx sub l
  s.emit .sdoAnswer c [idx, sub, code]

/-- SDO_DOWNLOAD (R463): controller `c` completes a download of bytes to an object, which is written, or aborted. `v` is what
cryptography finds in a signed item, and `pins` are the levels at a boundary that a monitor request opens. -/
def execSdoDownload (c idx sub : Nat) (bytes : List Nat) (v : Verdict) (pins : List (Nat × Nat × Nat)) (s : State) : Answer :=
  actOd (decide (c < 2) && decide (idx < 2 ^ 16) && decide (sub < 256) && areBytes bytes && okLevels pins) s
    (if s.sdoServer c then s.sdoDownload ⟨pins, v⟩ c idx sub bytes else s)

/-- SDO_TIMEOUT (R465): a transfer of an object on controller `c` has stood still for 1 s, and is aborted. -/
def execSdoTimeout (c idx sub : Nat) (s : State) : Answer :=
  actOd (decide (c < 2) && decide (idx < 2 ^ 16) && decide (sub < 256)) s
    (if s.sdoServer c then s.emit .sdoAnswer c [idx, sub, 0x05040000] else s)

/-! ### The UDP transport (R457, R466 to R469, R487) -/

/-- A UDP source: an address, a port, SESSION and SEQ. -/
def okSource (addr port id seq : Nat) : Bool :=
  decide (addr < 2 ^ 32) && decide (port < 2 ^ 16) && decide (id < 2 ^ 16) && decide (seq < 2 ^ 16)

/-- An access with FLAGS.SELECT writes its SELECT value first, in the same atomic step (R487): the abort code of the select. -/
def State.withSelect (s : State) (sel : Option Nat) (idx : Nat) : Nat × State :=
  match sel with
  | none => (0, s)
  | some v => s.writeSelect idx v

/-- UDP_READ (R467): a READ datagram, of a SELECT value where `sel` has one, reads an object from OFFSET on. -/
def execUdpRead (addr port id seq : Nat) (sel : Option Nat) (idx sub offset : Nat) (s : State) : Answer :=
  actOd (okSource addr port id seq && decide (idx < 2 ^ 16) && decide (sub < 256)) s
    (if s.udpUp && s.sdoServed then
       s.exchange addr port id seq (responseBody idx sub 0x08000000 0 []) fun x s =>
         let (c, s) := s.withSelect sel idx
         if c ≠ 0 then (3 :: responseBody idx sub c 0 [], x, s)
         else
           let (_, l, s) := s.objectRead idx sub offset false
           (3 :: l, x, s)
     else s)

/-- UDP_WRITE (R467): a WRITE datagram writes 1 to 1,440 bytes at OFFSET of an object; with `last` it ends the series of a DOMAIN
value. `v` and `pins` are as for SDO_DOWNLOAD. -/
def execUdpWrite (addr port id seq : Nat) (sel : Option Nat) (idx sub offset : Nat) (last : Bool) (bytes : List Nat) (v : Verdict)
    (pins : List (Nat × Nat × Nat)) (s : State) : Answer :=
  actOd (okSource addr port id seq && decide (idx < 2 ^ 16) && decide (sub < 256) && areBytes bytes && decide (1 ≤ bytes.length) &&
      decide (bytes.length ≤ 1440) && okLevels pins) s
    (if s.udpUp && s.sdoServed then
       s.exchange addr port id seq (responseBody idx sub 0x08000000 0 []) fun x s =>
         let (c, s) := s.withSelect sel idx
         if c ≠ 0 then (3 :: responseBody idx sub c 0 [], x, s)
         else
           let (c, y, s) := s.objectWrite (x.idx, x.sub, x.part) idx sub offset bytes last (fun i j l s => s.download ⟨pins, v⟩ i j l)
           (3 :: responseBody idx sub c 0 [], { x with idx := y.1, sub := y.2.1, part := y.2.2 }, s)
     else s)

/-- UDP_NMT (R467): an NMT datagram carries a command for `node`; it has no response. -/
def execUdpNmt (specifier node : Nat) (s : State) : Answer :=
  actOd (decide (specifier < 256) && decide (node < 128)) s (if s.nmtFor 2 node then s.nmtCommand specifier else s)

/-- UDP_SESSION_TIMEOUT (R468): a session has been idle for 60 s and is closed. -/
def execUdpSessionTimeout (addr port id : Nat) (s : State) : Answer :=
  actOd (okSource addr port id 0) s { s with sessions := s.sessions.filter fun x => !x.keyed addr port id }

/-- ARP_REQUEST (R457): an ARP request for address `addr` is answered with OD_MAC where it is the port's own. -/
def execArpRequest (addr : Nat) (s : State) : Answer :=
  actOd (decide (addr < 2 ^ 32)) s
    (if s.udpUp && s.has (.od .ETH_ADDR) 0 0 addr then s.emit .arp 2 [s.rd (.od .MAC_ADDR), addr] else s)

/-- ICMP_ECHO (R457): an echo request from address `addr` is answered with its payload. -/
def execIcmpEcho (addr : Nat) (payload : List Nat) (s : State) : Answer :=
  actOd (decide (addr < 2 ^ 32) && areBytes payload) s
    (if s.udpUp && s.canReach addr then s.emit .icmp 2 (addr :: payload) else s)

/-! ### Heartbeat (R473) -/

/-- The action of 0x1029:01 (R478). -/
def State.commError (s : State) : State :=
  match s.odGet 0x1029 1 with
  | 0 => s.setNmt 127
  | 2 => s.setNmt 4
  | _ => s

/-- The node and the time of consumer entry `j`, from 0. -/
def State.consumer (s : State) (j : Nat) : Nat × Nat :=
  let v := s.odGet 0x1016 (1 + j)
  (v / 65536 % 256, v % 65536)

/-- HEARTBEAT_PRODUCER (R473): 0x1017 ms have passed, and the heartbeat goes out on every path. -/
def execHeartbeatProducer (s : State) : Answer :=
  actOd true s (if s.odGet 0x1017 0 = 0 ∨ s.nmt = 0 then s else s.sendAll .heartbeat [s.nmt])

/-- HEARTBEAT_RECEIVED (R473): path `p` brings the heartbeat of a node; the entries that watch it are armed, and its condition
ends. -/
def execHeartbeatReceived (p node : Nat) (s : State) : Answer :=
  actOd (decide (p < 3) && decide (node < 256)) s
    (if s.hears p && s.nmt != 0 then
       let l := (List.range 4).filter fun j => (s.consumer j).1 == node && (s.consumer j).2 != 0
       if l.isEmpty then s else (each l (fun j s => s.wr (.od .armed) 0 j 1) s).endCond 0x8130 node
     else s)

/-- The tick command that 0x2400:10 chooses on a heartbeat loss. -/
def State.lossAction (s : State) : State :=
  if s.tick ≠ 2 then s
  else
    match s.odGet 0x2400 0x10 with
    | 1 => s.wr (.tick .wait) 0 0 1 |>.setRefuse 0
    | 2 => s.wr (.tick .wait) 0 0 2 |>.setRefuse 0
    | _ => s

/-- HEARTBEAT_CONSUMER_TIMEOUT (R473): the time of the armed consumer entry `j` passes without a heartbeat: EMCY 0x8130, and
the actions of 0x1029:01 and 0x2400:10. While the tick is HALTED no entry expires (R512). -/
def execHeartbeatConsumerTimeout (j : Nat) (s : State) : Answer :=
  actOd (decide (j < 4)) s
    (if s.has (.od .armed) 0 j 0 || s.tick == 5 || (s.consumer j).2 == 0 then s
     else
       let s := (s.wr (.od .armed) 0 j 0).raiseCond 0x8130 (s.consumer j).1 0
       s.commError.lossAction)

/-! ### PDOs (R470 to R472) -/

/-- The COB-ID object of a PDO. -/
def commIndex (tx : Bool) (n : Nat) : Nat := (if tx then 0x1800 else 0x1400) + n

/-- The mapping entries of a PDO that are in force. -/
def State.mapping (s : State) (tx : Bool) (n : Nat) : List Nat :=
  s.mapEntries tx n (s.odGet ((if tx then 0x1A00 else 0x1600) + n) 0)

/-- The bytes that a mapping takes. -/
def mapBytes (l : List Nat) : Nat := l.foldl (fun a e => a + e % 256 / 8) 0

/-- The value of a mapping entry, as bytes least significant first; where its read is refused an open value. -/
def State.mapped (s : State) (e : Nat) : List Nat × State :=
  let k := e % 256 / 8
  let r := s.odRead (e / 65536) (e / 256 % 256) false
  if r.code = 0 then (r.bytes.take k, r.st) else (leBytes k (r.st.freeValue (8 * k)), r.st.spend)

/-- The values of a mapping in order, each as its bytes. -/
def State.sample (s : State) : List Nat → List (List Nat) × State
  | [] => ([], s)
  | e :: l =>
    let (b, s) := s.mapped e
    let (bs, s) := s.sample l
    (b :: bs, s)

/-- EMCY 0x8210 for a PDO that is too long for a controller, once until it is remapped: EVENT `ev`, flag `j`. -/
def State.sayLength (s : State) (j ev k : Nat) : State :=
  if s.has (.od .pdoSaid) 0 j 1 then s else (s.wr (.od .pdoSaid) 0 j 1).raiseEvent 0x8210 ev k

/-- TPDO `n` goes out on a path: on CAN its CAN-ID and values least significant byte first, over UDP its number, 0 and values
most significant byte first. -/
def State.sendPdo (s : State) (n : Nat) (vs : List (List Nat)) (p : Nat) : State :=
  let k := vs.flatten.length
  if p = 2 then s.sendOn .tpdo ([n + 1, 0] ++ (vs.map List.reverse).flatten) 2
  else if 8 < k ∧ s.has (.od .CAN_FD) 0 p 0 then s.sayLength (8 + n) (0x80 + n) k
  else s.sendOn .tpdo (s.odGet (commIndex true n) 1 % 2 ^ 29 :: vs.flatten) p

/-- TPDO `n` is sent with its values as they now are, unless it is disabled or within its inhibit time. -/
def State.transmit (s : State) (n : Nat) : State :=
  let l := s.mapping true n
  let wait := nsec (100000 * s.odGet (commIndex true n) 3)
  if s.pdoOff true n || l.isEmpty || (s.has (.od .tpdoHas) 0 n 1 && decide (s.time < s.rd (.od .tpdoAt) 0 n + wait)) then s
  else
    let (vs, s) := s.sample l
    let s := (s.wr (.od .tpdoHas) 0 n 1).wr (.od .tpdoAt) 0 n s.time
    each s.paths (fun p s => s.sendPdo n vs p) s

/-- A value of a mapping entry is written; a refusal is dropped with EMCY 0x8220 (R472). -/
def State.applyEntry (s : State) (n e : Nat) (b : List Nat) : State :=
  let (c, s) := s.odWrite (e / 65536) (e / 256 % 256) b noVerdict
  if c = 0 then s else s.raiseEvent 0x8220 n c

/-- The values of an RPDO are written in mapping order. -/
def State.applyEntries (s : State) (n : Nat) : List Nat → List Nat → State
  | [], _ => s
  | e :: l, b =>
    let k := e % 256 / 8
    (s.applyEntry n e (b.take k)).applyEntries n l (b.drop k)

/-- RPDO `n` is applied. -/
def State.applyPdo (s : State) (n : Nat) (b : List Nat) : State := s.applyEntries n (s.mapping false n) b

/-- The bytes of an RPDO by its mapping with each value least significant byte first: over UDP they come the other way round. -/
def valueOrder (udp : Bool) : List Nat → List Nat → List Nat
  | [], _ => []
  | e :: l, b =>
    let k := e % 256 / 8
    (if udp then (b.take k).reverse else b.take k) ++ valueOrder udp l (b.drop k)

/-- RPDO_RECEIVED (R472): path `p` brings RPDO `n`, with its bytes as they travel; it is applied, or waits for the next SYNC. -/
def execRpdoReceived (p n : Nat) (bytes : List Nat) (s : State) : Answer :=
  actFw (decide (p < 3) && decide (n < 8) && areBytes bytes) s
    (if !(s.hears p && s.pdoServed) || s.pdoOff false n then s
     else
       let l := s.mapping false n
       let k := mapBytes l
       if 8 < k ∧ p ≠ 2 ∧ s.has (.od .CAN_FD) 0 p 0 then s.sayLength n n k
       else if bytes.length < k then s.raiseEvent 0x8210 n bytes.length
       else
         let s := s.endCond 0x8250 n
         let b := valueOrder (p == 2) l bytes
         if s.odGet (commIndex false n) 2 ≤ 240 then
           { s with rpdoHeld := (s.rpdoHeld.filter fun x => x.1 != n) ++ [(n, b)] }
         else s.applyPdo n b)

/-- RPDO_TIMEOUT (R472): no RPDO `n` has arrived within its event time. While the tick is HALTED no event timer runs (R512). -/
def execRpdoTimeout (n : Nat) (s : State) : Answer :=
  actFw (decide (n < 8)) s
    (if !s.pdoServed || s.pdoOff false n || s.odGet (commIndex false n) 5 == 0 || s.tick == 5 then s
     else s.raiseCond 0x8250 n 0)

/-- TPDO `n` of a synchronous type counts a SYNC, from the one whose counter is its start value where 0x1019 is not 0, and is
sent at every type-th (R471). -/
def State.countSync (s : State) (counter n : Nat) : State :=
  let type := s.odGet (commIndex true n) 2
  let start := s.odGet (commIndex true n) 6
  if s.pdoOff true n || type == 0 || decide (240 < type) then s
  else
    let begins := s.odGet 0x1019 0 == 0 || start == 0 || start == counter
    let s := if begins then s.wr (.od .syncOn) 0 n 1 else s
    if s.has (.od .syncOn) 0 n 0 then s
    else
      let k := s.rd (.od .syncCount) 0 n + 1
      if type ≤ k then (s.wr (.od .syncCount) 0 n 0).transmit n else s.wr (.od .syncCount) 0 n k

/-- SYNC_MESSAGE (R471): at time `t` controller `c` brings a SYNC with its counter, 0 where it carries none; the synchronous TPDOs
are sampled and sent, and the RPDOs that waited are applied. Only the controller that TICK_SRC.CAN names counts (R455). -/
def execSyncMessage (c counter t : Nat) (s : State) : Answer :=
  actFw (decide (c < 2) && decide (counter < 256) && decide (t < 2 ^ 80)) s
    (if s.canHears c && s.pdoServed && s.has (.tick .SRC_CAN) 0 0 c then
       let s := each (List.range 8) (fun n s => s.countSync counter n) (s.at t)
       let l := s.rpdoHeld
       each l (fun x s => s.applyPdo x.1 x.2) { s with rpdoHeld := [] }
     else s)

/-- TPDO_EVENT_TIMER (R471): at time `t` the event timer of TPDO `n` of type 255 expires, and it is sent. -/
def execTpdoEventTimer (n t : Nat) (s : State) : Answer :=
  actFw (decide (n < 8) && decide (t < 2 ^ 80)) s
    (if s.pdoServed && s.odGet (commIndex true n) 2 == 255 && s.odGet (commIndex true n) 5 != 0 then (s.at t).transmit n else s)

/-- The TPDOs of type 254 go out after a committed boundary (R471). -/
def State.afterCommit (s : State) : State :=
  if s.booted && s.pdoServed then
    each ((List.range 8).filter fun n => s.odGet (commIndex true n) 2 == 254) (fun n s => s.transmit n) s
  else s

/-- BOUNDARY_PULSE (R45, R471): the time base reaches a boundary with the levels `pins` driven on input pins as (die, pin, level):
ARMED begins its run, and a RUNNING tick whose commit is decided ends, with the TPDOs of type 254. -/
def execBoundaryPulse (pins : List (Nat × Nat × Nat)) (s : State) : Answer :=
  actCore (okLevels pins) s
    (let t := s.boundary pins
     if s.tick = 2 ∧ t.rd (.tick .NUMBER) ≠ s.rd (.tick .NUMBER) then t.afterCommit else t)

/-! ### Emergencies and the controllers -/

/-- EMCY_TRANSMIT (R474): at time `t` the oldest queued emergency goes out, once the inhibit time of 0x1015 since the last has
passed; in Stopped it is held. -/
def execEmcyTransmit (t : Nat) (s : State) : Answer :=
  actOd (decide (t < 2 ^ 80)) s
    (let s := s.at t
     let wait := nsec (100000 * s.odGet 0x1015 0)
     if !s.sdoServed || (s.has (.od .emcyHas) 0 0 1 && decide (s.time < s.rd (.od .emcyAt) + wait)) then s
     else
       match s.emcyQueue with
       | [] => s
       | e :: l =>
         let s : State := { s with emcyQueue := l }
         ((s.wr (.od .emcyHas) 0 0 1).wr (.od .emcyAt) 0 0 s.time).sendOut e)

/-- The error counters of a controller. -/
def State.setCounters (s : State) (c tec rec' : Nat) : State := (s.wr (.od .CAN_TEC) 0 c tec).wr (.od .CAN_REC) 0 c rec'

/-- Counter values of a controller. -/
def okCounters (c tec rec' : Nat) : Bool := decide (c < 2) && decide (tec < 256) && decide (rec' < 256)

/-- CAN_BUS_OFF (R478): controller `c` enters bus-off, its counters then reading `tec` and `rec'`; the action of 0x1029:01
follows. -/
def execCanBusOff (c tec rec' : Nat) (s : State) : Answer :=
  actOd (okCounters c tec rec') s
    (if s.canHears c then
       let s := ((s.setCounters c tec rec').wr (.od .CAN_STATE) 0 c 2).inc (.od .CAN_BUSOFF) 0 c
       (s.endCond 0x8120 c).commError
     else s)

/-- BUS_OFF_RECOVERY (R455): controller `c` has seen 128 occurrences of 11 recessive bits in bus-off, and recovers. -/
def execBusOffRecovery (c : Nat) (s : State) : Answer :=
  actOd (decide (c < 2)) s
    (if s.has (.od .CAN_STATE) 0 c 2 then
       let s := (s.setCounters c 0 0).wr (.od .CAN_STATE) 0 c 0
       s.raiseEvent 0x8140 c (s.rd (.od .CAN_BUSOFF) 0 c)
     else s)

/-- CAN_ERROR_PASSIVE (R476): the error counters of controller `c` take it into error passive (`on`) or out of it. -/
def execCanErrorPassive (c : Nat) (on : Bool) (tec rec' : Nat) (s : State) : Answer :=
  actOd (okCounters c tec rec') s
    (if s.canHears c then
       let s := (s.setCounters c tec rec').wr (.od .CAN_STATE) 0 c (b2n on)
       if on then s.raiseCond 0x8120 c (tec + rec' * 256) else s.endCond 0x8120 c
     else s)

/-- CAN_RECEIVE_OVERRUN (R476): `k` frames arrive at controller `c` while its receive buffer is full, and are lost. -/
def execCanReceiveOverrun (c k : Nat) (s : State) : Answer :=
  actOd (decide (c < 2) && decide (1 ≤ k)) s
    (if s.canHears c then
       let s := s.add (.od .canLost) 0 c k
       s.raiseEvent 0x8110 c (s.rd (.od .canLost) 0 c)
     else s)

/-- OD_CAN_WRITE (R456): OD_CAN(`c`) is written: EN and PROTO take effect at once, the rates are held. -/
def execOdCanWrite (c v : Nat) (s : State) : Answer :=
  actOd (decide (c < 2) && decide (v < 2 ^ 48)) s (s.writeOdCan c v).st

/-- OD_ETH_ADDR_WRITE (R457): OD_ETH.ADDR is written, the other fields of OD_ETH with it as they stand. -/
def execOdEthAddrWrite (addr : Nat) (s : State) : Answer :=
  actOd (decide (addr < 2 ^ 32)) s
    (s.writeOdEth (s.rd (.od .ETH_EN) + addr * 4 + s.rd (.od .ETH_PREFIX) * 2 ^ 34)).st

/-! ### Fabric-implemented objects (R489 to R491) -/

/-- An ignored declaration or update. -/
def State.badUpdate (s : State) (d : Nat) : State := s.inc (.od .FPORT_BADUPD) 0 d

/-- What VDATA declares (R489). -/
def declared (d vidx v : Nat) : FObj := ⟨d, 0x5000 + vidx, v % 256, v / 256 % 256, slice v 16 3, v.testBit 19⟩

/-- Whether the fields of a declaration are in range. -/
def declarationOk (vsub v : Nat) : Bool :=
  vsub == 0 && decide (1 ≤ v % 256) && decide (v % 256 ≤ 254) && isInteger (v / 256 % 256) && decide (slice v 16 3 ≤ 4) &&
    decide (v < 2 ^ 20)

/-- The sub-index values that declared objects take. -/
def State.fvaluesUsed (s : State) : Nat := s.fobjs.foldl (fun a o => a + o.top) 0

/-- The logical number of a die. -/
def State.logicalDie (s : State) (d : Nat) : Nat := s.rd (.cfg .DIE_LOGICAL) (1 + d)

/-- An object that is no longer declared, with its values and the writes to it. -/
def State.dropObject (s : State) (idx : Nat) : State :=
  { s with
    fobjs := s.fobjs.filter fun o => o.idx != idx
    fvals := Sparse.clear (fun k => k / 256 == idx) s.fvals
    fstaged := s.fstaged.filter fun u => u.idx != idx
    fwrites := s.fwrites.filter fun w => w.idx != idx }

/-- A new object is declared, where values are left for its sub-indices. -/
def State.addObject (s : State) (o : FObj) : State :=
  if 16384 < s.fvaluesUsed + o.top then s.badUpdate o.die else { s with fobjs := s.fobjs ++ [o] }

/-- OD_DECLARATION (R489): the OD port of die `d` takes VIDX, VSUB and VDATA `v` with VDECL = 1. -/
def execOdDeclaration (d vidx vsub v : Nat) (s : State) : Answer :=
  actFw (okDie d && decide (vidx < 2 ^ 12) && decide (vsub < 256) && decide (v < 2 ^ 64)) s
    (if s.has (.od .FPORT_READY) 0 d 0 || !s.fabricRuns d then s
     else if s.has (.od .FPORT_OPEN) 0 d 0 || !declarationOk vsub v then s.badUpdate d
     else
       let o := declared d vidx v
       match s.fobjs.find? fun x => x.idx == o.idx with
       | none => s.addObject o
       | some x =>
         if x.die = d then (if x = o then s else s.badUpdate d)
         else if s.logicalDie x.die < s.logicalDie d then s.inc (.od .FPORT_CONFLICTS) 0 d
         else ((s.inc (.od .FPORT_CONFLICTS) 0 x.die).dropObject o.idx).addObject o)

/-- OD_UPDATE (R490): the OD port of die `d` takes VIDX, VSUB and VDATA `v` with VDECL = 0: staged while the tick is RUNNING, else
committed at once. -/
def execOdUpdate (d vidx vsub v : Nat) (s : State) : Answer :=
  actFw (okDie d && decide (vidx < 2 ^ 12) && decide (vsub < 256) && decide (v < 2 ^ 64)) s
    (if s.has (.od .FPORT_READY) 0 d 0 || !s.fabricRuns d then s
     else
       match s.fobjs.find? fun x => x.idx == 0x5000 + vidx && x.die == d with
       | none => s.badUpdate d
       | some o =>
         if vsub = 0 ∨ o.top < vsub ∨ o.access = 1 then s.badUpdate d
         else
           let x := v % 2 ^ (8 * typeBytes o.type)
           if s.tick = 2 then
             { s with fstaged := (s.fstaged.filter fun u => !(u.idx == o.idx && u.sub == vsub)) ++ [⟨o.idx, vsub, x⟩] }
           else { s with fvals := Sparse.set id (fun _ => 0) s.fvals (256 * o.idx + vsub) x })

/-- FABRIC_OBJECT_WRITE (R491): a host write of bytes, least significant first, to a fabric-implemented object completes on
controller `c`, and joins the pending list of its die, or is aborted. -/
def execFabricObjectWrite (c idx sub : Nat) (bytes : List Nat) (s : State) : Answer :=
  actFw (decide (c < 2) && decide (0x5000 ≤ idx) && decide (idx < 0x6000) && decide (sub < 256) && areBytes bytes) s
    (if s.sdoServer c then s.sdoDownload ⟨[], noVerdict⟩ c idx sub bytes else s)

/-- The first presented write that is not taken, marked as taken. -/
def takeWrite (w : FWrite) : List FWrite → List FWrite
  | [] => []
  | x :: l => if x = w then { x with taken := true } :: l else x :: takeWrite w l

/-- OD_HOST_WRITE_TAKE (R491): fabric logic of die `d` takes the presented write with HTAKE: HIDX, HSUB, HDATA and HLAST. -/
def execOdHostWriteTake (d : Nat) (s : State) : Answer :=
  actFw (okDie d) s
    (let l := s.fwrites.filter fun w => w.die == d && w.shown && !w.taken
     match l with
     | [] => s
     | w :: r =>
       if s.tick = 2 ∧ s.fabricRuns d then
         State.emit { s with fwrites := takeWrite w s.fwrites } .readBack d [w.idx - 0x5000, w.sub, s.hdata w, b2n r.isEmpty]
       else s)

end Sys2Proof.Machine
end

