-- ==== Sys2Proof/Machine/Dispatch.lean ====
section
/-! DEFINITION. One arm for each command: its meaning. -/

namespace Sys2Proof.Machine

def exec (i : Instr) (s : State) : Host.Outcome State Fault Refusal :=
  match i with
  | .tickArm t => Sys2Proof.Machine.execTickArm t s
  | .tickResume t => Sys2Proof.Machine.execTickResume t s
  | .tickPause => Sys2Proof.Machine.execTickPause s
  | .tickStop => Sys2Proof.Machine.execTickStop s
  | .deadlinePulse outs missing => Sys2Proof.Machine.execDeadlinePulse outs missing s
  | .boundaryPulse pins => Sys2Proof.Machine.execBoundaryPulse pins s
  | .tickWatchdogExpiry => Sys2Proof.Machine.execTickWatchdogExpiry s
  | .tickWdogKick v => Sys2Proof.Machine.execTickWdogKick v s
  | .tickWdogPeriodWrite v => Sys2Proof.Machine.execTickWdogPeriodWrite v s
  | .tickSlackClr d v => Sys2Proof.Machine.execTickSlackClr d v s
  | .pairLoWrite p v => Sys2Proof.Machine.execPairLoWrite p v s
  | .pairLoRead p => Sys2Proof.Machine.execPairLoRead p s
  | .unitDone u k t => Sys2Proof.Machine.execUnitDone u k t s
  | .groupStart p ns per g t0 ks => Sys2Proof.Machine.execGroupStart p ns per g t0 ks s
  | .memberDecision p id n commit cause => Sys2Proof.Machine.execMemberDecision p id n commit cause s
  | .groupDecision p n commit cause => Sys2Proof.Machine.execGroupDecision p n commit cause s
  | .groupDecisionMissing => Sys2Proof.Machine.execGroupDecisionMissing s
  | .sourceUpdate t src dt => Sys2Proof.Machine.execSourceUpdate t src dt s
  | .canSyncEdge c t => Sys2Proof.Machine.execCanSyncEdge c t s
  | .timeMessage c days ms => Sys2Proof.Machine.execTimeMessage c days ms s
  | .vccoMeasurement d mv => Sys2Proof.Machine.execVccoMeasurement d mv s
  | .sliceOperandSet d m a b dd ce load neg => Sys2Proof.Machine.execSliceOperandSet d m a b dd ce load neg s
  | .asStickyClr d => Sys2Proof.Machine.execAsStickyClr d s
  | .bankRead d b p a => Sys2Proof.Machine.execBankRead d b p a s
  | .bankWrite d b p a v => Sys2Proof.Machine.execBankWrite d b p a v s
  | .bankSet d b p a v => Sys2Proof.Machine.execBankSet d b p a v s
  | .bankClear d b p a v => Sys2Proof.Machine.execBankClear d b p a v s
  | .bankLockRead d b p a => Sys2Proof.Machine.execBankLockRead d b p a s
  | .bankWriteUnlock d b p a v => Sys2Proof.Machine.execBankWriteUnlock d b p a v s
  | .bankUnlock d b p a => Sys2Proof.Machine.execBankUnlock d b p a s
  | .bankInvalidOp d b p a => Sys2Proof.Machine.execBankInvalidOp d b p a s
  | .correctionWriteBack d b row => Sys2Proof.Machine.execCorrectionWriteBack d b row s
  | .bankNetworkSlot d b => Sys2Proof.Machine.execBankNetworkSlot d b s
  | .setAliasWrite p => Sys2Proof.Machine.execSetAliasWrite p s
  | .clearAliasWrite p => Sys2Proof.Machine.execClearAliasWrite p s
  | .bankBlankingDone d b => Sys2Proof.Machine.execBankBlankingDone d b s
  | .bankOn d b => Sys2Proof.Machine.execBankOn d b s
  | .bankRetention d b => Sys2Proof.Machine.execBankRetention d b s
  | .bankOff d b => Sys2Proof.Machine.execBankOff d b s
  | .bankTest d b level2 => Sys2Proof.Machine.execBankTest d b level2 s
  | .bankLeaveTest d b => Sys2Proof.Machine.execBankLeaveTest d b s
  | .bankBlank d b => Sys2Proof.Machine.execBankBlank d b s
  | .bankTransitionDone d b => Sys2Proof.Machine.execBankTransitionDone d b s
  | .bankTestWriteRaw d level2 => Sys2Proof.Machine.execBankTestWriteRaw d level2 s
  | .bankTestReadRaw d level2 => Sys2Proof.Machine.execBankTestReadRaw d level2 s
  | .bankEccClr d v => Sys2Proof.Machine.execBankEccClr d v s
  | .bankPolicyWrite v => Sys2Proof.Machine.execBankPolicyWrite v s
  | .fabricRequestIssue d k c entry auto type count mbox addr seq prio aux words t bad => Sys2Proof.Machine.execFabricRequestIssue d k c entry auto type count mbox addr seq prio aux words t s bad
  | .mread d k c m n q t => Sys2Proof.Machine.execMread d k c m n q t s
  | .mcount d k c m t => Sys2Proof.Machine.execMcount d k c m t s
  | .readRequest p => Sys2Proof.Machine.execReadRequest p s
  | .writeRequest p => Sys2Proof.Machine.execWriteRequest p s
  | .mboxRequest p => Sys2Proof.Machine.execMboxRequest p s
  | .postRequest p => Sys2Proof.Machine.execPostRequest p s
  | .responseArrival p t => Sys2Proof.Machine.execResponseArrival p s t
  | .requestTimeout u k tid => Sys2Proof.Machine.execRequestTimeout u k tid s
  | .tidQuarantineExpiry u k tid => Sys2Proof.Machine.execTidQuarantineExpiry u k tid s
  | .routerClose u r => Sys2Proof.Machine.execRouterClose u r s
  | .routerClosed u r => Sys2Proof.Machine.execRouterClosed u r s
  | .routerCloseTimeout u r => Sys2Proof.Machine.execRouterCloseTimeout u r s
  | .routerOpen u r => Sys2Proof.Machine.execRouterOpen u r s
  | .routerCfgWrite u r reg v => Sys2Proof.Machine.execRouterCfgWrite u r reg v s
  | .domainDrain d k => Sys2Proof.Machine.execDomainDrain d k s
  | .drainGateClose d k => Sys2Proof.Machine.execDrainGateClose d k s
  | .seifBlockReceived u l flits flips => Sys2Proof.Machine.execSeifBlockReceived u l flits flips s
  | .linkCrcSilence u l gone => Sys2Proof.Machine.execLinkCrcSilence u l gone s
  | .trainingRound lk tx rx tx' rx' => Sys2Proof.Machine.execTrainingRound lk tx rx tx' rx' s
  | .mapMessage u l => Sys2Proof.Machine.execMapMessage u l s
  | .confirmComplete lk => Sys2Proof.Machine.execConfirmComplete lk s
  | .roundTimeout lk => Sys2Proof.Machine.execRoundTimeout lk s
  | .seifRetrain u l => Sys2Proof.Machine.execSeifRetrain u l s
  | .seifHold u l => Sys2Proof.Machine.execSeifHold u l s
  | .seifRelease u l => Sys2Proof.Machine.execSeifRelease u l s
  | .isolate d => Sys2Proof.Machine.execIsolate d s
  | .rejoin d => Sys2Proof.Machine.execRejoin d s
  | .thermalTrip d tj => Sys2Proof.Machine.execThermalTrip d tj s
  | .dieSupplyFailure d => Sys2Proof.Machine.execDieSupplyFailure d s
  | .dieSupplyRecovery d gone => Sys2Proof.Machine.execDieSupplyRecovery d gone s
  | .budgetPeriod => Sys2Proof.Machine.execBudgetPeriod s
  | .dieGrant d => Sys2Proof.Machine.execDieGrant d s
  | .diePowerRequest d avg => Sys2Proof.Machine.execDiePowerRequest d avg s
  | .diePowerMeasurement d power tj => Sys2Proof.Machine.execDiePowerMeasurement d power tj s
  | .grantStale d => Sys2Proof.Machine.execGrantStale d s
  | .queuePush p u => Sys2Proof.Machine.execQueuePush p s u
  | .queuePop p u => Sys2Proof.Machine.execQueuePop p u s
  | .queuePeek p u => Sys2Proof.Machine.execQueuePeek p s u
  | .queueQopReserved p => Sys2Proof.Machine.execQueueQopReserved p s
  | .qmPopRead q src u => Sys2Proof.Machine.execQmPopRead q src u s
  | .qmPeekRead q src u => Sys2Proof.Machine.execQmPeekRead q src s u
  | .qmPushWrite q src v => Sys2Proof.Machine.execQmPushWrite q src v s
  | .qmPushendWrite q src v => Sys2Proof.Machine.execQmPushendWrite q src v s
  | .qmEnable q => Sys2Proof.Machine.execQmEnable q s
  | .qmDisable q => Sys2Proof.Machine.execQmDisable q s
  | .qmHoldPush q => Sys2Proof.Machine.execQmHoldPush q s
  | .qmHoldPop q => Sys2Proof.Machine.execQmHoldPop q s
  | .qmRelease q => Sys2Proof.Machine.execQmRelease q s
  | .qmFlush q => Sys2Proof.Machine.execQmFlush q s
  | .qmFlushDone q => Sys2Proof.Machine.execQmFlushDone q s
  | .qmQcfgWrite q v => Sys2Proof.Machine.execQmQcfgWrite q v s
  | .qmCntClr v => Sys2Proof.Machine.execQmCntClr v s
  | .openPacketTimeout q src prio => Sys2Proof.Machine.execOpenPacketTimeout q src prio s
  | .contextWrite src k words => Sys2Proof.Machine.execContextWrite src k words s
  | .frameHandover p t => Sys2Proof.Machine.execFrameHandover p s t
  | .caravanFrameReceived p t bytes => Sys2Proof.Machine.execCaravanFrameReceived p t bytes s
  | .cvnCntClr v => Sys2Proof.Machine.execCvnCntClr v s
  | .ppEnable p => Sys2Proof.Machine.execPpEnable p s
  | .ppDisable p => Sys2Proof.Machine.execPpDisable p s
  | .ppRestart p => Sys2Proof.Machine.execPpRestart p s
  | .portUp p state => Sys2Proof.Machine.execPortUp p s state
  | .attemptTimeout p => Sys2Proof.Machine.execAttemptTimeout p s
  | .portWaitExpiry p => Sys2Proof.Machine.execPortWaitExpiry p s
  | .laneFailure p m => Sys2Proof.Machine.execLaneFailure p m s
  | .frameTransmit p => Sys2Proof.Machine.execFrameTransmit p s
  | .ptpMessage p type domain => Sys2Proof.Machine.execPtpMessage p type s domain
  | .ptpSyncInterval p => Sys2Proof.Machine.execPtpSyncInterval p s
  | .sourceSyncLoss p => Sys2Proof.Machine.execSourceSyncLoss p s
  | .userLaneTxWord u w k idle => Sys2Proof.Machine.execUserLaneTxWord u w k idle s
  | .userLaneRxWord u w k => Sys2Proof.Machine.execUserLaneRxWord u w k s
  | .lanePllLock u => Sys2Proof.Machine.execLanePllLock u s
  | .prbsCheckerLock user j errs => Sys2Proof.Machine.execPrbsCheckerLock user j errs s
  | .ppLprbsClr user j => Sys2Proof.Machine.execPpLprbsClr user j s
  | .ppConfigWrite reg p v => Sys2Proof.Machine.execPpConfigWrite reg p v s
  | .dramColumnCommand q t flips => Sys2Proof.Machine.execDramColumnCommand q t flips s
  | .dramWriteBack q => Sys2Proof.Machine.execDramWriteBack q s
  | .writeCrcFailure q => Sys2Proof.Machine.execWriteCrcFailure q s
  | .refresh q => Sys2Proof.Machine.execRefresh q s
  | .mr4Read q temp => Sys2Proof.Machine.execMr4Read q temp s
  | .zqCalibration q => Sys2Proof.Machine.execZqCalibration q s
  | .dqsOscillator q => Sys2Proof.Machine.execDqsOscillator q s
  | .ecsRead q count => Sys2Proof.Machine.execEcsRead q count s
  | .patrolRead q flips => Sys2Proof.Machine.execPatrolRead q flips s
  | .rowClose q b => Sys2Proof.Machine.execRowClose q b s
  | .dramInit q step ok => Sys2Proof.Machine.execDramInit q step ok s
  | .dramBlank => Sys2Proof.Machine.execDramBlank s
  | .dramRetrain q => Sys2Proof.Machine.execDramRetrain q s
  | .ddrCntClr v => Sys2Proof.Machine.execDdrCntClr v s
  | .xinLost n => Sys2Proof.Machine.execXinLost n s
  | .referenceReturn u n => Sys2Proof.Machine.execReferenceReturn u n s
  | .srefLostAtDie d => Sys2Proof.Machine.execSrefLostAtDie d s
  | .forceSwitch u x => Sys2Proof.Machine.execForceSwitch u x s
  | .pllUnlock u k => Sys2Proof.Machine.execPllUnlock u k s
  | .autoReturn u x => Sys2Proof.Machine.execAutoReturn u x s
  | .clkRestore u x => Sys2Proof.Machine.execClkRestore u x s
  | .clkFallback u x => Sys2Proof.Machine.execClkFallback u x s
  | .pllRewrite d tree j v => Sys2Proof.Machine.execPllRewrite d tree j v s
  | .pllLock u k => Sys2Proof.Machine.execPllLock u k s
  | .fioReady u => Sys2Proof.Machine.execFioReady u s
  | .fioFailure u => Sys2Proof.Machine.execFioFailure u s
  | .sioFailure u => Sys2Proof.Machine.execSioFailure u s
  | .fioTrim u ppm move => Sys2Proof.Machine.execFioTrim u ppm move s
  | .cfgStart => Sys2Proof.Machine.execCfgStart s
  | .cfgAbort => Sys2Proof.Machine.execCfgAbort s
  | .cfgClear => Sys2Proof.Machine.execCfgClear s
  | .slavePortStart wide => Sys2Proof.Machine.execSlavePortStart wide s
  | .imageDataWrite bytes => Sys2Proof.Machine.execImageDataWrite bytes s
  | .loadHeader bytes => Sys2Proof.Machine.execLoadHeader bytes s
  | .placementTable bytes => Sys2Proof.Machine.execPlacementTable bytes s
  | .frameRecord bytes => Sys2Proof.Machine.execFrameRecord bytes s
  | .loadTrailer bytes t tagOk ecdsaOk hssOk vcco => Sys2Proof.Machine.execLoadTrailer bytes t tagOk ecdsaOk hssOk vcco s
  | .activationDramWaitEnd vcco => Sys2Proof.Machine.execActivationDramWaitEnd vcco s
  | .loadTimeout => Sys2Proof.Machine.execLoadTimeout s
  | .nicheLoad d x => Sys2Proof.Machine.execNicheLoad d x s
  | .nicheClear d x => Sys2Proof.Machine.execNicheClear d x s
  | .configScrubRead d upset => Sys2Proof.Machine.execConfigScrubRead d upset s
  | .bankScrubRead d => Sys2Proof.Machine.execBankScrubRead d s
  | .scrubParityMismatch d t => Sys2Proof.Machine.execScrubParityMismatch d t s
  | .scrubSettingsWrite d v => Sys2Proof.Machine.execScrubSettingsWrite d v s
  | .scrubCntClr d v => Sys2Proof.Machine.execScrubCntClr d v s
  | .secureBoot fuses roots okA okB present sealOk link => Sys2Proof.Machine.execSecureBoot fuses roots okA okB present sealOk link s
  | .provision bytes v => Sys2Proof.Machine.execProvision bytes v s
  | .claim bytes v => Sys2Proof.Machine.execClaim bytes v s
  | .deploy bytes v => Sys2Proof.Machine.execDeploy bytes v s
  | .maintain bytes v => Sys2Proof.Machine.execMaintain bytes v s
  | .rma bytes v => Sys2Proof.Machine.execRma bytes v s
  | .refurbish bytes v => Sys2Proof.Machine.execRefurbish bytes v s
  | .decommission bytes v => Sys2Proof.Machine.execDecommission bytes v s
  | .keyset bytes v => Sys2Proof.Machine.execKeyset bytes v s
  | .svnSet bytes v => Sys2Proof.Machine.execSvnSet bytes v s
  | .revokeRoot bytes v => Sys2Proof.Machine.execRevokeRoot bytes v s
  | .commit => Sys2Proof.Machine.execCommit s
  | .seal => Sys2Proof.Machine.execSeal s
  | .sealComplete => Sys2Proof.Machine.execSealComplete s
  | .wipeOasis => Sys2Proof.Machine.execWipeOasis s
  | .oasisWipeDone => Sys2Proof.Machine.execOasisWipeDone s
  | .dropDebug => Sys2Proof.Machine.execDropDebug s
  | .firmwarePackage bytes v => Sys2Proof.Machine.execFirmwarePackage bytes v s
  | .attestationNonce nonce => Sys2Proof.Machine.execAttestationNonce nonce s
  | .debugToken bytes v => Sys2Proof.Machine.execDebugToken bytes v s
  | .oasisPut bytes v => Sys2Proof.Machine.execOasisPut bytes v s
  | .tamperEvent k present => Sys2Proof.Machine.execTamperEvent k present s
  | .creditAccrual => Sys2Proof.Machine.execCreditAccrual s
  | .debugGrantTimeout powered => Sys2Proof.Machine.execDebugGrantTimeout powered s
  | .nmtStart c node => Sys2Proof.Machine.execNmtStart c node s
  | .nmtStop c node => Sys2Proof.Machine.execNmtStop c node s
  | .nmtEnterPreOperational c node => Sys2Proof.Machine.execNmtEnterPreOperational c node s
  | .nmtResetCommunication c node => Sys2Proof.Machine.execNmtResetCommunication c node s
  | .nmtResetNode c node => Sys2Proof.Machine.execNmtResetNode c node s
  | .sdoUpload c idx sub => Sys2Proof.Machine.execSdoUpload c idx sub s
  | .sdoDownload c idx sub bytes v pins => Sys2Proof.Machine.execSdoDownload c idx sub bytes v pins s
  | .sdoTimeout c idx sub => Sys2Proof.Machine.execSdoTimeout c idx sub s
  | .udpRead addr port id seq sel idx sub offset => Sys2Proof.Machine.execUdpRead addr port id seq sel idx sub offset s
  | .udpWrite addr port id seq sel idx sub offset last bytes v pins => Sys2Proof.Machine.execUdpWrite addr port id seq sel idx sub offset last bytes v pins s
  | .udpNmt specifier node => Sys2Proof.Machine.execUdpNmt specifier node s
  | .udpSessionTimeout addr port id => Sys2Proof.Machine.execUdpSessionTimeout addr port id s
  | .arpRequest addr => Sys2Proof.Machine.execArpRequest addr s
  | .icmpEcho addr payload => Sys2Proof.Machine.execIcmpEcho addr payload s
  | .heartbeatProducer => Sys2Proof.Machine.execHeartbeatProducer s
  | .heartbeatReceived p node => Sys2Proof.Machine.execHeartbeatReceived p node s
  | .heartbeatConsumerTimeout j => Sys2Proof.Machine.execHeartbeatConsumerTimeout j s
  | .syncMessage c counter t => Sys2Proof.Machine.execSyncMessage c counter t s
  | .tpdoEventTimer n t => Sys2Proof.Machine.execTpdoEventTimer n t s
  | .rpdoReceived p n bytes => Sys2Proof.Machine.execRpdoReceived p n bytes s
  | .rpdoTimeout n => Sys2Proof.Machine.execRpdoTimeout n s
  | .emcyTransmit t => Sys2Proof.Machine.execEmcyTransmit t s
  | .busOffRecovery c => Sys2Proof.Machine.execBusOffRecovery c s
  | .odCanWrite c v => Sys2Proof.Machine.execOdCanWrite c v s
  | .odEthAddrWrite addr => Sys2Proof.Machine.execOdEthAddrWrite addr s
  | .odDeclaration d vidx vsub v => Sys2Proof.Machine.execOdDeclaration d vidx vsub v s
  | .odUpdate d vidx vsub v => Sys2Proof.Machine.execOdUpdate d vidx vsub v s
  | .fabricObjectWrite c idx sub bytes => Sys2Proof.Machine.execFabricObjectWrite c idx sub bytes s
  | .odHostWriteTake d => Sys2Proof.Machine.execOdHostWriteTake d s
  | .monitorToken via flags tag b v => Sys2Proof.Machine.execMonitorToken via flags tag b v s
  | .monitorStatus via flags tag b => Sys2Proof.Machine.execMonitorStatus via flags tag b s
  | .monitorHalt via flags tag b => Sys2Proof.Machine.execMonitorHalt via flags tag b s
  | .monitorRelease via flags tag b pins t => Sys2Proof.Machine.execMonitorRelease via flags tag b pins t s
  | .monitorStep via flags tag b pins t => Sys2Proof.Machine.execMonitorStep via flags tag b pins t s
  | .monitorRead via flags tag b => Sys2Proof.Machine.execMonitorRead via flags tag b s
  | .monitorWrite via flags tag b => Sys2Proof.Machine.execMonitorWrite via flags tag b s
  | .monitorObject via flags tag b v => Sys2Proof.Machine.execMonitorObject via flags tag b v s
  | .monitorReadback via flags tag b => Sys2Proof.Machine.execMonitorReadback via flags tag b s
  | .monitorCompare via flags tag b => Sys2Proof.Machine.execMonitorCompare via flags tag b s
  | .comparatorMatch d c observed pos => Sys2Proof.Machine.execComparatorMatch d c observed pos s
  | .dbgEventRead => Sys2Proof.Machine.execDbgEventRead s
  | .insertion pins vin => Sys2Proof.Machine.execInsertion pins vin s
  | .grant good failed fuses => Sys2Proof.Machine.execGrant good failed fuses s
  | .ejectLever => Sys2Proof.Machine.execEjectLever s
  | .grantWithdrawn => Sys2Proof.Machine.execGrantWithdrawn s
  | .inputFailure => Sys2Proof.Machine.execInputFailure s
  | .mateLost => Sys2Proof.Machine.execMateLost s
  | .hotSwapTrip ms => Sys2Proof.Machine.execHotSwapTrip ms s
  | .tripRetry pins => Sys2Proof.Machine.execTripRetry pins s
  | .inputCurrentLimiting vin iin pin => Sys2Proof.Machine.execInputCurrentLimiting vin iin pin s
  | .leverReclosed pins => Sys2Proof.Machine.execLeverReclosed pins s
  | .coldPlateLimit tcp => Sys2Proof.Machine.execColdPlateLimit tcp s
  | .lifeAccounting tcp => Sys2Proof.Machine.execLifeAccounting tcp s
  | .lifeRecordWrite => Sys2Proof.Machine.execLifeRecordWrite s
  | .registerWrite src u block off v => Sys2Proof.Machine.execRegisterWrite src u block off v s
  | .inputTurnOn pins vin fell => Sys2Proof.Machine.execInputTurnOn pins vin fell s
  | .canBusOff c tec rec' => Sys2Proof.Machine.execCanBusOff c tec rec' s
  | .canErrorPassive c on tec rec' => Sys2Proof.Machine.execCanErrorPassive c on tec rec' s
  | .canReceiveOverrun c k => Sys2Proof.Machine.execCanReceiveOverrun c k s
  | .cfgCsNRise => Sys2Proof.Machine.execCfgCsNRise s

end Sys2Proof.Machine
end

