-- ==== Sys2Proof/Machine/Fabric.lean ====
section
/-! DEFINITION. The fabric clocks while no command waits: one edge of one tree (R88, R91). -/

namespace Sys2Proof.Machine

/-- The clock trees that run, as (die, tree). -/
def State.trees (s : State) : List (Nat × Nat) :=
  if s.coreUp then
    (dies.filter fun d => s.fabricRuns d).flatMap fun d =>
      ((List.range 16).filter fun t => s.rd (.fab .TREE_DEPTH) (1 + d) t != 0).map fun t => (d, t)
  else []

/-- What the tick receiver of die `d` sees at an edge of tree `t` of the cycle that `old` stands in (R91): a DONE that is 0 may
rise; one that was 1 at the strobe counts only after it has been 0. -/
def State.seeDone (s old : State) (d t : Nat) : State :=
  let level := old.doneWire d t
  if old.has (.fab .strobe) (1 + d) t 1 || !level then s.wr (.fab .doneLow) (1 + d) t (b2n (!level))
  else if old.has (.fab .doneLow) (1 + d) t 1 then s.unitRises (1 + d) t
  else s

/-- One edge of tree `t` of die `d`. -/
def State.edge (s : State) (d t : Nat) : State := (s.clockEdge d t).seeDone s d t

/-- The part with no command waiting: one edge of a tree that runs, which of them is open (log entry 3); time stands. -/
def State.idle (s : State) : State :=
  match s.trees with
  | [] => s
  | q :: l =>
    let x := (q :: l).getD (s.freeValue 32 % (l.length + 1)) q
    { s.edge x.1 x.2 with pending := s.pending }

end Sys2Proof.Machine
end

