-- ==== Sys2Proof/WellFormed.lean ====
section
/-! DEFINITION. Well-formed commands: those whose operands name something that the part has. -/

namespace Sys2Proof

open Sys2Proof.Machine

/-- Whether the operands of a command name units, indices and values that the part has: those with which its meaning
answers a next state. -/
def Instr.wellFormed (i : Instr) : Bool :=
  match i with
  | .tickArm t => decide (t < 2 ^ 80)
  | .tickResume t => decide (t < 2 ^ 80)
  | .tickPause => true
  | .tickStop => true
  | .deadlinePulse outs missing => (outs.all fun o => okDie o.1 && decide (o.2.1 < 24) && decide (o.2.2.1 < 2) &&
    decide (o.2.2.2 < 2)) && missing.all fun u => decide (u ≤ Config.n)
  | .boundaryPulse pins => okLevels pins
  | .tickWatchdogExpiry => true
  | .tickWdogKick _ => true
  | .tickWdogPeriodWrite _ => true
  | .tickSlackClr d _ => okDie d
  | .pairLoWrite p _ => decide (p < 3)
  | .pairLoRead p => decide (p < 5)
  | .unitDone u k t => decide (1 ≤ u) && decide (u ≤ Config.n) && decide (k < 16) && decide (t < 2 ^ 80)
  | .groupStart p _ _ _ _ _ => decide (p < 6)
  | .memberDecision p id _ _ cause => decide (p < 6) && decide (id < 16) && decide (cause < 256)
  | .groupDecision p _ _ cause => decide (p < 6) && decide (cause < 256)
  | .groupDecisionMissing => true
  | .sourceUpdate t src _ => decide (t < 2 ^ 80) && decide (src < 2 ^ 80)
  | .canSyncEdge c t => decide (c < 2) && decide (t < 2 ^ 80)
  | .timeMessage c days ms => decide (c < 2) && decide (days < 65536) && decide (ms < 2 ^ 28)
  | .vccoMeasurement d mv => okDie d && decide (mv < 65536)
  | .sliceOperandSet d m _ _ _ _ _ _ => okDie d && decide (m < 4608)
  | .asStickyClr d => okDie d
  | .bankRead d b p a => okPort d b p && decide (a < 16384)
  | .bankWrite d b p a _ => okPort d b p && decide (a < 16384)
  | .bankSet d b p a _ => okPort d b p && decide (a < 16384)
  | .bankClear d b p a _ => okPort d b p && decide (a < 16384)
  | .bankLockRead d b p a => okPort d b p && decide (a < 16384)
  | .bankWriteUnlock d b p a _ => okPort d b p && decide (a < 16384)
  | .bankUnlock d b p a => okPort d b p && decide (a < 16384)
  | .bankInvalidOp d b p a => okPort d b p && decide (a < 16384)
  | .correctionWriteBack d b row => okDie d && okBank b && decide (row < 16384)
  | .bankNetworkSlot d b => okDie d && okBank b
  | .setAliasWrite p => okNi (p.dst / 16) (p.dst % 16)
  | .clearAliasWrite p => okNi (p.dst / 16) (p.dst % 16)
  | .bankBlankingDone d b => okDie d && okBank b
  | .bankOn d b => okDie d && okBank b
  | .bankRetention d b => okDie d && okBank b
  | .bankOff d b => okDie d && okBank b
  | .bankTest d b _ => okDie d && okBank b
  | .bankLeaveTest d b => okDie d && okBank b
  | .bankBlank d b => okDie d && okBank b
  | .bankTransitionDone d b => okDie d && okBank b
  | .bankTestWriteRaw d _ => okDie d
  | .bankTestReadRaw d _ => okDie d
  | .bankEccClr d _ => okDie d
  | .bankPolicyWrite _ => true
  | .fabricRequestIssue d k c entry _ type count mbox addr seq prio _ _ t _ => okDie d && okNi 0 k && okCh c && decide
    (entry < 1024) && decide (type < 16) && decide (count < 128) && decide (mbox < 4) && decide (addr < 2 ^ 48) &&
    decide (seq < 2 ^ 16) && decide (prio < 4) && decide (t < 2 ^ 80)
  | .mread d k c m n q t => okDie d && okNi 0 k && okCh c && decide (m < 4) && decide (n < 1024) && decide (q < 64) &&
    decide (t < 2 ^ 80)
  | .mcount d k c m t => okDie d && okNi 0 k && okCh c && decide (m < 4) && decide (t < 2 ^ 80)
  | .readRequest p => okNi (p.dst / 16) (p.dst % 16)
  | .writeRequest p => okNi (p.dst / 16) (p.dst % 16)
  | .mboxRequest p => okNi (p.dst / 16) (p.dst % 16)
  | .postRequest p => okNi (p.dst / 16) (p.dst % 16)
  | .responseArrival p t => okNi (p.dst / 16) (p.dst % 16) && decide (t < 2 ^ 80)
  | .requestTimeout u k tid => okNi u k && decide (tid < 256)
  | .tidQuarantineExpiry u k tid => okNi u k && decide (tid < 256)
  | .routerClose u r => okNi u r
  | .routerClosed u r => okNi u r
  | .routerCloseTimeout u r => okNi u r
  | .routerOpen u r => okNi u r
  | .routerCfgWrite u r reg _ => okNi u r && decide (reg ≤ 1024)
  | .domainDrain d k => okDie d && decide (k ≤ 16)
  | .drainGateClose d k => okDie d && decide (k ≤ 16)
  | .seifBlockReceived u l _ flips => okSide u l && flips.all fun x => decide (x.1 < 68) && decide (x.2 < 160)
  | .linkCrcSilence u l _ => okSide u l
  | .trainingRound lk tx rx tx' rx' => decide (lk < linkCount) && decide (tx < 2 ^ 68) && decide (rx < 2 ^ 68) &&
    decide (tx' < 2 ^ 68) && decide (rx' < 2 ^ 68)
  | .mapMessage u l => okSide u l
  | .confirmComplete lk => decide (lk < linkCount)
  | .roundTimeout lk => decide (lk < linkCount)
  | .seifRetrain u l => okSide u l
  | .seifHold u l => okSide u l
  | .seifRelease u l => okSide u l
  | .isolate d => decide (d < 8)
  | .rejoin d => decide (d < 8)
  | .thermalTrip d tj => okDie d && decide (110 ≤ tj) && decide (tj < 128)
  | .dieSupplyFailure d => okDie d
  | .dieSupplyRecovery d _ => okDie d
  | .budgetPeriod => true
  | .dieGrant d => okDie d
  | .diePowerRequest d avg => okDie d && decide (avg < 65536)
  | .diePowerMeasurement d power tj => okDie d && decide (power < 65536) && decide (tj < 256)
  | .grantStale d => okDie d
  | .queuePush _ _ => true
  | .queuePop _ _ => true
  | .queuePeek _ _ => true
  | .queueQopReserved _ => true
  | .qmPopRead q src _ => okQueue q && decide (src < 1024)
  | .qmPeekRead q src _ => okQueue q && decide (src < 1024)
  | .qmPushWrite q src _ => okQueue q && decide (src < 1024)
  | .qmPushendWrite q src _ => okQueue q && decide (src < 1024)
  | .qmEnable q => okQueue q
  | .qmDisable q => okQueue q
  | .qmHoldPush q => okQueue q
  | .qmHoldPop q => okQueue q
  | .qmRelease q => okQueue q
  | .qmFlush q => okQueue q
  | .qmFlushDone q => okQueue q
  | .qmQcfgWrite q _ => okQueue q
  | .qmCntClr _ => true
  | .openPacketTimeout q src prio => okQueue q && decide (src < 1024) && decide (prio < 4)
  | .contextWrite src k words => decide (src < 1024) && decide (k + words.length ≤ 64 * contextCount) && words.all fun
    v => decide (v < 2 ^ 48)
  | .frameHandover p t => decide (p < 6) && decide (t < 2 ^ 80)
  | .caravanFrameReceived p t bytes => decide (p < 6) && decide (t < 2 ^ 80) && bytes.all fun b => decide (b < 256)
  | .cvnCntClr _ => true
  | .ppEnable p => okPort6 p
  | .ppDisable p => okPort6 p
  | .ppRestart p => okPort6 p
  | .portUp p state => okPort6 p && decide (2 ≤ state) && decide (state ≤ 4)
  | .attemptTimeout p => okPort6 p
  | .portWaitExpiry p => okPort6 p
  | .laneFailure p m => okPort6 p && decide (m < 16)
  | .frameTransmit p => okPort6 p
  | .ptpMessage p type domain => okPort6 p && decide (type < 16) && decide (domain < 256)
  | .ptpSyncInterval p => okPort6 p
  | .sourceSyncLoss p => okPort6 p
  | .userLaneTxWord u _ k _ => okLane u && decide (k < 256)
  | .userLaneRxWord u _ k => okLane u && decide (k < 256)
  | .lanePllLock u => okLane u
  | .prbsCheckerLock user j errs => okAnyLane user j && decide (errs < 2 ^ 32)
  | .ppLprbsClr user j => okAnyLane user j
  | .ppConfigWrite reg p _ => okPort6 p && decide (reg < 5)
  | .dramColumnCommand q t flips => okSub q && decide (t < 2 ^ 80) && okFlips flips
  | .dramWriteBack q => okSub q
  | .writeCrcFailure q => okSub q
  | .refresh q => okSub q
  | .mr4Read q temp => okSub q && decide (temp < 256)
  | .zqCalibration q => okSub q
  | .dqsOscillator q => okSub q
  | .ecsRead q _ => okSub q
  | .patrolRead q flips => okSub q && okFlips flips
  | .rowClose q b => okSub q && decide (b < 32)
  | .dramInit q step _ => okSub q && decide (1 ≤ step) && decide (step ≤ 8)
  | .dramBlank => true
  | .dramRetrain q => okSub q
  | .ddrCntClr _ => true
  | .xinLost n => decide (n < 2)
  | .referenceReturn u n => decide (u ≤ Config.n) && decide (n < 2)
  | .srefLostAtDie d => okDie d
  | .forceSwitch u x => okDom u x
  | .pllUnlock u k => okPll u k
  | .autoReturn u x => okDom u x
  | .clkRestore u x => okDom u x
  | .clkFallback u x => okDom u x
  | .pllRewrite d _ j _ => okDie d && decide (j < 18)
  | .pllLock u k => okPll u k
  | .fioReady u => decide (u ≤ Config.n)
  | .fioFailure u => decide (u ≤ Config.n)
  | .sioFailure u => decide (u ≤ Config.n)
  | .fioTrim u ppm move => decide (u ≤ Config.n) && decide (ppm < 65536) && decide (move < 3)
  | .cfgStart => true
  | .cfgAbort => true
  | .cfgClear => true
  | .slavePortStart _ => true
  | .imageDataWrite bytes => areBytes bytes
  | .loadHeader bytes => areBytes bytes
  | .placementTable bytes => areBytes bytes
  | .frameRecord bytes => areBytes bytes && decide (16 ≤ bytes.length)
  | .loadTrailer bytes t _ _ _ vcco => areBytes bytes && decide (t < 2 ^ 80) && vcco.all fun v => decide (v < 65536)
  | .activationDramWaitEnd vcco => vcco.all fun v => decide (v < 65536)
  | .loadTimeout => true
  | .nicheLoad d x => okDie d && okNiche x
  | .nicheClear d x => okDie d && okNiche x
  | .configScrubRead d upset => okDie d && decide (upset < 2 ^ 55)
  | .bankScrubRead d => okDie d
  | .scrubParityMismatch d t => okDie d && decide (t < 2 ^ 80)
  | .scrubSettingsWrite d v => okDie d && decide (v < 65536)
  | .scrubCntClr d _ => okDie d
  | .secureBoot _ roots _ _ present _ _ => decide (roots < 4) && decide (present < 256)
  | .provision bytes _ => areBytes bytes && bytes.getD 5 0 == 0x01
  | .claim bytes _ => areBytes bytes && bytes.getD 5 0 == 0x02
  | .deploy bytes _ => areBytes bytes && bytes.getD 5 0 == 0x03
  | .maintain bytes _ => areBytes bytes && bytes.getD 5 0 == 0x04
  | .rma bytes _ => areBytes bytes && bytes.getD 5 0 == 0x05
  | .refurbish bytes _ => areBytes bytes && bytes.getD 5 0 == 0x06
  | .decommission bytes _ => areBytes bytes && bytes.getD 5 0 == 0x07
  | .keyset bytes _ => areBytes bytes && bytes.getD 5 0 == 0x10
  | .svnSet bytes _ => areBytes bytes && bytes.getD 5 0 == 0x11
  | .revokeRoot bytes _ => areBytes bytes && bytes.getD 5 0 == 0x12
  | .commit => true
  | .seal => true
  | .sealComplete => true
  | .wipeOasis => true
  | .oasisWipeDone => true
  | .dropDebug => true
  | .firmwarePackage bytes _ => areBytes bytes
  | .attestationNonce nonce => areBytes nonce && nonce.length == 32
  | .debugToken bytes _ => areBytes bytes
  | .oasisPut bytes _ => areBytes bytes
  | .tamperEvent k present => decide (1 ≤ k) && decide (k ≤ 8) && decide (present < 256)
  | .creditAccrual => true
  | .debugGrantTimeout _ => true
  | .nmtStart c node => decide (c < 2) && decide (node < 128)
  | .nmtStop c node => decide (c < 2) && decide (node < 128)
  | .nmtEnterPreOperational c node => decide (c < 2) && decide (node < 128)
  | .nmtResetCommunication c node => decide (c < 2) && decide (node < 128)
  | .nmtResetNode c node => decide (c < 2) && decide (node < 128)
  | .sdoUpload c idx sub => decide (c < 2) && decide (idx < 2 ^ 16) && decide (sub < 256)
  | .sdoDownload c idx sub bytes _ pins => decide (c < 2) && decide (idx < 2 ^ 16) && decide (sub < 256) && areBytes
    bytes && okLevels pins
  | .sdoTimeout c idx sub => decide (c < 2) && decide (idx < 2 ^ 16) && decide (sub < 256)
  | .udpRead addr port id seq _ idx sub _ => okSource addr port id seq && decide (idx < 2 ^ 16) && decide (sub < 256)
  | .udpWrite addr port id seq _ idx sub _ _ bytes _ pins => okSource addr port id seq && decide (idx < 2 ^ 16) &&
    decide (sub < 256) && areBytes bytes && decide (1 ≤ bytes.length) && decide (bytes.length ≤ 1440) && okLevels pins
  | .udpNmt specifier node => decide (specifier < 256) && decide (node < 128)
  | .udpSessionTimeout addr port id => okSource addr port id 0
  | .arpRequest addr => decide (addr < 2 ^ 32)
  | .icmpEcho addr payload => decide (addr < 2 ^ 32) && areBytes payload
  | .heartbeatProducer => true
  | .heartbeatReceived p node => decide (p < 3) && decide (node < 256)
  | .heartbeatConsumerTimeout j => decide (j < 4)
  | .syncMessage c counter t => decide (c < 2) && decide (counter < 256) && decide (t < 2 ^ 80)
  | .tpdoEventTimer n t => decide (n < 8) && decide (t < 2 ^ 80)
  | .rpdoReceived p n bytes => decide (p < 3) && decide (n < 8) && areBytes bytes
  | .rpdoTimeout n => decide (n < 8)
  | .emcyTransmit t => decide (t < 2 ^ 80)
  | .busOffRecovery c => decide (c < 2)
  | .odCanWrite c v => decide (c < 2) && decide (v < 2 ^ 48)
  | .odEthAddrWrite addr => decide (addr < 2 ^ 32)
  | .odDeclaration d vidx vsub v => okDie d && decide (vidx < 2 ^ 12) && decide (vsub < 256) && decide (v < 2 ^ 64)
  | .odUpdate d vidx vsub v => okDie d && decide (vidx < 2 ^ 12) && decide (vsub < 256) && decide (v < 2 ^ 64)
  | .fabricObjectWrite c idx sub bytes => decide (c < 2) && decide (0x5000 ≤ idx) && decide (idx < 0x6000) && decide
    (sub < 256) && areBytes bytes
  | .odHostWriteTake d => okDie d
  | .monitorToken _ flags tag b _ => okRequest flags tag b
  | .monitorStatus _ flags tag b => okRequest flags tag b
  | .monitorHalt _ flags tag b => okRequest flags tag b
  | .monitorRelease _ flags tag b pins t => okRequest flags tag b && okLevels pins && decide (t < 2 ^ 80)
  | .monitorStep _ flags tag b pins t => okRequest flags tag b && okLevels pins && decide (t < 2 ^ 80)
  | .monitorRead _ flags tag b => okRequest flags tag b
  | .monitorWrite _ flags tag b => okRequest flags tag b
  | .monitorObject _ flags tag b _ => okRequest flags tag b
  | .monitorReadback _ flags tag b => okRequest flags tag b
  | .monitorCompare _ flags tag b => okRequest flags tag b
  | .comparatorMatch d c observed _ => okDie d && decide (c < 8) && decide (observed < 2 ^ 48)
  | .dbgEventRead => true
  | .insertion pins vin => okPins pins && decide (vin < 2 ^ 16)
  | .grant _ failed fuses => decide (failed < 2 ^ Config.n) && fuses.all fun x => okDie x.1 && decide (x.2.1 < 513) &&
    decide (x.2.2 < 4)
  | .ejectLever => true
  | .grantWithdrawn => true
  | .inputFailure => true
  | .mateLost => true
  | .hotSwapTrip ms => decide (ms < 2 ^ 80)
  | .tripRetry pins => okPins pins
  | .inputCurrentLimiting vin iin pin => decide (vin < 2 ^ 16) && decide (iin < 2 ^ 16) && decide (pin < 2 ^ 16)
  | .leverReclosed pins => okPins pins
  | .coldPlateLimit tcp => decide (tcp < 2 ^ 32)
  | .lifeAccounting tcp => decide (tcp < 2 ^ 32)
  | .lifeRecordWrite => true
  | .registerWrite _ u block off v => blockExists u block && csrExists u block off && decide (v < 2 ^ 48)
  | .inputTurnOn pins vin _ => okPins pins && decide (3500 < vin) && decide (vin < 2 ^ 16)
  | .canBusOff c tec rec' => okCounters c tec rec'
  | .canErrorPassive c _ tec rec' => okCounters c tec rec'
  | .canReceiveOverrun c k => decide (c < 2) && decide (1 ≤ k)
  | .cfgCsNRise => true

end Sys2Proof
end

