-- ==== Sys2Proof/Safety.lean ====
section
/-! DEFINITION. What counts as safe, in the terms that statements use. -/

namespace Sys2Proof.Machine

/-- Every command that waits is well-formed. -/
def State.queueOk (s : State) : Bool := s.pending.all Instr.wellFormed

/-- Stores whose unlisted numbers read 0. -/
def zeroWf (l : List (Nat × Nat)) : Bool := Sparse.wf id (fun _ => 0) l

/-- Every store of numbers by number is in its canonical form: memories, and the values that the dictionary holds. -/
def State.storesOk (s : State) : Bool :=
  zeroWf s.banks && zeroWf s.ctx && zeroWf s.ctxImage && Sparse.wf id blankSlot s.dram && zeroWf s.oasis && zeroWf s.sealedOasis &&
    zeroWf s.keySlots && Sparse.wf id planeDflt s.plane && zeroWf s.odVals && zeroWf s.fvals &&
    zeroWf s.ffs && zeroWf s.hops && zeroWf s.portOuts && zeroWf s.isoHeld

/-- Every scalar is in the canonical form, and below the power of two that its width gives. -/
def State.regsOk (s : State) : Bool :=
  Sparse.wf Key.num Key.dflt s.regs && s.regs.all fun e => decide (e.2 < 2 ^ e.1.f.width)

/-- The bounds that the spec gives to queues of its own: emergencies (R474), the error history (R478), sessions (R468) and debug
events (R516). -/
def State.boundsOk (s : State) : Bool :=
  decide (s.emcyQueue.length ≤ 32) && decide (s.emcyHistory.length ≤ historyDepth) && decide (s.sessions.length ≤ 8) &&
    decide (s.dbgEvents.length ≤ 64)

/-- A sound state: plain data in canonical form and within bounds. -/
def State.sound (s : State) : Bool := s.storesOk && s.regsOk && s.boundsOk

/-- An area of the state: the registers and scalars of one block, or one field of the state. -/
inductive Area where
  | tick | fab | slc | bank | erg | seif | mod | qm | cvn | pp | ddr | clk | cfg | nch | scrub | sec | od |
  dbg | time | free | emcyQueue | emcyHistory | conditions | out | banks | writeBacks | heldOps | bankWaits |
  scrubWaits | cache | net | replay | crossing | netHeld | niWaits | txns | quarantine | delivered | mailboxes
  | queues | queueSnaps | ctx | ctxImage | ctxShadow | ctxStaged | exchanges | statuses | built | dram |
  dramReqs | dramWrites | portTx | rxHeld | laneBufs | oasis | sealedOasis | keySlots | certificate | report |
  copyA | copyB | tamperLog | plane | ffs | hops | portOuts | isoHeld | targets | staged | stream | imageBytes
  | odVals | sessions | rpdoHeld | response | tokenParts | objectParts | dbgEvents | matched | fobjs | fvals |
  fstaged | fwrites | pending
  deriving DecidableEq, Repr

/-- The area of a field. -/
def Fld.area : Fld → Area
  | .tick _ => .tick
  | .fab _ => .fab
  | .slc _ => .slc
  | .bank _ => .bank
  | .erg _ => .erg
  | .seif _ => .seif
  | .mod _ => .mod
  | .qm _ => .qm
  | .cvn _ => .cvn
  | .pp _ => .pp
  | .ddr _ => .ddr
  | .clk _ => .clk
  | .cfg _ => .cfg
  | .nch _ => .nch
  | .scrub _ => .scrub
  | .sec _ => .sec
  | .od _ => .od
  | .dbg _ => .dbg

/-- Two states agree in an area: every register and scalar of the block reads alike, or the field is the same. -/
def Area.same (s t : State) : Area → Prop
  | .tick => ∀ f u j, t.rd (.tick f) u j = s.rd (.tick f) u j
  | .fab => ∀ f u j, t.rd (.fab f) u j = s.rd (.fab f) u j
  | .slc => ∀ f u j, t.rd (.slc f) u j = s.rd (.slc f) u j
  | .bank => ∀ f u j, t.rd (.bank f) u j = s.rd (.bank f) u j
  | .erg => ∀ f u j, t.rd (.erg f) u j = s.rd (.erg f) u j
  | .seif => ∀ f u j, t.rd (.seif f) u j = s.rd (.seif f) u j
  | .mod => ∀ f u j, t.rd (.mod f) u j = s.rd (.mod f) u j
  | .qm => ∀ f u j, t.rd (.qm f) u j = s.rd (.qm f) u j
  | .cvn => ∀ f u j, t.rd (.cvn f) u j = s.rd (.cvn f) u j
  | .pp => ∀ f u j, t.rd (.pp f) u j = s.rd (.pp f) u j
  | .ddr => ∀ f u j, t.rd (.ddr f) u j = s.rd (.ddr f) u j
  | .clk => ∀ f u j, t.rd (.clk f) u j = s.rd (.clk f) u j
  | .cfg => ∀ f u j, t.rd (.cfg f) u j = s.rd (.cfg f) u j
  | .nch => ∀ f u j, t.rd (.nch f) u j = s.rd (.nch f) u j
  | .scrub => ∀ f u j, t.rd (.scrub f) u j = s.rd (.scrub f) u j
  | .sec => ∀ f u j, t.rd (.sec f) u j = s.rd (.sec f) u j
  | .od => ∀ f u j, t.rd (.od f) u j = s.rd (.od f) u j
  | .dbg => ∀ f u j, t.rd (.dbg f) u j = s.rd (.dbg f) u j
  | .time => t.time = s.time
  | .free => t.free = s.free
  | .emcyQueue => t.emcyQueue = s.emcyQueue
  | .emcyHistory => t.emcyHistory = s.emcyHistory
  | .conditions => t.conditions = s.conditions
  | .out => t.out = s.out
  | .banks => t.banks = s.banks
  | .writeBacks => t.writeBacks = s.writeBacks
  | .heldOps => t.heldOps = s.heldOps
  | .bankWaits => t.bankWaits = s.bankWaits
  | .scrubWaits => t.scrubWaits = s.scrubWaits
  | .cache => t.cache = s.cache
  | .net => t.net = s.net
  | .replay => t.replay = s.replay
  | .crossing => t.crossing = s.crossing
  | .netHeld => t.netHeld = s.netHeld
  | .niWaits => t.niWaits = s.niWaits
  | .txns => t.txns = s.txns
  | .quarantine => t.quarantine = s.quarantine
  | .delivered => t.delivered = s.delivered
  | .mailboxes => t.mailboxes = s.mailboxes
  | .queues => t.queues = s.queues
  | .queueSnaps => t.queueSnaps = s.queueSnaps
  | .ctx => t.ctx = s.ctx
  | .ctxImage => t.ctxImage = s.ctxImage
  | .ctxShadow => t.ctxShadow = s.ctxShadow
  | .ctxStaged => t.ctxStaged = s.ctxStaged
  | .exchanges => t.exchanges = s.exchanges
  | .statuses => t.statuses = s.statuses
  | .built => t.built = s.built
  | .dram => t.dram = s.dram
  | .dramReqs => t.dramReqs = s.dramReqs
  | .dramWrites => t.dramWrites = s.dramWrites
  | .portTx => t.portTx = s.portTx
  | .rxHeld => t.rxHeld = s.rxHeld
  | .laneBufs => t.laneBufs = s.laneBufs
  | .oasis => t.oasis = s.oasis
  | .sealedOasis => t.sealedOasis = s.sealedOasis
  | .keySlots => t.keySlots = s.keySlots
  | .certificate => t.certificate = s.certificate
  | .report => t.report = s.report
  | .copyA => t.copyA = s.copyA
  | .copyB => t.copyB = s.copyB
  | .tamperLog => t.tamperLog = s.tamperLog
  | .plane => t.plane = s.plane
  | .ffs => t.ffs = s.ffs
  | .hops => t.hops = s.hops
  | .portOuts => t.portOuts = s.portOuts
  | .isoHeld => t.isoHeld = s.isoHeld
  | .targets => t.targets = s.targets
  | .staged => t.staged = s.staged
  | .stream => t.stream = s.stream
  | .imageBytes => t.imageBytes = s.imageBytes
  | .odVals => t.odVals = s.odVals
  | .sessions => t.sessions = s.sessions
  | .rpdoHeld => t.rpdoHeld = s.rpdoHeld
  | .response => t.response = s.response
  | .tokenParts => t.tokenParts = s.tokenParts
  | .objectParts => t.objectParts = s.objectParts
  | .dbgEvents => t.dbgEvents = s.dbgEvents
  | .matched => t.matched = s.matched
  | .fobjs => t.fobjs = s.fobjs
  | .fvals => t.fvals = s.fvals
  | .fstaged => t.fstaged = s.fstaged
  | .fwrites => t.fwrites = s.fwrites
  | .pending => t.pending = s.pending

/-- Every area but the queue of waiting commands. -/
def allAreas : List Area := [.tick, .fab, .slc, .bank, .erg, .seif, .mod, .qm, .cvn, .pp, .ddr, .clk, .cfg, .nch,
  .scrub, .sec, .od, .dbg, .time, .free, .emcyQueue, .emcyHistory, .conditions, .out, .banks, .writeBacks, .heldOps,
  .bankWaits, .scrubWaits, .cache, .net, .replay, .crossing, .netHeld, .niWaits, .txns, .quarantine, .delivered,
  .mailboxes, .queues, .queueSnaps, .ctx, .ctxImage, .ctxShadow, .ctxStaged, .exchanges, .statuses, .built, .dram,
  .dramReqs, .dramWrites, .portTx, .rxHeld, .laneBufs, .oasis, .sealedOasis, .keySlots, .certificate, .report, .copyA,
  .copyB, .tamperLog, .plane, .ffs, .hops, .portOuts, .isoHeld, .targets, .staged, .stream, .imageBytes, .odVals,
  .sessions, .rpdoHeld, .response, .tokenParts, .objectParts, .dbgEvents, .matched, .fobjs, .fvals, .fstaged,
  .fwrites]

/-- What a loss of the core rails may change: all but what the secure flash, the key slots and the links hold (R550). -/
def powerAreas : List Area := [.tick, .fab, .slc, .bank, .erg, .seif, .mod, .qm, .cvn, .pp, .ddr, .clk, .cfg, .nch,
  .scrub, .sec, .od, .dbg, .time, .emcyQueue, .emcyHistory, .conditions, .banks, .writeBacks, .heldOps, .bankWaits,
  .scrubWaits, .cache, .net, .replay, .crossing, .netHeld, .niWaits, .txns, .quarantine, .delivered, .mailboxes,
  .queues, .queueSnaps, .ctx, .ctxImage, .ctxShadow, .ctxStaged, .exchanges, .statuses, .built, .dram, .dramReqs,
  .dramWrites, .portTx, .rxHeld, .laneBufs, .oasis, .report, .plane, .ffs, .hops, .portOuts, .isoHeld, .targets,
  .staged, .stream, .imageBytes, .odVals, .sessions, .rpdoHeld, .response, .tokenParts, .objectParts, .dbgEvents,
  .matched, .fobjs, .fvals, .fstaged, .fwrites]

/-- What a change of the debug level may change (R499 and the voids and resets it brings). -/
def levelAreas : List Area := [.tick, .fab, .slc, .bank, .erg, .mod, .qm, .cvn, .pp, .ddr, .clk, .cfg, .nch, .sec,
  .od, .dbg, .time, .free, .emcyQueue, .emcyHistory, .conditions, .banks, .writeBacks, .bankWaits, .cache, .net,
  .netHeld, .niWaits, .txns, .quarantine, .delivered, .mailboxes, .queues, .queueSnaps, .ctx, .ctxImage, .ctxShadow,
  .ctxStaged, .exchanges, .statuses, .built, .dram, .dramReqs, .dramWrites, .portTx, .rxHeld, .plane, .ffs, .hops,
  .targets, .staged, .stream, .imageBytes, .matched, .fstaged, .fwrites]

/-- What a load that fails may change (R371, R378). -/
def loadAreas : List Area := [.tick, .fab, .slc, .bank, .erg, .mod, .qm, .cvn, .pp, .clk, .cfg, .nch, .scrub, .od,
  .dbg, .emcyQueue, .emcyHistory, .conditions, .banks, .writeBacks, .heldOps, .scrubWaits, .cache, .net, .netHeld,
  .niWaits, .txns, .quarantine, .delivered, .mailboxes, .queues, .queueSnaps, .ctx, .ctxImage, .ctxShadow, .ctxStaged,
  .exchanges, .statuses, .built, .laneBufs, .plane, .ffs, .hops, .portOuts, .isoHeld, .targets, .staged, .stream,
  .imageBytes, .fobjs, .fvals, .fstaged, .fwrites]

/-- What a void of the tick may change (R64). -/
def voidAreas : List Area := [.tick, .fab, .bank, .erg, .qm, .cvn, .pp, .od, .dbg, .emcyQueue, .emcyHistory,
  .conditions, .banks, .writeBacks, .bankWaits, .cache, .net, .netHeld, .niWaits, .txns, .quarantine, .delivered,
  .mailboxes, .queues, .queueSnaps, .ctxShadow, .ctxStaged, .exchanges, .statuses, .built, .portTx, .rxHeld, .fstaged,
  .fwrites]

/-- What a condition of R476 that begins or ends changes. -/
def condAreas : List Area := [.od, .emcyQueue, .emcyHistory, .conditions]

/-- What an emergency changes (R474). -/
def emcyAreas : List Area := [.od, .emcyQueue, .emcyHistory]

/-- The network, its counters and its packets. -/
def netAreas : List Area := [.erg, .net, .netHeld]

end Sys2Proof.Machine

namespace Sys2Proof

open Sys2Proof.Machine

/-- The areas that a command may change. The commands that reach every register or object by its number or name (register
accesses from the network, transfers of the dictionary, the monitor, what the tick carries with it) may change any but the queue. -/
def Instr.touches : Instr → List Area
  | .tickArm .. =>
    condAreas ++ [.tick, .slc, .bank, .qm, .pp, .cfg, .dbg, .time, .banks, .writeBacks, .cache, .queues,
      .queueSnaps, .ctx, .ctxShadow, .portTx, .ffs, .hops]
  | .tickResume .. =>
    condAreas ++ [.tick, .slc, .bank, .time, .banks, .writeBacks, .cache, .ffs, .hops]
  | .tickPause | .tickWdogKick .. | .tickWdogPeriodWrite .. | .tickSlackClr .. | .pairLoWrite .. =>
    [.tick]
  | .tickStop =>
    condAreas ++ [.tick, .ctxStaged]
  | .deadlinePulse .. | .tickWatchdogExpiry | .groupDecisionMissing | .fabricRequestIssue .. | .mread .. | .mcount
    .. | .responseArrival .. =>
    voidAreas ++ [.time]
  | .boundaryPulse .. | .setAliasWrite .. | .clearAliasWrite .. | .readRequest .. | .writeRequest .. | .secureBoot
    .. | .nmtResetNode .. | .sdoUpload .. | .sdoDownload .. | .udpRead .. | .udpWrite .. | .udpNmt .. | .syncMessage
    .. | .tpdoEventTimer .. | .rpdoReceived .. | .fabricObjectWrite .. | .monitorToken .. | .monitorStatus .. |
    .monitorHalt .. | .monitorRelease .. | .monitorStep .. | .monitorRead .. | .monitorWrite .. | .monitorObject ..
    | .monitorReadback .. | .monitorCompare .. | .comparatorMatch .. | .registerWrite .. =>
    allAreas
  | .pairLoRead .. =>
    [.tick, .cfg, .out]
  | .unitDone .. =>
    [.tick, .time]
  | .groupStart .. =>
    condAreas ++ [.tick, .slc, .bank, .qm, .cfg, .dbg, .banks, .writeBacks, .cache, .queues, .queueSnaps, .ctx,
      .ctxShadow, .ffs, .hops]
  | .memberDecision .. | .groupDecision .. | .mboxRequest .. | .postRequest .. | .queuePop .. | .queuePeek .. |
    .queueQopReserved .. | .qmEnable .. | .qmDisable .. | .qmHoldPush .. | .qmHoldPop .. | .qmRelease .. | .qmFlush
    .. | .ppDisable .. | .ppRestart .. | .laneFailure .. | .sourceSyncLoss .. =>
    voidAreas
  | .sourceUpdate .. | .canSyncEdge .. =>
    voidAreas ++ [.clk, .time, .free]
  | .timeMessage .. | .fioTrim .. =>
    [.clk]
  | .vccoMeasurement .. =>
    condAreas ++ [.fab]
  | .sliceOperandSet .. | .asStickyClr .. =>
    [.slc]
  | .bankRead .. | .bankWrite .. | .bankSet .. | .bankClear .. | .bankLockRead .. | .bankWriteUnlock .. |
    .bankUnlock .. | .bankInvalidOp .. | .bankBlankingDone .. | .bankTransitionDone .. =>
    voidAreas ++ [.free, .heldOps]
  | .correctionWriteBack .. | .bankOn .. | .bankRetention .. | .bankOff .. | .bankTest .. | .bankLeaveTest .. |
    .bankBlank .. =>
    [.bank, .banks, .writeBacks]
  | .bankNetworkSlot .. =>
    emcyAreas ++ netAreas ++ [.bank, .banks, .writeBacks, .bankWaits, .scrubWaits]
  | .bankTestWriteRaw .. =>
    [.banks]
  | .bankTestReadRaw .. | .bankEccClr .. | .bankPolicyWrite .. =>
    [.bank]
  | .requestTimeout .. =>
    netAreas ++ [.bank, .free, .cache, .niWaits, .txns, .quarantine, .delivered]
  | .tidQuarantineExpiry .. | .routerCloseTimeout .. | .routerOpen .. =>
    netAreas ++ [.bank, .cache, .niWaits, .txns, .quarantine, .delivered]
  | .routerClose .. | .routerClosed .. | .routerCfgWrite .. | .domainDrain .. =>
    [.erg]
  | .drainGateClose .. =>
    netAreas ++ [.bank, .qm, .cache, .niWaits, .txns, .quarantine, .delivered, .queues]
  | .seifBlockReceived .. =>
    loadAreas ++ voidAreas ++ [.seif, .out, .replay, .crossing]
  | .linkCrcSilence .. | .dieSupplyRecovery .. =>
    loadAreas ++ voidAreas ++ [.seif, .replay, .crossing]
  | .trainingRound .. | .mapMessage .. =>
    [.seif]
  | .confirmComplete .. | .roundTimeout .. =>
    loadAreas ++ voidAreas ++ [.seif, .ddr, .sec, .out, .replay, .crossing]
  | .seifRetrain .. | .seifHold .. | .seifRelease .. =>
    condAreas ++ [.seif, .replay, .crossing]
  | .isolate .. | .thermalTrip .. | .dieSupplyFailure .. =>
    loadAreas ++ voidAreas ++ [.seif, .ddr, .sec, .replay, .crossing]
  | .rejoin .. =>
    [.seif, .mod, .clk, .replay, .crossing]
  | .budgetPeriod | .lifeRecordWrite =>
    [.mod]
  | .dieGrant .. | .diePowerMeasurement .. | .grantStale .. =>
    emcyAreas ++ [.mod, .free]
  | .diePowerRequest .. =>
    [.mod, .free]
  | .queuePush .. =>
    voidAreas ++ [.free]
  | .qmPopRead .. =>
    voidAreas ++ [.slc, .free, .out, .ffs, .hops, .portOuts, .pending]
  | .qmPeekRead .. =>
    voidAreas ++ [.out]
  | .qmPushWrite .. | .qmPushendWrite .. =>
    voidAreas ++ [.free, .out]
  | .qmFlushDone .. =>
    condAreas ++ [.qm, .queues, .queueSnaps]
  | .qmQcfgWrite .. | .qmCntClr .. =>
    [.qm]
  | .openPacketTimeout .. =>
    [.qm, .queues]
  | .contextWrite .. =>
    [.out, .ctx, .ctxStaged]
  | .frameHandover .. =>
    [.tick, .cvn, .pp, .time, .built, .portTx]
  | .caravanFrameReceived .. =>
    voidAreas ++ [.slc, .cfg, .time, .ctx, .ffs, .hops]
  | .cvnCntClr .. =>
    [.cvn]
  | .ppEnable .. | .attemptTimeout .. | .portWaitExpiry .. | .lanePllLock .. | .prbsCheckerLock .. | .ppLprbsClr ..
    | .ppConfigWrite .. =>
    [.pp]
  | .portUp .. =>
    condAreas ++ [.pp]
  | .frameTransmit .. =>
    [.pp, .out, .portTx]
  | .ptpMessage .. | .ptpSyncInterval .. =>
    [.pp, .free, .portTx]
  | .userLaneTxWord .. =>
    [.pp, .free, .out, .laneBufs]
  | .userLaneRxWord .. =>
    [.pp, .out, .laneBufs]
  | .dramColumnCommand .. =>
    emcyAreas ++ netAreas ++ [.ddr, .time, .dram, .dramReqs, .dramWrites]
  | .dramWriteBack .. =>
    [.ddr, .dram, .dramWrites]
  | .writeCrcFailure .. =>
    voidAreas ++ [.ddr, .dramReqs, .dramWrites]
  | .refresh .. | .ecsRead .. | .rowClose .. | .ddrCntClr .. =>
    [.ddr]
  | .mr4Read .. =>
    emcyAreas ++ [.ddr]
  | .zqCalibration .. | .dqsOscillator .. =>
    []
  | .patrolRead .. =>
    emcyAreas ++ [.ddr, .dram, .dramWrites]
  | .dramInit .. =>
    voidAreas ++ [.ddr, .dram, .dramReqs, .dramWrites]
  | .dramBlank | .dramRetrain .. =>
    condAreas ++ netAreas ++ [.ddr, .dram, .dramReqs, .dramWrites]
  | .xinLost .. =>
    emcyAreas ++ [.pp, .clk]
  | .referenceReturn .. | .srefLostAtDie .. =>
    emcyAreas ++ [.clk]
  | .forceSwitch .. | .fioFailure .. | .sioFailure .. =>
    voidAreas ++ [.ddr, .clk, .dram, .dramReqs, .dramWrites]
  | .pllUnlock .. | .autoReturn .. | .clkRestore .. | .clkFallback .. | .pllRewrite .. | .pllLock .. | .fioReady .. =>
    condAreas ++ netAreas ++ [.ddr, .clk, .dram, .dramReqs, .dramWrites]
  | .cfgStart | .cfgAbort | .slavePortStart .. | .placementTable .. | .frameRecord .. | .loadTimeout =>
    loadAreas
  | .cfgClear =>
    condAreas ++ netAreas ++ [.tick, .fab, .slc, .bank, .mod, .qm, .cvn, .pp, .clk, .cfg, .nch, .scrub, .dbg,
      .banks, .writeBacks, .heldOps, .scrubWaits, .cache, .niWaits, .txns, .quarantine, .delivered, .mailboxes,
      .queues, .queueSnaps, .ctx, .ctxImage, .ctxShadow, .ctxStaged, .exchanges, .statuses, .built, .laneBufs,
      .plane, .ffs, .hops, .portOuts, .isoHeld, .fobjs, .fvals, .fstaged, .fwrites]
  | .imageDataWrite .. =>
    [.cfg, .out, .stream]
  | .loadHeader .. =>
    loadAreas ++ [.seif]
  | .loadTrailer .. =>
    loadAreas ++ voidAreas ++ [.time, .seif, .ddr, .dram, .dramReqs, .dramWrites]
  | .activationDramWaitEnd .. =>
    loadAreas ++ voidAreas ++ [.seif, .ddr, .dram, .dramReqs, .dramWrites]
  | .nicheLoad .. =>
    netAreas ++ [.fab, .slc, .bank, .qm, .pp, .cfg, .nch, .od, .banks, .writeBacks, .heldOps, .cache, .niWaits,
      .txns, .quarantine, .delivered, .mailboxes, .queues, .laneBufs, .plane, .ffs, .hops, .portOuts, .isoHeld,
      .targets, .staged, .stream, .imageBytes, .fobjs, .fvals, .fstaged, .fwrites]
  | .nicheClear .. =>
    netAreas ++ [.fab, .slc, .bank, .qm, .pp, .nch, .od, .banks, .writeBacks, .heldOps, .cache, .niWaits, .txns,
      .quarantine, .delivered, .mailboxes, .queues, .laneBufs, .plane, .ffs, .hops, .portOuts, .isoHeld, .fobjs,
      .fvals, .fstaged, .fwrites]
  | .configScrubRead .. =>
    voidAreas ++ [.nch, .scrub, .plane]
  | .bankScrubRead .. =>
    emcyAreas ++ [.scrub, .out, .scrubWaits]
  | .scrubParityMismatch .. =>
    condAreas ++ [.scrub, .time]
  | .scrubSettingsWrite .. =>
    condAreas ++ [.scrub, .out]
  | .scrubCntClr .. =>
    [.nch, .scrub]
  | .provision .. | .claim .. | .deploy .. | .maintain .. | .rma .. | .refurbish .. | .decommission .. | .keyset ..
    | .svnSet .. | .revokeRoot .. =>
    levelAreas ++ loadAreas ++ [.oasis, .sealedOasis, .keySlots, .certificate]
  | .commit | .seal | .creditAccrual =>
    [.sec]
  | .sealComplete =>
    [.sec, .sealedOasis]
  | .wipeOasis | .oasisWipeDone | .oasisPut .. =>
    [.sec, .oasis]
  | .dropDebug | .debugToken .. | .debugGrantTimeout .. =>
    levelAreas
  | .firmwarePackage .. =>
    [.sec, .copyA, .copyB]
  | .attestationNonce .. =>
    [.sec, .out, .report]
  | .tamperEvent .. =>
    levelAreas ++ loadAreas ++ [.oasis, .sealedOasis, .keySlots, .tamperLog]
  | .nmtStart .. | .nmtStop .. | .nmtEnterPreOperational .. | .odCanWrite .. =>
    [.od]
  | .nmtResetCommunication .. =>
    condAreas ++ [.mod, .out, .odVals, .sessions, .rpdoHeld]
  | .sdoTimeout .. | .arpRequest .. | .icmpEcho .. =>
    [.out]
  | .udpSessionTimeout .. =>
    [.sessions]
  | .heartbeatProducer =>
    [.od, .out]
  | .heartbeatReceived .. | .rpdoTimeout .. | .canBusOff .. | .canErrorPassive .. =>
    condAreas
  | .heartbeatConsumerTimeout .. =>
    condAreas ++ [.tick]
  | .emcyTransmit .. =>
    [.od, .time, .emcyQueue, .out]
  | .busOffRecovery .. | .canReceiveOverrun .. =>
    emcyAreas
  | .odEthAddrWrite .. =>
    [.od, .sessions]
  | .odDeclaration .. =>
    [.od, .fobjs, .fvals, .fstaged, .fwrites]
  | .odUpdate .. =>
    [.od, .fvals, .fstaged]
  | .odHostWriteTake .. =>
    [.out, .fwrites]
  | .dbgEventRead =>
    [.dbg, .out, .dbgEvents]
  | .insertion .. | .inputFailure | .mateLost | .hotSwapTrip .. | .tripRetry .. | .leverReclosed .. | .inputTurnOn
    .. =>
    powerAreas
  | .grant .. =>
    loadAreas ++ voidAreas ++ [.seif, .ddr, .sec, .time, .replay, .crossing]
  | .ejectLever | .grantWithdrawn =>
    powerAreas ++ [.out]
  | .inputCurrentLimiting .. | .coldPlateLimit .. =>
    condAreas ++ [.mod]
  | .lifeAccounting .. =>
    emcyAreas ++ [.mod]
  | .cfgCsNRise =>
    [.cfg]

end Sys2Proof

namespace Sys2Proof

/-- Commands that need no core rail: of the power manager, the tamper sensors, the report credit and the CFG pins (R550). -/
def Instr.alwaysOn : Instr → Bool
  | .slavePortStart .. | .tamperEvent .. | .creditAccrual | .insertion .. | .grant .. | .ejectLever |
    .grantWithdrawn | .inputFailure | .mateLost | .hotSwapTrip .. | .tripRetry .. | .inputCurrentLimiting .. |
    .leverReclosed .. | .coldPlateLimit .. | .lifeAccounting .. | .lifeRecordWrite | .inputTurnOn .. | .cfgCsNRise
    => true
  | _ => false

/-- Commands that the firmware's services carry out (R551). -/
def Instr.ofFirmware : Instr → Bool
  | .isolate .. | .rejoin .. | .cfgStart | .cfgAbort | .cfgClear | .imageDataWrite .. | .scrubSettingsWrite .. |
    .commit | .seal | .sealComplete | .wipeOasis | .dropDebug | .attestationNonce .. | .debugToken .. | .oasisPut ..
    | .syncMessage .. | .tpdoEventTimer .. | .rpdoReceived .. | .rpdoTimeout .. | .odDeclaration .. | .odUpdate .. |
    .fabricObjectWrite .. | .odHostWriteTake .. | .monitorToken .. | .monitorStatus .. | .monitorHalt .. |
    .monitorRelease .. | .monitorStep .. | .monitorRead .. | .monitorWrite .. | .monitorObject .. |
    .monitorReadback .. | .monitorCompare .. | .provision .. | .claim .. | .deploy .. | .maintain .. | .rma .. | .refurbish .. |
    .decommission .. | .keyset .. | .svnSet .. | .revokeRoot .. => true
  | _ => false

/-- Commands of the object dictionary and its network, which recovery serves too (R427). -/
def Instr.ofDictionary : Instr → Bool
  | .firmwarePackage .. | .nmtStart .. | .nmtStop .. | .nmtEnterPreOperational .. | .nmtResetCommunication .. |
    .nmtResetNode .. | .sdoUpload .. | .sdoDownload .. | .sdoTimeout .. | .udpRead .. | .udpWrite .. | .udpNmt .. |
    .udpSessionTimeout .. | .arpRequest .. | .icmpEcho .. | .heartbeatProducer | .heartbeatReceived .. |
    .heartbeatConsumerTimeout .. | .emcyTransmit .. | .busOffRecovery .. | .odCanWrite .. | .odEthAddrWrite .. |
    .canBusOff .. | .canErrorPassive .. | .canReceiveOverrun .. => true
  | _ => false

end Sys2Proof
end

