-- ==== Sys2Proof/Certificates/Slice0/Obligations.lean ====
section
/-! DEFINITION. The statements about the part. -/

namespace Sys2Proof.Machine

/-- The command completes in the state: it answers a next state, of which `P` holds. -/
def Does (i : Instr) (s : State) (P : State → Prop) : Prop := ∃ t, exec i s = .next t ∧ P t

/-- `t` is `s` but for scalars, and of those only `ks` may differ: the queue, every memory, buffer and list is as it was. -/
def OnlyScalars (ks : List Key) (s t : State) : Prop :=
  t = { s with regs := t.regs } ∧ ∀ f u j, (⟨f, u, j⟩ : Key) ∉ ks → t.rd f u j = s.rd f u j

/-- Whether `q` is `n / d`, or one of its two neighbours where `d` does not divide `n`. -/
def Rounds (n : Int) (d : Nat) (q : Int) : Prop := (n - q * d).natAbs < d

end Sys2Proof.Machine

open Sys2Proof Sys2Proof.Machine

/-- ARM and RESUME that no case of R41 refuses arm a run, fresh or continued, for the boundary of TICK_START_INDEX; PAUSE waits for a
boundary; STOP waits for one while the tick runs and is done at once in ARMED, PAUSED and VOID (R40, R42, R43, R66). Log entries 13,
14, 109 say what in it is the model's choice or reading. -/
def Obligations.RunCommandsAccepted : Prop :=
  (∀ s t, s.coreUp = true → t < 2 ^ 80 → (s.tick = 0 ∨ s.tick = 4) → s.nicheBlocks = false → (s.at t).startRefusal false = 0 →
    Does (.tickArm t) s fun s' =>
      s'.tick = 1 ∧ s'.rd (.tick .STATE_REFUSE) = 0 ∧ s'.time = t ∧ s'.rd (.tick .fresh) = 1 ∧
        s'.rd (.tick .kNext) = s.rd (.tick .START_INDEX) % 2 ^ 64 ∧ s'.rd (.tick .WDOG_REMAIN) = s.rd (.tick .WDOG_PERIOD) % 2 ^ 16) ∧
  (∀ s t, s.coreUp = true → t < 2 ^ 80 → (s.tick = 3 ∨ s.tick = 4) → s.nicheBlocks = false → (s.at t).startRefusal true = 0 →
    Does (.tickResume t) s fun s' =>
      s'.tick = 1 ∧ s'.rd (.tick .STATE_REFUSE) = 0 ∧ s'.time = t ∧ s'.rd (.tick .fresh) = 0 ∧
        s'.rd (.tick .kNext) = s.rd (.tick .START_INDEX) % 2 ^ 64 ∧ s'.rd (.tick .WDOG_REMAIN) = s.rd (.tick .WDOG_PERIOD) % 2 ^ 16) ∧
  (∀ s, s.coreUp = true → s.tick = 2 →
    Does .tickPause s fun s' =>
      s'.tick = 2 ∧ s'.rd (.tick .STATE_REFUSE) = 0 ∧ s'.rd (.tick .wait) = 1 ∧
        OnlyScalars [⟨.tick .STATE_REFUSE, 0, 0⟩, ⟨.tick .wait, 0, 0⟩] s s') ∧
  (∀ s, s.coreUp = true → s.tick = 2 →
    Does .tickStop s fun s' =>
      s'.tick = 2 ∧ s'.rd (.tick .STATE_REFUSE) = 0 ∧ s'.rd (.tick .wait) = 2 ∧
        OnlyScalars [⟨.tick .STATE_REFUSE, 0, 0⟩, ⟨.tick .wait, 0, 0⟩] s s') ∧
  (∀ s, s.coreUp = true → (s.tick = 1 ∨ s.tick = 3 ∨ s.tick = 4) →
    Does .tickStop s fun s' => s'.tick = 0 ∧ s'.rd (.tick .STATE_REFUSE) = 0)

/-- A command that R40 does not list for the current state is refused with code 7; ARM and RESUME in a state that allows them are refused
with the lowest case of R41 that applies, the state of the tick staying: boundary k_s too near, P too short, G out of range, no image,
no lock, an image that is not resumable, a member of a group. Nothing changes but REFUSE and the time (R40, R41). Log entries 108, 111
say what in it is the model's choice or reading. -/
def Obligations.RunCommandsRefused : Prop :=
  (∀ s t, s.coreUp = true → t < 2 ^ 80 → s.tick ≠ 0 → s.tick ≠ 4 →
    exec (.tickArm t) s = .next ((s.at t).wr (.tick .STATE_REFUSE) 0 0 7)) ∧
  (∀ s t, s.coreUp = true → t < 2 ^ 80 → s.tick ≠ 3 → s.tick ≠ 4 →
    exec (.tickResume t) s = .next ((s.at t).wr (.tick .STATE_REFUSE) 0 0 7)) ∧
  (∀ s, s.coreUp = true → s.tick ≠ 2 → exec .tickPause s = .next (s.wr (.tick .STATE_REFUSE) 0 0 7)) ∧
  (∀ s, s.coreUp = true → (s.tick = 0 ∨ s.tick = 5) → exec .tickStop s = .next (s.wr (.tick .STATE_REFUSE) 0 0 7)) ∧
  (∀ s t r, s.coreUp = true → t < 2 ^ 80 → s.tick = 4 → s.nicheBlocks = false →
    (s.at t).startRefusal r ≠ 0 →
    Does (if r then .tickResume t else .tickArm t) s (fun s' =>
      s' = (s.at t).wr (.tick .STATE_REFUSE) 0 0 ((s.at t).startRefusal r) ∧ s'.tick = 4) ∧
    (s.startAt < t + nsec 20000 → (s.at t).startRefusal r = 1) ∧
    ((s.at t).startRefusal r ≤ 1 ∨ s.rd (.tick .PMIN_PMIN) ≤ s.rd (.tick .PERIOD_P) ∨ (s.at t).startRefusal r = 2) ∧
    ((s.at t).startRefusal r = 6 → r = true ∧ s.rd (.tick .STATE_RESUMABLE) = 0 ∧ s.imageActive = true ∧ s.locked = true))

/-- The watchdog's registers, the slack registers and the pairs take what R66, R72 and R73 give them, and nothing else changes. Log
entries 20, 115 say what in it is the model's choice or reading. -/
def Obligations.TickRegisterCommands : Prop :=
  (∀ s v, s.coreUp = true → v % 2 = 1 →
    exec (.tickWdogKick v) s = .next (s.wr (.tick .WDOG_REMAIN) 0 0 (s.rd (.tick .WDOG_PERIOD)))) ∧
  (∀ s v, s.coreUp = true → v % 2 = 0 → exec (.tickWdogKick v) s = .next s) ∧
  (∀ s v, s.coreUp = true → Does (.tickWdogPeriodWrite v) s fun s' =>
    s'.rd (.tick .WDOG_PERIOD) = v % 65536 ∧ s'.rd (.tick .WDOG_REMAIN) = v % 65536 ∧
      OnlyScalars [⟨.tick .WDOG_PERIOD, 0, 0⟩, ⟨.tick .WDOG_REMAIN, 0, 0⟩] s s') ∧
  (∀ s d v, s.coreUp = true → d < Config.n → v % 2 = 1 → Does (.tickSlackClr d v) s fun s' =>
    s'.rd (.tick .SLACK_MIN_SLACK) (1 + d) = 0x3FFFFFF ∧ s'.rd (.tick .SLACK_MIN_UNIT) (1 + d) = 0 ∧
      s'.rd (.tick .WARN_COUNT_COUNT) (1 + d) = 0 ∧
      OnlyScalars [⟨.tick .SLACK_MIN_SLACK, 1 + d, 0⟩, ⟨.tick .SLACK_MIN_UNIT, 1 + d, 0⟩, ⟨.tick .WARN_COUNT_COUNT, 1 + d, 0⟩] s s') ∧
  (∀ s v, s.coreUp = true → (s.tick = 0 ∨ s.tick = 3 ∨ s.tick = 4) → v < 2 ^ 48 → Does (.pairLoWrite 0 v) s fun s' =>
    s'.rd (.tick .ORIGIN) = (v + s.rd (.tick .originHi) * 2 ^ 48) % 2 ^ 64 ∧ OnlyScalars [⟨.tick .ORIGIN, 0, 0⟩] s s') ∧
  (∀ s v, s.coreUp = true → v < 2 ^ 48 → Does (.pairLoWrite 1 v) s fun s' =>
    s'.rd (.tick .START_INDEX) = (v + s.rd (.tick .startHi) * 2 ^ 48) % 2 ^ 64 ∧ OnlyScalars [⟨.tick .START_INDEX, 0, 0⟩] s s') ∧
  (∀ s v, s.coreUp = true → (s.tick = 0 ∨ s.tick = 4) → v < 2 ^ 48 → Does (.pairLoWrite 2 v) s fun s' =>
    s'.rd (.tick .NUMBER) = (v + s.rd (.tick .numberHi) * 2 ^ 48) % 2 ^ 64 ∧ OnlyScalars [⟨.tick .NUMBER, 0, 0⟩] s s') ∧
  (∀ s p, s.coreUp = true → p < 5 → Does (.pairLoRead p) s fun s' =>
    s'.out = s.out ++ [⟨.readBack, p, [s.pairValue p % 2 ^ 48]⟩] ∧
      s'.rd (pairLatch p) = s.pairValue p / 2 ^ 48 % 2 ^ (pairLatch p).width ∧
      OnlyScalars [⟨pairLatch p, 0, 0⟩] { s with out := s'.out } s')

/-- A rise of DONE before D is recorded, with its slack in whole nanoseconds where no T-class response is missing. At the deadline the
output latches sample; with every unit done, every response in, every sequence number in order and every report in, a module of no
group decides commit; a present unit that is not done is marked LATE, and the tick voids with the lowest cause, which names its unit
and place; a report that is missing voids it with cause 0x09. A boundary that ends a tick with commit decided goes on to the next
number and index, and the boundary of an ARMED run begins it (R33, R37, R40, R42, R43, R45, R60, R63, R91). Log entry 12 says what in
it is the model's choice or reading. -/
def Obligations.TickDecision : Prop :=
  (∀ s u k t, s.coreUp = true → 1 ≤ u → u ≤ Config.n → k < 16 → t < 2 ^ 80 → s.tick = 2 → t < s.deadline → s.rd (.tick .ended) = 0 →
    s.rd (.tick .UNIT_PRESENT) u k = 1 → s.rd (.tick .done) u k = 0 → s.rd (.nch .STAT_STATE) u 8 = 3 → s.doneWire (u - 1) k = false →
    Does (.unitDone u k t) s fun s' =>
      s'.rd (.tick .done) u k = 1 ∧ s'.time = t ∧
        (s.unitWaits u k = false → s'.rd (.tick .doneSlack) u k = (s.deadline - t) / 65536 % 2 ^ 26) ∧
        OnlyScalars [⟨.tick .done, u, k⟩, ⟨.tick .doneSlack, u, k⟩] (s.at t) s') ∧
  (∀ s u k t, s.coreUp = true → 1 ≤ u → u ≤ Config.n → k < 16 → t < 2 ^ 80 →
    (s.tick ≠ 2 ∨ s.deadline ≤ t ∨ s.rd (.tick .UNIT_PRESENT) u k = 0 ∨ s.rd (.tick .done) u k = 1) →
    exec (.unitDone u k t) s = .next (s.at t)) ∧
  (∀ s outs, s.coreUp = true → (outs.all fun o => okDie o.1 && decide (o.2.1 < 24) && decide (o.2.2.1 < 2) && decide (o.2.2.2 < 2)) = true →
    s.tick = 2 → s.rd (.tick .ended) = 0 → s.lateUnits = [] → s.waitingPlaces = [] → s.gapPlaces = [] → s.rd (.tick .GROUP_EN) = 0 →
    Does (.deadlinePulse outs []) s fun s' =>
      s'.tick = 2 ∧ s'.rd (.tick .decided) = 1 ∧ s'.time = s.deadline % 2 ^ 80 ∧
        (∀ o, outs.getLast? = some o → s'.rd (.fab .samV) (1 + o.1) o.2.1 = o.2.2.1 ∧ s'.rd (.fab .samOE) (1 + o.1) o.2.1 = o.2.2.2) ∧
        OnlyScalars ([⟨.tick .ended, 0, 0⟩, ⟨.tick .decided, 0, 0⟩] ++
          outs.flatMap fun o => [⟨.fab .samV, 1 + o.1, o.2.1⟩, ⟨.fab .samOE, 1 + o.1, o.2.1⟩]) (s.at s.deadline) s') ∧
  (∀ s outs missing u k l, s.coreUp = true →
    (outs.all fun o => okDie o.1 && decide (o.2.1 < 24) && decide (o.2.2.1 < 2) && decide (o.2.2.2 < 2)) = true →
    (∀ x ∈ missing, x ≤ Config.n) → s.tick = 2 → s.rd (.tick .ended) = 0 → s.lateUnits = (u, k) :: l →
    Does (.deadlinePulse outs missing) s fun s' =>
      s'.tick = 4 ∧ s'.rd (.tick .VOID_CAUSE_CAUSE) = 1 ∧ s'.rd (.tick .VOID_CAUSE_UNIT) = k % 16 ∧
        s'.rd (.tick .VOID_CAUSE_WHERE) = u % 16 ∧ s'.rd (.tick .UNIT_LATE) u k = 1 ∧ (s'.rd (.tick .VOID_CAUSE_MASK)).testBit 0 = true) ∧
  (∀ s outs u missing, s.coreUp = true →
    (outs.all fun o => okDie o.1 && decide (o.2.1 < 24) && decide (o.2.2.1 < 2) && decide (o.2.2.2 < 2)) = true →
    (∀ x ∈ u :: missing, x ≤ Config.n) → s.tick = 2 → s.rd (.tick .ended) = 0 → s.lateUnits = [] → s.waitingPlaces = [] → s.gapPlaces = [] →
    Does (.deadlinePulse outs (u :: missing)) s fun s' =>
      s'.tick = 4 ∧ s'.rd (.tick .VOID_CAUSE_CAUSE) = 9 ∧ s'.rd (.tick .VOID_CAUSE_WHERE) = u % 16) ∧
  (∀ s outs, s.coreUp = true →
    (outs.all fun o => okDie o.1 && decide (o.2.1 < 24) && decide (o.2.2.1 < 2) && decide (o.2.2.2 < 2)) = true →
    s.tick = 2 → s.rd (.tick .ended) = 0 → s.lateUnits = [] → s.waitingPlaces = [] → s.gapPlaces = [] →
    Does (.deadlinePulse outs []) s fun s' => s'.tick = 2 ∧ s'.rd (.tick .decided) = 1 ∧ s'.rd (.tick .ended) = 1) ∧
  (∀ s outs missing u l, s.coreUp = true →
    (outs.all fun o => okDie o.1 && decide (o.2.1 < 24) && decide (o.2.2.1 < 2) && decide (o.2.2.2 < 2)) = true →
    (∀ x ∈ missing, x ≤ Config.n) → s.tick = 2 → s.rd (.tick .ended) = 0 → s.lateUnits = [] →
    (s.waitingPlaces = u :: l →
      Does (.deadlinePulse outs missing) s fun s' =>
        s'.tick = 4 ∧ s'.rd (.tick .VOID_CAUSE_CAUSE) = 2 ∧ s'.rd (.tick .VOID_CAUSE_WHERE) = u % 16) ∧
    (s.waitingPlaces = [] → s.gapPlaces = u :: l →
      Does (.deadlinePulse outs missing) s fun s' =>
        s'.tick = 4 ∧ s'.rd (.tick .VOID_CAUSE_CAUSE) = 4 ∧ s'.rd (.tick .VOID_CAUSE_WHERE) = u % 16)) ∧
  (∀ s outs missing, s.coreUp = true →
    (outs.all fun o => okDie o.1 && decide (o.2.1 < 24) && decide (o.2.2.1 < 2) && decide (o.2.2.2 < 2)) = true →
    (∀ x ∈ missing, x ≤ Config.n) → (s.tick ≠ 2 ∨ s.rd (.tick .ended) ≠ 0) → exec (.deadlinePulse outs missing) s = .next s) ∧
  (∀ s pins, s.coreUp = true → okLevels pins = true → s.tick = 2 → s.rd (.tick .decided) = 1 → s.groupAllows = true →
    (s.rd (.tick .WDOG_PERIOD) = 0 ∨ s.rd (.tick .WDOG_REMAIN) ≠ 0) →
    Does (.boundaryPulse pins) s fun t =>
      t.rd (.tick .NUMBER) = (s.rd (.tick .NUMBER) + 1) % 2 ^ 64 ∧ t.time = s.boundaryAt (s.rd (.tick .kNext)) % 2 ^ 80 ∧
        t.rd (.tick .kCur) = s.rd (.tick .kNext) % 2 ^ 64 ∧ t.rd (.tick .kNext) = (s.rd (.tick .kNext) + 1) % 2 ^ 64 ∧
        t.rd (.tick .decided) = 0 ∧ (s.rd (.tick .wait) = 1 → t.tick = 3) ∧ (s.rd (.tick .wait) = 2 → t.tick = 0)) ∧
  (∀ s pins, s.coreUp = true → okLevels pins = true → s.tick = 1 →
    Does (.boundaryPulse pins) s fun t =>
      (t.tick = 2 ∨ t.tick = 4) ∧ t.time = s.boundaryAt (s.rd (.tick .kNext)) % 2 ^ 80 ∧
        t.rd (.tick .kCur) = s.rd (.tick .kNext) % 2 ^ 64 ∧ t.rd (.tick .kNext) = (s.rd (.tick .kNext) + 1) % 2 ^ 64 ∧
        t.rd (.tick .NUMBER) = (if s.rd (.tick .fresh) = 1 then s.rd (.tick .NUMBER) else s.rd (.tick .nextNumber) % 2 ^ 64)) ∧
  (∀ s pins, s.coreUp = true → okLevels pins = true → s.tick = 2 → s.rd (.tick .decided) = 1 →
    (s.rd (.tick .WDOG_PERIOD) ≠ 0 → s.rd (.tick .WDOG_REMAIN) = 0 →
      Does (.boundaryPulse pins) s fun t => t.tick = 4 ∧ t.rd (.tick .VOID_CAUSE_CAUSE) = 0x0F) ∧
    ((s.rd (.tick .WDOG_PERIOD) = 0 ∨ s.rd (.tick .WDOG_REMAIN) ≠ 0) → s.groupAllows = false →
      Does (.boundaryPulse pins) s fun t => t.tick = 4 ∧ t.rd (.tick .VOID_CAUSE_CAUSE) = 0x0B)) ∧
  (∀ s pins, s.coreUp = true → okLevels pins = true → (s.tick ≠ 1 ∧ (s.tick ≠ 2 ∨ s.rd (.tick .decided) ≠ 1)) →
    exec (.boundaryPulse pins) s = .next s)

/-- The watchdog voids the tick with cause 0x0F when a boundary finds REMAIN at 0, and a tick that its group has not decided in time, or
that a member voids, voids with cause 0x0B. A member that START finds STOPPED or in VOID adopts P, G, t0, k_s and N_s and is ARMED, a
commit from the master is noted for the boundary, and the master notes each member that has reported ready (R63, R66, R68, R69, R70).
Log entry 17 says what in it is the model's choice or reading. -/
def Obligations.VoidsAndGroups : Prop :=
  (∀ s, s.coreUp = true → s.tick = 2 → s.rd (.tick .WDOG_PERIOD) ≠ 0 → s.rd (.tick .WDOG_REMAIN) = 0 →
    Does .tickWatchdogExpiry s fun s' => s'.tick = 4 ∧ s'.rd (.tick .VOID_CAUSE_CAUSE) = 0x0F) ∧
  (∀ s, s.coreUp = true → s.tick = 2 → s.rd (.tick .GROUP_EN) = 1 → s.groupAllows = false →
    Does .groupDecisionMissing s fun s' => s'.tick = 4 ∧ s'.rd (.tick .VOID_CAUSE_CAUSE) = 0x0B) ∧
  (∀ s p id cause, s.coreUp = true → p < 6 → id < 16 → cause < 256 → s.tick = 2 → s.rd (.tick .GROUP_EN) = 1 →
    s.rd (.tick .GROUP_MASTER) = 1 → s.rd (.tick .GROUP_PORT) = p →
    Does (.memberDecision p id (s.rd (.tick .NUMBER)) false cause) s fun s' =>
      s'.tick = 4 ∧ s'.rd (.tick .VOID_CAUSE_CAUSE) = 0x0B) ∧
  (∀ s p cause, s.coreUp = true → p < 6 → cause < 256 → s.tick = 2 → s.rd (.tick .GROUP_EN) = 1 →
    s.rd (.tick .GROUP_MASTER) = 0 → s.rd (.tick .GROUP_PORT) = p →
    Does (.groupDecision p (s.rd (.tick .NUMBER)) false cause) s fun s' =>
      s'.tick = 4 ∧ s'.rd (.tick .VOID_CAUSE_CAUSE) = 0x0B) ∧
  (∀ s p ns per g t0 ks, s.coreUp = true → p < 6 → s.rd (.tick .GROUP_EN) = 1 → s.rd (.tick .GROUP_MASTER) = 0 →
    s.rd (.tick .GROUP_PORT) = p → (s.tick = 0 ∨ s.tick = 4) →
    Does (.groupStart p ns per g t0 ks) s fun s' =>
      s'.tick = 1 ∧ s'.rd (.tick .NUMBER) = ns % 2 ^ 64 ∧ s'.rd (.tick .PERIOD_P) = per % 2 ^ 26 ∧
        s'.rd (.tick .GUARD_G) = g % 2 ^ 16 ∧ s'.rd (.tick .ORIGIN) = t0 % 2 ^ 64 ∧ s'.rd (.tick .START_INDEX) = ks % 2 ^ 64 ∧
        s'.rd (.tick .kNext) = ks % 2 ^ 64) ∧
  (∀ s p cause, s.coreUp = true → p < 6 → cause < 256 → s.rd (.tick .GROUP_EN) = 1 → s.rd (.tick .GROUP_MASTER) = 0 →
    s.rd (.tick .GROUP_PORT) = p →
    Does (.groupDecision p (s.rd (.tick .NUMBER)) true cause) s fun s' =>
      s'.rd (.tick .grpCommit) = 1 ∧ OnlyScalars [⟨.tick .grpCommit, 0, 0⟩] s s') ∧
  (∀ s p id cause, s.coreUp = true → p < 6 → id < 16 → cause < 256 → s.tick = 2 → s.rd (.tick .GROUP_EN) = 1 →
    s.rd (.tick .GROUP_MASTER) = 1 → s.rd (.tick .GROUP_PORT) = p →
    Does (.memberDecision p id (s.rd (.tick .NUMBER)) true cause) s fun s' =>
      s'.tick = 2 ∧ (s'.rd (.tick .grpSeen)).testBit id = true)

/-- A port operation reaches the array: the port is attached, its fabric runs, nothing holds it and nothing refuses it (R135, R136). -/
def PortReady (s : State) (o : PortOp) : Prop :=
  s.portAttached o.die o.bank o.port = true ∧ s.fabricRuns o.die = true ∧ s.portHolds o = false ∧ s.portRefusal o = none

/-- What a port operation reads of the row that it reaches. -/
def portSees (s : State) (o : PortOp) : RowRead := readRow (s.row o.die o.bank (s.portRow o))

/-- Of the rows of all banks only the one that `o` reaches differs, and it holds `v`. -/
def StoresRow (s t : State) (o : PortOp) (v : Nat) : Prop :=
  t.row o.die o.bank (s.portRow o) = encodeRow v ∧
    ∀ k, k ≠ rowKey o.die o.bank (s.portRow o) → Sparse.get (fun _ => 0) t.banks k = Sparse.get (fun _ => 0) s.banks k

/-- The operations of a fabric port that reach a row without poison: READ presents the word, WRITE stores WDATA, SET and CLEAR store word
OR WDATA and word AND NOT WDATA and present the word before, LOCK_READ takes the lock, WRITE_UNLOCK and UNLOCK give it up, and OP 7
presents OPERR (R135, R136, R145). Every row that is not stored to stays as it was. Log entry 26 says what in it is the model's choice
or reading. -/
def Obligations.BankPortOperations : Prop :=
  (∀ s d b p a, s.coreUp = true → okPort d b p = true → a < 16384 → PortReady s ⟨d, b, p, 0, a, 0⟩ →
    (portSees s ⟨d, b, p, 0, a, 0⟩).poison = false →
    Does (.bankRead d b p a) s fun t =>
      t.rd (.bank .rdata) (1 + d) (2 * b + p) = (portSees s ⟨d, b, p, 0, a, 0⟩).data % 2 ^ 48 ∧ t.banks = s.banks ∧
        OnlyScalars [⟨.bank .rdata, 1 + d, 2 * b + p⟩, ⟨.bank .flags, 1 + d, 2 * b + p⟩] { s with writeBacks := t.writeBacks } t) ∧
  (∀ s d b p a, s.coreUp = true → okPort d b p = true → a < 16384 → PortReady s ⟨d, b, p, 0, a, 0⟩ →
    (portSees s ⟨d, b, p, 0, a, 0⟩).poison = true →
    Does (.bankRead d b p a) s fun t =>
      t.rd (.bank .rdata) (1 + d) (2 * b + p) = 0 ∧ t.rd (.bank .flags) (1 + d) (2 * b + p) = 5 ∧ t.rd (.bank .STAT_UE) (1 + d) b = 1) ∧
  (∀ s d b p a v, s.coreUp = true → okPort d b p = true → a < 16384 → PortReady s ⟨d, b, p, 1, a, v⟩ →
    Does (.bankWrite d b p a v) s fun t =>
      StoresRow s t ⟨d, b, p, 1, a, v⟩ v ∧ t.rd (.bank .flags) (1 + d) (2 * b + p) = 1 ∧
        OnlyScalars [⟨.bank .rdata, 1 + d, 2 * b + p⟩, ⟨.bank .flags, 1 + d, 2 * b + p⟩]
          { s with banks := t.banks, writeBacks := t.writeBacks, free := s.free + 1 } t) ∧
  (∀ s d b p a v, s.coreUp = true → okPort d b p = true → a < 16384 → PortReady s ⟨d, b, p, 2, a, v⟩ →
    (portSees s ⟨d, b, p, 2, a, v⟩).poison = false →
    Does (.bankSet d b p a v) s fun t =>
      StoresRow s t ⟨d, b, p, 2, a, v⟩ ((portSees s ⟨d, b, p, 2, a, v⟩).data ||| v % 2 ^ 48) ∧
        t.rd (.bank .rdata) (1 + d) (2 * b + p) = (portSees s ⟨d, b, p, 2, a, v⟩).data % 2 ^ 48) ∧
  (∀ s d b p a v, s.coreUp = true → okPort d b p = true → a < 16384 → PortReady s ⟨d, b, p, 3, a, v⟩ →
    (portSees s ⟨d, b, p, 3, a, v⟩).poison = false →
    Does (.bankClear d b p a v) s fun t =>
      StoresRow s t ⟨d, b, p, 3, a, v⟩ ((portSees s ⟨d, b, p, 3, a, v⟩).data &&& ((2 ^ 48 - 1) ^^^ v % 2 ^ 48)) ∧
        t.rd (.bank .rdata) (1 + d) (2 * b + p) = (portSees s ⟨d, b, p, 3, a, v⟩).data % 2 ^ 48) ∧
  (∀ s d b p a, s.coreUp = true → okPort d b p = true → a < 16384 → PortReady s ⟨d, b, p, 4, a, 0⟩ →
    (portSees s ⟨d, b, p, 4, a, 0⟩).poison = false → s.portLocks d b p = false →
    Does (.bankLockRead d b p a) s fun t =>
      t.lockedBy d b p a = true ∧ t.banks = s.banks ∧
        t.rd (.bank .rdata) (1 + d) (2 * b + p) = (portSees s ⟨d, b, p, 4, a, 0⟩).data % 2 ^ 48) ∧
  (∀ s d b p a v, s.coreUp = true → okPort d b p = true → a < 16384 → PortReady s ⟨d, b, p, 5, a, v⟩ →
    Does (.bankWriteUnlock d b p a v) s fun t =>
      StoresRow s t ⟨d, b, p, 5, a, v⟩ v ∧ t.portLocks d b p = false) ∧
  (∀ s d b p a, s.coreUp = true → okPort d b p = true → a < 16384 → PortReady s ⟨d, b, p, 6, a, 0⟩ →
    Does (.bankUnlock d b p a) s fun t => t.banks = s.banks ∧ t.portLocks d b p = false) ∧
  (∀ s d b p a, s.coreUp = true → okPort d b p = true → a < 16384 → s.portAttached d b p = true → s.fabricRuns d = true →
    s.portHolds ⟨d, b, p, 7, a, 0⟩ = false → s.bankPwr d b = 1 →
    Does (.bankInvalidOp d b p a) s fun t =>
      t.rd (.bank .rdata) (1 + d) (2 * b + p) = 0 ∧ t.rd (.bank .flags) (1 + d) (2 * b + p) = 129 ∧
        t.rd (.bank .STAT_OPERR) (1 + d) b = 1 ∧
        OnlyScalars [⟨.bank .rdata, 1 + d, 2 * b + p⟩, ⟨.bank .flags, 1 + d, 2 * b + p⟩, ⟨.bank .STAT_OPERR, 1 + d, b⟩] s t)

/-- The request of a power state, and the three scalars that an accepted one writes. -/
def PowerBegins (c : Instr) (s : State) (d b req : Nat) : Prop :=
  Does c s fun t =>
    t.rd (.bank .STAT_BUSY) (1 + d) b = 1 ∧ t.rd (.bank .goal) (1 + d) b = req ∧ t.rd (.bank .STAT_REFUSE) (1 + d) b = 0 ∧
      OnlyScalars [⟨.bank .STAT_BUSY, 1 + d, b⟩, ⟨.bank .goal, 1 + d, b⟩, ⟨.bank .STAT_REFUSE, 1 + d, b⟩] s t

/-- A write of BANK_PWR that R150 does not refuse begins its transition; one that it refuses records the code and does nothing else; a
transition that completes leaves the bank in the state asked for, and one to OFF leaves no row with content (R148, R149, R150). -/
def Obligations.BankPowerStates : Prop :=
  (∀ s d b, s.coreUp = true → d < Config.n → b < 512 → s.powerRefusal d b 1 false = 0 → PowerBegins (.bankOn d b) s d b 1) ∧
  (∀ s d b, s.coreUp = true → d < Config.n → b < 512 → s.powerRefusal d b 2 false = 0 → PowerBegins (.bankRetention d b) s d b 2) ∧
  (∀ s d b, s.coreUp = true → d < Config.n → b < 512 → s.powerRefusal d b 3 false = 0 → PowerBegins (.bankOff d b) s d b 3) ∧
  (∀ s d b, s.coreUp = true → d < Config.n → b < 512 → s.powerRefusal d b 4 true = 0 → PowerBegins (.bankTest d b true) s d b 4) ∧
  (∀ s d b, s.coreUp = true → d < Config.n → b < 512 → s.powerRefusal d b 5 false = 0 → PowerBegins (.bankLeaveTest d b) s d b 5) ∧
  (∀ s d b, s.coreUp = true → d < Config.n → b < 512 → zeroWf s.banks = true → s.powerRefusal d b 6 false = 0 →
    Does (.bankBlank d b) s fun t =>
      t.rd (.bank .STAT_BUSY) (1 + d) b = 1 ∧ (∀ row, row < 16384 → rowVote (t.row d b row) = false) ∧
        ∀ d' b' row, (d', b') ≠ (d, b) → d' < Config.n → b' < 512 → row < 16384 → t.row d' b' row = s.row d' b' row) ∧
  (∀ s d b, s.coreUp = true → d < Config.n → b < 512 → s.powerRefusal d b 3 false ≠ 0 →
    exec (.bankOff d b) s = .next (s.wr (.bank .STAT_REFUSE) (1 + d) b (s.powerRefusal d b 3 false))) ∧
  (∀ s d b, s.coreUp = true → d < Config.n → b < 512 → s.powerRefusal d b 1 false ≠ 0 →
    exec (.bankOn d b) s = .next (s.wr (.bank .STAT_REFUSE) (1 + d) b (s.powerRefusal d b 1 false))) ∧
  (∀ s d b, s.coreUp = true → d < Config.n → b < 512 → s.powerRefusal d b 2 false ≠ 0 →
    exec (.bankRetention d b) s = .next (s.wr (.bank .STAT_REFUSE) (1 + d) b (s.powerRefusal d b 2 false))) ∧
  (∀ s d b l2, s.coreUp = true → d < Config.n → b < 512 → s.powerRefusal d b 4 l2 ≠ 0 →
    exec (.bankTest d b l2) s = .next (s.wr (.bank .STAT_REFUSE) (1 + d) b (s.powerRefusal d b 4 l2))) ∧
  (∀ s d b, s.coreUp = true → d < Config.n → b < 512 → s.powerRefusal d b 5 false ≠ 0 →
    exec (.bankLeaveTest d b) s = .next (s.wr (.bank .STAT_REFUSE) (1 + d) b (s.powerRefusal d b 5 false))) ∧
  (∀ s d b, s.coreUp = true → d < Config.n → b < 512 → s.powerRefusal d b 6 false ≠ 0 →
    exec (.bankBlank d b) s = .next (s.wr (.bank .STAT_REFUSE) (1 + d) b (s.powerRefusal d b 6 false))) ∧
  (∀ (s : State) d b req l2, s.powerRefusal d b req l2 ≤ 4 ∧
    (s.powerRefusal d b req l2 = 1 → s.tick = 1 ∨ s.tick = 2 ∨ s.tick = 5) ∧
    (s.powerRefusal d b req l2 = 2 → s.rd (.bank .CFG_USED) (1 + d) b = 0 ∨ s.rd (.bank .STAT_FAILED) (1 + d) b = 1) ∧
    (s.powerRefusal d b req l2 = 3 → req = 4 ∧ l2 = false) ∧
    (s.powerRefusal d b req l2 = 4 → powerListed (s.bankPwr d b) req = false ∨ s.rd (.bank .STAT_BUSY) (1 + d) b = 1) ∧
    (s.powerRefusal d b req l2 = 0 → s.tick ≠ 1 ∧ s.tick ≠ 2 ∧ s.tick ≠ 5 ∧ s.rd (.bank .CFG_USED) (1 + d) b ≠ 0 ∧
      s.rd (.bank .STAT_FAILED) (1 + d) b ≠ 1 ∧ (req = 4 → l2 = true) ∧ powerListed (s.bankPwr d b) req = true ∧
      s.rd (.bank .STAT_BUSY) (1 + d) b ≠ 1)) ∧
  (∀ s d b, s.coreUp = true → d < Config.n → b < 512 → s.rd (.bank .STAT_BUSY) (1 + d) b = 1 →
    Does (.bankTransitionDone d b) s fun t =>
      t.bankPwr d b = powerGoal (s.rd (.bank .goal) (1 + d) b) ∧ t.rd (.bank .STAT_BUSY) (1 + d) b = 0 ∧
        (powerGoal (s.rd (.bank .goal) (1 + d) b) = 0 → ∀ row, row < 16384 → t.row d b row = 0) ∧
        (powerGoal (s.rd (.bank .goal) (1 + d) b) = 1 → s.rd (.bank .goal) (1 + d) b ≠ 6 → (s.bankPwr d b = 0 ∨ s.bankPwr d b = 3) →
          ∀ row, row < 16384 → rowVote (t.row d b row) = false)) ∧
  (∀ s d b, s.coreUp = true → d < Config.n → b < 512 → s.rd (.bank .STAT_BUSY) (1 + d) b ≠ 1 → exec (.bankTransitionDone d b) s = .next s)

/-- The bank commands beside ports and power: a correction write-back that waits rewrites its row and waits no longer, an uncorrectable
row keeping its data; blanking ends, and the operations that it held are held no more; raw test access stores and loads all 58 bits in
TEST through the monitor at level 2, ECC_CLR clears its counters alone, and the poison policy is one value in every die that is not
isolated (R131, R133, R143, R152, R161). Log entries 28 to 30 say what in it is the model's choice or reading. -/
def Obligations.BankUpkeepCommands : Prop :=
  (∀ s d b row w, s.coreUp = true → d < Config.n → b < 512 → row < 16384 →
    (s.writeBacks.find? fun w => w.die == d && w.bank == b && w.row == row) = some w →
    Does (.correctionWriteBack d b row) s fun t =>
      t.row d b row = (if w.voteZero then low 55 (s.row d b row)
        else if (readRow (s.row d b row)).poison then low 55 (s.row d b row) + 7 * 2 ^ 55
        else encodeRow (readRow (s.row d b row)).data) ∧ (∀ x ∈ t.writeBacks, ¬(x.die = d ∧ x.bank = b ∧ x.row = row)) ∧
        ∀ k, k ≠ rowKey d b row → Sparse.get (fun _ => 0) t.banks k = Sparse.get (fun _ => 0) s.banks k) ∧
  (∀ s d b, s.coreUp = true → d < Config.n → b < 512 → s.rd (.bank .blanking) (1 + d) b ≠ 0 →
    (∀ o ∈ s.heldOps, ¬(o.die = d ∧ o.bank = b)) →
    Does (.bankBlankingDone d b) s fun t =>
      t.rd (.bank .blanking) (1 + d) b = 0 ∧ OnlyScalars [⟨.bank .blanking, 1 + d, b⟩] s t) ∧
  (∀ s d b, s.coreUp = true → d < Config.n → b < 512 → s.rd (.bank .blanking) (1 + d) b ≠ 0 →
    Does (.bankBlankingDone d b) s fun t => t.heldOps = s.heldOps.filter fun o => !(o.die == d && o.bank == b)) ∧
  (∀ s d, s.coreUp = true → d < Config.n → s.testReaches d true = true →
    Does (.bankTestWriteRaw d true) s fun t =>
      t.row d (s.testBank d) (s.testRow d) =
        rowOf (s.rd (.bank .TEST_DATA_DATA) (1 + d)) (s.rd (.bank .TEST_CHECK_CHECK) (1 + d)) (s.rd (.bank .TEST_CHECK_VALID) (1 + d)) ∧
      t = { s with banks := t.banks }) ∧
  (∀ s d l2, s.coreUp = true → d < Config.n → s.testReaches d l2 = false →
    exec (.bankTestWriteRaw d l2) s = .next s ∧ exec (.bankTestReadRaw d l2) s = .next s) ∧
  (∀ s d, s.coreUp = true → d < Config.n → s.testReaches d true = true →
    Does (.bankTestReadRaw d true) s fun t =>
      t.rd (.bank .TEST_DATA_DATA) (1 + d) = s.row d (s.testBank d) (s.testRow d) % 2 ^ 48 ∧
      t.rd (.bank .TEST_CHECK_CHECK) (1 + d) = slice (s.row d (s.testBank d) (s.testRow d)) 48 7 ∧
      t.rd (.bank .TEST_CHECK_VALID) (1 + d) = slice (s.row d (s.testBank d) (s.testRow d)) 55 3 ∧
      OnlyScalars [⟨.bank .TEST_DATA_DATA, 1 + d, 0⟩, ⟨.bank .TEST_CHECK_CHECK, 1 + d, 0⟩, ⟨.bank .TEST_CHECK_VALID, 1 + d, 0⟩] s t) ∧
  (∀ s d v, s.coreUp = true → d < Config.n → v % 2 = 1 →
    Does (.bankEccClr d v) s fun t =>
      t.rd (.bank .ECC_SUM_CE) (1 + d) = 0 ∧ t.rd (.bank .ECC_SUM_UE) (1 + d) = 0 ∧ t.rd (.bank .ECC_SUM_VALIDFIX) (1 + d) = 0 ∧
        (∀ b, t.rd (.bank .STAT_CE) (1 + d) b = 0) ∧ t = { s with regs := t.regs } ∧
        ∀ f u j, (u ≠ 1 + d ∨ f ∉ [Fld.bank .ECC_SUM_CE, .bank .ECC_SUM_UE, .bank .ECC_SUM_VALIDFIX, .bank .STAT_CE]) →
          t.rd f u j = s.rd f u j) ∧
  (∀ s d v, s.coreUp = true → d < Config.n → v % 2 = 0 → exec (.bankEccClr d v) s = .next s) ∧
  (∀ s v, s.coreUp = true →
    Does (.bankPolicyWrite v) s fun t =>
      (∀ d, d < Config.n → t.rd (.bank .POLICY_POISON) (1 + d) = if s.isolated d then s.rd (.bank .POLICY_POISON) (1 + d) else v % 2) ∧
        t.rd (.bank .POLICY_POISON) = v % 2 ∧
        t = { s with regs := t.regs })

/-- The code of a row: the data bit d[i] has the i-th position from 3 upward that is no power of two; c_j, for j from 0 to 5, is the
exclusive-or of the data bits whose position has bit j set, and c6 that of all data bits and of c0 to c5. A row that is written holds
its data, these check bits and three valid copies, and reads back as it was written, without error (R126). -/
def Obligations.BankRowReadsBack : Prop :=
  (∀ v, v < 2 ^ 48 → checkBits v < 2 ^ 7 ∧
    (∀ j, j < 6 → (checkBits v).testBit j = (List.range 48).foldl (fun a i => a != (v.testBit i && (codePositions.getD i 0).testBit j)) false) ∧
    (checkBits v).testBit 6 = (parity 48 v != parity 6 (checkBits v))) ∧
  codePositions = [3, 5, 6, 7] ++ (List.range 7).map (9 + ·) ++ (List.range 15).map (17 + ·) ++ (List.range 22).map (33 + ·) ∧
  (∀ v, v < 2 ^ 48 →
    low 48 (encodeRow v) = v ∧ slice (encodeRow v) 48 7 = checkBits v ∧ slice (encodeRow v) 55 3 = 7 ∧
      readRow (encodeRow v) = ⟨v, false, false, false, false⟩)

/-- A read of a row: the majority of the valid copies says whether the word is written; an unwritten word reads zero without error; for a
written one the syndrome s and the parity e of the 55 data and check bits decide: no error, a single error in c6 or in another check
bit, a single error in d[i], which is inverted, or uncorrectable, which is poison (R127). So any one of the 55 data and check bits of
a written row may be wrong, and the read returns the data; and any one of the three valid copies may be wrong, a split vote. -/
def Obligations.BankRowCorrectsOneBit : Prop :=
  (∀ row, rowVote row = decide (2 ≤ b2n (row.testBit 55) + b2n (row.testBit 56) + b2n (row.testBit 57))) ∧
  (∀ row, rowVote row = false →
    (readRow row).data = 0 ∧ (readRow row).zero = true ∧ (readRow row).corr = false ∧ (readRow row).poison = false) ∧
  (∀ row syn e, rowVote row = true → syn = (checkBits (low 48 row) % 64) ^^^ (slice row 48 6) → e = parity 55 row →
    (readRow row).zero = false ∧
    (e = false → syn = 0 → (readRow row).data = low 48 row ∧ (readRow row).corr = false ∧ (readRow row).poison = false) ∧
    (e = true → syn = 0 ∨ (∃ j, j < 6 ∧ syn = 2 ^ j) →
      (readRow row).data = low 48 row ∧ (readRow row).corr = true ∧ (readRow row).poison = false) ∧
    (∀ i, e = true → i < 48 → syn = codePositions.getD i 0 →
      (readRow row).data = low 48 row ^^^ 2 ^ i ∧ (readRow row).corr = true ∧ (readRow row).poison = false) ∧
    (e = true → 55 ≤ syn → (readRow row).data = 0 ∧ (readRow row).corr = false ∧ (readRow row).poison = true) ∧
    (e = false → syn ≠ 0 → (readRow row).data = 0 ∧ (readRow row).corr = false ∧ (readRow row).poison = true)) ∧
  (∀ v i, v < 2 ^ 48 → i < 55 → readRow (encodeRow v ^^^ 2 ^ i) = ⟨v, false, true, false, false⟩) ∧
  (∀ v i, v < 2 ^ 48 → 55 ≤ i → i < 58 → readRow (encodeRow v ^^^ 2 ^ i) = ⟨v, false, false, false, true⟩)

/-- Channel `c` of NI `k` of die `d` takes commands at time `t`: its fabric runs, the channel is enabled, and for the T class D of a
RUNNING tick has not passed (R187). -/
def ChannelTakes (s : State) (d k c t : Nat) : Prop :=
  s.coreUp = true ∧ d < Config.n ∧ k < 16 ∧ c < 4 ∧ t < 2 ^ 80 ∧ s.fabricRuns d = true ∧
    s.rd (.erg .CH_CFG_EN) (1 + d) (4 * k + c) = 1 ∧ (s.chClass (16 * (1 + d) + k) c ≠ 0 ∨ (s.at t).afterDeadline = false)

/-- A channel of an NI has nothing open and nothing waiting. -/
def ChannelFree (s : State) (ni c : Nat) : Prop :=
  (∀ x ∈ s.txns, ¬(x.ni = ni ∧ x.ch = c)) ∧ ∀ w ∈ s.niWaits, ¬(w.ni = ni ∧ w.ch = c)

/-- The command quad that the operands of FABRIC_REQUEST_ISSUE spell. -/
def quadOf' (s : State) (d k c entry : Nat) (auto : Bool) (type count mbox addr seq prio aux : Nat) (words : List Nat) : Cmd :=
  ⟨entry, auto, type, count, mbox, addr, seq, prio, aux % 2 ^ 14,
    if 1 ≤ type ∧ type ≤ 4 then s.payload (16 * (1 + d) + k) c count words else []⟩

/-- A request that passes the checks of R187, is not served by the remote cache and need not wait takes the lowest free TID and opens one
transaction; one that fails them, on a free channel, is answered at once with its status. MREAD and MCOUNT, by a command quad or of
their own, on a free channel deliver at once what the read side of the mailbox holds, and ADDRESS where it holds none (R185, R187,
R188). Log entries 33, 121 say what in it is the model's choice or reading. -/
def Obligations.ChannelCommands : Prop :=
  (∀ s d k c entry auto type count mbox addr seq prio aux words t bad dest e a tid, ChannelTakes s d k c t →
    entry < 1024 → type < 16 → type ≠ 5 → type ≠ 6 → count < 128 → mbox < 4 → addr < 2 ^ 48 → seq < 2 ^ 16 → prio < 4 →
    (∀ w ∈ s.niWaits, ¬(w.ni = 16 * (1 + d) + k ∧ w.ch = c)) →
    s.issueCheck (16 * (1 + d) + k) (s.chClass (16 * (1 + d) + k) c)
      (quadOf' s d k c entry auto type count mbox addr seq prio aux words) = .go dest e a →
    (cacheable (16 * (1 + d) + k) (s.chClass (16 * (1 + d) + k) c) type (regionOf a) = false ∨ s.rd (.bank .RC_CTRL_EN) (1 + d) = 0) →
    s.mustWait (16 * (1 + d) + k) c (s.chClass (16 * (1 + d) + k) c) dest e a
      (quadOf' s d k c entry auto type count mbox addr seq prio aux words) = false →
    s.freeTid (16 * (1 + d) + k) = some tid →
    Does (.fabricRequestIssue d k c entry auto type count mbox addr seq prio aux words t bad) s fun s' =>
      ∃ g, s'.txns = s.txns ++ [⟨16 * (1 + d) + k, c, tid, g, true, e, dest, s.chClass (16 * (1 + d) + k) c, type, a, countOf count, seq,
        none⟩]) ∧
  (∀ s d k c entry auto type count mbox addr seq prio aux words t bad status peer, ChannelTakes s d k c t →
    entry < 1024 → type < 16 → type ≠ 5 → type ≠ 6 → count < 128 → mbox < 4 → addr < 2 ^ 48 → seq < 2 ^ 16 → prio < 4 →
    ChannelFree s (16 * (1 + d) + k) c →
    s.issueCheck (16 * (1 + d) + k) (s.chClass (16 * (1 + d) + k) c)
      (quadOf' s d k c entry auto type count mbox addr seq prio aux words) = .refused status peer →
    Does (.fabricRequestIssue d k c entry auto type count mbox addr seq prio aux words t bad) s fun s' =>
      ∃ x ∈ s'.delivered, x.ni = 16 * (1 + d) + k ∧ x.ch = c ∧ x.status = status ∧ x.body = []) ∧
  (∀ s d k c m i q t p x, ChannelTakes s d k c t → m < 4 → i < 1024 → q < 64 → ChannelFree s (16 * (1 + d) + k) c →
    s.mboxEnabled (16 * (1 + d) + k) m = true → s.mboxPacket (16 * (1 + d) + k) m i = some p → p.body[q]? = some x →
    (Does (.mread d k c m i q t) s fun s' =>
      (⟨16 * (1 + d) + k, c, false, 0, p.src, p.seq, 0, [x]⟩ : Delivery) ∈ s'.delivered) ∧
    ∀ entry auto count seq prio aux words bad, entry < 1024 → count < 128 → seq < 2 ^ 16 → prio < 4 →
      Does (.fabricRequestIssue d k c entry auto 5 count m (i + 1024 * q) seq prio aux words t bad) s fun s' =>
        (⟨16 * (1 + d) + k, c, false, 0, p.src, p.seq, 0, [x]⟩ : Delivery) ∈ s'.delivered) ∧
  (∀ s d k c m i q t, ChannelTakes s d k c t → m < 4 → i < 1024 → q < 64 → ChannelFree s (16 * (1 + d) + k) c →
    (s.mboxEnabled (16 * (1 + d) + k) m = false ∨ s.mboxPacket (16 * (1 + d) + k) m i = none) →
    Does (.mread d k c m i q t) s fun s' => ∃ x ∈ s'.delivered, x.ni = 16 * (1 + d) + k ∧ x.ch = c ∧ x.status = 1 ∧ x.body = []) ∧
  (∀ s d k c m t, ChannelTakes s d k c t → m < 4 → ChannelFree s (16 * (1 + d) + k) c → s.mboxEnabled (16 * (1 + d) + k) m = true →
    (Does (.mcount d k c m t) s fun s' =>
      (⟨16 * (1 + d) + k, c, false, 0, 0, 0, 0,
        [⟨(s.mboxSide (16 * (1 + d) + k) m true).length, quadsIn (s.mboxSide (16 * (1 + d) + k) m true), 0, 0, 0⟩]⟩ : Delivery) ∈
        s'.delivered) ∧
    ∀ entry auto count addr seq prio aux words bad, entry < 1024 → count < 128 → addr < 2 ^ 48 → seq < 2 ^ 16 → prio < 4 →
      Does (.fabricRequestIssue d k c entry auto 6 count m addr seq prio aux words t bad) s fun s' =>
        (⟨16 * (1 + d) + k, c, false, 0, 0, 0, 0,
          [⟨(s.mboxSide (16 * (1 + d) + k) m true).length, quadsIn (s.mboxSide (16 * (1 + d) + k) m true), 0, 0, 0⟩]⟩ : Delivery) ∈
          s'.delivered) ∧
  (∀ s d k c m i q t p x, s.coreUp = true → d < Config.n → k < 16 → c < 4 → m < 4 → i < 1024 → q < 64 → t < 2 ^ 80 →
    s.fabricRuns d = true → s.rd (.erg .CH_CFG_EN) (1 + d) (4 * k + c) = 1 → s.chClass (16 * (1 + d) + k) c ≠ 0 → s.txns = [] →
    s.mboxEnabled (16 * (1 + d) + k) m = true → s.mboxPacket (16 * (1 + d) + k) m i = some p → p.body[q]? = some x →
    tagMask x.tag 0 = some 0 →
    Does (.mread d k c m i q t) s fun s' =>
      s'.txns = [] ∧ s'.delivered = s.delivered ++ [⟨16 * (1 + d) + k, c, false, 0, p.src, p.seq, 0, [x]⟩]) ∧
  (∀ s d k c m t, s.coreUp = true → d < Config.n → k < 16 → c < 4 → m < 4 → t < 2 ^ 80 → s.fabricRuns d = true →
    s.rd (.erg .CH_CFG_EN) (1 + d) (4 * k + c) = 1 → s.chClass (16 * (1 + d) + k) c ≠ 0 → s.txns = [] →
    s.mboxEnabled (16 * (1 + d) + k) m = true →
    Does (.mcount d k c m t) s fun s' =>
      s'.txns = [] ∧ s'.delivered = s.delivered ++ [⟨16 * (1 + d) + k, c, false, 0, 0, 0, 0,
        [⟨(s.mboxSide (16 * (1 + d) + k) m true).length, quadsIn (s.mboxSide (16 * (1 + d) + k) m true), 0, 0, 0⟩]⟩])

/-- Packets that arrive whole at their interface: MBOX is filed in the write side of its mailbox, POST is delivered to its stream, and a
response that matches an open transaction decides it. A timeout decides with TIMEOUT, is counted and quarantines the TID; the
quarantine ends by its own command (R46, R48, R183, R184, R185, R188). Log entries 33, 37 say what in it is the model's choice or
reading. -/
def Obligations.PacketArrivals : Prop :=
  (∀ s p, s.coreUp = true → okNi (p.dst / 16) (p.dst % 16) = true → s.net.contains p = true → p.rsp = false → p.type = 2 →
    s.overtakes p = false → s.flitsOk p = true → 16 ≤ p.dst → s.mboxEnabled p.dst (p.mbox % 4) = true →
    s.mboxRoom p.dst (p.mbox % 4) p.body.length = true →
    Does (.mboxRequest p) s fun s' =>
      s'.mailboxes = s.mailboxes ++ [⟨p.dst, p.mbox % 4, false, s.logicalNi p.src, p.seq, s.untagged p⟩] ∧ s'.delivered = s.delivered) ∧
  (∀ s p, s.coreUp = true → okNi (p.dst / 16) (p.dst % 16) = true → s.net.contains p = true → p.rsp = false → p.type = 4 →
    s.overtakes p = false → s.flitsOk p = true → 16 ≤ p.dst → s.fabricSideOpen p.dst = true →
    Does (.postRequest p) s fun s' =>
      s'.delivered = s.delivered ++ [⟨p.dst, p.addr % 4, true, 0, s.logicalNi p.src, p.seq, 0, s.untagged p⟩] ∧
        s'.mailboxes = s.mailboxes) ∧
  (∀ s p t time, s.coreUp = true → okNi (p.dst / 16) (p.dst % 16) = true → time < 2 ^ 80 → s.net.contains p = true → p.rsp = true →
    s.flitsOk p = true → p.cls ≠ 0 → s.boundaryDrops p = false → s.txns = [t] → s.matching p = some t → s.niWaits = [] →
    Does (.responseArrival p time) s fun s' =>
      s'.txns = [] ∧ ∃ x, s'.delivered = s.delivered ++ [x] ∧ x.ni = t.ni ∧ x.ch = t.ch ∧ x.status = p.status ∧ x.detail = p.aux) ∧
  (∀ s p t time, s.coreUp = true → okNi (p.dst / 16) (p.dst % 16) = true → time < 2 ^ 80 → s.net.contains p = true → p.rsp = true →
    s.flitsOk p = true → s.boundaryDrops p = false → s.matching p = some t →
    Does (.responseArrival p time) s fun s' =>
      s'.time = time ∧
        ((∃ x ∈ s'.delivered, x.ni = t.ni ∧ x.ch = t.ch ∧ x.status = p.status ∧ x.detail = p.aux) ∨
          ∃ y ∈ s'.txns, ∃ b, y = { t with resp := some ⟨p.status, p.aux, b⟩ })) ∧
  (∀ s p time, s.coreUp = true → okNi (p.dst / 16) (p.dst % 16) = true → time < 2 ^ 80 → s.net.contains p = true → p.rsp = true →
    s.flitsOk p = true → s.boundaryDrops p = false → s.matching p = none → s.niWaits = [] → s.netHeld = [] →
    Does (.responseArrival p time) s fun s' =>
      s'.rd (.erg .NI_STAT_LATE) (p.dst / 16) (p.dst % 16) =
          satInc (Fld.erg .NI_STAT_LATE).width (s.rd (.erg .NI_STAT_LATE) (p.dst / 16) (p.dst % 16)) % 2 ^ (Fld.erg .NI_STAT_LATE).width ∧
        s'.quarantine = s.quarantine.filter (fun x => x ≠ (p.dst, p.tid, p.gen)) ∧ s'.txns = s.txns ∧ s'.delivered = s.delivered) ∧
  (∀ s u k tid t, s.coreUp = true → okNi u k = true → tid < 256 → s.txns = [t] → t.ni = 16 * u + k → t.hasTid = true → t.tid = tid →
    t.resp = none → t.cls ≠ 0 → s.routersBusy = false → s.waitsAtLock t = false → s.niWaits = [] →
    Does (.requestTimeout u k tid) s fun s' =>
      s'.txns = [] ∧ s'.quarantine = s.quarantine ++ [(t.ni, t.tid, t.gen)] ∧
        s'.rd (.erg .NI_STAT_TIMEOUTS) u k =
          satInc (Fld.erg .NI_STAT_TIMEOUTS).width (s.rd (.erg .NI_STAT_TIMEOUTS) u k) % 2 ^ (Fld.erg .NI_STAT_TIMEOUTS).width ∧
        ∃ x, s'.delivered = s.delivered ++ [x] ∧ x.ni = t.ni ∧ x.ch = t.ch ∧ x.status = 5) ∧
  (∀ s u k tid t, s.coreUp = true → okNi u k = true → tid < 256 →
    (s.txns.find? fun t => t.ni == 16 * u + k && t.hasTid && t.tid == tid && t.resp.isNone && t.cls != 0) = some t →
    s.routersBusy = false → s.waitsAtLock t = false →
    Does (.requestTimeout u k tid) s fun s' =>
      (t.ni, t.tid, t.gen) ∈ s'.quarantine ∧
        s'.rd (.erg .NI_STAT_TIMEOUTS) u k =
          satInc (Fld.erg .NI_STAT_TIMEOUTS).width (s.rd (.erg .NI_STAT_TIMEOUTS) u k) % 2 ^ (Fld.erg .NI_STAT_TIMEOUTS).width) ∧
  (∀ s u k tid, s.coreUp = true → okNi u k = true → tid < 256 →
    Does (.tidQuarantineExpiry u k tid) s fun s' =>
      s'.quarantine = s.quarantine.filter fun x => !(x.1 == 16 * u + k && x.2.1 == tid)) ∧
  (∀ s u k tid, s.coreUp = true → okNi u k = true → tid < 256 → s.niWaits = [] → s.netHeld = [] →
    Does (.tidQuarantineExpiry u k tid) s fun s' =>
      (∀ x ∈ s'.quarantine, ¬(x.1 = 16 * u + k ∧ x.2.1 = tid)) ∧ s' = { s with quarantine := s'.quarantine })

/-- A packet `p` in flight reaches the bank that its first word addresses, which serves it at once (R139, R175). -/
def BankServes (s : State) (p : Pkt) : Prop :=
  s.coreUp = true ∧ okNi (p.dst / 16) (p.dst % 16) = true ∧ s.net.contains p = true ∧ p.rsp = false ∧ s.overtakes p = false ∧
    s.flitsOk p = true ∧ s.bankPktRefusal p = 0 ∧ s.bankPktWaits p = false ∧
    ∃ d b a mode, regionOf p.addr = .bank d b a mode ∧ s.slotWriteBack d b = none ∧ (s.bankWaits.any fun x => pktAtBank x d b) = false

/-- The row that a written word leaves of a row: the word in the plain window, word OR data or word AND NOT data through an alias; a
poisoned word leaves an uncorrectable row, and an uncorrectable row stays as it is under an alias (R132, R140). -/
def rowAfter (row mode : Nat) (x : Nat × Bool) : Nat :=
  if x.2 then poisonRow
  else if mode = 0 then encodeRow x.1
  else if (readRow row).poison then row
  else encodeRow (if mode = 2 then (readRow row).data &&& ((2 ^ 48 - 1) ^^^ x.1 % 2 ^ 48) else (readRow row).data ||| x.1 % 2 ^ 48)

/-- Every word of a WRITE has reached its row, and no other row differs. -/
def StoresWords (s t : State) (p : Pkt) : Prop :=
  (∀ i x d b a mode, i < countOf p.count → (s.wordsOf p)[i]? = some x → regionOf (p.addr + i) = .bank d b a mode →
    t.row d b (s.physRow d b a) = rowAfter (s.row d b (s.physRow d b a)) mode x) ∧
  ∀ k, (∀ i d b a mode, i < countOf p.count → regionOf (p.addr + i) = .bank d b a mode → k ≠ rowKey d b (s.physRow d b a)) →
    Sparse.get (fun _ => 0) t.banks k = Sparse.get (fun _ => 0) s.banks k

/-- A packet that a bank serves at once: READ of any number of words answers with the words and their poison and leaves the banks alone;
WRITE stores each word, a set alias word OR data, a clear alias word AND NOT data, each in one access; no other row changes. A network
slot lands the write-back of a network read that waits before it serves anything else, then the request that came first, then a
scrubber read (R132, R139, R140, R175). Log entries 27, 33 say what in it is the model's choice or reading. -/
def Obligations.BankRequests : Prop :=
  (∀ s p d b a, s.coreUp = true → okNi (p.dst / 16) (p.dst % 16) = true → s.net.contains p = true → p.rsp = false → p.type = 0 →
    s.overtakes p = false → s.flitsOk p = true → p.count = 1 → regionOf p.addr = .bank d b a 0 → s.bankPktRefusal p = 0 →
    s.bankPktWaits p = false →
    s.slotWriteBack d b = none → (s.bankWaits.any fun x => pktAtBank x d b) = false →
    ((readRow (s.row d b (s.physRow d b a))).poison || (readRow (s.row d b (s.physRow d b a))).corr ||
      (readRow (s.row d b (s.physRow d b a))).splitVote) = false →
    exec (.readRequest p) s = .next ((s.deliverOut p).respond p p.dst 0 0 0
      (quadsOf (s.tagOf p.cls) 32 [((readRow (s.row d b (s.physRow d b a))).data, false)]))) ∧
  (∀ s p d b a w, s.coreUp = true → okNi (p.dst / 16) (p.dst % 16) = true → s.net.contains p = true → p.rsp = false → p.type = 1 →
    s.overtakes p = false → s.flitsOk p = true → p.count = 1 → regionOf p.addr = .bank d b a 0 → s.bankPktRefusal p = 0 →
    s.bankPktWaits p = false →
    s.slotWriteBack d b = none → (s.bankWaits.any fun x => pktAtBank x d b) = false → s.wordsOf p = [(w, false)] →
    Does (.writeRequest p) s fun s' =>
      s'.row d b (s.physRow d b a) = encodeRow w ∧
        ∀ k, k ≠ rowKey d b (s.physRow d b a) → Sparse.get (fun _ => 0) s'.banks k = Sparse.get (fun _ => 0) s.banks k) ∧
  (∀ s p d b a w, s.coreUp = true → okNi (p.dst / 16) (p.dst % 16) = true → s.net.contains p = true → p.rsp = false → p.type = 1 →
    s.overtakes p = false → s.flitsOk p = true → p.count = 1 → regionOf p.addr = .bank d b a 1 → s.bankPktRefusal p = 0 →
    s.bankPktWaits p = false →
    s.slotWriteBack d b = none → (s.bankWaits.any fun x => pktAtBank x d b) = false → s.wordsOf p = [(w, false)] →
    (readRow (s.row d b (s.physRow d b a))).poison = false →
    Does (.setAliasWrite p) s fun s' =>
      s'.row d b (s.physRow d b a) = encodeRow ((readRow (s.row d b (s.physRow d b a))).data ||| w % 2 ^ 48) ∧
        ∀ k, k ≠ rowKey d b (s.physRow d b a) → Sparse.get (fun _ => 0) s'.banks k = Sparse.get (fun _ => 0) s.banks k) ∧
  (∀ s p d b a w, s.coreUp = true → okNi (p.dst / 16) (p.dst % 16) = true → s.net.contains p = true → p.rsp = false → p.type = 1 →
    s.overtakes p = false → s.flitsOk p = true → p.count = 1 → regionOf p.addr = .bank d b a 2 → s.bankPktRefusal p = 0 →
    s.bankPktWaits p = false →
    s.slotWriteBack d b = none → (s.bankWaits.any fun x => pktAtBank x d b) = false → s.wordsOf p = [(w, false)] →
    (readRow (s.row d b (s.physRow d b a))).poison = false →
    Does (.clearAliasWrite p) s fun s' =>
      s'.row d b (s.physRow d b a) = encodeRow ((readRow (s.row d b (s.physRow d b a))).data &&& ((2 ^ 48 - 1) ^^^ w % 2 ^ 48)) ∧
        ∀ k, k ≠ rowKey d b (s.physRow d b a) → Sparse.get (fun _ => 0) s'.banks k = Sparse.get (fun _ => 0) s.banks k) ∧
  (∀ s p, BankServes s p → p.type = 0 →
    Does (.readRequest p) s fun s' =>
      s'.banks = s.banks ∧ ∃ s1 : State, s1.banks = s.banks ∧ s' = s1.respond p p.dst 0 0 0 (quadsOf (s.tagOf p.cls) 32
        ((pktAddrs p).map fun w => match regionOf w with
          | .bank d b a _ => ((readRow (s.row d b (s.physRow d b a))).data, (readRow (s.row d b (s.physRow d b a))).poison)
          | _ => (0, false)))) ∧
  (∀ s p, BankServes s p → p.type = 1 → Does (.writeRequest p) s fun s' => StoresWords s s' p) ∧
  (∀ s p, BankServes s p → aliasWrite p 1 = true → Does (.setAliasWrite p) s fun s' => StoresWords s s' p) ∧
  (∀ s p, BankServes s p → aliasWrite p 2 = true → Does (.clearAliasWrite p) s fun s' => StoresWords s s' p) ∧
  (∀ s d b p, s.coreUp = true → d < Config.n → b < 512 → s.slotWriteBack d b = none → s.slotRequest d b = some p → p.type = 0 →
    Does (.bankNetworkSlot d b) s fun s' =>
      s'.bankWaits = removeFirst p s.bankWaits ∧ s'.scrubWaits = s.scrubWaits ∧ s'.banks = s.banks) ∧
  (∀ s d b k, s.coreUp = true → d < Config.n → b < 512 → s.slotWriteBack d b = none → s.slotRequest d b = none →
    s.slotScrub d b = some k →
    Does (.bankNetworkSlot d b) s fun s' => s'.scrubWaits = removeFirst k s.scrubWaits ∧ s'.bankWaits = s.bankWaits ∧ s'.banks = s.banks) ∧
  (∀ s d b w, s.coreUp = true → d < Config.n → b < 512 → s.slotWriteBack d b = some w →
    Does (.bankNetworkSlot d b) s fun s' =>
      (∀ x ∈ s'.writeBacks, ¬(x.die = w.die ∧ x.bank = w.bank ∧ x.row = w.row)) ∧ s'.bankWaits = s.bankWaits ∧
        s'.scrubWaits = s.scrubWaits ∧
        ∀ k, k ≠ rowKey w.die w.bank w.row → Sparse.get (fun _ => 0) s'.banks k = Sparse.get (fun _ => 0) s.banks k)

/-- Routers and domains: CLOSE that R191 does not refuse enters CLOSING, a drained router is CLOSED, a drain that takes too long returns
to OPEN with code 3, OPEN takes a CLOSED router back, and configuration is taken by a CLOSED router alone, a port map only where it is
a permutation and with an image active; refusals record the codes of R191 (R190, R191). A boundary drains, and its gate closes. -/
def Obligations.RoutersAndDomains : Prop :=
  (∀ s u r, s.coreUp = true → okNi u r = true → s.rd (.erg .RTR_STAT_STATE) u r = 0 → (s.tickLive = false ∨ s.noT u r = true) →
    s.busyRouters < 4 →
    Does (.routerClose u r) s fun t =>
      t.rd (.erg .RTR_STAT_STATE) u r = 1 ∧ t.rd (.erg .RTR_STAT_REFUSE) u r = 0 ∧
        OnlyScalars [⟨.erg .RTR_STAT_STATE, u, r⟩, ⟨.erg .RTR_STAT_REFUSE, u, r⟩] s t) ∧
  (∀ s u r, s.coreUp = true → okNi u r = true → s.rd (.erg .RTR_STAT_STATE) u r = 0 → s.tickLive = true → s.noT u r = false →
    exec (.routerClose u r) s = .next (s.wr (.erg .RTR_STAT_REFUSE) u r 1)) ∧
  (∀ s u r, s.coreUp = true → okNi u r = true → s.rd (.erg .RTR_STAT_STATE) u r = 0 → (s.tickLive = false ∨ s.noT u r = true) →
    4 ≤ s.busyRouters → exec (.routerClose u r) s = .next (s.wr (.erg .RTR_STAT_REFUSE) u r 2)) ∧
  (∀ s u r, s.coreUp = true → okNi u r = true → s.rd (.erg .RTR_STAT_STATE) u r = 1 →
    Does (.routerClosed u r) s fun t =>
      t.rd (.erg .RTR_STAT_STATE) u r = 2 ∧ OnlyScalars [⟨.erg .RTR_STAT_STATE, u, r⟩] s t) ∧
  (∀ s u r, s.coreUp = true → okNi u r = true → s.rd (.erg .RTR_STAT_STATE) u r = 1 →
    Does (.routerCloseTimeout u r) s fun t => t.rd (.erg .RTR_STAT_STATE) u r = 0 ∧ t.rd (.erg .RTR_STAT_REFUSE) u r = 3) ∧
  (∀ s u r, s.coreUp = true → okNi u r = true → s.rd (.erg .RTR_STAT_STATE) u r = 2 →
    Does (.routerOpen u r) s fun t =>
      t.rd (.erg .RTR_STAT_STATE) u r = 0 ∧ t.rd (.erg .topX) u r = s.rd (.erg .RTR_CFG_WRAP_X) u r % 2 ∧
        t.rd (.erg .topY) u r = s.rd (.erg .RTR_CFG_WRAP_Y) u r % 2 ∧ t.rd (.erg .topMap) u r = s.rd (.erg .RTR_CFG_PMAP) u r % 2 ^ 18) ∧
  (∀ s u r, s.coreUp = true → okNi u r = true → s.rd (.erg .RTR_STAT_STATE) u r = 1 → s.netHeld = [] → s.niWaits = [] →
    Does (.routerCloseTimeout u r) s fun t =>
      t.rd (.erg .RTR_STAT_STATE) u r = 0 ∧ t.rd (.erg .RTR_STAT_REFUSE) u r = 3 ∧
        OnlyScalars [⟨.erg .RTR_STAT_STATE, u, r⟩, ⟨.erg .RTR_STAT_REFUSE, u, r⟩] s t) ∧
  (∀ s u r, s.coreUp = true → okNi u r = true → s.rd (.erg .RTR_STAT_STATE) u r = 2 → s.netHeld = [] → s.niWaits = [] →
    Does (.routerOpen u r) s fun t =>
      t.rd (.erg .RTR_STAT_STATE) u r = 0 ∧
        OnlyScalars [⟨.erg .RTR_STAT_STATE, u, r⟩, ⟨.erg .topX, u, r⟩, ⟨.erg .topY, u, r⟩, ⟨.erg .topMap, u, r⟩] s t) ∧
  (∀ s u r v, s.coreUp = true → okNi u r = true → s.rd (.erg .RTR_STAT_STATE) u r = 2 → isPermutation (slice v 2 18) = true →
    s.imageActive = true →
    Does (.routerCfgWrite u r 0 v) s fun t =>
      t.rd (.erg .RTR_CFG_WRAP_X) u r = v % 2 ∧ t.rd (.erg .RTR_CFG_WRAP_Y) u r = v / 2 % 2 ∧
        t.rd (.erg .RTR_CFG_PMAP) u r = slice v 2 18 ∧ t.rd (.erg .RTR_STAT_REFUSE) u r = 0) ∧
  (∀ s u r reg v, s.coreUp = true → okNi u r = true → reg < 1024 → s.rd (.erg .RTR_STAT_STATE) u r = 2 →
    Does (.routerCfgWrite u r (1 + reg) v) s fun t =>
      t.rd (.erg .DT_CODE) u (1024 * r + reg) = v % 8 ∧
        OnlyScalars [⟨.erg .DT_CODE, u, 1024 * r + reg⟩, ⟨.erg .RTR_STAT_REFUSE, u, r⟩] s t) ∧
  (∀ s u r v, s.coreUp = true → okNi u r = true → s.rd (.erg .RTR_STAT_STATE) u r = 2 → isPermutation (slice v 2 18) = true →
    s.imageActive = false → exec (.routerCfgWrite u r 0 v) s = .next (s.wr (.erg .RTR_STAT_REFUSE) u r 0)) ∧
  (∀ s u r v, s.coreUp = true → okNi u r = true → s.rd (.erg .RTR_STAT_STATE) u r = 2 → isPermutation (slice v 2 18) = false →
    exec (.routerCfgWrite u r 0 v) s = .next (s.wr (.erg .RTR_STAT_REFUSE) u r 5)) ∧
  (∀ s u r reg v, s.coreUp = true → okNi u r = true → reg ≤ 1024 → s.rd (.erg .RTR_STAT_STATE) u r ≠ 2 →
    exec (.routerCfgWrite u r reg v) s = .next (s.wr (.erg .RTR_STAT_REFUSE) u r 4)) ∧
  (∀ s d k, s.coreUp = true → d < Config.n → k ≤ 16 → s.tick = 2 → exec (.domainDrain d k) s = .next s) ∧
  (∀ s d k, s.coreUp = true → d < Config.n → k < 16 → s.tick ≠ 2 → s.rd (.erg .fabState) (1 + d) k = 0 →
    Does (.domainDrain d k) s fun t =>
      t.rd (.erg .fabState) (1 + d) k = 1 ∧ OnlyScalars [⟨.erg .fabState, 1 + d, k⟩, ⟨.erg .DOM_STAT_FABOFF, 1 + d, 0⟩] s t) ∧
  (∀ s d, s.coreUp = true → d < Config.n → s.tick ≠ 2 → s.domainOf (1 + d) = 0 →
    Does (.domainDrain d 16) s fun t =>
      t.domainOf (1 + d) = 1 ∧ OnlyScalars [⟨.erg .DOM_STAT_STATE, 1 + d, 0⟩, ⟨.erg .drainAt, 1 + d, 0⟩] s t) ∧
  (∀ s d k, s.coreUp = true → d < Config.n → k < 16 → s.rd (.erg .fabState) (1 + d) k = 1 →
    Does (.drainGateClose d k) s fun t => t.rd (.erg .fabState) (1 + d) k = 2) ∧
  (∀ s d, s.coreUp = true → d < Config.n → s.domainOf (1 + d) = 1 →
    Does (.drainGateClose d 16) s fun t => t.domainOf (1 + d) = 2)

/-- A packet in flight that reaches its interface in its order, with every flit in order (R177, R181). -/
def Reaches (s : State) (p : Pkt) : Prop :=
  s.coreUp = true ∧ s.net.contains p = true ∧ s.overtakes p = false ∧ s.flitsOk p = true

/-- A request to the queue manager by its operation (R246). -/
def QueueRequest (p : Pkt) (op : Nat) : Prop := p.rsp = false ∧ p.type = 3 ∧ p.dst = 4 ∧ qop p = op

/-- After the upsets `u`, `s` being what they leave, the record and the ownership entries of queue `q` can be trusted (R240). -/
def Trusted (s : State) (q : Nat) : Prop := s.rd (.qm .recordBad) 0 q ≠ 1

/-- What a pop of at most `count` items leaves of the queues: the packet at the head is current, or gone with its last item. -/
def queuesAfterPop (s : State) (q count : Nat) : List QPkt :=
  match s.qHead q with
  | none => s.queues
  | some h =>
    replaceFirst h (if h.items.length ≤ count then [] else [{ h with stage := .current, items := h.items.drop count }]) s.queues

/-- The items that a source has in its open packet of queue `q` at a priority (R242). -/
def openItems (s : State) (q src prio : Nat) : List QSlot := ((s.openPkt q src prio).map fun k => k.items).getD []

/-- Queue requests that reach a queue whose record can be trusted: a stored push is one packet with its items after those of the packet
that it continues, staged for the T class, open without END, staged by the host in a TICK queue while the tick can run, and visible
otherwise; a refused one is answered with its DETAIL, and one past the limits of R251 voids the tick. A pop takes at most COUNT items
of the packet at the head, which goes with its last item and is current before, and a pop of an empty queue or in HOLD_POP takes
nothing; a poisoned item sets POISON; a T-class pop keeps the queue's view and counts its slots; a peek takes nothing. The response
says what was taken. QOP 3 is refused with DETAIL 10, and a queue whose record is uncorrectable fails (R239, R240, R243, R244, R246,
R247, R248, R251). Log entries 47 to 50, 131 say what in it is the model's choice or reading. -/
def Obligations.QueueRequests : Prop :=
  (∀ s p u, Reaches s p → QueueRequest p 0 → Trusted (s.strike u) (p.addr % 65536) →
    (s.strike u).pushCheck (p.addr % 65536) p.cls (s.logicalNi p.src) p.prio (endBit p) (s.pushedItems p).length = .stored →
    Does (.queuePush p u) s fun t => ∃ k ∈ t.queues,
      k.q = p.addr % 65536 ∧ k.prio = p.prio ∧ k.src = s.logicalNi p.src ∧ k.seq = p.seq ∧
        k.stage = (if p.cls = 0 then .staged else if endBit p = false then .opened
          else if s.qTick (p.addr % 65536) && s.tickLive then .hostStaged else .visible) ∧
        k.items = (if p.cls = 0 then [] else openItems (s.strike u) (p.addr % 65536) (s.logicalNi p.src) p.prio) ++
          s.slotsFor p.prio (endBit p) (s.pushedItems p)) ∧
  (∀ s p u, Reaches s p → QueueRequest p 0 → Trusted (s.strike u) (p.addr % 65536) → p.cls = 0 →
    (s.strike u).pushCheck (p.addr % 65536) 0 (s.logicalNi p.src) p.prio (endBit p) (s.pushedItems p).length = .stored →
    Does (.queuePush p u) s fun t =>
      t.queues = (s.strike u).queues ++ [⟨p.addr % 65536, p.prio, s.logicalNi p.src, p.seq, .staged,
        s.slotsFor p.prio (endBit p) (s.pushedItems p)⟩] ∧ t.queueSnaps = s.queueSnaps) ∧
  (∀ s p u c, Reaches s p → QueueRequest p 0 → Trusted (s.strike u) (p.addr % 65536) →
    (s.strike u).pushCheck (p.addr % 65536) p.cls (s.logicalNi p.src) p.prio (endBit p) (s.pushedItems p).length = .refused c →
    exec (.queuePush p u) s = .next ((((s.deliverOut p).strike u).markDrop (p.addr % 65536) c).respondErr p 4 10 c)) ∧
  (∀ s p u, Reaches s p → QueueRequest p 0 → Trusted (s.strike u) (p.addr % 65536) → (s.tick = 1 ∨ s.tick = 2) →
    (s.strike u).pushCheck (p.addr % 65536) p.cls (s.logicalNi p.src) p.prio (endBit p) (s.pushedItems p).length = .voids →
    Does (.queuePush p u) s fun t => t.tick = 4 ∧ t.rd (.tick .VOID_CAUSE_CAUSE) = 3) ∧
  (∀ s p u, Reaches s p → QueueRequest p 1 → Trusted (s.strike u) (p.addr % 65536) →
    s.popCheck (p.addr % 65536) p.cls (s.logicalNi p.src) = 0 → s.qState (p.addr % 65536) ≠ 3 →
    Does (.queuePop p u) s fun t =>
      t.queues = queuesAfterPop (s.strike u) (p.addr % 65536) (countOf p.count) ∧
        (∃ s1 : State, t = s1.respond p 4 1 0 (popDetail ((s.strike u).qLook (p.addr % 65536) (countOf p.count)))
          (s.popQuads p ((s.strike u).qLook (p.addr % 65536) (countOf p.count)))) ∧
        (poisoned ((s.strike u).qLook (p.addr % 65536) (countOf p.count)).items ≠ 0 → t.rd (.qm .QSTAT_POISON) 0 (p.addr % 65536) = 1) ∧
        (p.cls = 0 →
          t.rd (.qm .tent) 0 (p.addr % 65536) =
              (s.rd (.qm .tent) 0 (p.addr % 65536) + (s.strike u).qTaken (p.addr % 65536) (countOf p.count)) %
                2 ^ (Fld.qm .tent).width ∧
            (t.queueSnaps.any fun k => k.q == p.addr % 65536) = true)) ∧
  (∀ s p u, Reaches s p → QueueRequest p 1 → Trusted (s.strike u) (p.addr % 65536) →
    s.popCheck (p.addr % 65536) p.cls (s.logicalNi p.src) = 0 → s.qState (p.addr % 65536) = 3 →
    exec (.queuePop p u) s = .next (((s.deliverOut p).strike u).respond p 4 1 0 (popDetail idleResult) (s.popQuads p idleResult))) ∧
  (∀ s p u, Reaches s p → QueueRequest p 1 → Trusted (s.strike u) (p.addr % 65536) →
    s.popCheck (p.addr % 65536) p.cls (s.logicalNi p.src) ≠ 0 →
    exec (.queuePop p u) s = .next (((s.deliverOut p).strike u).respondErr p 4 10 (s.popCheck (p.addr % 65536) p.cls (s.logicalNi p.src)))) ∧
  (∀ s p u, Reaches s p → QueueRequest p 2 → Trusted (s.strike u) (p.addr % 65536) → s.peekCheck (p.addr % 65536) p.cls = 0 →
    s.qState (p.addr % 65536) ≠ 3 →
    Does (.queuePeek p u) s fun t =>
      (t.queues.map fun k => (k.q, k.prio, k.src, k.seq, k.stage, k.items.length)) =
          (s.queues.map fun k => (k.q, k.prio, k.src, k.seq, k.stage, k.items.length)) ∧
        t.queueSnaps = s.queueSnaps ∧
        ((∀ r ∈ ((s.strike u).qLook (p.addr % 65536) (countOf p.count)).items, r.corr = false) → t.queues = (s.strike u).queues) ∧
        ∃ s1 : State, t = s1.respond p 4 1 0 (popDetail ((s.strike u).qLook (p.addr % 65536) (countOf p.count)))
          (s.popQuads p ((s.strike u).qLook (p.addr % 65536) (countOf p.count)))) ∧
  (∀ s p u, Reaches s p → QueueRequest p 2 → Trusted (s.strike u) (p.addr % 65536) → s.peekCheck (p.addr % 65536) p.cls = 0 →
    s.qState (p.addr % 65536) = 3 →
    exec (.queuePeek p u) s = .next (((s.deliverOut p).strike u).respond p 4 1 0 (popDetail idleResult) (s.popQuads p idleResult))) ∧
  (∀ s p u, Reaches s p → QueueRequest p 2 → Trusted (s.strike u) (p.addr % 65536) → s.peekCheck (p.addr % 65536) p.cls ≠ 0 →
    exec (.queuePeek p u) s = .next (((s.deliverOut p).strike u).respondErr p 4 10 (s.peekCheck (p.addr % 65536) p.cls))) ∧
  (∀ s p u op c, Reaches s p → QueueRequest p op → ¬Trusted (s.strike u) (p.addr % 65536) →
    (op, c) ∈ [(0, Instr.queuePush p u), (1, .queuePop p u), (2, .queuePeek p u)] →
    Does c s fun t => t.qState (p.addr % 65536) = 5 ∧ t.qPkts (p.addr % 65536) = []) ∧
  (∀ s p, Reaches s p → QueueRequest p 3 → exec (.queueQopReserved p) s = .next ((s.deliverOut p).respondErr p 4 10 10))

/-- The register paths of a queue whose record can be trusted: QM_POP takes the next item and records its tags, or the idle item, QM_PEEK
takes nothing, a refused access answers its DETAIL, QM_PUSH opens or continues a packet, QM_PUSHEND ends it; an open packet that is
not continued in time goes (R239, R242, R244, R248, R255, R261). Log entries 47, 49, 131 say what in it is the model's choice or
reading. -/
def Obligations.QueueRegisterPaths : Prop :=
  (∀ s q src u h, s.coreUp = true → q < 65536 → src < 1024 → Trusted (s.strike u) q → s.popCheck q 2 src = 0 → s.qState q ≠ 3 →
    (s.strike u).qHead q = some h → h.items ≠ [] →
    Does (.qmPopRead q src u) s fun t =>
      (∃ r, ((s.strike u).qLook q 1).items = [r] ∧ t.out = s.out ++ [⟨.readBack, src, [0, r.data, b2n r.poison]⟩] ∧
        (r.poison = true → t.rd (.qm .QSTAT_POISON) 0 q = 1)) ∧
        t.rd (.qm .QSTAT_LAST_END) 0 q = b2n (decide (h.items.length ≤ 1)) ∧ t.rd (.qm .QSTAT_LAST_IDLE) 0 q = 0 ∧
        t.rd (.qm .QSTAT_LAST_PRIO) 0 q = h.prio % 4 ∧ t.queues = queuesAfterPop (s.strike u) q 1) ∧
  (∀ s q src u, s.coreUp = true → q < 65536 → src < 1024 → Trusted (s.strike u) q → s.popCheck q 2 src = 0 →
    (s.qState q = 3 ∨ (s.strike u).qHead q = none) →
    Does (.qmPopRead q src u) s fun t =>
      t.out = s.out ++ [⟨.readBack, src, [0, 0x800000000000, 0]⟩] ∧ t.rd (.qm .QSTAT_LAST_END) 0 q = 1 ∧
        t.rd (.qm .QSTAT_LAST_IDLE) 0 q = 1 ∧ t.queues = (s.strike u).queues) ∧
  (∀ s q src u, s.coreUp = true → q < 65536 → src < 1024 → Trusted (s.strike u) q → s.popCheck q 2 src ≠ 0 →
    exec (.qmPopRead q src u) s = .next ((s.strike u).emit .readBack src [10, s.popCheck q 2 src])) ∧
  (∀ s q src u h, s.coreUp = true → q < 65536 → src < 1024 → Trusted (s.strike u) q → s.peekCheck q 2 = 0 → s.qState q ≠ 3 →
    (s.strike u).qHead q = some h → h.items ≠ [] →
    Does (.qmPeekRead q src u) s fun t =>
      (∃ r, ((s.strike u).qLook q 1).items = [r] ∧ t.out = s.out ++ [⟨.readBack, src, [0, r.data, b2n r.poison]⟩]) ∧
        (t.queues.map fun k => (k.q, k.prio, k.src, k.seq, k.stage, k.items.length)) =
          (s.queues.map fun k => (k.q, k.prio, k.src, k.seq, k.stage, k.items.length))) ∧
  (∀ s q src u, s.coreUp = true → q < 65536 → src < 1024 → Trusted (s.strike u) q → s.peekCheck q 2 ≠ 0 →
    exec (.qmPeekRead q src u) s = .next ((s.strike u).emit .readBack src [10, s.peekCheck q 2])) ∧
  (∀ s q src v, s.coreUp = true → q < 65536 → src < 1024 → Trusted s q →
    s.pushCheck q 2 src (s.rd (.qm .QCFG_HOSTPRIO) 0 q) false 1 = .stored →
    Does (.qmPushWrite q src v) s fun t =>
      t.queues = (match s.openPkt q src (s.rd (.qm .QCFG_HOSTPRIO) 0 q) with
          | some k => replaceFirst k [] s.queues
          | none => s.queues) ++
          [⟨q, s.rd (.qm .QCFG_HOSTPRIO) 0 q, src, 0, .opened, openItems s q src (s.rd (.qm .QCFG_HOSTPRIO) 0 q) ++
            s.slotsFor (s.rd (.qm .QCFG_HOSTPRIO) 0 q) false [⟨v % 2 ^ 48, false⟩]⟩] ∧
        OnlyScalars [⟨.qm .ECC_PFWD, 0, 0⟩, ⟨.qm .POOL_MIN_FREE, 0, 0⟩] { s with queues := t.queues, free := s.free + 1 } t) ∧
  (∀ s q src v, s.coreUp = true → q < 65536 → src < 1024 → Trusted s q →
    s.pushCheck q 2 src (s.rd (.qm .QCFG_HOSTPRIO) 0 q) true 1 = .stored →
    Does (.qmPushendWrite q src v) s fun t => ∃ k ∈ t.queues,
      k.q = q ∧ k.prio = s.rd (.qm .QCFG_HOSTPRIO) 0 q ∧ k.src = src ∧
        k.stage = (if s.qTick q && s.tickLive then .hostStaged else .visible) ∧
        k.items = openItems s q src (s.rd (.qm .QCFG_HOSTPRIO) 0 q) ++
          s.slotsFor (s.rd (.qm .QCFG_HOSTPRIO) 0 q) true [⟨v % 2 ^ 48, false⟩]) ∧
  (∀ s q src v c, s.coreUp = true → q < 65536 → src < 1024 → Trusted s q →
    (s.pushCheck q 2 src (s.rd (.qm .QCFG_HOSTPRIO) 0 q) false 1 = .refused c →
      exec (.qmPushWrite q src v) s = .next ((s.markDrop q c).emit .readBack src [10, c])) ∧
    (s.pushCheck q 2 src (s.rd (.qm .QCFG_HOSTPRIO) 0 q) true 1 = .refused c →
      exec (.qmPushendWrite q src v) s = .next ((s.markDrop q c).emit .readBack src [10, c]))) ∧
  (∀ s q src prio, s.coreUp = true → q < 65536 → src < 1024 → prio < 4 →
    Does (.openPacketTimeout q src prio) s fun t =>
      t.queues = s.queues.filter (fun k => !(k.stage == .opened && (k.q == q && k.src == src && k.prio == prio))) ∧
        t = { s with regs := t.regs, queues := t.queues } ∧
        ∀ f u j, f ≠ .qm .ECC_ABANDON → f ≠ .qm .QSTAT_ABANDON → t.rd f u j = s.rd f u j)

/-- A command of R257 moves its queue as the table says. `back`: what a flush returns to. -/
def QueueMoves (c : Instr) (s : State) (q st : Nat) : Prop :=
  Does c s fun t => t.qState q = st ∧ t.rd (.qm .CMDSTAT_REFUSE) = 0 ∧
    OnlyScalars [⟨.qm .CMDSTAT_REFUSE, 0, 0⟩, ⟨.qm .QSTAT_STATE, 0, q⟩] s t

/-- The commands of R257 on a queue that is not in TICK mode while the tick can run: each from the states that the table gives it, refused
with code 2 elsewhere, with 3 where DISABLE finds slots in use, and with 1 in TICK mode while the tick can run. A flush frees every
slot and returns to the state it came from; QM_QCFG takes a value only while the queue is OFF; QM_CNT_CLR clears the counts. Log
entries 46, 50 say what in it is the model's choice or reading. -/
def Obligations.QueueStateCommands : Prop :=
  (∀ s q, s.coreUp = true → q < 65536 → (s.qTick q && s.tickLive) = false →
    (s.qState q = 0 → QueueMoves (.qmEnable q) s q 1) ∧
    (s.qState q = 1 ∨ s.qState q = 2 ∨ s.qState q = 3 → s.qOcc q = 0 → QueueMoves (.qmDisable q) s q 0) ∧
    (s.qState q = 1 ∨ s.qState q = 2 ∨ s.qState q = 3 → s.qOcc q ≠ 0 →
      exec (.qmDisable q) s = .next (s.wr (.qm .CMDSTAT_REFUSE) 0 0 3)) ∧
    (s.qState q = 1 → QueueMoves (.qmHoldPush q) s q 2 ∧ QueueMoves (.qmHoldPop q) s q 3) ∧
    (s.qState q = 2 ∨ s.qState q = 3 → QueueMoves (.qmRelease q) s q 1) ∧
    (s.qState q = 1 ∨ s.qState q = 2 ∨ s.qState q = 3 ∨ s.qState q = 5 → ¬Trusted s q →
      Does (.qmFlush q) s fun t => t.qState q = 5 ∧ t.rd (.qm .CMDSTAT_REFUSE) = 0) ∧
    (s.qState q = 1 ∨ s.qState q = 2 ∨ s.qState q = 3 ∨ s.qState q = 5 → Trusted s q →
      Does (.qmFlush q) s fun t =>
        t.qState q = 4 ∧ t.rd (.qm .CMDSTAT_BUSY) = 1 ∧ t.rd (.qm .CMDSTAT_REFUSE) = 0 ∧
          t.rd (.qm .back) 0 q = (if s.qState q = 5 then 1 else s.qState q) ∧
          OnlyScalars [⟨.qm .CMDSTAT_REFUSE, 0, 0⟩, ⟨.qm .QSTAT_STATE, 0, q⟩, ⟨.qm .back, 0, q⟩, ⟨.qm .CMDSTAT_BUSY, 0, 0⟩] s t) ∧
    (s.qState q ≠ 0 → exec (.qmEnable q) s = .next (s.wr (.qm .CMDSTAT_REFUSE) 0 0 2)) ∧
    (s.qState q ≠ 1 → exec (.qmHoldPush q) s = .next (s.wr (.qm .CMDSTAT_REFUSE) 0 0 2)) ∧
    (s.qState q ≠ 1 → exec (.qmHoldPop q) s = .next (s.wr (.qm .CMDSTAT_REFUSE) 0 0 2)) ∧
    (s.qState q = 0 ∨ s.qState q = 4 → exec (.qmFlush q) s = .next (s.wr (.qm .CMDSTAT_REFUSE) 0 0 2))) ∧
  (∀ s q, s.coreUp = true → q < 65536 → (s.qTick q && s.tickLive) = true → ∀ c ∈ [Instr.qmEnable q, .qmDisable q, .qmHoldPush q,
    .qmHoldPop q, .qmRelease q, .qmFlush q], exec c s = .next (s.wr (.qm .CMDSTAT_REFUSE) 0 0 1)) ∧
  (∀ s q, s.coreUp = true → q < 65536 → s.qState q = 4 →
    Does (.qmFlushDone q) s fun t =>
      t.qState q = s.rd (.qm .back) 0 q % 2 ^ (Fld.qm .QSTAT_STATE).width ∧ t.rd (.qm .tent) 0 q = 0 ∧
        t.queues = s.queues.filter (fun k => k.q != q) ∧ ∀ r, r ≠ q → t.qState r = s.qState r) ∧
  (∀ s q v, s.coreUp = true → q < 65536 → v < 2 ^ 48 → s.qState q = 0 → s.noticeRules q v = true →
    Does (.qmQcfgWrite q v) s fun t =>
      t.rd (.qm .QCFG_MODE) 0 q = v % 2 ∧ t.rd (.qm .QCFG_NOTIFY_EN) 0 q = v / 2 % 2 ∧ t.rd (.qm .QCFG_HOSTPRIO) 0 q = v / 4 % 4 ∧
        t.rd (.qm .QCFG_QUOTA) 0 q = v / 16 % 65536 ∧ t.rd (.qm .QCFG_NOTIFY) 0 q = v / 2 ^ 20 % 65536 ∧
        t.rd (.qm .QCFG_CONSUMER) 0 q = v / 2 ^ 36 % 1024 ∧ t.rd (.qm .QCFG_STATUS) 0 q = v / 2 ^ 46 % 2 ∧
        t.rd (.qm .CMDSTAT_REFUSE) = 0 ∧
        OnlyScalars [⟨.qm .QCFG_MODE, 0, q⟩, ⟨.qm .QCFG_NOTIFY_EN, 0, q⟩, ⟨.qm .QCFG_HOSTPRIO, 0, q⟩, ⟨.qm .QCFG_QUOTA, 0, q⟩,
          ⟨.qm .QCFG_NOTIFY, 0, q⟩, ⟨.qm .QCFG_CONSUMER, 0, q⟩, ⟨.qm .QCFG_STATUS, 0, q⟩, ⟨.qm .CMDSTAT_REFUSE, 0, 0⟩] s t) ∧
  (∀ s q v, s.coreUp = true → q < 65536 → v < 2 ^ 48 → (s.qState q ≠ 0 ∨ s.noticeRules q v = false) →
    exec (.qmQcfgWrite q v) s = .next (s.wr (.qm .CMDSTAT_REFUSE) 0 0 4)) ∧
  (∀ s v, s.coreUp = true → v % 2 = 0 → exec (.qmCntClr v) s = .next s) ∧
  (∀ s v, s.coreUp = true → v % 2 = 1 →
    Does (.qmCntClr v) s fun t =>
      t.rd (.qm .ECC_CE) = 0 ∧ t.rd (.qm .ECC_UE) = 0 ∧ t.rd (.qm .ECC_ABANDON) = 0 ∧ t.rd (.qm .ECC_PFWD) = 0 ∧
        t.rd (.qm .POOL_MIN_FREE) = s.poolFree % 2 ^ (Fld.qm .POOL_MIN_FREE).width ∧
        OnlyScalars [⟨.qm .ECC_CE, 0, 0⟩, ⟨.qm .ECC_UE, 0, 0⟩, ⟨.qm .ECC_ABANDON, 0, 0⟩, ⟨.qm .ECC_PFWD, 0, 0⟩,
          ⟨.qm .POOL_MIN_FREE, 0, 0⟩] s t)

/-- A Caravan frame for port `p` (R298, R301): the port is UP, the FCS holds, the address is the port's or the group's, and the EtherType
is the port's. -/
def AddressedTo (s : State) (p : Nat) (l : List Nat) : Prop :=
  s.portUp p = true ∧ 18 ≤ l.length ∧ fromLe (l.drop (l.length - 4)) = crc32 (l.take (l.length - 4)) ∧
    ((parseFrame l).dst = s.rd (.pp .MAC_ADDR) 0 p ∨ s.groupPort p = true ∧ (parseFrame l).dst = s.rd (.pp .GRP_MAC_ADDR)) ∧
    (parseFrame l).etype = s.rd (.pp .CVN_ETYPE) 0 p

/-- The check of a Caravan payload of which all but its last `k` bytes count (R298). -/
def PayloadCheck (l : List Nat) (k : Nat) : Prop :=
  crc32c (l.take 12 ++ [0, 0, 0, 0] ++ (l.drop 16).take (l.length - k - 16)) = fromBe ((l.drop 12).take 4)

/-- The entries of a status payload and the bytes after them (R300). -/
def statusParse (p : Nat) (l : List Nat) : Option (List RxEntry × List Nat) :=
  parseEntries p (parseFrame l).src (fromBe (((parseFrame l).payload.drop 2).take 2)) ((parseFrame l).payload.drop 16)

/-- A Caravan status frame that its port accepts (R301): version and kind are right, the entries and the CRC hold, and padding is 0. -/
def AcceptsStatus (s : State) (p : Nat) (l : List Nat) (es : List RxEntry) : Prop :=
  AddressedTo s p l ∧ 16 ≤ (parseFrame l).payload.length ∧ (parseFrame l).payload.getD 0 0 = 0x12 ∧
    ∃ rest, statusParse p l = some (es, rest) ∧ (∀ b ∈ rest, b = 0) ∧ PayloadCheck (parseFrame l).payload rest.length

/-- The bytes of a frame with their time. -/
def FrameBytes (p t : Nat) (l : List Nat) : Prop := p < 6 ∧ t < 2 ^ 80 ∧ ∀ b ∈ l, b < 256

/-- The tick takes an entry with timestamp `t` now (R278, R507): it is RUNNING with the boundary still to come, or HALTED with no boundary
halt on. -/
def TakesStatus (s : State) (t : Nat) : Prop :=
  s.tick = 2 ∧ t < s.boundaryAt (s.rd (.tick .kNext)) ∨ s.tick = 5 ∧ s.haltHolds = false

/-- The oldest frame built for port `p`, and the image in which it goes out, marked last where no other waits for the port (R298). -/
def BuiltFor (s : State) (p : Nat) (f : Frame) (b : List Nat) : Prop :=
  p < 6 ∧ (s.built.find? fun f => f.port == p) = some f ∧
    b = s.commandImage f (!((removeFirst f s.built).any fun x => x.port == p))

/-- What a frame handed over at `t` may change beside the list of frames: the count of the tick, and the completion of the Plinth. -/
def handoverScalars (p : Nat) : List Key := [⟨.cvn .framesNow, 0, p⟩, ⟨.tick .done, 0, 0⟩, ⟨.tick .doneSlack, 0, 0⟩]

/-- A received frame: a port that is not UP takes none; one with a bad FCS, one for another protocol, one whose payload is malformed and
one whose check fails are counted and go no further; of an accepted status frame with one entry the entry is staged where it is on
time or late, counted in its context where it is a duplicate or bad, and counted where its context does not know it; entries are
counted as void drops where no tick runs, and held for the coming tick where their timestamp lies at or after the boundary or a
boundary halt is on; an accepted group record acts on the tick. Context words are written at once while no tick runs, but for the
read-only bits [47:32] of word 9, staged for a boundary while one can, and refused whole with the first DETAIL; a port with room takes
the oldest frame built for it, one without room leaves it, one that is not UP discards it, and with the last frame of the tick Plinth
unit 0 is done; CVN_CNT_CLR clears its three counts (R278, R298, R301, R303, R507, R38, R266, R267, R275, R286, R297, R302). Log
entries 51 to 53 say what in it is the model's choice or reading. -/
def Obligations.EnginesAndFrames : Prop :=
  (∀ s p t l, s.coreUp = true → FrameBytes p t l → s.portUp p = false →
    exec (.caravanFrameReceived p t l) s = .next (s.at t)) ∧
  (∀ s p t l, s.coreUp = true → FrameBytes p t l → s.portUp p = true →
    (l.length < 18 ∨ fromLe (l.drop (l.length - 4)) ≠ crc32 (l.take (l.length - 4))) →
    exec (.caravanFrameReceived p t l) s = .next ((s.at t).inc (.pp .RXERR_FCS) 0 p)) ∧
  (∀ s p t l, s.coreUp = true → FrameBytes p t l → s.portUp p = true → 18 ≤ l.length →
    fromLe (l.drop (l.length - 4)) = crc32 (l.take (l.length - 4)) → ¬AddressedTo s p l →
    exec (.caravanFrameReceived p t l) s =
      .next (if (parseFrame l).etype = 0x88F7 then s.at t else (s.at t).inc (.pp .RXCNT_OTHER) 0 p)) ∧
  (∀ s p t l, s.coreUp = true → FrameBytes p t l → AddressedTo s p l →
    ((parseFrame l).payload.length < 16 ∨ (parseFrame l).payload.getD 0 0 / 16 ≠ 1 ∨
      ((parseFrame l).payload.getD 0 0 % 16 ≠ 2 ∧ ((parseFrame l).payload.getD 0 0 % 16 ≠ 3 ∨ s.groupPort p = false)) ∨
      (parseFrame l).payload.getD 0 0 % 16 = 2 ∧ statusParse p l = none) →
    exec (.caravanFrameReceived p t l) s = .next ((s.at t).inc (.pp .RXERR_MALFORMED) 0 p)) ∧
  (∀ s p t l es rest, s.coreUp = true → FrameBytes p t l → AddressedTo s p l → 16 ≤ (parseFrame l).payload.length →
    (parseFrame l).payload.getD 0 0 = 0x12 → statusParse p l = some (es, rest) →
    ¬PayloadCheck (parseFrame l).payload rest.length →
    exec (.caravanFrameReceived p t l) s = .next ((s.at t).inc (.pp .RXERR_CHECK) 0 p)) ∧
  (∀ s p t l r rest, s.coreUp = true → FrameBytes p t l → AddressedTo s p l → 16 ≤ (parseFrame l).payload.length →
    (parseFrame l).payload.getD 0 0 = 0x13 → s.groupPort p = true → parseRecord ((parseFrame l).payload.drop 16) = some (r, rest) →
    PayloadCheck (parseFrame l).payload rest.length → (∀ b ∈ rest, b = 0) →
    exec (.caravanFrameReceived p t l) s = .next (((s.at t).inc (.pp .RXCNT_CARAVAN) 0 p).takeRecord p r)) ∧
  (∀ s p t l es, s.coreUp = true → FrameBytes p t l → AcceptsStatus s p l es → s.tick ≠ 2 → s.tick ≠ 5 →
    Does (.caravanFrameReceived p t l) s fun t' =>
      (es ≠ [] → t'.rd (.cvn .VOIDDROP_COUNT) =
        min (s.rd (.cvn .VOIDDROP_COUNT) + es.length) (2 ^ (Fld.cvn .VOIDDROP_COUNT).width - 1)) ∧
        OnlyScalars [⟨.cvn .VOIDDROP_COUNT, 0, 0⟩] ((s.at t).inc (.pp .RXCNT_CARAVAN) 0 p) t') ∧
  (∀ s p t l es, s.coreUp = true → FrameBytes p t l → AcceptsStatus s p l es →
    (s.tick = 2 ∧ s.boundaryAt (s.rd (.tick .kNext)) ≤ s.stamp p t ∨ s.haltHolds = true) →
    exec (.caravanFrameReceived p t l) s =
      .next { ((s.at t).inc (.pp .RXCNT_CARAVAN) 0 p) with rxHeld := s.rxHeld ++ es }) ∧
  (∀ s p t l e, s.coreUp = true → FrameBytes p t l → AcceptsStatus s p l [e] → TakesStatus s (s.stamp p t) →
    s.classify e.ctx p e.mac e.seq e.words.length = .onTime →
    Does (.caravanFrameReceived p t l) s fun t' =>
      t'.statuses = s.statuses ++ [⟨e.ctx, e.seq, s.tickTag, false, e.flags, e.words⟩] ∧
        t'.exchanges = s.exchanges.map (fun x => if x.ctx = e.ctx then { x with onTime := true } else x) ∧ t'.ctx = s.ctx) ∧
  (∀ s p t l e, s.coreUp = true → FrameBytes p t l → AcceptsStatus s p l [e] → TakesStatus s (s.stamp p t) →
    s.classify e.ctx p e.mac e.seq e.words.length = .late →
    Does (.caravanFrameReceived p t l) s fun t' =>
      (∃ n, t'.statuses = s.statuses ++ [⟨e.ctx, e.seq, n, true, e.flags, e.words⟩]) ∧ t'.exchanges = s.exchanges ∧ t'.ctx = s.ctx ∧
        slice (t'.shWord (ctxKey e.ctx 7)) 24 24 = satInc 24 (slice (s.shWord (ctxKey e.ctx 7)) 24 24)) ∧
  (∀ s p t l e c lo, s.coreUp = true → FrameBytes p t l → AcceptsStatus s p l [e] → TakesStatus s (s.stamp p t) →
    s.classify e.ctx p e.mac e.seq e.words.length = c → (c, lo) ∈ [(StatusClass.bad, 0), (.duplicate, 16)] →
    Does (.caravanFrameReceived p t l) s fun t' =>
      t'.statuses = s.statuses ∧ t'.exchanges = s.exchanges ∧ t'.ctx = s.ctx ∧
        slice (t'.shWord (ctxKey e.ctx 8)) lo 16 = satInc 16 (slice (s.shWord (ctxKey e.ctx 8)) lo 16)) ∧
  (∀ s p t l e, s.coreUp = true → FrameBytes p t l → AcceptsStatus s p l [e] → TakesStatus s (s.stamp p t) →
    s.classify e.ctx p e.mac e.seq e.words.length = .unmatched →
    Does (.caravanFrameReceived p t l) s fun t' =>
      t'.statuses = s.statuses ∧ t'.exchanges = s.exchanges ∧ t'.ctx = s.ctx ∧ t'.ctxShadow = s.ctxShadow ∧
        t'.rd (.cvn .UNMATCHED_COUNT) =
          satInc (Fld.cvn .UNMATCHED_COUNT).width (s.rd (.cvn .UNMATCHED_COUNT)) % 2 ^ (Fld.cvn .UNMATCHED_COUNT).width) ∧
  (∀ s src k l, s.coreUp = true → src < 1024 → k + l.length ≤ 64 * contextCount → (∀ v ∈ l, v < 2 ^ 48) →
    s.ctxRefusals src (numbered k l) = 0 → s.tickIdle = true →
    Does (.contextWrite src k l) s fun t =>
      (∀ i, i < l.length → t.ctxWord (k + i) =
        if (k + i) % 64 = 9 then l.getD i 0 % 2 ^ 32 + slice (s.ctxWord (k + i)) 32 16 * 2 ^ 32 else l.getD i 0) ∧
        (∀ a, (∀ i, i < l.length → a ≠ k + i) → t.ctxWord a = s.ctxWord a) ∧ t = { s with ctx := t.ctx }) ∧
  (∀ s src k l, s.coreUp = true → src < 1024 → k + l.length ≤ 64 * contextCount → (∀ v ∈ l, v < 2 ^ 48) →
    s.ctxRefusals src (numbered k l) = 0 → s.tickIdle = false →
    exec (.contextWrite src k l) s = .next { s with ctxStaged := s.ctxStaged ++ numbered k l }) ∧
  (∀ s src k l, s.coreUp = true → src < 1024 → k + l.length ≤ 64 * contextCount → (∀ v ∈ l, v < 2 ^ 48) →
    s.ctxRefusals src (numbered k l) ≠ 0 →
    exec (.contextWrite src k l) s = .next (s.emit .readBack src [10, s.ctxRefusals src (numbered k l)])) ∧
  (∀ s p t, s.coreUp = true → p < 6 → t < 2 ^ 80 → (s.built.find? fun f => f.port == p) = none →
    exec (.frameHandover p t) s = .next (s.at t)) ∧
  (∀ s p t f b, s.coreUp = true → t < 2 ^ 80 → BuiltFor s p f b → s.portUp p = true → s.portRoom p b.length = true →
    Does (.frameHandover p t) s fun t' =>
      t'.built = removeFirst f s.built ∧ t'.portTx = s.portTx ++ [⟨p, 2, b⟩] ∧
        OnlyScalars (handoverScalars p) { s with time := t, built := t'.built, portTx := t'.portTx } t') ∧
  (∀ s p t f b, s.coreUp = true → t < 2 ^ 80 → BuiltFor s p f b → s.portUp p = true → s.portRoom p b.length = false →
    exec (.frameHandover p t) s = .next (s.at t)) ∧
  (∀ s p t f b, s.coreUp = true → t < 2 ^ 80 → BuiltFor s p f b → s.portUp p = false →
    Does (.frameHandover p t) s fun t' =>
      t'.built = removeFirst f s.built ∧ t'.portTx = s.portTx ∧
        OnlyScalars (⟨.pp .TXCNT_DROP, 0, p⟩ :: handoverScalars p) { s with time := t, built := t'.built } t') ∧
  (∀ s p t f b, s.coreUp = true → t < 2 ^ 80 → BuiltFor s p f b → (s.portUp p = false ∨ s.portRoom p b.length = true) →
    s.rd (.tick .UNIT_PRESENT) 0 0 = 1 → max t (s.rd (.cvn .walkEnd)) ≤ s.deadline → removeFirst f s.built = [] →
    Does (.frameHandover p t) s fun t' =>
      t'.rd (.tick .done) = 1 ∧
        t'.rd (.tick .doneSlack) = (s.deadline - max t (s.rd (.cvn .walkEnd))) / 65536 % 2 ^ (Fld.tick .doneSlack).width) ∧
  (∀ s v, s.coreUp = true → v % 2 = 0 → exec (.cvnCntClr v) s = .next s) ∧
  (∀ s v, s.coreUp = true → v % 2 = 1 →
    Does (.cvnCntClr v) s fun t =>
      t.rd (.cvn .UNMATCHED_COUNT) = 0 ∧ t.rd (.cvn .VOIDDROP_COUNT) = 0 ∧ t.rd (.cvn .WALK_MAX) = 0 ∧
        OnlyScalars [⟨.cvn .UNMATCHED_COUNT, 0, 0⟩, ⟨.cvn .VOIDDROP_COUNT, 0, 0⟩, ⟨.cvn .WALK_MAX, 0, 0⟩] s t)

/-- A slice that is used, clocked and out of reset takes an operand set: its accumulator, outputs, flags and VALID follow, and the sticky
bits of a valid result; one that is not takes none; clearing leaves no sticky bit on the die (R109, R113, R114, R116, R123). Log
entries 24, 132 say what in it is the model's choice or reading. -/
def Obligations.SliceCommands : Prop :=
  (∀ s d m a b dd ce load neg, s.coreUp = true → d < Config.n → m < 4608 → s.sliceAlive d m = true →
    Does (.sliceOperandSet d m a b dd ce load neg) s fun t =>
      t.rd (.slc .acc) (1 + d) m = nextAcc (s.sliceCfg d m) ⟨a, b, dd, ce, load, neg⟩ (s.rd (.slc .acc) (1 + d) m) (s.cascade d m) ∧
        t.rd (.slc .y0) (1 + d) m = outY0 (s.sliceCfg d m) (t.rd (.slc .acc) (1 + d) m) ∧
        t.rd (.slc .range) (1 + d) m = rangeBits (s.sliceCfg d m) (t.rd (.slc .acc) (1 + d) m) ∧
        t.rd (.slc .wrap) (1 + d) m =
          wrapBits (s.sliceCfg d m) ⟨a, b, dd, ce, load, neg⟩ (s.rd (.slc .acc) (1 + d) m) (s.cascade d m) ∧
        t.rd (.slc .valid) (1 + d) m = b2n ce ∧
        t.rd (.slc .STAT_RANGE) (1 + d) m =
          (if ce then (s.rd (.slc .STAT_RANGE) (1 + d) m ||| t.rd (.slc .range) (1 + d) m) % 16 else s.rd (.slc .STAT_RANGE) (1 + d) m) ∧
        t.rd (.slc .STAT_WRAP) (1 + d) m =
          (if ce then (s.rd (.slc .STAT_WRAP) (1 + d) m ||| t.rd (.slc .wrap) (1 + d) m) % 16 else s.rd (.slc .STAT_WRAP) (1 + d) m) ∧
        OnlyScalars [⟨.slc .acc, 1 + d, m⟩, ⟨.slc .y0, 1 + d, m⟩, ⟨.slc .range, 1 + d, m⟩, ⟨.slc .wrap, 1 + d, m⟩,
          ⟨.slc .valid, 1 + d, m⟩, ⟨.slc .STAT_RANGE, 1 + d, m⟩, ⟨.slc .STAT_WRAP, 1 + d, m⟩] s t) ∧
  (∀ s d m a b dd ce load neg, s.coreUp = true → d < Config.n → m < 4608 → s.sliceAlive d m = false →
    exec (.sliceOperandSet d m a b dd ce load neg) s = .next s) ∧
  (∀ s d, s.coreUp = true → d < Config.n →
    Does (.asStickyClr d) s fun t =>
      (∀ m, t.rd (.slc .STAT_RANGE) (1 + d) m = 0 ∧ t.rd (.slc .STAT_WRAP) (1 + d) m = 0) ∧ t = { s with regs := t.regs } ∧
        ∀ f u j, (u ≠ 1 + d ∨ (f ≠ .slc .STAT_RANGE ∧ f ≠ .slc .STAT_WRAP)) → t.rd f u j = s.rd f u j)

/-- The arithmetic of a slice is exact until it wraps: A_k and D_k are read as SIGN_A says and B_k as SIGN_B (R107), the pre-adder's
result is exact and fits its width (R108), and the product keeps NEG's sign; each lane of the accumulator is its sum reduced to W_acc
bits and no lane's bits reach another's; a set without CE leaves the accumulator; WRAP tells whether the sum lay outside W_acc bits;
the quotient of a lane is floor(V / 2^s) for TRUNC, sign(V) × floor(|V| / 2^s + 1/2) for HALF_AWAY, and for HALF_EVEN the nearest
integer, the even one at an exact half, V itself for s = 0 (R113); neither rounding is ever off by more than a half; the saturated
output is the quotient held within the lane's range. -/
def Obligations.SliceArithmetic : Prop :=
  (∀ c o acc casc k, c.split < 3 → k < laneCount c.split →
    slice (nextAcc c o acc casc) (accWidth c.split * k) (accWidth c.split) = ofSigned (accWidth c.split) (laneSum c o acc casc k)) ∧
  (∀ c o acc casc, c.split < 3 → acc < 2 ^ 120 → o.ce = false → nextAcc c o acc casc = acc ∧ wrapBits c o acc casc = 0) ∧
  (∀ c o acc casc k, c.split < 3 → k < laneCount c.split → o.ce = true →
    (toSigned (accWidth c.split) (slice (nextAcc c o acc casc) (accWidth c.split * k) (accWidth c.split)) = laneSum c o acc casc k ↔
      (wrapBits c o acc casc).testBit k = false)) ∧
  (∀ c acc k, laneQ c acc k =
    quotient c.rnd c.shift (toSigned (accWidth c.split) (slice acc (accWidth c.split * k) (accWidth c.split)))) ∧
  (∀ n v, quotient 0 n v * ((2 ^ n : Nat) : Int) ≤ v ∧ v < (quotient 0 n v + 1) * ((2 ^ n : Nat) : Int)) ∧
  (∀ n v, quotient 1 n v = v.sign * ((2 * (v.natAbs : Int) + ((2 ^ n : Nat) : Int)) / (2 * ((2 ^ n : Nat) : Int)))) ∧
  (∀ n v, 2 * (v - quotient 2 n v * ((2 ^ n : Nat) : Int)) = ((2 ^ n : Nat) : Int) ∨
    2 * (quotient 2 n v * ((2 ^ n : Nat) : Int) - v) = ((2 ^ n : Nat) : Int) → quotient 2 n v % 2 = 0) ∧
  (∀ r v, quotient r 0 v = v) ∧
  (∀ r n v, 2 * (v - quotient (r + 1) n v * ((2 ^ n : Nat) : Int)) ≤ ((2 ^ n : Nat) : Int) ∧
    -((2 ^ n : Nat) : Int) ≤ 2 * (v - quotient (r + 1) n v * ((2 ^ n : Nat) : Int))) ∧
  (∀ signed w q, 0 < w →
    asInt signed w (outLane true signed w q) = max (outMin signed w) (min (outMax signed w) q)) ∧
  (∀ w v, 0 < w → asInt false w v = ((v % 2 ^ w : Nat) : Int) ∧
    asInt true w v = if v % 2 ^ w < 2 ^ (w - 1) then ((v % 2 ^ w : Nat) : Int) else ((v % 2 ^ w : Nat) : Int) - ((2 ^ w : Nat) : Int)) ∧
  (∀ c o k, c.split < 3 → k < laneCount c.split →
    laneProduct c o k = (if o.neg then -1 else 1) *
      (preAdd c.pre (asInt c.signA (laneWidth c.split) (slice o.a (laneWidth c.split * k) (laneWidth c.split)))
          (asInt c.signA (laneWidth c.split) (slice o.d (laneWidth c.split * k) (laneWidth c.split))) *
        asInt c.signB (laneWidth c.split) (slice o.b (laneWidth c.split * k) (laneWidth c.split)))) ∧
  (∀ a d, preAdd 0 a d = a ∧ preAdd 1 a d = a + d ∧ preAdd 2 a d = a - d ∧ preAdd 3 a d = d - a) ∧
  (∀ pre signed w a d, 0 < w → -((2 ^ w : Nat) : Int) ≤ preAdd pre (asInt signed w a) (asInt signed w d) ∧
    preAdd pre (asInt signed w a) (asInt signed w d) < ((2 ^ (w + 1) : Nat) : Int))

/-- `u` is what an edge of tree `t` of die `d` makes of the registers of user logic in `s`. A flip-flop that the tree clocks loads INIT
under the run reset or its user reset tree, holds without its CE, and else loads BYP or O (R78); a port output register takes what its
select names (R88); an arrival register takes what is launched to it, and the two behind it what the one before held (R86, R87). Every
other one is as it was, and the strobe is over. -/
def EdgeOf (s : State) (d t : Nat) (u : State) : Prop :=
  (∀ n ∈ s.clockedTiles d t,
    let x := n % 256
    let y := n / 256
    let o := s.settled d x y
    (∀ q, q < 64 →
      let w := s.tileCell d x y q
      let reset := s.runResetOn || s.userReset d (slice w 22 2) t
      (reset = true → u.ff d n q = w.testBit 24) ∧
      (reset = false → w.testBit 21 = true → (s.cellIn d x y o q).ce = false → u.ff d n q = s.ff d n q) ∧
      (reset = false → (w.testBit 21 = false ∨ (s.cellIn d x y o q).ce = true) →
        u.ff d n q = if w.testBit 20 then (s.cellIn d x y o q).byp else o.testBit q)) ∧
    ∀ k, k < 48 → u.portOut d n k = s.dest d x y o (672 + k)) ∧
  (∀ e n, n < 49152 → (e ≠ d ∨ n ∉ s.clockedTiles d t) →
    (∀ q, q < 64 → u.ff e n q = s.ff e n q) ∧ ∀ k, k < 48 → u.portOut e n k = s.portOut e n k) ∧
  (∀ n i, n < 49152 → i < 288 → hopInside (n % 256) (n / 256) (i / 72) (i % 72) = true →
    (s.engaged d (nicheOf (n % 256) (n / 256)) && crossesNiche (n % 256) (n / 256) (i / 72) (i % 72)) = false →
    s.hopClocked d t (arrivalKey d n i) = true →
    Sparse.get (fun _ => 0) u.hops (arrivalKey d n i) =
      2 * (Sparse.get (fun _ => 0) s.hops (arrivalKey d n i) % 4) +
        b2n (s.dest d (n % 256) (n / 256) (s.settled d (n % 256) (n / 256)) (384 + i))) ∧
  (∀ k, s.hopClocked d t k = false → Sparse.get (fun _ => 0) u.hops k = Sparse.get (fun _ => 0) s.hops k) ∧
  u.rd (.fab .strobe) (1 + d) t = 0 ∧ u.time = s.time ∧ u.pending = s.pending

/-- User logic. With no command waiting a step is one edge of a tree that runs, and with none running it changes nothing: which tree it
is, and that time stands, is the model's choice (log entries 3 and 130). A cell whose inputs name no O puts out its LUT in mode OFF,
LUT exclusive-or carry in ARITH, and its carry in CAPTURE; sources are O, Q, arrivals, port inputs, 0, 1 and the strobe; an arrival
from another tree is two registers later (R77 to R80, R86 to R88). Log entries 3, 21, 130 say what in it is the model's choice or
reading. -/
def Obligations.FabricClocks : Prop :=
  (∀ s : State, s.pending = [] → s.trees ≠ [] → zeroWf s.hops = true →
    (∀ e ∈ s.isoHeld, hopInside (e.1 / 288 % 49152 % 256) (e.1 / 288 % 49152 / 256) (e.1 % 288 / 72) (e.1 % 288 % 72) = true) →
    ∃ q ∈ s.trees, ∃ u, step s = .next u ∧ EdgeOf s q.1 q.2 u) ∧
  (∀ s : State, s.pending = [] → s.trees = [] → step s = .next s) ∧
  (∀ (s : State) d x y q, q < 64 → (∀ k, k < 5 → 0x40 ≤ s.tileSel d x y (6 * q + k)) → slice (s.tileCell d x y q) 18 2 ≠ 0 →
    (s.settled d x y).testBit q = (cellOut (s.tileCell d x y q) (s.cellIn d x y 0 q) false).1) ∧
  (∀ w i c,
    let l := w.testBit (8 * b2n i.in3 + 4 * b2n i.in2 + 2 * b2n i.in1 + b2n i.in0);
    let cin := if slice w 18 2 = 0 then c else if slice w 18 2 = 1 then false else if slice w 18 2 = 2 then true else i.byp;
    (slice w 16 2 = 0 → cellOut w i c = (l, false)) ∧
    (slice w 16 2 = 1 → cellOut w i c = (l.xor cin, if l then cin else i.in0)) ∧
    (slice w 16 2 = 2 → cellOut w i c = (cin, false))) ∧
  (∀ (s : State) d x y o q, q < 64 → s.source d x y o q = o.testBit q ∧ s.source d x y o (0x40 + q) = s.ff d (tileNo x y) q) ∧
  (∀ (s : State) d x y o, s.source d x y o 0x1D0 = false ∧ s.source d x y o 0x1D1 = true ∧
    (s.source d x y o 0x1D2 = true ↔ s.rd (.fab .strobe) (1 + d) (s.tileTree d x y) = 1) ∧
    ∀ i, i < 288 → s.source d x y o (0x80 + i) = s.arrival d x y i) ∧
  (∀ (s : State) d x y x' y' i, moved x y (i / 72) (hopReach (i % 72)) = (x', y') → s.tileTree d x' y' ≠ s.tileTree d x y →
    s.arrival d x y i = (Sparse.get (fun _ => 0) s.hops (hopKey d (tileNo x y) i)).testBit 2) ∧
  (∀ (s : State) d x y x' y' i, moved x y (i / 72) (hopReach (i % 72)) = (x', y') → s.tileTree d x' y' = s.tileTree d x y →
    s.arrival d x y i = (Sparse.get (fun _ => 0) s.hops (hopKey d (tileNo x y) i)).testBit 0)

/-- The source time that an update brings: on a partner port its asymmetry is taken off (R303, R358). -/
def updateTime (s : State) (src : Nat) : Nat :=
  if s.rd (.tick .SRC_SRC) = 2 then s.sourceTime (s.rd (.tick .SRC_PORT)) src else src

/-- A source update that the servo takes or a step answers: its times are times of the time base and a source is selected. -/
def Updates (s : State) (t src : Nat) : Prop := s.coreUp = true ∧ t < 2 ^ 80 ∧ src < 2 ^ 80 ∧ s.rd (.tick .SRC_SRC) ≠ 0

/-- The update steps the time base: no run holds it and the offset is beyond TB_STEP (R358). -/
def Steps (s : State) (o : Int) : Prop := (s.tick = 0 ∨ s.tick = 4) ∧ nsec (s.rd (.clk .TB_STEP)) < o.natAbs

/-- Controller `c` is the time source, in service (R359). -/
def CanSource (s : State) (c : Nat) : Prop :=
  s.rd (.tick .SRC_SRC) = 3 ∧ s.rd (.tick .SRC_CAN) = c ∧ s.rd (.od .CAN_EN) 0 c = 1

/-- Domains: a domain that loses its edges force-switches, counts it and voids the tick with cause 0x08; RESTORE, FALLBACK and the
automatic return move a domain where R355 lets them and record their refusal where it does not (R352, R355). Log entries 60, 61, 129
say what in it is the model's choice or reading. -/
def Obligations.ClockDomains : Prop :=
  (∀ s u x, s.coreUp = true → okDom u x = true → s.rd (.clk .OSC_BOTH) u = 0 →
    Does (.forceSwitch u x) s fun t =>
      t.rd (.clk .DOM_ACT) u x =
        (if s.rd (.clk .DOM_ACT) u x = 0 then s.fallback u else if s.rd (.clk .DOM_ACT) u x = 1 then 2 else 1) ∧
      t.rd (.clk .DOM_INTR) u x = 1 ∧ (s.tick = 1 ∨ s.tick = 2 → t.tick = 4 ∧ t.rd (.tick .VOID_CAUSE_CAUSE) = 0x08) ∧
      ∀ y, y ≠ x → t.rd (.clk .DOM_ACT) u y = s.rd (.clk .DOM_ACT) u y) ∧
  (∀ s u x, s.coreUp = true → okDom u x = true → s.rd (.clk .OSC_BOTH) u = 1 → exec (.forceSwitch u x) s = .next s) ∧
  (∀ s u x, s.coreUp = true → okDom u x = true → s.rd (.clk .DOM_AUTORET) u x = 1 → s.rd (.clk .PLL_LOCK) u (s.primaryPll u x) = 1 →
    Does (.autoReturn u x) s fun t => t.rd (.clk .DOM_ACT) u x = 0 ∧ OnlyScalars [⟨.clk .DOM_ACT, u, x⟩] s t) ∧
  (∀ s u x, s.coreUp = true → okDom u x = true → (s.rd (.clk .DOM_AUTORET) u x ≠ 1 ∨ s.rd (.clk .PLL_LOCK) u (s.primaryPll u x) ≠ 1) →
    exec (.autoReturn u x) s = .next s) ∧
  (∀ s u x, s.coreUp = true → okDom u x = true → s.domainHeld u x = false → s.rd (.clk .PLL_LOCK) u (s.primaryPll u x) ≠ 0 →
    Does (.clkRestore u x) s fun t =>
      t.rd (.clk .DOM_ACT) u x = 0 ∧ t.rd (.clk .DOMCTL_REFUSE) u x = 0 ∧
        OnlyScalars [⟨.clk .DOM_ACT, u, x⟩, ⟨.clk .DOMCTL_REFUSE, u, x⟩] s t) ∧
  (∀ s u x, s.coreUp = true → okDom u x = true → s.domainHeld u x = true →
    exec (.clkRestore u x) s = .next (s.wr (.clk .DOMCTL_REFUSE) u x 1) ∧
      exec (.clkFallback u x) s = .next (s.wr (.clk .DOMCTL_REFUSE) u x 1)) ∧
  (∀ s u x, s.coreUp = true → okDom u x = true → s.domainHeld u x = false → s.rd (.clk .PLL_LOCK) u (s.primaryPll u x) = 0 →
    exec (.clkRestore u x) s = .next (s.wr (.clk .DOMCTL_REFUSE) u x 2)) ∧
  (∀ s u x, s.coreUp = true → okDom u x = true → s.domainHeld u x = false → s.fioGood u = true →
    Does (.clkFallback u x) s fun t =>
      t.rd (.clk .DOM_ACT) u x = 1 ∧ t.rd (.clk .DOMCTL_REFUSE) u x = 0 ∧
        (¬(u = 0 ∧ x = 3) → OnlyScalars [⟨.clk .DOM_ACT, u, x⟩, ⟨.clk .DOMCTL_REFUSE, u, x⟩] s t)) ∧
  (∀ s u x, s.coreUp = true → okDom u x = true → s.domainHeld u x = false → s.fioGood u = false →
    exec (.clkFallback u x) s = .next (s.wr (.clk .DOMCTL_REFUSE) u x 3))

/-- PLLs: one that unlocks counts the loss, sends the domains that run from it to their fallback and leaves the tick alone; one that locks
sets LOCK and brings back the domains that left it for a rewrite; a rewrite that R350 allows sets N, F and D, or PLLSEL and TDIV of a
tree, and one that it does not records code 4 for the trees concerned; a write of the values in force, and one to a PLL or a domain
that is no user's, changes nothing (R347, R350, R353). Log entries 61, 129 say what in it is the model's choice or reading. -/
def Obligations.PllCommands : Prop :=
  (∀ s u k, s.coreUp = true → okPll u k = true → s.rd (.clk .PLL_LOCK) u k = 1 →
    Does (.pllUnlock u k) s fun t =>
      t.rd (.clk .PLL_LOCK) u k = 0 ∧ t.rd (.clk .PLL_UNLOCK) u k = 1 ∧ t.tick = s.tick ∧
        (∀ x ∈ domainsOf u, s.primaryPll u x = k → s.rd (.clk .DOM_ACT) u x = 0 → t.rd (.clk .DOM_ACT) u x = s.fallback u) ∧
        ∀ x, s.primaryPll u x ≠ k ∨ s.rd (.clk .DOM_ACT) u x ≠ 0 → t.rd (.clk .DOM_ACT) u x = s.rd (.clk .DOM_ACT) u x) ∧
  (∀ s u k, s.coreUp = true → okPll u k = true → s.rd (.clk .PLL_LOCK) u k = 0 → exec (.pllUnlock u k) s = .next s) ∧
  (∀ s u k, s.coreUp = true → okPll u k = true → s.rd (.clk .PLL_EN) u k = 0 → exec (.pllLock u k) s = .next s) ∧
  (∀ s u k, s.coreUp = true → okPll u k = true → s.rd (.clk .PLL_EN) u k ≠ 0 →
    Does (.pllLock u k) s fun t =>
      t.rd (.clk .PLL_LOCK) u k = 1 ∧ t.rd (.clk .relock) u k = 0 ∧ (u = 0 → k = 4 → t.rd (.clk .REF_HOLD) = 0) ∧
        (∀ x ∈ domainsOf u, s.primaryPll u x = k → (s.rd (.clk .relock) u k).testBit (1 + x) = true → t.rd (.clk .DOM_ACT) u x = 0) ∧
        OnlyScalars ([⟨.clk .PLL_LOCK, u, k⟩, ⟨.clk .relock, u, k⟩, ⟨.clk .REF_HOLD, 0, 0⟩] ++
          ((domainsOf u).filter fun x => s.primaryPll u x == k && (s.rd (.clk .relock) u k).testBit (1 + x)).map fun x =>
            ⟨.clk .DOM_ACT, u, x⟩) s t) ∧
  (∀ s d j v, s.coreUp = true → d < Config.n → j < 6 → s.tickIdle = true → pllValid ⟨slice v 0 7, slice v 7 24, slice v 31 7⟩ = true →
    (∀ x ∈ s.treesOn (1 + d) j, s.treeTakes (1 + d) x (s.rd (.clk .DOM_TDIV) (1 + d) x) ⟨slice v 0 7, slice v 7 24, slice v 31 7⟩ = true) →
    Does (.pllRewrite d false j v) s fun t =>
      t.pllSet (1 + d) j = ⟨slice v 0 7, slice v 7 24, slice v 31 7⟩ ∧ t.rd (.clk .PLL_LOCK) (1 + d) j = 0 ∧
        ∀ x ∈ s.treesOn (1 + d) j, t.rd (.clk .DOM_ACT) (1 + d) x =
            (if s.rd (.clk .DOM_ACT) (1 + d) x = 0 then s.fallback (1 + d)
              else s.rd (.clk .DOM_ACT) (1 + d) x % 2 ^ (Fld.clk .DOM_ACT).width) ∧
          t.rd (.clk .DOMCTL_REFUSE) (1 + d) x = 0) ∧
  (∀ s d j v, s.coreUp = true → d < Config.n → j < 6 →
    (s.tickIdle = false ∨ pllValid ⟨slice v 0 7, slice v 7 24, slice v 31 7⟩ = false ∨
      ∃ x ∈ s.treesOn (1 + d) j,
        s.treeTakes (1 + d) x (s.rd (.clk .DOM_TDIV) (1 + d) x) ⟨slice v 0 7, slice v 7 24, slice v 31 7⟩ = false) →
    Does (.pllRewrite d false j v) s fun t =>
      (∀ x ∈ s.treesOn (1 + d) j, t.rd (.clk .DOMCTL_REFUSE) (1 + d) x = 4) ∧
        OnlyScalars ((s.treesOn (1 + d) j).map fun x => ⟨.clk .DOMCTL_REFUSE, 1 + d, x⟩) s t) ∧
  (∀ s d x v, s.coreUp = true → d < Config.n → x < 16 → s.tickIdle = true →
    slice v 2 3 < 6 → ¬(slice v 2 3 = s.rd (.clk .DOM_PLLSEL) (1 + d) x ∧ slice v 5 2 = s.rd (.clk .DOM_TDIV) (1 + d) x) →
    s.treeTakes (1 + d) x (slice v 5 2) (s.pllSet (1 + d) (slice v 2 3)) = true →
    Does (.pllRewrite d true x v) s fun t =>
      t.rd (.clk .DOM_PLLSEL) (1 + d) x = slice v 2 3 ∧ t.rd (.clk .DOM_TDIV) (1 + d) x = slice v 5 2 ∧
        t.rd (.clk .DOMCTL_REFUSE) (1 + d) x = 0 ∧
        (s.rd (.clk .PLL_LOCK) (1 + d) (slice v 2 3) ≠ 1 → s.rd (.clk .DOM_ACT) (1 + d) x = 0 →
          t.rd (.clk .DOM_ACT) (1 + d) x = s.fallback (1 + d)) ∧
        (s.rd (.clk .PLL_LOCK) (1 + d) (slice v 2 3) = 1 →
          OnlyScalars [⟨.clk .DOM_PLLSEL, 1 + d, x⟩, ⟨.clk .DOM_TDIV, 1 + d, x⟩, ⟨.clk .DOM_FNOM, 1 + d, x⟩,
            ⟨.clk .DOMCTL_REFUSE, 1 + d, x⟩] s t)) ∧
  (∀ s d x v, s.coreUp = true → d < Config.n → x < 16 →
    ¬(slice v 2 3 = s.rd (.clk .DOM_PLLSEL) (1 + d) x ∧ slice v 5 2 = s.rd (.clk .DOM_TDIV) (1 + d) x) →
    (s.tickIdle = false ∨ 5 < slice v 2 3 ∨ s.treeTakes (1 + d) x (slice v 5 2) (s.pllSet (1 + d) (slice v 2 3)) = false) →
    exec (.pllRewrite d true x v) s = .next (s.wr (.clk .DOMCTL_REFUSE) (1 + d) x 4)) ∧
  (∀ s d tree j v, s.coreUp = true → d < Config.n → j < 18 →
    (tree = true ∧ (16 ≤ j ∨ slice v 2 3 = s.rd (.clk .DOM_PLLSEL) (1 + d) j ∧ slice v 5 2 = s.rd (.clk .DOM_TDIV) (1 + d) j) ∨
      tree = false ∧ 6 ≤ j) →
    exec (.pllRewrite d tree j v) s = .next s)

/-- A source update: where no run holds it and the offset is beyond TB_STEP the time base is set to the source time; otherwise the servo
sets its integral and its rate, each held within 200 ppm; an update within LOCK_LIMIT counts towards lock, the sixteenth in a row
gains it, and one outside it loses it. A SYNC edge brings the source time of the last one plus the cycle, or that of the TIME message
before it (R31, R358, R359). Where a quotient is not exact the direction of rounding, the rate of an update without an interval and
the first SYNC edge's source time are free values. Oscillators and references: a ready FIO takes the domains that run on the SIO; a
failed oscillator gives its domains to the other; the trim code moves by at most one step; the reference PLL leaves an input that is
lost and returns to the selected one, and a die takes its own FIO while SREF is lost (R343, R345, R346, R354, R357). Log entries 18 to
20, 60, 128 say what in it is the model's choice or reading. -/
def Obligations.ReferencesAndSources : Prop :=
  (∀ (s : State) (t src dt : Nat), s.coreUp = true → t < 2 ^ 80 → src < 2 ^ 80 → s.rd (.tick .SRC_SRC) = 0 →
    exec (.sourceUpdate t src dt) s = .next s) ∧
  (∀ (s : State) (t src dt : Nat), Updates s t src → Steps s ((t : Int) - updateTime s src) →
    Does (.sourceUpdate t src dt) s fun s' =>
      s'.time = updateTime s src ∧
        (∃ q : Int, Rounds ((t : Int) - updateTime s src) 65536 q ∧ s'.rd (.clk .TBSTAT_OFFSET) = offsetField q) ∧
        s'.rd (.clk .servoInteg) = s.rd (.clk .servoInteg) ∧ s'.rd (.clk .servoRate) = s.rd (.clk .servoRate)) ∧
  (∀ (s : State) (t src dt : Nat), Updates s t src → ¬Steps s ((t : Int) - updateTime s src) → 0 < dt →
    ((t : Int) - updateTime s src).natAbs ≤ nsec (s.rd (.tick .SRC_LOCK_LIMIT)) → s.rd (.tick .lockCount) < 15 →
    Does (.sourceUpdate t src dt) s fun s' =>
      s'.time = t ∧ s'.rd (.tick .lockCount) = s.rd (.tick .lockCount) + 1 ∧
        (∃ q : Int, Rounds (((t : Int) - updateTime s src) * 2 ^ 24) (16 * dt) q ∧
          toSigned 64 (s'.rd (.clk .servoInteg)) = clampRate (toSigned 64 (s.rd (.clk .servoInteg)) + q)) ∧
        (∃ q : Int, Rounds (((t : Int) - updateTime s src) * 2 ^ 24) (4 * dt) q ∧
          toSigned 64 (s'.rd (.clk .servoRate)) = clampRate (toSigned 64 (s'.rd (.clk .servoInteg)) + q)) ∧
        OnlyScalars [⟨.clk .TBSTAT_OFFSET, 0, 0⟩, ⟨.clk .servoInteg, 0, 0⟩, ⟨.clk .servoRate, 0, 0⟩, ⟨.clk .TBSTAT_RATE, 0, 0⟩,
          ⟨.tick .lockCount, 0, 0⟩] { s.at t with free := s'.free } s') ∧
  (∀ (s : State) (t src dt : Nat), Updates s t src → ¬Steps s ((t : Int) - updateTime s src) →
    Does (.sourceUpdate t src dt) s fun s' =>
      s'.time = t ∧ (toSigned 64 (s'.rd (.clk .servoInteg))).natAbs ≤ 219902325 ∧
        (toSigned 64 (s'.rd (.clk .servoRate))).natAbs ≤ 219902325 ∧
        ∃ q : Int, Rounds ((t : Int) - updateTime s src) 65536 q ∧ s'.rd (.clk .TBSTAT_OFFSET) = offsetField q) ∧
  (∀ (s : State) (t src dt : Nat), Updates s t src →
    ((t : Int) - updateTime s src).natAbs ≤ nsec (s.rd (.tick .SRC_LOCK_LIMIT)) → 15 ≤ s.rd (.tick .lockCount) →
    Does (.sourceUpdate t src dt) s fun s' => s'.locked = true) ∧
  (∀ (s : State) (t src dt : Nat), Updates s t src →
    nsec (s.rd (.tick .SRC_LOCK_LIMIT)) < ((t : Int) - updateTime s src).natAbs →
    Does (.sourceUpdate t src dt) s fun s' =>
      s'.rd (.tick .SRC_LOCKED) = 0 ∧ s'.rd (.tick .lockCount) = 0 ∧
        (s.rd (.tick .GROUP_EN) = 1 → s.locked = true → (s.tick = 1 ∨ s.tick = 2) →
          s'.tick = 4 ∧ s'.rd (.tick .VOID_CAUSE_CAUSE) = 0x0A)) ∧
  (∀ (s : State) (c t : Nat), s.coreUp = true → c < 2 → t < 2 ^ 80 → CanSource s c →
    (s.rd (.clk .canNext) = 1 ∨ s.rd (.clk .canKnown) = 1) →
    Does (.canSyncEdge c t) s fun s' => ∃ x : Nat,
      x = (if s.rd (.clk .canNext) = 1 then s.rd (.clk .canTime)
        else s.rd (.clk .canTime) + nsec (s.rd (.od .cyclePeriod) * 1000)) ∧
      s'.rd (.clk .canTime) = x % 2 ^ (Fld.clk .canTime).width ∧ s'.rd (.clk .canKnown) = 1 ∧ s'.rd (.clk .canNext) = 0 ∧
        ∃ q : Int, Rounds ((t : Int) - (x % 2 ^ 80 : Nat)) 65536 q ∧ s'.rd (.clk .TBSTAT_OFFSET) = offsetField q) ∧
  (∀ (s : State) (c t : Nat), s.coreUp = true → c < 2 → t < 2 ^ 80 → CanSource s c →
    s.rd (.clk .canNext) ≠ 1 → s.rd (.clk .canKnown) ≠ 1 →
    Does (.canSyncEdge c t) s fun s' =>
      s'.rd (.clk .canKnown) = 1 ∧ s'.rd (.clk .canNext) = 0 ∧
        ∃ q : Int, Rounds ((t : Int) - (s'.rd (.clk .canTime) : Nat)) 65536 q ∧ s'.rd (.clk .TBSTAT_OFFSET) = offsetField q) ∧
  (∀ (s : State) (c t : Nat), s.coreUp = true → c < 2 → t < 2 ^ 80 → ¬CanSource s c →
    exec (.canSyncEdge c t) s = .next s) ∧
  (∀ s c days ms, s.coreUp = true → c < 2 → days < 65536 → ms < 2 ^ 28 → CanSource s c → (s.rd (.od .timeCob)).testBit 31 = true →
    Does (.timeMessage c days ms) s fun s' =>
      s'.rd (.clk .canTime) = nsec ((days * 86400000 + ms) * 1000000) % 2 ^ (Fld.clk .canTime).width ∧
        s'.rd (.clk .canKnown) = 1 ∧ s'.rd (.clk .canNext) = 1 ∧
        OnlyScalars [⟨.clk .canTime, 0, 0⟩, ⟨.clk .canKnown, 0, 0⟩, ⟨.clk .canNext, 0, 0⟩] s s') ∧
  (∀ s c days ms, s.coreUp = true → c < 2 → days < 65536 → ms < 2 ^ 28 →
    (¬CanSource s c ∨ (s.rd (.od .timeCob)).testBit 31 = false) → exec (.timeMessage c days ms) s = .next s) ∧
  (∀ s u, s.coreUp = true → u ≤ Config.n → s.rd (.clk .OSC_FIO_FAIL) u = 0 →
    Does (.fioReady u) s fun t =>
      t.rd (.clk .OSC_FIO_RDY) u = 1 ∧
        (∀ x ∈ domainsOf u, t.rd (.clk .DOM_ACT) u x = if s.rd (.clk .DOM_ACT) u x = 2 then 1 else s.rd (.clk .DOM_ACT) u x) ∧
        t = { s with regs := t.regs }) ∧
  (∀ s u, s.coreUp = true → u ≤ Config.n → s.rd (.clk .OSC_FIO_FAIL) u = 1 →
    exec (.fioReady u) s = .next s ∧ exec (.fioFailure u) s = .next (s.wr (.clk .OSC_FIO_RDY) u 0 0)) ∧
  (∀ s u, s.coreUp = true → u ≤ Config.n → s.rd (.clk .OSC_SIO_FAIL) u = 1 →
    exec (.sioFailure u) s = .next (s.wr (.clk .OSC_SIO_OK) u 0 0) ∧
      (s.rd (.clk .OSC_FIO_FAIL) u = 0 → Does (.fioFailure u) s fun t =>
        t.rd (.clk .OSC_BOTH) u = 1 ∧ ∀ x, t.rd (.clk .DOM_ACT) u x = s.rd (.clk .DOM_ACT) u x)) ∧
  (∀ s u, s.coreUp = true → u ≤ Config.n → s.rd (.clk .OSC_FIO_FAIL) u = 0 → s.rd (.clk .OSC_SIO_FAIL) u = 0 →
    Does (.fioFailure u) s fun t =>
      t.rd (.clk .OSC_FIO_FAIL) u = 1 ∧ t.rd (.clk .OSC_FIO_RDY) u = 0 ∧
        ∀ x ∈ domainsOf u, t.rd (.clk .DOM_ACT) u x = if s.rd (.clk .DOM_ACT) u x = 1 then 2 else s.rd (.clk .DOM_ACT) u x) ∧
  (∀ s u, s.coreUp = true → u ≤ Config.n → s.rd (.clk .OSC_FIO_FAIL) u = 0 → s.rd (.clk .OSC_SIO_FAIL) u = 0 →
    Does (.sioFailure u) s fun t =>
      t.rd (.clk .OSC_SIO_FAIL) u = 1 ∧ t.rd (.clk .OSC_SIO_OK) u = 0 ∧
        ∀ x ∈ domainsOf u, t.rd (.clk .DOM_ACT) u x = if s.rd (.clk .DOM_ACT) u x = 2 then 1 else s.rd (.clk .DOM_ACT) u x) ∧
  (∀ s u, s.coreUp = true → u ≤ Config.n → s.rd (.clk .OSC_FIO_FAIL) u = 1 → s.rd (.clk .OSC_SIO_FAIL) u = 0 →
    Does (.sioFailure u) s fun t => t.rd (.clk .OSC_BOTH) u = 1 ∧ ∀ x, t.rd (.clk .DOM_ACT) u x = s.rd (.clk .DOM_ACT) u x) ∧
  (∀ s u ppm move src, s.coreUp = true → u ≤ Config.n → ppm < 65536 → move < 3 → s.rd (.clk .FIOTRIM_SRC) u ≠ 0 →
    s.trimReference u src = true →
    (src = s.rd (.clk .FIOTRIM_SRC) u ∨
      src = 3 - s.rd (.clk .FIOTRIM_SRC) u ∧ s.trimReference u (s.rd (.clk .FIOTRIM_SRC) u) = false) →
    Does (.fioTrim u ppm move) s fun t =>
      t.rd (.clk .OSC_FIO_PPM) u = ppm ∧
        t.rd (.clk .FIOTRIM_CODE) u = (if move = 1 then min 1023 (s.rd (.clk .FIOTRIM_CODE) u + 1)
          else if move = 2 then s.rd (.clk .FIOTRIM_CODE) u - 1 else s.rd (.clk .FIOTRIM_CODE) u) %
            2 ^ (Fld.clk .FIOTRIM_CODE).width ∧
        t.rd (.clk .FIOTRIM_TRIMMED) u =
          (if s.trueReference src = true ∧ (toSigned 16 ppm).natAbs ≤ 100 then 1 else 0) ∧
        OnlyScalars [⟨.clk .OSC_FIO_PPM, u, 0⟩, ⟨.clk .FIOTRIM_CODE, u, 0⟩, ⟨.clk .FIOTRIM_TRIMMED, u, 0⟩] s t) ∧
  (∀ s u ppm move, s.coreUp = true → u ≤ Config.n → ppm < 65536 → move < 3 →
    (s.rd (.clk .FIOTRIM_SRC) u = 0 ∨ s.trimReference u (s.rd (.clk .FIOTRIM_SRC) u) = false ∧
      s.trimReference u (3 - s.rd (.clk .FIOTRIM_SRC) u) = false) →
    exec (.fioTrim u ppm move) s = .next s) ∧
  (∀ s i, s.coreUp = true → i < 2 → s.rd (.clk .XIN_GOOD) 0 i = 0 → exec (.xinLost i) s = .next s) ∧
  (∀ s i, s.coreUp = true → i < 2 → s.rd (.clk .XIN_GOOD) 0 i ≠ 0 →
    Does (.xinLost i) s fun t =>
      t.rd (.clk .XIN_GOOD) 0 i = 0 ∧ t.rd (.clk .XIN_LOST) 0 i = 1 ∧
        t.rd (.clk .REF_ACT) = (if s.rd (.clk .REF_ACT) = 1 + i then
          (if s.rd (.clk .REF_ALT) = 1 ∧ s.rd (.clk .XIN_GOOD) 0 (1 - i) = 1 then 2 - i else 0) else s.rd (.clk .REF_ACT)) ∧
        (s.rd (.clk .REF_ACT) = 1 + i → t.rd (.clk .REF_HOLD) = 1) ∧
        ∀ l, l < 32 → s.rd (.pp .UCFG_USED) 0 l = 1 → s.rd (.pp .UCFG_REF) 0 l = 1 + i → t.rd (.pp .USTAT_PLLLOCK) 0 l = 0) ∧
  (∀ s i, s.coreUp = true → i < 2 → s.rd (.clk .XIN_FREQ) 0 i ≠ 0 →
    Does (.referenceReturn 0 i) s fun t =>
      t.rd (.clk .XIN_GOOD) 0 i = 1 ∧
        t.rd (.clk .REF_ACT) = if s.rd (.clk .REF_SRC) = 1 + i then 1 + i else s.rd (.clk .REF_ACT)) ∧
  (∀ s i, s.coreUp = true → i < 2 → s.rd (.clk .XIN_FREQ) 0 i = 0 → exec (.referenceReturn 0 i) s = .next s) ∧
  (∀ s d i, s.coreUp = true → d < Config.n → i < 2 → s.rd (.clk .ownRef) (1 + d) ≠ 1 →
    exec (.referenceReturn (1 + d) i) s = .next s) ∧
  (∀ s d, s.coreUp = true → d < Config.n → s.rd (.clk .ownRef) (1 + d) = 1 → exec (.srefLostAtDie d) s = .next s) ∧
  (∀ s d i, s.coreUp = true → d < Config.n → i < 2 → s.rd (.clk .ownRef) (1 + d) = 1 →
    Does (.referenceReturn (1 + d) i) s fun t => t.rd (.clk .ownRef) (1 + d) = 0 ∧ t.rd (.clk .REF_ACT) = s.rd (.clk .REF_ACT)) ∧
  (∀ s d, s.coreUp = true → d < Config.n → s.rd (.clk .ownRef) (1 + d) ≠ 1 →
    Does (.srefLostAtDie d) s fun t => t.rd (.clk .ownRef) (1 + d) = 1 ∧ t.rd (.clk .REF_ACT) = s.rd (.clk .REF_ACT))

/-- The place of symbol `k` of a stored slot: P0, P1, then bytes 0 to 7 (R322). -/
def symbolAt (k : Nat) : Nat := if k < 2 then 64 + 8 * k else 8 * (k - 2)

/-- A stored slot decodes to the word that it was made from: its data, its validity and its poison mark. Whichever one of the ten symbols
of a stored slot is wrong, and however wrong, decoding corrects it and finds the same slot (R321, R322, R323, R322, R323). -/
def Obligations.DramSlotCorrectsOneSymbol : Prop :=
  (∀ i v valid psn, i < 2 ^ 33 → v < 2 ^ 48 →
    (decodeSlot i (encodeSlot i v valid psn)).state = .ok ∧ (decodeSlot i (encodeSlot i v valid psn)).poison = psn ∧
      (decodeSlot i (encodeSlot i v valid psn)).data = if psn || !valid then 0 else v) ∧
  (∀ i v valid psn k e, i < 2 ^ 33 → v < 2 ^ 48 → k < 10 → 0 < e → e < 256 →
    (decodeSlot i (encodeSlot i v valid psn ^^^ e * 2 ^ symbolAt k)).state = .correctable ∧
      (decodeSlot i (encodeSlot i v valid psn ^^^ e * 2 ^ symbolAt k)).fixed = encodeSlot i v valid psn ∧
      (decodeSlot i (encodeSlot i v valid psn ^^^ e * 2 ^ symbolAt k)).poison = psn ∧
      (decodeSlot i (encodeSlot i v valid psn ^^^ e * 2 ^ symbolAt k)).data = if psn || !valid then 0 else v)

/-- Slots of subchannels: those of `w` hold what it says, and every other one is as it was. -/
def LandsOnly (s t : State) (w : DramWrite) : Prop :=
  (∀ x ∈ w.slots, t.slot x.1 = x.2 % 2 ^ 80) ∧ ∀ i, (∀ x ∈ w.slots, x.1 ≠ i) → t.slot i = s.slot i

/-- A column command of subchannel `q` at time `t` whose operands name something. -/
def ColumnAt (s : State) (q t : Nat) (flips : List (Nat × Nat × Nat)) : Prop :=
  s.coreUp = true ∧ q < 8 ∧ t < 2 ^ 80 ∧ okFlips flips = true

/-- The subchannel writes next (R332): no correction write-back waits, a burst does, and a write turn of less than 160 ns is on or can
begin, with 48 bursts queued or no READ waiting. -/
def WritesNext (s : State) (q t : Nat) : Prop :=
  ((s.writesOf q).find? fun w => w.back) = none ∧
    (s.rd (.ddr .turn) 0 q ≠ 0 ∧ t ≤ s.rd (.ddr .turnAt) 0 q + nsec 160 ∨ 48 ≤ (s.writesOf q).length ∨ s.readsWait q = false)

/-- How many slots of a READ its next burst brings (R332), and the words that they hold. -/
def burstLength (r : DramReq) : Nat := min (countOf r.pkt.count - r.got.length) (8 - nextSlot r % 8)

/-- The words that a read of the `k` slots from `i` finds. -/
def burstWords (s : State) (i k : Nat) (flips : List (Nat × Nat × Nat)) : List (Nat × Bool) :=
  (List.range k).map fun n => ((s.readSlot (i + n) flips).1.data, (s.readSlot (i + n) flips).1.poison)

/-- Upsets stay in the `k` slots from `i` that a read has found in the devices; every other slot is as it was. -/
def BurstKeepsFlips (s t : State) (i k : Nat) (flips : List (Nat × Nat × Nat)) : Prop :=
  ∀ j, t.slot j = if i ≤ j ∧ j < i + k ∧ (s.readSlot j flips).2 = false then (s.slot j ^^^ laneFlips j flips) % 2 ^ 80 else s.slot j

/-- A column command of a READY subchannel: a correction write-back goes first; in a write turn the next burst of the write queue is
stored and every other slot left; else the READ that is due is served one burst, and answered with its last; nothing happens where
nothing waits, or outside READY. A correction write-back that lands counts one corrected error; a burst that fails write CRC is tried
again, and its fourth failure fails the subchannel (R324, R331, R332). Log entries 57, 58, 127 say what in it is the model's choice or
reading. -/
def Obligations.DramColumns : Prop :=
  (∀ s q t flips w, ColumnAt s q t flips → s.subState q = 3 → ((s.writesOf q).find? fun w => w.back) = some w →
    (w.slots.map fun x => x.1).Nodup →
    Does (.dramColumnCommand q t flips) s fun s' =>
      LandsOnly s s' w ∧ s'.dramWrites = removeFirst w s.dramWrites ∧ s'.dramReqs = s.dramReqs ∧ s'.time = t ∧
        s'.rd (.ddr .ECC_CE) 0 w.q = satInc 16 (s.rd (.ddr .ECC_CE) 0 w.q) % 65536) ∧
  (∀ s q t flips w l, ColumnAt s q t flips → s.subState q = 3 → WritesNext s q t → s.writesOf q = w :: l →
    (w.slots.map fun x => x.1).Nodup →
    Does (.dramColumnCommand q t flips) s fun s' =>
      LandsOnly s s' w ∧ s'.time = t ∧
        ((∀ r ∈ s.dramReqs, r.q = q → r.pkt.type ≠ 1) →
          s'.dramWrites = removeFirst w s.dramWrites ∧ s'.dramReqs = s.dramReqs ∧ s'.net = s.net)) ∧
  (∀ s q t flips r, ColumnAt s q t flips → s.subState q = 3 → ((s.writesOf q).find? fun w => w.back) = none →
    (s.writesOf q = [] ∨ ¬WritesNext s q t) → (s.at t).nextRead q = some r → (∀ r ∈ s.dramReqs, r.q = q → r.pkt.type ≠ 1) →
    Does (.dramColumnCommand q t flips) s fun s' =>
      s'.time = t ∧ BurstKeepsFlips s s' (nextSlot r) (burstLength r) flips ∧
        (burstLength r < countOf r.pkt.count - r.got.length →
          s'.net = s.net ∧ s'.dramReqs = s.dramReqs.map fun x =>
            if x = r then { r with got := r.got ++ burstWords s (nextSlot r) (burstLength r) flips } else x) ∧
        (burstLength r = countOf r.pkt.count - r.got.length →
          s'.dramReqs = removeFirst r s.dramReqs ∧
            s'.net = ((s.at t).respond r.pkt r.pkt.dst 0 0 0 (quadsOf (s.tagOf r.pkt.cls) 32
              (r.got ++ burstWords s (nextSlot r) (burstLength r) flips))).net)) ∧
  (∀ s q t flips, ColumnAt s q t flips → s.subState q = 3 → ((s.writesOf q).find? fun w => w.back) = none →
    (s.writesOf q = [] ∨ ¬WritesNext s q t) → (s.at t).nextRead q = none →
    exec (.dramColumnCommand q t flips) s = .next (s.at t)) ∧
  (∀ s q t flips, ColumnAt s q t flips → s.subState q ≠ 3 → exec (.dramColumnCommand q t flips) s = .next s) ∧
  (∀ s q w, s.coreUp = true → q < 8 → s.subState q = 3 → ((s.writesOf q).find? fun w => w.back) = some w →
    (w.slots.map fun x => x.1).Nodup →
    Does (.dramWriteBack q) s fun t =>
      LandsOnly s t w ∧ t.dramWrites = removeFirst w s.dramWrites ∧
        t.rd (.ddr .ECC_CE) 0 w.q = satInc 16 (s.rd (.ddr .ECC_CE) 0 w.q) % 65536) ∧
  (∀ s q, s.coreUp = true → q < 8 → (s.subState q ≠ 3 ∨ ((s.writesOf q).find? fun w => w.back) = none) →
    exec (.dramWriteBack q) s = .next s) ∧
  (∀ s q, s.coreUp = true → q < 8 → (s.subState q ≠ 3 ∨ s.writesOf q = []) → exec (.writeCrcFailure q) s = .next s) ∧
  (∀ s q w l, s.coreUp = true → q < 8 → s.subState q = 3 → s.writesOf q = w :: l → w.tries < 3 →
    Does (.writeCrcFailure q) s fun t =>
      t.dramWrites = s.dramWrites.map (fun x => if x = w then { x with tries := x.tries + 1 } else x) ∧
        t.rd (.ddr .STAT_WCRC) 0 q = satInc 16 (s.rd (.ddr .STAT_WCRC) 0 q) % 65536 ∧
        OnlyScalars [⟨.ddr .STAT_WCRC, 0, q⟩] { s with dramWrites := t.dramWrites } t) ∧
  (∀ s q w l, s.coreUp = true → q < 8 → s.subState q = 3 → s.writesOf q = w :: l → 3 ≤ w.tries →
    Does (.writeCrcFailure q) s fun t =>
      t.subState q = 4 ∧ t.rd (.ddr .STAT_FAIL) 0 q = 2 ∧ t.writesOf q = [] ∧ (∀ r ∈ t.dramReqs, r.q ≠ q) ∧
        ∀ r, r ≠ q → t.subState r = s.subState r)

/-- The start-up of a subchannel on SPLL3, step by step, and the host's commands: step 1 enters TRAIN and loses the content, step 7 BLANK,
step 8 READY with every slot blank, one failure repeats and a second one fails the subchannel; off SPLL3, and out of order, no step
does anything. BLANK takes the pending masks and blanks what is READY, RETRAIN begins again, and both are refused with their code.
Refresh closes the rows of its subchannel and is counted; MR4 sets the temperature and the refresh rate with its hysteresis, and HOT
above 95; calibration and the oscillator change nothing; the patrol reads a burst and moves on, and a correctable slot that it finds
in the devices gets one write-back; a row closes; DDR_CNT_CLR clears its counts (R338, R339, R340, R356, R333, R334, R335, R336,
R341). Log entry 59 says what in it is the model's choice or reading. -/
def Obligations.DramService : Prop :=
  (∀ s q ok, s.coreUp = true → q < 8 → s.rd (.clk .DOM_ACT) 0 3 = 0 → s.subState q = 0 →
    Does (.dramInit q 1 ok) s fun t =>
      t.subState q = 1 ∧ (∀ e ∈ t.dram, subOf e.1 ≠ q) ∧ t.writesOf q = [] ∧ (∀ r ∈ t.dramReqs, r.q ≠ q) ∧
        ∀ r, r ≠ q → t.subState r = s.subState r) ∧
  (∀ s q step, s.coreUp = true → q < 8 → 2 ≤ step → step ≤ 6 → exec (.dramInit q step true) s = .next s) ∧
  (∀ s q, s.coreUp = true → q < 8 → s.rd (.clk .DOM_ACT) 0 3 = 0 → s.subState q = 1 →
    exec (.dramInit q 7 true) s = .next (s.wr (.ddr .STAT_STATE) 0 q 2)) ∧
  (∀ s q ok, s.coreUp = true → q < 8 → s.rd (.clk .DOM_ACT) 0 3 = 0 → s.subState q = 2 →
    Does (.dramInit q 8 ok) s fun t =>
      t.subState q = 3 ∧ (∀ i, subOf i = q → t.slot i = blankSlot i) ∧ (∀ i, subOf i ≠ q → t.slot i = s.slot i) ∧
        ∀ r, r ≠ q → t.subState r = s.subState r) ∧
  (∀ s q step, s.coreUp = true → q < 8 → s.rd (.clk .DOM_ACT) 0 3 = 0 → 2 ≤ step → step ≤ 7 → s.subState q = 1 →
    s.rd (.ddr .tries) 0 q = 0 →
    exec (.dramInit q step false) s = .next (s.wr (.ddr .tries) 0 q 1)) ∧
  (∀ s q step, s.coreUp = true → q < 8 → s.rd (.clk .DOM_ACT) 0 3 = 0 → 2 ≤ step → step ≤ 7 → s.subState q = 1 →
    s.rd (.ddr .tries) 0 q ≠ 0 →
    Does (.dramInit q step false) s fun t => t.subState q = 4 ∧ t.rd (.ddr .STAT_FAIL) 0 q = 1) ∧
  (∀ s q step ok, s.coreUp = true → q < 8 → 1 ≤ step → step ≤ 8 →
    (s.rd (.clk .DOM_ACT) 0 3 ≠ 0 ∨ step = 1 ∧ s.subState q ≠ 0 ∨ step = 8 ∧ s.subState q ≠ 2 ∨
      2 ≤ step ∧ step ≤ 7 ∧ s.subState q ≠ 1) →
    exec (.dramInit q step ok) s = .next s) ∧
  (∀ s, s.coreUp = true → s.ddrRefusal 1 = 0 →
    Does .dramBlank s fun t =>
      (∀ k, k < 5 → t.rd (.ddr .MAPACT_MASK) 0 k = s.rd (.ddr .MAP_MASK) 0 k % 2 ^ 33) ∧ t.rd (.ddr .CMDSTAT_REFUSE) = 0 ∧
        ∀ q, q < 8 → t.subState q = if s.subState q = 3 then 2 else s.subState q) ∧
  (∀ s q, s.coreUp = true → q < 8 → s.ddrRefusal 2 = 0 →
    Does (.dramRetrain q) s fun t =>
      t.subState q = 1 ∧ t.rd (.ddr .CMDSTAT_BUSY) = 1 ∧ t.rd (.ddr .CMDSTAT_REFUSE) = 0 ∧ (∀ e ∈ t.dram, subOf e.1 ≠ q) ∧
        ∀ r, r ≠ q → t.subState r = s.subState r) ∧
  (∀ s, s.coreUp = true → s.ddrRefusal 1 ≠ 0 → exec .dramBlank s = .next (s.wr (.ddr .CMDSTAT_REFUSE) 0 0 (s.ddrRefusal 1))) ∧
  (∀ s q, s.coreUp = true → q < 8 → s.ddrRefusal 2 ≠ 0 →
    exec (.dramRetrain q) s = .next (s.wr (.ddr .CMDSTAT_REFUSE) 0 0 (s.ddrRefusal 2))) ∧
  (∀ s q, s.coreUp = true → q < 8 → s.subState q = 3 →
    Does (.refresh q) s fun t =>
      t.rd (.ddr .LAT_REFS) 0 q = satInc 32 (s.rd (.ddr .LAT_REFS) 0 q) % 2 ^ 32 ∧
        (∀ b, b < 32 → t.rd (.ddr .openRow) 0 (32 * q + b) = 0) ∧ t = { s with regs := t.regs } ∧
        ∀ f u j, f ≠ .ddr .openRow → ¬(f = .ddr .LAT_REFS ∧ u = 0 ∧ j = q) → t.rd f u j = s.rd f u j) ∧
  (∀ s q temp, s.coreUp = true → q < 8 → temp < 256 → s.subState q = 3 →
    Does (.mr4Read q temp) s fun t =>
      t.rd (.ddr .STAT_TEMP) 0 q = temp ∧
        t.rd (.ddr .STAT_FAST) 0 q = (if 85 < toSigned 8 temp then 1 else if toSigned 8 temp ≤ 83 then 0 else s.rd (.ddr .STAT_FAST) 0 q) ∧
        (95 < toSigned 8 temp → s.rd (.ddr .STAT_HOT) 0 q ≤ 1 → t.rd (.ddr .STAT_HOT) 0 q = 1) ∧
        (toSigned 8 temp ≤ 95 → OnlyScalars [⟨.ddr .STAT_TEMP, 0, q⟩, ⟨.ddr .STAT_FAST, 0, q⟩] s t)) ∧
  (∀ s q, s.coreUp = true → q < 8 → exec (.zqCalibration q) s = .next s ∧ exec (.dqsOscillator q) s = .next s) ∧
  (∀ s q n, s.coreUp = true → q < 8 → s.subState q = 3 →
    Does (.ecsRead q n) s fun t => t.rd (.ddr .ECC_ODECS) 0 q = min n 65535 ∧ OnlyScalars [⟨.ddr .ECC_ODECS, 0, q⟩] s t) ∧
  (∀ s q flips, s.coreUp = true → q < 8 → okFlips flips = true → s.subState q = 3 → s.rd (.ddr .SCRUB_INTERVAL) ≠ 0 →
    Does (.patrolRead q flips) s fun t => ∃ i, i = patrolSlot q (s.rd (.ddr .patrol) 0 q) ∧
      t.rd (.ddr .patrol) 0 q = (s.rd (.ddr .patrol) 0 q + 1) % 2 ^ 27 ∧ BurstKeepsFlips s t i 8 flips ∧
        (∀ w ∈ t.dramWrites, w ∈ s.dramWrites ∨ ∃ n < 8, (s.readSlot (i + n) flips).1.state = .correctable ∧
          w = ⟨q, [(i + n, withSymbols (low 64 (s.readSlot (i + n) flips).1.fixed))], true, 0⟩) ∧
        (∀ w ∈ s.dramWrites, w ∈ t.dramWrites) ∧
        (∀ n, n < 8 → (s.readSlot (i + n) flips).2 = false → (s.readSlot (i + n) flips).1.state = .correctable →
          ∃ w ∈ t.dramWrites, w.back = true ∧ ∃ x ∈ w.slots, x.1 = i + n) ∧
        ((∀ n, n < 8 → (s.readSlot (i + n) flips).1.state = .ok ∨ (s.readSlot (i + n) flips).1.state = .correctable) →
          OnlyScalars [⟨.ddr .patrol, 0, q⟩, ⟨.ddr .passes, 0, q⟩, ⟨.ddr .SCRUB_PASSES, 0, 0⟩]
            { s with dram := t.dram, dramWrites := t.dramWrites } t)) ∧
  (∀ s q flips, s.coreUp = true → q < 8 → okFlips flips = true → (s.subState q ≠ 3 ∨ s.rd (.ddr .SCRUB_INTERVAL) = 0) →
    exec (.patrolRead q flips) s = .next s) ∧
  (∀ s q temp n, s.coreUp = true → q < 8 → temp < 256 → s.subState q ≠ 3 →
    exec (.refresh q) s = .next s ∧ exec (.mr4Read q temp) s = .next s ∧ exec (.ecsRead q n) s = .next s) ∧
  (∀ s q b, s.coreUp = true → q < 8 → b < 32 → exec (.rowClose q b) s = .next (s.wr (.ddr .openRow) 0 (32 * q + b) 0)) ∧
  (∀ s v, s.coreUp = true → v % 2 = 0 → exec (.ddrCntClr v) s = .next s) ∧
  (∀ s v, s.coreUp = true → v % 2 = 1 →
    Does (.ddrCntClr v) s fun t =>
      (∀ q, t.rd (.ddr .ECC_CE) 0 q = 0 ∧ t.rd (.ddr .ECC_UE) 0 q = 0 ∧ t.rd (.ddr .ECC_ODECS) 0 q = 0 ∧ t.rd (.ddr .LAT_MAX) 0 q = 0) ∧
        t = { s with regs := t.regs } ∧
        ∀ f u j, f ∉ [Fld.ddr .ECC_CE, .ddr .ECC_UE, .ddr .ECC_ODECS, .ddr .LAT_MAX] → t.rd f u j = s.rd f u j)

/-- The bring-up of a port: ENABLE starts with the primary, DISABLE powers the lanes off, RESTART clears what has failed and starts again,
an attempt that succeeds reaches UP, degraded on an alternative, one that fails goes to the next entry and after the last to WAIT or
FAILED, WAIT starts again, and a failure of lanes leaves UP, counts the loss and drops what waits (R292, R293, R294, R295, R297,
R307). Log entry 55 says what in it is the model's choice or reading. -/
def Obligations.PortBringUp : Prop :=
  (∀ s p, s.coreUp = true → p < 6 → s.rd (.pp .STAT_STATE) 0 p = 0 → s.rd (.pp .CFG_MODE) 0 p ≠ 0 → s.portPattern p = false →
    Does (.ppEnable p) s fun t =>
      t.rd (.pp .STAT_STATE) 0 p = (if (s.attempt p 0).testBit 8 then 1 else if (s.attempt p 0).testBit 9 then 2 else 3) ∧
        t.rd (.pp .STAT_ENTRY) 0 p = 0 ∧ t.rd (.pp .STAT_ACTIVE) 0 p = slice (s.attempt p 0) 4 4 ∧
        t.rd (.pp .STAT_REFUSE) 0 p = 0 ∧ t = { s with regs := t.regs }) ∧
  (∀ s p, s.coreUp = true → p < 6 → (s.rd (.pp .STAT_STATE) 0 p ≠ 0 ∨ s.rd (.pp .CFG_MODE) 0 p = 0) →
    exec (.ppEnable p) s = .next (s.wr (.pp .STAT_REFUSE) 0 p 1)) ∧
  (∀ s p, s.coreUp = true → p < 6 → s.rd (.pp .STAT_STATE) 0 p = 0 → s.rd (.pp .CFG_MODE) 0 p ≠ 0 → s.portPattern p = true →
    exec (.ppEnable p) s = .next (s.wr (.pp .STAT_REFUSE) 0 p 3)) ∧
  (∀ s p, s.coreUp = true → p < 6 → s.rd (.pp .STAT_STATE) 0 p = 0 →
    exec (.ppDisable p) s = .next (s.wr (.pp .STAT_REFUSE) 0 p 1) ∧ exec (.ppRestart p) s = .next (s.wr (.pp .STAT_REFUSE) 0 p 1)) ∧
  (∀ s p, s.coreUp = true → p < 6 → s.rd (.pp .STAT_STATE) 0 p ≠ 0 → s.portHeld p = false →
    Does (.ppDisable p) s fun t =>
      t.rd (.pp .STAT_STATE) 0 p = 0 ∧ t.rd (.pp .STAT_ACTIVE) 0 p = 0 ∧ t.rd (.pp .STAT_REFUSE) 0 p = 0 ∧
        (s.portUp p = true → ∀ f ∈ t.portTx, f.port ≠ p)) ∧
  (∀ s p, s.coreUp = true → p < 6 → s.rd (.pp .STAT_STATE) 0 p ≠ 0 → s.portHeld p = true →
    exec (.ppDisable p) s = .next (s.wr (.pp .STAT_REFUSE) 0 p 2) ∧ exec (.ppRestart p) s = .next (s.wr (.pp .STAT_REFUSE) 0 p 2)) ∧
  (∀ s p, s.coreUp = true → p < 6 → s.rd (.pp .STAT_STATE) 0 p ≠ 0 → s.portHeld p = false →
    Does (.ppRestart p) s fun t =>
      t.rd (.pp .STAT_STATE) 0 p = (if (s.attempt p 0).testBit 8 then 1 else if (s.attempt p 0).testBit 9 then 2 else 3) ∧
        t.rd (.pp .STAT_FAILED) 0 p = 0 ∧ t.rd (.pp .STAT_ENTRY) 0 p = 0 ∧ t.rd (.pp .STAT_REFUSE) 0 p = 0) ∧
  (∀ s p, s.coreUp = true → p < 6 → 1 ≤ s.rd (.pp .STAT_STATE) 0 p → s.rd (.pp .STAT_STATE) 0 p ≤ 3 →
    Does (.portUp p 4) s fun t =>
      t.portUp p = true ∧ t.rd (.pp .STAT_DEGRADED) 0 p = (if s.rd (.pp .STAT_ENTRY) 0 p = 0 then s.rd (.pp .STAT_DEGRADED) 0 p else 1) ∧
        ∀ i, i < 4 → (s.rd (.pp .STAT_ACTIVE) 0 p).testBit i = true → t.rd (.pp .LSTAT_CDRLOCK) 0 (4 * p + i) = 1) ∧
  (∀ s p, s.coreUp = true → p < 6 →
    exec (.portUp p 2) s = .next (if s.rd (.pp .STAT_STATE) 0 p = 1 ∧ (s.attempt p (s.rd (.pp .STAT_ENTRY) 0 p)).testBit 9 = true
      then s.wr (.pp .STAT_STATE) 0 p 2 else s)) ∧
  (∀ s p, s.coreUp = true → p < 6 →
    exec (.portUp p 3) s = .next (if s.rd (.pp .STAT_STATE) 0 p = 2 ∨
        (s.rd (.pp .STAT_STATE) 0 p = 1 ∧ (s.attempt p (s.rd (.pp .STAT_ENTRY) 0 p)).testBit 9 = false)
      then s.wr (.pp .STAT_STATE) 0 p 3 else s)) ∧
  (∀ s p, s.coreUp = true → p < 6 → (s.rd (.pp .STAT_STATE) 0 p = 0 ∨ 3 < s.rd (.pp .STAT_STATE) 0 p) →
    exec (.portUp p 4) s = .next s ∧ exec (.attemptTimeout p) s = .next s) ∧
  (∀ s p e, s.coreUp = true → p < 6 → 1 ≤ s.rd (.pp .STAT_STATE) 0 p → s.rd (.pp .STAT_STATE) 0 p ≤ 3 →
    ((s.attempts p).find? fun e => decide (s.rd (.pp .STAT_ENTRY) 0 p < e)) = some e →
    Does (.attemptTimeout p) s fun t =>
      t.rd (.pp .STAT_ENTRY) 0 p = e ∧ t.rd (.pp .STAT_ACTIVE) 0 p = slice (s.attempt p e) 4 4 ∧
        t.rd (.pp .STAT_STATE) 0 p = (if (s.attempt p e).testBit 8 then 1 else if (s.attempt p e).testBit 9 then 2 else 3)) ∧
  (∀ s p, s.coreUp = true → p < 6 → 1 ≤ s.rd (.pp .STAT_STATE) 0 p → s.rd (.pp .STAT_STATE) 0 p ≤ 3 →
    ((s.attempts p).find? fun e => decide (s.rd (.pp .STAT_ENTRY) 0 p < e)) = none →
    Does (.attemptTimeout p) s fun t =>
      t.rd (.pp .STAT_STATE) 0 p = (if s.rd (.pp .CFG_AUTORETRY) 0 p = 1 then 5 else 6) ∧ t.rd (.pp .STAT_ACTIVE) 0 p = 0) ∧
  (∀ s p, s.coreUp = true → p < 6 → s.rd (.pp .STAT_STATE) 0 p = 5 →
    Does (.portWaitExpiry p) s fun t =>
      t.rd (.pp .STAT_ENTRY) 0 p = 0 ∧
        t.rd (.pp .STAT_STATE) 0 p = (if (s.attempt p 0).testBit 8 then 1 else if (s.attempt p 0).testBit 9 then 2 else 3)) ∧
  (∀ s p, s.coreUp = true → p < 6 → s.rd (.pp .STAT_STATE) 0 p ≠ 5 → exec (.portWaitExpiry p) s = .next s) ∧
  (∀ s p m, s.coreUp = true → p < 6 → m < 16 → s.portUp p = false → exec (.laneFailure p m) s = .next s) ∧
  (∀ s p m, s.coreUp = true → p < 6 → m < 16 → s.portUp p = true →
    Does (.laneFailure p m) s fun t =>
      t.portUp p = false ∧ t.rd (.pp .STAT_FAILED) 0 p = m &&& s.rd (.pp .STAT_ACTIVE) 0 p ∧ t.rd (.pp .STAT_DOWN) 0 p = 1 ∧
        t.rd (.pp .STAT_LOSSES) 0 p =
          satInc (Fld.pp .STAT_LOSSES).width (s.rd (.pp .STAT_LOSSES) 0 p) % 2 ^ (Fld.pp .STAT_LOSSES).width ∧
        t.rd (.pp .STAT_ENTRY) 0 p =
          ((s.attempts p).find? fun e => slice (s.attempt p e) 4 4 &&& (m &&& s.rd (.pp .STAT_ACTIVE) 0 p) == 0).getD 0 ∧
        t.rd (.pp .STAT_DEGRADED) 0 p = 0 ∧ ∀ f ∈ t.portTx, f.port ≠ p)

/-- Bytes that are an IEEE 1588 message of a type (R304): its destination, EtherType 0x88F7 and the message type. The type numbers and the
destinations are those of IEEE 1588-2019 (log entry 125). -/
def PtpBytes (type : Nat) (b : List Nat) : Prop :=
  b.take 6 = (if type = 2 ∨ type = 3 ∨ type = 10 then [0x01, 0x80, 0xC2, 0, 0, 0x0E] else [0x01, 0x1B, 0x19, 0, 0, 0]) ∧
    (b.drop 12).take 2 = [0x88, 0xF7] ∧ b.getD 14 0 % 16 = type

/-- A port puts messages of these types behind the frames that wait. -/
def PtpSends (s t : State) (p : Nat) (types : List Nat) : Prop :=
  ∃ bs : List (List Nat), t.portTx = s.portTx ++ bs.map (fun b => ⟨p, 1, b⟩) ∧ bs.length = types.length ∧
    ∀ i, i < types.length → PtpBytes (types.getD i 0) (bs.getD i [])

/-- The answers of a port to a message of a type (R304): its own delay request at a Sync of the time-source port's master, a delay
response of a master, and the two messages of a two-step peer delay response. -/
def ptpAnswers (s : State) (p type : Nat) : List Nat :=
  if type = 0 ∧ s.rd (.pp .PTP_ROLE) 0 p = 2 ∧ s.sourcePort p = true then [if s.peerDelay p then 2 else 1]
  else if type = 1 ∧ s.rd (.pp .PTP_ROLE) 0 p = 1 ∧ s.peerDelay p = false then [9]
  else if type = 2 ∧ s.peerDelay p = true then [3, 10] else []

/-- A word of lane `u` as the line carries it, its polarity and its levels applied (R310). -/
def onLine (s : State) (u v : Nat) : Out :=
  ⟨.laneWord, u, lineLevels (s.has (.pp .UCFG_PAM4) 0 u 1) (s.laneWidth u) (polar (s.laneWidth u) v (s.has (.pp .UCFG_TXPOL) 0 u 1))⟩

/-- One buffer of a lane changes to `l`, and no other. -/
def OnlyBuffer (s t : State) (u : Nat) (rx : Bool) (l : List LaneWord) : Prop :=
  t.laneBuf u rx = l ∧ ∀ v b, (v ≠ u ∨ b ≠ rx) → t.laneBuf v b = s.laneBuf v b

/-- Frames and IEEE 1588: a port that is UP sends the first waiting frame of its highest class and counts it; it accepts a message of its
domain where it has a role and answers it, and a Sync of the source port ends SRCLOST; a master sends Sync and Follow_Up, and asks for
the peer delay; a source port without Sync for too long loses its source. User lanes and tests: a lane that is on sends the words of
its buffer in order, the alternating word where it is empty, a pattern of its generator, or nothing in TXIDLE, and takes the fabric's
word while its buffer of 32 has room; it presents received words in order and receives one, or drops it and sets RXOVF, and locks its
PLL to a reference that is good; a checker that is on locks and counts; CLR clears the count; a configuration is taken only in
DISABLED and where it is valid, ASYM at any time, and refused with code 4 elsewhere (R302, R304, R289, R310, R311, R312, R314, R317).
Log entries 54 to 56, 125 to 127 say what in it is the model's choice or reading. -/
def Obligations.PortTraffic : Prop :=
  (∀ s p f, s.coreUp = true → p < 6 → s.portUp p = true → s.nextFrame p = some f →
    Does (.frameTransmit p) s fun t =>
      t.portTx = s.portTx.erase f ∧
        t.out = s.out ++ [⟨match f.cls with | 0 => .group | 1 => .ptp | _ => .caravan, p, f.bytes⟩] ∧
        t.rd (.pp .TXCNT_FRAMES) 0 p = (if f.cls = 1 then s.rd (.pp .TXCNT_FRAMES) 0 p
          else satInc (Fld.pp .TXCNT_FRAMES).width (s.rd (.pp .TXCNT_FRAMES) 0 p) % 2 ^ (Fld.pp .TXCNT_FRAMES).width) ∧
        OnlyScalars [⟨.pp .TXCNT_FRAMES, 0, p⟩] { s with portTx := t.portTx, out := t.out } t) ∧
  (∀ s p, s.coreUp = true → p < 6 → (s.portUp p = false ∨ s.nextFrame p = none) → exec (.frameTransmit p) s = .next s) ∧
  (∀ (s : State) (p : Nat) (f : TxFrame), s.nextFrame p = some f → f ∈ s.portTx ∧ f.port = p ∧ ∀ x ∈ s.portTx, x.port = p → x.cls < 3 →
    f.cls ≤ x.cls) ∧
  (∀ s p type domain, s.coreUp = true → p < 6 → type < 16 → domain < 256 → s.portUp p = true → s.rd (.pp .PTP_ROLE) 0 p ≠ 0 →
    s.rd (.pp .PTP_DOMAIN) 0 p = domain →
    Does (.ptpMessage p type domain) s fun t =>
      PtpSends s t p (ptpAnswers s p type) ∧
        t.rd (.pp .RXCNT_PTP) 0 p = satInc (Fld.pp .RXCNT_PTP).width (s.rd (.pp .RXCNT_PTP) 0 p) % 2 ^ (Fld.pp .RXCNT_PTP).width ∧
        t.rd (.pp .STAT_SRCLOST) 0 p =
          (if type = 0 ∧ s.sourcePort p = true ∧ s.rd (.pp .PTP_ROLE) 0 p = 2 then 0 else s.rd (.pp .STAT_SRCLOST) 0 p) ∧
        OnlyScalars [⟨.pp .RXCNT_PTP, 0, p⟩, ⟨.pp .STAT_SRCLOST, 0, p⟩] { s with portTx := t.portTx, free := t.free } t) ∧
  (∀ s p type domain, s.coreUp = true → p < 6 → type < 16 → domain < 256 →
    (s.portUp p = false ∨ s.rd (.pp .PTP_ROLE) 0 p = 0 ∨ s.rd (.pp .PTP_DOMAIN) 0 p ≠ domain) →
    exec (.ptpMessage p type domain) s = .next s) ∧
  (∀ s p, s.coreUp = true → p < 6 → s.portUp p = true → s.rd (.pp .PTP_ROLE) 0 p = 1 →
    Does (.ptpSyncInterval p) s fun t =>
      PtpSends s t p ([0, 8] ++ if s.peerDelay p then [2] else []) ∧ t = { s with portTx := t.portTx, free := t.free }) ∧
  (∀ s p, s.coreUp = true → p < 6 → (s.portUp p = false ∨ s.rd (.pp .PTP_ROLE) 0 p ≠ 1) →
    exec (.ptpSyncInterval p) s = .next s) ∧
  (∀ s p, s.coreUp = true → p < 6 → s.sourcePort p = true →
    Does (.sourceSyncLoss p) s fun t => t.rd (.pp .STAT_SRCLOST) 0 p = 1 ∧ t.rd (.tick .SRC_LOCKED) = 0) ∧
  (∀ s p, s.coreUp = true → p < 6 → s.sourcePort p = false → exec (.sourceSyncLoss p) s = .next s) ∧
  (∀ s u w k, s.coreUp = true → u < 4 * Config.n → k < 256 → s.laneOn u = true → s.rd (.pp .UPRBS_GEN) 0 u = 0 →
    Does (.userLaneTxWord u w k false) s fun t =>
      t.out = s.out ++ ((((s.laneBuf u false).map fun x => x.word) ++ List.replicate k (alternating (s.laneWidth u))).take k).map
          (onLine s u) ∧
        OnlyBuffer s t u false ((s.laneBuf u false).drop k ++
          if (s.laneBuf u false).length - k < 32 then [⟨u, false, w % 2 ^ s.laneWidth u⟩] else []) ∧
        t.rd (.pp .USTAT_TXUNF) 0 u = (if (s.laneBuf u false).length < k then 1 else s.rd (.pp .USTAT_TXUNF) 0 u) ∧
        t.rd (.pp .USTAT_IDLE) 0 u = 0 ∧
        OnlyScalars [⟨.pp .USTAT_IDLE, 0, u⟩, ⟨.pp .USTAT_TXUNF, 0, u⟩] { s with laneBufs := t.laneBufs, out := t.out } t) ∧
  (∀ s u w k, s.coreUp = true → u < 4 * Config.n → k < 256 → s.laneOn u = true → s.rd (.pp .UPRBS_GEN) 0 u = 0 →
    Does (.userLaneTxWord u w k true) s fun t =>
      t.laneBufs = s.laneBufs ++ (if (s.laneBuf u false).length < 32 then [⟨u, false, w % 2 ^ s.laneWidth u⟩] else []) ∧
        t.rd (.pp .USTAT_IDLE) 0 u = 1 ∧ OnlyScalars [⟨.pp .USTAT_IDLE, 0, u⟩] { s with laneBufs := t.laneBufs } t) ∧
  (∀ s u w k idle, s.coreUp = true → u < 4 * Config.n → k < 256 → s.laneOn u = true → s.rd (.pp .UPRBS_GEN) 0 u ≠ 0 →
    Does (.userLaneTxWord u w k idle) s fun t =>
      (∃ vs : List Nat, vs.length = (if idle then 0 else k) ∧ t.out = s.out ++ vs.map (onLine s u)) ∧
        t.rd (.pp .USTAT_IDLE) 0 u = b2n idle ∧ OnlyScalars [⟨.pp .USTAT_IDLE, 0, u⟩] { s with out := t.out, free := t.free } t) ∧
  (∀ s u w k, s.coreUp = true → u < 4 * Config.n → k < 256 → s.laneOn u = true →
    Does (.userLaneRxWord u w k) s fun t =>
      t.out = s.out ++ ((s.laneBuf u true).take k).map (fun x => ⟨.laneWord, 32 + u, [x.word]⟩) ∧
        OnlyBuffer s t u true ((s.laneBuf u true).drop k ++
          if (s.laneBuf u true).length - k < 32 then [⟨u, true, polar (s.laneWidth u)
            (levelBits (s.has (.pp .UCFG_PAM4) 0 u 1) w) (s.has (.pp .UCFG_RXPOL) 0 u 1)⟩] else []) ∧
        (32 ≤ (s.laneBuf u true).length - k → t.rd (.pp .USTAT_RXOVF) 0 u = 1) ∧
        OnlyScalars (if (s.laneBuf u true).length - k < 32 then [] else [⟨.pp .USTAT_RXOVF, 0, u⟩])
          { s with laneBufs := t.laneBufs, out := t.out } t) ∧
  (∀ s u w k v idle, s.coreUp = true → u < 4 * Config.n → k < 256 → s.laneOn u = false →
    exec (.userLaneTxWord u w k idle) s = .next s ∧ exec (.userLaneRxWord u v k) s = .next s ∧ exec (.lanePllLock u) s = .next s) ∧
  (∀ s u, s.coreUp = true → u < 4 * Config.n → s.laneOn u = true →
    (s.rd (.pp .UCFG_REF) 0 u = 0 ∨ s.rd (.clk .XIN_GOOD) 0 (s.rd (.pp .UCFG_REF) 0 u - 1) = 1) →
    exec (.lanePllLock u) s = .next (s.wr (.pp .USTAT_PLLLOCK) 0 u 1)) ∧
  (∀ s u, s.coreUp = true → u < 4 * Config.n → s.rd (.pp .UCFG_REF) 0 u ≠ 0 →
    s.rd (.clk .XIN_GOOD) 0 (s.rd (.pp .UCFG_REF) 0 u - 1) ≠ 1 → exec (.lanePllLock u) s = .next s) ∧
  (∀ s j errs, s.coreUp = true → j < 24 → errs < 2 ^ 32 → s.rd (.pp .LPRBS_CHK) 0 j ≠ 0 →
    Does (.prbsCheckerLock false j errs) s fun t =>
      t.rd (.pp .LPRBS_LOCK) 0 j = 1 ∧ t.rd (.pp .LPRBS_ERR) 0 j = satAdd 32 (s.rd (.pp .LPRBS_ERR) 0 j) errs ∧
        OnlyScalars [⟨.pp .LPRBS_LOCK, 0, j⟩, ⟨.pp .LPRBS_ERR, 0, j⟩] s t) ∧
  (∀ s j errs, s.coreUp = true → j < 4 * Config.n → errs < 2 ^ 32 → s.rd (.pp .UPRBS_CHK) 0 j ≠ 0 →
    Does (.prbsCheckerLock true j errs) s fun t =>
      t.rd (.pp .UPRBS_LOCK) 0 j = 1 ∧ t.rd (.pp .UPRBS_ERR) 0 j = satAdd 32 (s.rd (.pp .UPRBS_ERR) 0 j) errs ∧
        OnlyScalars [⟨.pp .UPRBS_LOCK, 0, j⟩, ⟨.pp .UPRBS_ERR, 0, j⟩] s t) ∧
  (∀ s j errs, s.coreUp = true → errs < 2 ^ 32 →
    (j < 24 → s.rd (.pp .LPRBS_CHK) 0 j = 0 → exec (.prbsCheckerLock false j errs) s = .next s) ∧
    (j < 4 * Config.n → s.rd (.pp .UPRBS_CHK) 0 j = 0 → exec (.prbsCheckerLock true j errs) s = .next s)) ∧
  (∀ s j, s.coreUp = true → (j < 24 → exec (.ppLprbsClr false j) s = .next (s.wr (.pp .LPRBS_ERR) 0 j 0)) ∧
    (j < 4 * Config.n → exec (.ppLprbsClr true j) s = .next (s.wr (.pp .UPRBS_ERR) 0 j 0))) ∧
  (∀ s reg p v, s.coreUp = true → p < 6 → reg < 5 → s.rd (.pp .STAT_STATE) 0 p = 0 → portRegValid reg v = true →
    Does (.ppConfigWrite reg p v) s fun t =>
      (∀ f ∈ portRegFields reg, t.rd (.pp f) 0 p = slice v (ppInfo f).lo (ppInfo f).width) ∧ t.rd (.pp .STAT_REFUSE) 0 p = 0 ∧
        OnlyScalars (⟨.pp .STAT_REFUSE, 0, p⟩ :: (portRegFields reg).map fun f => ⟨.pp f, 0, p⟩) s t) ∧
  (∀ s p v, s.coreUp = true → p < 6 → s.rd (.pp .STAT_STATE) 0 p ≠ 0 →
    Does (.ppConfigWrite 4 p v) s fun t =>
      t.rd (.pp .PTP_ASYM) 0 p = slice v 16 16 ∧
        t.rd (.pp .STAT_REFUSE) 0 p = (if s.portReg 4 p % 65536 = v % 65536 then 0 else 4) ∧
        OnlyScalars [⟨.pp .PTP_ASYM, 0, p⟩, ⟨.pp .STAT_REFUSE, 0, p⟩] s t) ∧
  (∀ s reg p v, s.coreUp = true → p < 6 → reg < 5 →
    (s.rd (.pp .STAT_STATE) 0 p ≠ 0 ∧ reg ≠ 4 ∨ s.rd (.pp .STAT_STATE) 0 p = 0 ∧ portRegValid reg v = false) →
    exec (.ppConfigWrite reg p v) s = .next (s.wr (.pp .STAT_REFUSE) 0 p 4))

/-- Starts and ends of a load: an accepted start clears the active image, its queues and contexts and stops the tick, and the loader waits
for a header; ABORT, the timeout and a bad record end the load with their status; CLEAR clears the image; what the state forbids is
refused with its code; bytes written to 0x2200:08 join the stream (R364, R365, R369, R370, R382, R388). Log entries 63 to 65 say what
in it is the model's choice or reading. -/
def Obligations.LoadStartsAndEnds : Prop :=
  (∀ s, s.booted = true → s.startCode = 0 →
    Does .cfgStart s fun t =>
      t.rd (.cfg .loadKind) = 1 ∧ t.rd (.cfg .STAT_STATE) = 1 ∧ t.rd (.cfg .STAT_STATUS) = 1 ∧ t.rd (.cfg .STAT_REFUSE) = 0 ∧
        t.rd (.cfg .STAT_ACTIVE) = 0 ∧ t.tick = 0 ∧ t.queues = [] ∧ t.ctx = [] ∧ t.staged = [] ∧ t.stream = []) ∧
  (∀ s, s.booted = true → s.startCode ≠ 0 → exec .cfgStart s = .next (s.wr (.cfg .STAT_REFUSE) 0 0 s.startCode)) ∧
  (∀ s wide, s.booted = true → s.rd (.cfg .csLow) = 0 → s.rd (.cfg .CTRL_SRC) = 0 → s.rd (.cfg .CTRL_AUTO) = 1 → s.startCode = 0 →
    Does (.slavePortStart wide) s fun t =>
      t.rd (.cfg .loadKind) = 1 ∧ t.rd (.cfg .STAT_STATE) = 1 ∧ t.rd (.cfg .csLow) = 1 ∧ t.rd (.cfg .STAT_WIDTH) = b2n wide ∧
        t.rd (.cfg .rdy) = 1) ∧
  (∀ s wide, s.booted = true → s.rd (.cfg .csLow) = 0 → s.rd (.cfg .CTRL_SRC) = 0 → s.rd (.cfg .CTRL_AUTO) = 1 → s.startCode ≠ 0 →
    (s.loading = false ∨ s.rd (.cfg .STAT_SRC) ≠ 0) →
    Does (.slavePortStart wide) s fun t =>
      t.rd (.cfg .errRefuse) = 1 ∧ t.rd (.cfg .STAT_REFUSE) = s.startCode ∧ t.rd (.cfg .csLow) = 1 ∧
        OnlyScalars [⟨.cfg .errRefuse, 0, 0⟩, ⟨.cfg .STAT_REFUSE, 0, 0⟩, ⟨.cfg .csLow, 0, 0⟩, ⟨.cfg .widthPin, 0, 0⟩] s t) ∧
  (∀ s wide, (s.booted = false ∨ s.rd (.cfg .csLow) = 1 ∨ (s.loading = true ∧ s.rd (.cfg .STAT_SRC) = 0) ∨
      s.rd (.cfg .CTRL_SRC) ≠ 0 ∨ s.rd (.cfg .CTRL_AUTO) ≠ 1) →
    exec (.slavePortStart wide) s = .next ((s.wr (.cfg .csLow) 0 0 1).wr (.cfg .widthPin) 0 0 (b2n wide))) ∧
  (∀ s, exec .cfgCsNRise s = .next (((s.wr (.cfg .csLow) 0 0 0).wr (.cfg .errRefuse) 0 0 0).wr (.cfg .ignoring) 0 0 0)) ∧
  (∀ s, s.booted = true → s.loading = true →
    Does .cfgAbort s fun t =>
      t.loading = false ∧ t.rd (.cfg .STAT_STATUS) = 0x50 ∧ t.rd (.cfg .errFail) = 1 ∧ t.rd (.cfg .STAT_REFUSE) = 0 ∧ t.staged = []) ∧
  (∀ s, s.booted = true → s.loading = false → exec .cfgAbort s = .next (s.wr (.cfg .STAT_REFUSE) 0 0 2)) ∧
  (∀ s, s.booted = true → s.tickLive = false → s.loading = false →
    Does .cfgClear s fun t =>
      t.rd (.cfg .STAT_ACTIVE) = 0 ∧ t.rd (.cfg .IMAGE) = 0 ∧ t.rd (.cfg .STAT_REFUSE) = 0 ∧
        t.rd (.cfg .STAT_STATUS) = s.rd (.cfg .STAT_STATUS) ∧ t.tick = 0 ∧ t.queues = [] ∧ t.ctx = []) ∧
  (∀ s, s.booted = true → s.tickLive = true → exec .cfgClear s = .next (s.wr (.cfg .STAT_REFUSE) 0 0 1)) ∧
  (∀ s, s.booted = true → s.tickLive = false → s.loading = true → exec .cfgClear s = .next (s.wr (.cfg .STAT_REFUSE) 0 0 2)) ∧
  (∀ s, s.coreUp = true → (s.loading = false ∨ s.rd (.cfg .STAT_STATE) = 0 ∨ 3 < s.rd (.cfg .STAT_STATE)) →
    exec .loadTimeout s = .next s) ∧
  (∀ s, s.coreUp = true → s.loading = true → 1 ≤ s.rd (.cfg .STAT_STATE) → s.rd (.cfg .STAT_STATE) ≤ 3 →
    Does .loadTimeout s fun t => t.loading = false ∧ t.rd (.cfg .STAT_STATUS) = 0x51 ∧ t.rd (.cfg .errFail) = 1) ∧
  (∀ s l, s.booted = true → areBytes l = true → s.loading = true → s.rd (.cfg .STAT_SRC) = 1 → 1 ≤ s.rd (.cfg .STAT_STATE) →
    s.rd (.cfg .STAT_STATE) ≤ 3 → (s.rd (.cfg .ldLength) = 0 ∨ s.rd (.cfg .PROGRESS_BYTES) + l.length ≤ s.rd (.cfg .ldLength)) →
    Does (.imageDataWrite l) s fun t =>
      t.stream = s.stream ++ l ∧ t.out = s.out ++ [⟨.sdoAnswer, 0, [0x2200, 8, 0]⟩] ∧
        OnlyScalars [⟨.cfg .PROGRESS_BYTES, 0, 0⟩] { s with stream := t.stream, out := t.out } t) ∧
  (∀ s l, s.booted = true → areBytes l = true →
    (s.loading = false ∨ s.rd (.cfg .STAT_SRC) = 0 ∨ s.rd (.cfg .STAT_STATE) = 0 ∨ 3 < s.rd (.cfg .STAT_STATE) ∨
      (s.rd (.cfg .ldLength) ≠ 0 ∧ s.rd (.cfg .ldLength) < s.rd (.cfg .PROGRESS_BYTES) + l.length)) →
    exec (.imageDataWrite l) s = .next (s.emit .sdoAnswer 0 [0x2200, 8, 0x08000020]))

/-- The next `k` bytes of the stream have arrived (R366, R370, R381): they are `l`, from the slave port those of the command, and `s1` has
taken them. -/
def Arrives (s : State) (bytes : List Nat) (k : Nat) (cipher : Bool) (l : List Nat) (s1 : State) : Prop :=
  s.coreUp = true ∧ areBytes bytes = true ∧ s.takeBytes bytes k cipher = some (l, s1)

/-- The placement that table `l` names for the place selected. -/
def placeIn (s : State) (l : List Nat) : Nat := fromBe ((l.drop (8 * s.rd (.cfg .CTRL_PLACE))).take 4)

/-- A load has ended with a status (R388). -/
def Fails (t : State) (status : Nat) : Prop :=
  t.loading = false ∧ t.rd (.cfg .STAT_STATUS) = status ∧ t.rd (.cfg .errFail) = 1

/-- The place where the loader waits for the placement table, of the load in progress. -/
def WaitsForTable (s : State) : Prop := s.rd (.cfg .STAT_STATE) = 1 ∧ s.rd (.cfg .ldM) ≠ 0 ∧ s.loading = true

/-- The loader takes a frame record: a table has come, and the frames are not over (R378). `head` is where the record's size stands. -/
def TakesRecord (s : State) (bytes head : List Nat) : Prop :=
  16 ≤ bytes.length ∧ s.rd (.cfg .ldTable) ≠ 0 ∧ s.rd (.cfg .STAT_STATE) = 2 ∧ 16 ≤ head.length ∧
    head = (if s.rd (.cfg .STAT_SRC) = 1 ∧ (s.rd (.cfg .ldFlags)).testBit 3 = false then s.stream else bytes) ∧
    s.consumed + recordSize head + 5192 ≤ s.rd (.cfg .ldLength)

/-- The stream of a load: a header that passes R373, and R403 for a partial load, is taken and one that does not ends the load with its
status; a placement table that passes R374 sends the dies of a full load to LOADING, and one that does not ends the load; a frame
record that is taken is counted, and the last one ends the frames; one that is not, and one too many, end the load with their status.
Bytes that have not all arrived do nothing (R373, R374, R375, R378, R380, R388, R403). Log entries 62, 66, 118 say what in it is the
model's choice or reading. -/
def Obligations.LoadStream : Prop :=
  (∀ s bytes l s1, Arrives s bytes 128 false l s1 → s.rd (.cfg .STAT_STATE) = 1 → s.rd (.cfg .ldM) = 0 →
    headerForm l (s.rd (.cfg .loadKind)) = 0 → (s1.takeHeader l).noteLevel.headerStatus = 0 →
    (s.rd (.cfg .loadKind) = 2 → (s1.takeHeader l).noteLevel.headerNiche l = true) →
    Does (.loadHeader bytes) s fun t =>
      t.rd (.cfg .STAT_STATE) = 1 ∧ t.rd (.cfg .ldM) = hfield l 6 1 ∧ t.rd (.cfg .ldPlaces) = hfield l 7 1 ∧
        t.rd (.cfg .ldId) = hfield l 12 8 ∧ t.rd (.cfg .ldFrames) = hfield l 32 8 ∧ t.rd (.cfg .ldLength) = hfield l 40 8 ∧
        t.loading = s.loading) ∧
  (∀ s bytes l s1, Arrives s bytes 128 false l s1 → s.rd (.cfg .STAT_STATE) = 1 → s.rd (.cfg .ldM) = 0 → s.loading = true →
    headerForm l (s.rd (.cfg .loadKind)) ≠ 0 →
    Does (.loadHeader bytes) s fun t => Fails t (headerForm l (s.rd (.cfg .loadKind)))) ∧
  (∀ s bytes l s1 c, Arrives s bytes 128 false l s1 → s.rd (.cfg .STAT_STATE) = 1 → s.rd (.cfg .ldM) = 0 → s.loading = true →
    headerForm l (s.rd (.cfg .loadKind)) = 0 →
    ((s1.takeHeader l).noteLevel.headerStatus = c ∧ c ≠ 0 ∧ c ≠ 0x19 ∨
      (s1.takeHeader l).noteLevel.headerStatus = c ∧ c = 0x19 ∧ (s.rd (.cfg .loadKind) ≠ 2 ∨ hfield l 5 1 = 2) ∨
      (s1.takeHeader l).noteLevel.headerStatus = 0x19 ∧ c = 0x24 ∧ s.rd (.cfg .loadKind) = 2 ∧ hfield l 5 1 = 1 ∨
      (s1.takeHeader l).noteLevel.headerStatus = 0 ∧ c = 0x24 ∧ s.rd (.cfg .loadKind) = 2 ∧
        (s1.takeHeader l).noteLevel.headerNiche l = false) →
    Does (.loadHeader bytes) s fun t => Fails t c) ∧
  (∀ s bytes, s.coreUp = true → areBytes bytes = true →
    (s.takeBytes bytes 128 false = none ∨ s.rd (.cfg .STAT_STATE) ≠ 1 ∨ s.rd (.cfg .ldM) ≠ 0) →
    exec (.loadHeader bytes) s = .next s) ∧
  (∀ s bytes l s1, Arrives s bytes (8 * s.rd (.cfg .ldPlaces) + 4) false l s1 → WaitsForTable s →
    fromBe ((l.drop (8 * s.rd (.cfg .ldPlaces))).take 4) = crc32c (l.take (8 * s.rd (.cfg .ldPlaces))) →
    s.rd (.cfg .CTRL_PLACE) < s.rd (.cfg .ldPlaces) →
    (∀ i, i < s.rd (.cfg .ldPlaces) → entryOk ((l.drop (8 * i)).take 8) (s.rd (.cfg .ldM)) = true) →
    (s.wr (.cfg .ldPlace) 0 0 (placeIn s l)).placementOk = true →
    (s.rd (.cfg .loadKind) = 2 → placeIn s l = s.rd (.cfg .actPlace)) →
    Does (.placementTable bytes) s fun t =>
      t.rd (.cfg .ldTable) = 1 ∧ t.rd (.cfg .STAT_STATE) = (if s.rd (.cfg .ldFrames) = 0 then 3 else 2) ∧
        (s.rd (.cfg .loadKind) = 1 → ∀ i, i < s.rd (.cfg .ldM) →
          t.rd (.fab .STATE_STATE) (1 + slice (placeIn s l) (4 * i) 4) = 1 ∧
            ∀ x, x < 12 → t.rd (.nch .STAT_STATE) (1 + slice (placeIn s l) (4 * i) 4) x = 1)) ∧
  (∀ s bytes l s1, Arrives s bytes (8 * s.rd (.cfg .ldPlaces) + 4) false l s1 → WaitsForTable s →
    fromBe ((l.drop (8 * s.rd (.cfg .ldPlaces))).take 4) ≠ crc32c (l.take (8 * s.rd (.cfg .ldPlaces))) →
    Does (.placementTable bytes) s fun t => Fails t 0x11) ∧
  (∀ s bytes l s1, Arrives s bytes (8 * s.rd (.cfg .ldPlaces) + 4) false l s1 → WaitsForTable s →
    fromBe ((l.drop (8 * s.rd (.cfg .ldPlaces))).take 4) = crc32c (l.take (8 * s.rd (.cfg .ldPlaces))) →
    Does (.placementTable bytes) s fun t =>
      (s.rd (.cfg .ldPlaces) ≤ s.rd (.cfg .CTRL_PLACE) → Fails t 0x18) ∧
        (s.rd (.cfg .CTRL_PLACE) < s.rd (.cfg .ldPlaces) →
          ((∃ i, i < s.rd (.cfg .ldPlaces) ∧ entryOk ((l.drop (8 * i)).take 8) (s.rd (.cfg .ldM)) = false) ∨
            (s.wr (.cfg .ldPlace) 0 0 (placeIn s l)).placementOk = false ∨
            (s.rd (.cfg .loadKind) = 2 ∧ placeIn s l ≠ s.rd (.cfg .actPlace))) → Fails t 0x12)) ∧
  (∀ s bytes, s.coreUp = true → areBytes bytes = true →
    (s.takeBytes bytes (8 * s.rd (.cfg .ldPlaces) + 4) false = none ∨ s.rd (.cfg .STAT_STATE) ≠ 1 ∨ s.rd (.cfg .ldM) = 0) →
    exec (.placementTable bytes) s = .next s) ∧
  (∀ s bytes head l s1 u, TakesRecord s bytes head → Arrives s bytes (recordSize head) ((s.rd (.cfg .ldFlags)).testBit 3) l s1 →
    s1.frameArrives (frameOf l) = (0, u) →
    Does (.frameRecord bytes) s fun t =>
      t.rd (.cfg .ldSeen) = (u.rd (.cfg .ldSeen) + 1) % 2 ^ 64 ∧
        t.rd (.cfg .STAT_STATE) = (if u.rd (.cfg .ldSeen) + 1 = u.rd (.cfg .ldFrames) then 3 else u.rd (.cfg .STAT_STATE)) ∧
        OnlyScalars [⟨.cfg .ldSeen, 0, 0⟩, ⟨.cfg .STAT_STATE, 0, 0⟩] u t) ∧
  (∀ s bytes head l s1 c u, TakesRecord s bytes head →
    Arrives s bytes (recordSize head) ((s.rd (.cfg .ldFlags)).testBit 3) l s1 →
    s1.frameArrives (frameOf l) = (c, u) → 0 < c → c < 256 → u.loading = true →
    Does (.frameRecord bytes) s fun t => Fails t c ∧ t.rd (.cfg .ERRFRAME_FTYPE) = (frameOf l).ftype % 256) ∧
  (∀ s bytes head, TakesRecord s bytes head → s.coreUp = true → areBytes bytes = true →
    s.takeBytes bytes (recordSize head) ((s.rd (.cfg .ldFlags)).testBit 3) = none → exec (.frameRecord bytes) s = .next s) ∧
  (∀ s bytes, s.coreUp = true → areBytes bytes = true → 16 ≤ bytes.length →
    (s.rd (.cfg .ldTable) = 0 ∨ s.rd (.cfg .STAT_STATE) < 2 ∨ 3 < s.rd (.cfg .STAT_STATE)) →
    exec (.frameRecord bytes) s = .next s) ∧
  (∀ s bytes, s.coreUp = true → areBytes bytes = true → 16 ≤ bytes.length → s.rd (.cfg .ldTable) ≠ 0 → s.loading = true →
    (s.rd (.cfg .STAT_SRC) = 0 ∨ 16 ≤ s.stream.length) →
    (s.rd (.cfg .STAT_STATE) = 3 ∨ s.rd (.cfg .STAT_STATE) = 2 ∧ s.rd (.cfg .STAT_SRC) = 0 ∧
      s.rd (.cfg .ldLength) < s.consumed + recordSize bytes + 5192) →
    Does (.frameRecord bytes) s fun t => Fails t 0x27)

/-- The trailer of a load in its place and form: all frames seen, at most three bytes of zero padding, the mark (R380). -/
def TrailerFits (s : State) (bytes l : List Nat) (s1 : State) : Prop :=
  Arrives s bytes (s.rd (.cfg .ldLength) - s.consumed) ((s.rd (.cfg .ldFlags)).testBit 3) l s1 ∧ s.loading = true ∧
    s.rd (.cfg .ldTable) ≠ 0 ∧ (s.rd (.cfg .STAT_STATE) = 2 ∨ s.rd (.cfg .STAT_STATE) = 3) ∧
    s.rd (.cfg .ldSeen) = s.rd (.cfg .ldFrames) ∧ l.length - 5192 ≤ 3 ∧
    fromBe (l.take (l.length - 5192)) = 0 ∧ fromBe ((l.drop (l.length - 5192)).take 4) = 0x4C454E44

/-- The state that step 3 of R385 and step 7 of R404 see when tag and signatures hold: the digest is SHA-384 of the image as it was taken,
up to the trailer's mark (R380). -/
def verified (s1 : State) : State :=
  ((((s1.verifying.wr (.cfg .ldDigest) 0 0 (sha384 (s1.imageBytes.take (s1.imageBytes.length - 5188)))).wr (.cfg .STAT_TAG_OK) 0 0 1).wr
    (.cfg .STAT_ECDSA_OK) 0 0 1).wr (.cfg .STAT_HSS_OK) 0 0 1)

/-- What the steps of R385 and R404 after verification leave of state `s`, in which a load is in progress: a finding ends the load with
its status; a full image is active on its dies and the load is over, or it waits for the DRAM; a partial one leaves its niche ACTIVE,
or waits for the debugger. -/
def Activates (s t : State) : Prop :=
  (s.stepThree.1 ≠ 0 → Fails t s.stepThree.1) ∧
    (s.stepThree.1 = 0 → s.rd (.cfg .loadKind) = 1 → (s.rd (.cfg .ldFlags)).testBit 4 = true → s.anySub [1, 2] = true →
      t.rd (.cfg .STAT_STATE) = 5 ∧ t.rd (.cfg .waits) = 1 ∧ t.loading = true) ∧
    (s.stepThree.1 = 0 → s.rd (.cfg .loadKind) = 1 → ((s.rd (.cfg .ldFlags)).testBit 4 = false ∨ s.anySub [1, 2] = false) →
      t.rd (.cfg .STAT_ACTIVE) = 1 ∧ t.loading = false ∧ t.rd (.cfg .STAT_STATUS) = 0 ∧ t.rd (.cfg .donePin) = 1 ∧
        t.rd (.cfg .waits) = 0 ∧ t.rd (.cfg .IMAGE) = s.rd (.cfg .ldId) % 2 ^ 64 ∧
        t.rd (.cfg .LOADS_OK) = satInc 24 (s.rd (.cfg .LOADS_OK)) % 2 ^ 24 ∧
        ∀ i, i < s.rd (.cfg .ldM) → t.rd (.fab .STATE_STATE) (1 + slice (s.rd (.cfg .ldPlace)) (4 * i) 4) = 3) ∧
    (s.stepThree.1 = 0 → s.rd (.cfg .loadKind) ≠ 1 → s.tick = 5 →
      t.rd (.cfg .STAT_STATE) = 5 ∧ t.rd (.cfg .waits) = 2 ∧ t.loading = s.loading) ∧
    (s.stepThree.1 = 0 → s.rd (.cfg .loadKind) ≠ 1 → s.tick ≠ 5 →
      t.rd (.nch .STAT_STATE) (1 + s.rd (.cfg .loadDie)) (s.rd (.cfg .loadNiche)) = 3 ∧ t.loading = false ∧
        t.rd (.cfg .STAT_STATUS) = 0 ∧ t.rd (.cfg .STAT_PARTIAL) = 1 ∧ t.rd (.cfg .donePin) = 1)

/-- The end of a load: with its tag and both signatures good it goes on to activation; a tag or a signature that fails leaves a full load
no image; a trailer out of its place or form ends the load with LENGTH; the wait for the DRAM ends in activation too (R380, R384,
R385, R388, R404, R553). -/
def Obligations.LoadVerdicts : Prop :=
  (∀ s bytes e l s1 tag vcco, TrailerFits (s.at e) bytes l s1 → e < 2 ^ 80 → (∀ v ∈ vcco, v < 65536) →
    (tag = true ∨ (s.rd (.cfg .ldFlags)).testBit 3 = false) →
    Does (.loadTrailer bytes e tag true true vcco) s fun t => Activates (verified s1) t) ∧
  (∀ s bytes e l s1 tag ecdsa hss vcco, TrailerFits (s.at e) bytes l s1 → e < 2 ^ 80 → (∀ v ∈ vcco, v < 65536) →
    (tag = true ∨ (s.rd (.cfg .ldFlags)).testBit 3 = false) → (ecdsa && hss) = false →
    Does (.loadTrailer bytes e tag ecdsa hss vcco) s fun t =>
      Fails t 0x31 ∧ (s.rd (.cfg .loadKind) = 1 → t.rd (.cfg .STAT_ACTIVE) = 0) ∧
        t.rd (.cfg .STAT_TAG_OK) = 1 ∧ t.rd (.cfg .STAT_ECDSA_OK) = b2n ecdsa ∧ t.rd (.cfg .STAT_HSS_OK) = b2n hss) ∧
  (∀ s bytes e l s1 ecdsa hss vcco, TrailerFits (s.at e) bytes l s1 → e < 2 ^ 80 → (∀ v ∈ vcco, v < 65536) →
    (s.rd (.cfg .ldFlags)).testBit 3 = true →
    Does (.loadTrailer bytes e false ecdsa hss vcco) s fun t =>
      Fails t 0x30 ∧ (s.rd (.cfg .loadKind) = 1 → t.rd (.cfg .STAT_ACTIVE) = 0) ∧ t.rd (.cfg .STAT_TAG_OK) = 0) ∧
  (∀ s bytes e l s1 tag ecdsa hss vcco,
    Arrives (s.at e) bytes (s.rd (.cfg .ldLength) - s.consumed) ((s.rd (.cfg .ldFlags)).testBit 3) l s1 → e < 2 ^ 80 →
    (∀ v ∈ vcco, v < 65536) →
    s.loading = true → s.rd (.cfg .ldTable) ≠ 0 → (s.rd (.cfg .STAT_STATE) = 2 ∨ s.rd (.cfg .STAT_STATE) = 3) →
    ¬TrailerFits (s.at e) bytes l s1 →
    Does (.loadTrailer bytes e tag ecdsa hss vcco) s fun t => Fails t 0x27) ∧
  (∀ s bytes e tag ecdsa hss vcco, s.coreUp = true → areBytes bytes = true → e < 2 ^ 80 → (∀ v ∈ vcco, v < 65536) →
    ((s.at e).takeBytes bytes (s.rd (.cfg .ldLength) - s.consumed) ((s.rd (.cfg .ldFlags)).testBit 3) = none ∨
      s.rd (.cfg .ldTable) = 0 ∨ s.rd (.cfg .STAT_STATE) < 2 ∨ 3 < s.rd (.cfg .STAT_STATE)) →
    exec (.loadTrailer bytes e tag ecdsa hss vcco) s = .next (s.at e)) ∧
  (∀ s vcco, s.coreUp = true → (∀ v ∈ vcco, v < 65536) → s.rd (.cfg .waits) = 1 → s.anySub [1, 2] = false → s.loading = true →
    Does (.activationDramWaitEnd vcco) s fun t => Activates (s.wr (.cfg .waits) 0 0 0) t) ∧
  (∀ s vcco, s.coreUp = true → (∀ v ∈ vcco, v < 65536) → (s.rd (.cfg .waits) ≠ 1 ∨ s.anySub [1, 2] = true) →
    exec (.activationDramWaitEnd vcco) s = .next s)

/-- The configuration scrubber of die `d` reads word `k`, whose stored bits upsets have flipped as `upset` says (R409, R410, R412). -/
def ScrubReads (s : State) (d k upset : Nat) : Prop :=
  s.coreUp = true ∧ d < Config.n ∧ upset < 2 ^ 55 ∧ s.scrubRuns d = true ∧ (s.scrubSet d).testBit 0 = true ∧
    s.nextWord d 8192 (s.rd (.scrub .POS_CFG) (1 + d)) = some k

/-- What the check finds of word `k` (R409). -/
def scrubbed (s : State) (d k upset : Nat) : RowRead := readRow ((s.planeAt d k ^^^ upset) + 7 * 2 ^ 55)

/-- Niche commands and the supply of a user I/O bank: LOAD isolates and clears its niche and starts a partial load with the tick as it
was, CLEAR leaves the niche EMPTY and its words of the plane unconfigured, both are refused with the code of R402; a supply in its
range is only recorded, and one out of it switches the bank off. The scrubbers of a die: a sound word of the plane stays as it is and
the position moves on; a word with one wrong bit is written back sound and counted, one beyond correction is counted as such; a bank
row read is queued; a parity mismatch reloads the settings and begins again, and the fourth within a second holds the scrubber;
settings written take effect at once, and a HELD scrubber goes on (R99, R402, R404, R409, R409, R410, R411, R413, R414, R415, R417).
Log entries 70, 120 say what in it is the model's choice or reading. -/
def Obligations.NichesAndScrubbing : Prop :=
  (∀ s d x, s.coreUp = true → d < Config.n → x < 12 → s.nicheCode d x true = 0 →
    Does (.nicheLoad d x) s fun t =>
      t.rd (.cfg .loadKind) = 2 ∧ t.rd (.cfg .loadDie) = d ∧ t.rd (.cfg .loadNiche) = x ∧ t.rd (.cfg .STAT_STATE) = 1 ∧
        t.rd (.nch .STAT_STATE) (1 + d) x = 1 ∧ t.rd (.nch .STAT_REFUSE) (1 + d) x = 0 ∧ t.tick = s.tick) ∧
  (∀ s d x, s.coreUp = true → d < Config.n → x < 12 → s.nicheCode d x true ≠ 0 →
    exec (.nicheLoad d x) s = .next (s.wr (.nch .STAT_REFUSE) (1 + d) x (s.nicheCode d x true))) ∧
  (∀ s d x, s.coreUp = true → d < Config.n → x < 12 → s.nicheCode d x false = 0 →
    Does (.nicheClear d x) s fun t =>
      t.rd (.nch .STAT_STATE) (1 + d) x = 0 ∧ t.rd (.nch .STAT_REFUSE) (1 + d) x = 0 ∧
        (∀ k, k < planeWords → nicheOfWord k = x → t.planeAt d k = planeDflt (planeKey d k)) ∧
        (∀ k, k < planeWords → nicheOfWord k ≠ x → t.planeAt d k = s.planeAt d k) ∧
        ∀ e k, e ≠ d → t.planeAt e k = s.planeAt e k) ∧
  (∀ s d x, s.coreUp = true → d < Config.n → x < 12 → s.nicheCode d x false ≠ 0 →
    exec (.nicheClear d x) s = .next (s.wr (.nch .STAT_REFUSE) (1 + d) x (s.nicheCode d x false))) ∧
  (∀ s d mv, s.coreUp = true → d < Config.n → mv < 65536 → s.dieUsed d = true → s.rd (.fab .IOSTAT_USED) (1 + d) = 1 →
    s.isolated d = false → vccoIn (s.rd (.fab .IOSTAT_VCCO_DECL) (1 + d)) mv = true →
    Does (.vccoMeasurement d mv) s fun t =>
      t.rd (.fab .IOSTAT_VCCO_MV) (1 + d) = mv % 2 ^ (Fld.fab .IOSTAT_VCCO_MV).width ∧ t.rd (.fab .IOSTAT_VCCO_OK) (1 + d) = 1 ∧
        OnlyScalars [⟨.fab .IOSTAT_VCCO_MV, 1 + d, 0⟩, ⟨.fab .IOSTAT_VCCO_OK, 1 + d, 0⟩] s t) ∧
  (∀ s d mv, s.coreUp = true → d < Config.n → mv < 65536 → s.dieUsed d = true → s.rd (.fab .IOSTAT_USED) (1 + d) = 1 →
    s.isolated d = false → s.rd (.fab .IOSTAT_BANK_OFF) (1 + d) = 1 →
    exec (.vccoMeasurement d mv) s = .next (s.measureVcco d mv)) ∧
  (∀ s d mv, s.coreUp = true → d < Config.n → mv < 65536 →
    (s.dieUsed d = false ∨ s.rd (.fab .IOSTAT_USED) (1 + d) = 0 ∨ s.isolated d = true) →
    exec (.vccoMeasurement d mv) s = .next s) ∧
  (∀ s d mv, s.coreUp = true → d < Config.n → mv < 65536 → s.dieUsed d = true → s.rd (.fab .IOSTAT_USED) (1 + d) = 1 →
    s.isolated d = false → vccoIn (s.rd (.fab .IOSTAT_VCCO_DECL) (1 + d)) mv = false → s.rd (.fab .IOSTAT_BANK_OFF) (1 + d) = 0 →
    Does (.vccoMeasurement d mv) s fun t =>
      t.rd (.fab .IOSTAT_VCCO_OK) (1 + d) = 0 ∧ t.rd (.fab .IOSTAT_VCCO_BAD) (1 + d) = 1 ∧ t.rd (.fab .IOSTAT_BANK_OFF) (1 + d) = 1) ∧
  (∀ s d k upset, ScrubReads s d k upset → (scrubbed s d k upset).poison = false → (scrubbed s d k upset).corr = false →
    Does (.configScrubRead d upset) s fun t =>
      t.rd (.scrub .POS_CFG) (1 + d) = (if k + 1 = planeWords then 0 else k + 1) ∧
        t.planeAt d k = (s.planeAt d k ^^^ upset) % 2 ^ 55 ∧ (∀ j, j < planeWords → j ≠ k → t.planeAt d j = s.planeAt d j) ∧
        (k + 1 ≠ planeWords → OnlyScalars [⟨.scrub .POS_CFG, 1 + d, 0⟩] { s with plane := t.plane } t)) ∧
  (∀ s d k upset, ScrubReads s d k upset → (scrubbed s d k upset).poison = false → (scrubbed s d k upset).corr = true →
    Does (.configScrubRead d upset) s fun t =>
      t.rd (.scrub .POS_CFG) (1 + d) = (if k + 1 = planeWords then 0 else k + 1) ∧
        t.planeAt d k = planeStored (scrubbed s d k upset).data ∧
        (∀ j, j < planeWords → j ≠ k → t.planeAt d j = s.planeAt d j) ∧
        t.rd (.scrub .CNT_CFG_CE) (1 + d) = satInc 16 (s.rd (.scrub .CNT_CFG_CE) (1 + d)) % 65536) ∧
  (∀ s d k upset, ScrubReads s d k upset → (scrubbed s d k upset).poison = true →
    Does (.configScrubRead d upset) s fun t =>
      t.rd (.scrub .POS_CFG) (1 + d) = (if k + 1 = planeWords then 0 else k + 1) ∧
        t.rd (.scrub .CNT_CFG_UE) (1 + d) = satInc 16 (s.rd (.scrub .CNT_CFG_UE) (1 + d)) % 65536 ∧
        (s.rd (.scrub .ERRLOG_VALID) (1 + d) = 0 → t.rd (.scrub .ERRLOG_VALID) (1 + d) = 1 ∧ t.rd (.scrub .ERRLOG_WORD) (1 + d) = k)) ∧
  (∀ s d upset, s.coreUp = true → d < Config.n → upset < 2 ^ 55 → s.scrubRuns d = true → (s.scrubSet d).testBit 0 = true →
    s.nextWord d 8192 (s.rd (.scrub .POS_CFG) (1 + d)) = none →
    Does (.configScrubRead d upset) s fun t =>
      t.rd (.scrub .POS_CFG) (1 + d) = 0 ∧ t.rd (.scrub .CNT_PASS_CE) (1 + d) = s.rd (.scrub .passCe) (1 + d) %
        2 ^ (Fld.scrub .CNT_PASS_CE).width ∧ t.plane = s.plane) ∧
  (∀ s d upset, s.coreUp = true → d < Config.n → upset < 2 ^ 55 → (s.scrubRuns d = false ∨ (s.scrubSet d).testBit 0 = false) →
    exec (.configScrubRead d upset) s = .next s) ∧
  (∀ s d i, s.coreUp = true → d < Config.n → s.scrubRuns d = true → (s.scrubSet d).testBit 1 = true →
    (s.scrubWaits.filter fun k => k / (512 * 16384) == d).length < 16 →
    s.nextIndex d 513 (s.rd (.scrub .POS_BANK) (1 + d)) = some i →
    Does (.bankScrubRead d) s fun t =>
      t.scrubWaits = s.scrubWaits ++ [rowKey d (i % 512) (i / 512)] ∧
        t.rd (.scrub .POS_BANK) (1 + d) = (if i + 1 = bankReads then 0 else i + 1) ∧
        (i + 1 ≠ bankReads → OnlyScalars [⟨.scrub .POS_BANK, 1 + d, 0⟩] { s with scrubWaits := t.scrubWaits } t)) ∧
  (∀ s d b, s.coreUp = true → d < Config.n → s.scrubRuns d = true → (s.scrubSet d).testBit 1 = true →
    (s.scrubWaits.filter fun k => k / (512 * 16384) == d).length < 16 →
    s.nextIndex d 513 (s.rd (.scrub .POS_BANK) (1 + d)) = none → b < 512 → s.scrubsBank d b = true →
    Does (.bankScrubRead d) s fun t => t.rd (.scrub .POS_BANK) (1 + d) = 0 ∧ t.scrubWaits = s.scrubWaits) ∧
  (∀ s d, s.coreUp = true → d < Config.n → (s.scrubRuns d = false ∨ (s.scrubSet d).testBit 1 = false ∨
      16 ≤ (s.scrubWaits.filter fun k => k / (512 * 16384) == d).length) →
    exec (.bankScrubRead d) s = .next s) ∧
  (∀ s d t, s.coreUp = true → d < Config.n → t < 2 ^ 80 → s.scrubRuns d = false →
    exec (.scrubParityMismatch d t) s = .next (s.at t)) ∧
  (∀ s d v, s.booted = true → d < Config.n → v < 65536 → (s.isolated d = true ∨ 2 ^ 14 ≤ v) →
    exec (.scrubSettingsWrite d v) s =
      .next (s.emit .sdoAnswer 0 [0x2720 + d, 1, if s.isolated d then 0x08000022 else 0x08000020])) ∧
  (∀ s d v, s.coreUp = true → d < Config.n → v % 2 = 0 → exec (.scrubCntClr d v) s = .next s) ∧
  (∀ s d t, s.coreUp = true → d < Config.n → t < 2 ^ 80 → s.scrubRuns d = true → (s.at t).reloadsSpent d = false →
    Does (.scrubParityMismatch d t) s fun s' =>
      s'.scrubRuns d = true ∧ s'.rd (.scrub .STAT_SETERR) (1 + d) = 1 ∧ s'.scrubSet d = s.rd (.scrub .settings) (1 + d) % 65536 ∧
        s'.rd (.scrub .SET_PAR) (1 + d) = settingParity (s.rd (.scrub .settings) (1 + d)) ∧ s'.rd (.scrub .POS_CFG) (1 + d) = 0 ∧
        s'.rd (.scrub .POS_BANK) (1 + d) = 0) ∧
  (∀ s d t, s.coreUp = true → d < Config.n → t < 2 ^ 80 → s.scrubRuns d = true → (s.at t).reloadsSpent d = true →
    Does (.scrubParityMismatch d t) s fun s' => s'.rd (.scrub .STAT_STATE) (1 + d) = 3 ∧ s'.rd (.scrub .STAT_SETERR) (1 + d) = 1) ∧
  (∀ s d v, s.booted = true → d < Config.n → v < 2 ^ 14 → s.isolated d = false →
    Does (.scrubSettingsWrite d v) s fun t =>
      t.scrubSet d = v ∧ t.rd (.scrub .SET_PAR) (1 + d) = settingParity v ∧
        (s.rd (.scrub .STAT_STATE) (1 + d) = 3 → t.scrubRuns d = true ∧ t.rd (.scrub .POS_CFG) (1 + d) = 0) ∧
        (s.rd (.scrub .STAT_STATE) (1 + d) ≠ 3 → t.rd (.scrub .STAT_STATE) (1 + d) = s.rd (.scrub .STAT_STATE) (1 + d))) ∧
  (∀ s d v, s.coreUp = true → d < Config.n → v % 2 = 1 →
    Does (.scrubCntClr d v) s fun t =>
      t.rd (.scrub .CNT_CFG_CE) (1 + d) = 0 ∧ t.rd (.scrub .CNT_CFG_UE) (1 + d) = 0 ∧ t.rd (.scrub .CNT_PASS_CE) (1 + d) = 0 ∧
        (∀ x, x < 12 → t.rd (.nch .STAT_CE) (1 + d) x = 0) ∧ t = { s with regs := t.regs })

/-- A die that is in the machine, and does not rejoin (R226, R227). -/
def Stays (s : State) (d : Nat) : Prop := s.dieHere d = true ∧ s.rd (.seif .joining) 0 d = 0

/-- Loss and isolation: a die that is isolated is out with its cause, its fabric OFFLINE and its links held down, and one that rejoins is
isolated again; a link that is lost goes down and is counted, and a running tick voids with cause 0x0C; a supply that recovers resets
the links of its die that are not held (R205, R211, R222, R224, R225). Log entries 42, 45 say what in it is the model's choice or
reading. -/
def Obligations.LinkLossAndIsolation : Prop :=
  (∀ s d, s.booted = true → d < Config.n → Stays s d →
    Does (.isolate d) s fun t =>
      t.rd (.seif .DIE_STATE) 0 d = 4 ∧ t.rd (.seif .DIE_CAUSE) 0 d = 4 ∧ t.rd (.seif .DIE_REFUSE) 0 d = 0 ∧
        t.rd (.fab .STATE_STATE) (1 + d) = 4 ∧ ∀ lk ∈ linksOf d, t.linkState lk = 5) ∧
  (∀ s d, s.booted = true → d < Config.n → s.dieHere d = false → s.rd (.seif .joining) 0 d = 0 →
    exec (.isolate d) s = .next (s.wr (.seif .DIE_REFUSE) 0 d 0)) ∧
  (∀ s d tj, s.coreUp = true → d < Config.n → 110 ≤ tj → tj < 128 → Stays s d →
    Does (.thermalTrip d tj) s fun t =>
      t.rd (.seif .DIE_STATE) 0 d = 4 ∧ t.rd (.seif .DIE_CAUSE) 0 d = 3 ∧ t.rd (.mod .DPWR_TRIP) (1 + d) = 1 ∧
        t.rd (.mod .DPWR_TJ) (1 + d) = tj ∧ ∀ lk ∈ linksOf d, t.linkState lk = 5) ∧
  (∀ s d, s.coreUp = true → d < Config.n → Stays s d →
    Does (.dieSupplyFailure d) s fun t =>
      t.rd (.seif .DIE_STATE) 0 d = 4 ∧ t.rd (.seif .DIE_CAUSE) 0 d = 5 ∧ ∀ lk ∈ linksOf d, t.linkState lk = 5) ∧
  (∀ s d tj, s.coreUp = true → d < Config.n → 110 ≤ tj → tj < 128 → s.dieHere d = false → s.rd (.seif .joining) 0 d = 0 →
    exec (.thermalTrip d tj) s = .next s ∧ exec (.dieSupplyFailure d) s = .next s) ∧
  (∀ s d tj c cause, s.coreUp = true → s.booted = true → d < Config.n → 110 ≤ tj → tj < 128 → s.rd (.seif .joining) 0 d = 1 →
    (c, cause) ∈ [(Instr.isolate d, 4), (.thermalTrip d tj, 3), (.dieSupplyFailure d, 5)] →
    Does c s fun t =>
      t.rd (.seif .joining) 0 d = 0 ∧ t.rd (.seif .DIE_CAUSE) 0 d = cause ∧ t.rd (.mod .dieOn) 0 d = 0 ∧
        ∀ lk ∈ linksOf d, t.linkState lk = 5) ∧
  (∀ s u l gone, s.coreUp = true → okSide u l = true → s.linkState (linkOf u l) = 4 →
    Does (.linkCrcSilence u l gone) s fun t =>
      t.linkState (linkOf u l) = 0 ∧ (∀ k, k < linkCount → k ≠ linkOf u l → t.linkState k = s.linkState k) ∧
        (s.loading = false → s.tick = 1 ∨ s.tick = 2 → t.tick = 4 ∧ t.rd (.tick .VOID_CAUSE_CAUSE) = 0x0C) ∧
        ∀ q ∈ sidesOf (linkOf u l), t.rd (.seif .TRAIN_LOSSES) q.1 q.2 = satInc 16 (s.rd (.seif .TRAIN_LOSSES) q.1 q.2) % 65536) ∧
  (∀ s u l gone, s.coreUp = true → okSide u l = true → s.linkState (linkOf u l) ≠ 4 →
    exec (.linkCrcSilence u l gone) s = .next s) ∧
  (∀ s d gone, s.coreUp = true → d < Config.n → s.dieHere d = true →
    Does (.dieSupplyRecovery d gone) s fun t =>
      (∀ lk ∈ linksOf d, t.linkState lk = if s.linkState lk = 5 then 5 else 0) ∧
        ∀ k, k < linkCount → k ∉ linksOf d → t.linkState k = s.linkState k) ∧
  (∀ s d gone, s.coreUp = true → d < Config.n → s.dieHere d = false → exec (.dieSupplyRecovery d gone) s = .next s)

/-- The partner of side (`u`, `l`) sends its next block, with the flits `flits` where it sends new ones, and after the errors `flips` on
the wires the block arrives as `b`; `s2` is the state then (R198, R200, R202). -/
def BlockArrives (s : State) (u l : Nat) (flits : List LinkFlit) (flips : List (Nat × Nat)) (b : Nat) (s2 : State) : Prop :=
  s.coreUp = true ∧ okSide u l = true ∧ (∀ x ∈ flips, x.1 < 68 ∧ x.2 < 160) ∧ s.linkState (linkOf u l) = 4 ∧
    ∃ b0 s1, s.nextBlock (partnerOf u l).1 (partnerOf u l).2 flits = some (b0, s1) ∧
      s1.overWires (partnerOf u l).1 (partnerOf u l).2 b0 flips = (b, s2)

/-- A block of which a side takes ACK and NAK (R203): its CRC holds, and it is the expected one, or one that is not sequenced while none
is awaited again. -/
def BlockTaken (s : State) (u l b : Nat) : Prop :=
  blockCrc b = slice b 48 16 ∧
    (slice b 34 6 = s.rd (.seif .expect) u l ∨ blockSequenced b = false ∧ s.rd (.seif .discard) u l ≠ 1)

/-- Blocks: without errors a block crosses the wires as it was sent; one with a bad CRC is counted and asks for NAK, and blocks are
discarded until the expected one comes; the expected one, where it is sequenced, moves the expectation on; its ACK frees what it
acknowledges and its NAK has the rest sent again; a block that is to be sent a ninth time again loses the link (R198, R200, R201,
R202, R203, R205). Log entry 123 says what in it is the model's choice or reading. -/
def Obligations.SeifBlocks : Prop :=
  (∀ (s : State) (u l b : Nat), (s.txWires u l).length ∈ [16, 32, 64] → b < 2 ^ 2560 → (s.overWires u l b []).1 = b) ∧
  (∀ s u l flits flips b s2, BlockArrives s u l flits flips b s2 → blockCrc b ≠ slice b 48 16 → s2.resentOut u l = false →
    Does (.seifBlockReceived u l flits flips) s fun t =>
      t.rd (.seif .ERR_CRC) u l = satInc 16 (s2.rd (.seif .ERR_CRC) u l) % 65536 ∧ t.rd (.seif .nakOut) u l = 1 ∧
        t.rd (.seif .discard) u l = 1 ∧
        OnlyScalars [⟨.seif .ERR_CRC, u, l⟩, ⟨.seif .nakOut, u, l⟩, ⟨.seif .discard, u, l⟩] s2 t) ∧
  (∀ s u l flits flips b s2, BlockArrives s u l flits flips b s2 → blockCrc b = slice b 48 16 → ¬BlockTaken s2 u l b →
    s2.resentOut u l = false → exec (.seifBlockReceived u l flits flips) s = .next s2) ∧
  (∀ s u l flits flips b s2, BlockArrives s u l flits flips b s2 → BlockTaken s2 u l b →
    (∀ e ∈ s2.unacked u l, e.resent < 8) →
    Does (.seifBlockReceived u l flits flips) s fun t =>
      t.rd (.seif .expect) u l =
          (if blockSequenced b = true then (s2.rd (.seif .expect) u l + 1) % 64 else s2.rd (.seif .expect) u l) ∧
        t.rd (.seif .discard) u l = 0 ∧
        ∀ e m k, s2.unacked u l = e :: m → e.seq < 64 → k ≤ m.length + 1 → k < 64 → slice b 40 6 = (e.seq + k) % 64 →
          t.unacked u l = ((e :: m).drop k).map fun x => if b.testBit 46 then { x with again := true } else x) ∧
  (∀ s u l flits flips b s2, BlockArrives s u l flits flips b s2 → (s2.receiveBlock u l b).resentOut u l = true →
    Does (.seifBlockReceived u l flits flips) s fun t => t.linkState (linkOf u l) = 0) ∧
  (∀ s u l flits flips, s.coreUp = true → okSide u l = true → (∀ x ∈ flips, x.1 < 68 ∧ x.2 < 160) →
    (s.linkState (linkOf u l) ≠ 4 ∨ s.nextBlock (partnerOf u l).1 (partnerOf u l).2 flits = none) →
    exec (.seifBlockReceived u l flits flips) s = .next s)

/-- The sides of a link can compare digests: each holds a MAP of its partner and is in a round (R208, R210). -/
def Confirms (s : State) (lk : Nat) : Prop :=
  ∀ q ∈ sidesOf lk, s.rd (.seif .pHeld) q.1 q.2 = 1 ∧ 1 ≤ s.rd (.seif .STAT_STATE) q.1 q.2 ∧ s.rd (.seif .STAT_STATE) q.1 q.2 ≤ 3

/-- A round on a link fails with a reason: the link is down and the round counted, or, the third in a row, held down (R208, R212). -/
def RoundFails (s t : State) (lk reason : Nat) : Prop :=
  (s.rd (.seif .STAT_ROUNDS) (initiator lk).1 (initiator lk).2 < 2 →
    t.linkState lk = 0 ∧ t.rd (.seif .STAT_LAST_FAIL) (initiator lk).1 (initiator lk).2 = reason ∧
      t.rd (.seif .STAT_ROUNDS) (initiator lk).1 (initiator lk).2 = s.rd (.seif .STAT_ROUNDS) (initiator lk).1 (initiator lk).2 + 1) ∧
    (2 ≤ s.rd (.seif .STAT_ROUNDS) (initiator lk).1 (initiator lk).2 → t.linkState lk = 5)

/-- Training: a round tests the wires in full or trains with the maps it holds, a MAP message is taken and ends the wire test of its
sender, equal digests make the link ACTIVE at the width that both sides compute, and end the REJOIN of a die by its spoke, and a round
that fails records its reason, or holds the link down with the third failure (R207, R208, R209, R210, R212, R227). Log entries 40, 123
say what in it is the model's choice or reading. -/
def Obligations.LinkTraining : Prop :=
  (∀ s lk tx rx tx' rx', s.coreUp = true → lk < linkCount → tx < 2 ^ 68 → rx < 2 ^ 68 → tx' < 2 ^ 68 → rx' < 2 ^ 68 →
    s.canTrain lk = true →
    Does (.trainingRound lk tx rx tx' rx') s fun t =>
      t.linkState lk = (if s.fullRound lk then 1 else 2) ∧
        (s.fullRound lk = true → t.rd (.seif .txok) (initiator lk).1 (initiator lk).2 = tx ∧
          t.rd (.seif .rxok) (responder lk).1 (responder lk).2 = rx') ∧
        ∀ q ∈ sidesOf lk, t.rd (.seif .TRAIN_ROUNDS) q.1 q.2 = satInc 16 (s.rd (.seif .TRAIN_ROUNDS) q.1 q.2) % 65536) ∧
  (∀ s lk tx rx tx' rx', s.coreUp = true → lk < linkCount → tx < 2 ^ 68 → rx < 2 ^ 68 → tx' < 2 ^ 68 → rx' < 2 ^ 68 →
    s.canTrain lk = false → exec (.trainingRound lk tx rx tx' rx') s = .next s) ∧
  (∀ s u l, s.coreUp = true → okSide u l = true → 1 ≤ s.rd (.seif .STAT_STATE) u l → s.rd (.seif .STAT_STATE) u l ≤ 3 →
    Does (.mapMessage u l) s fun t =>
      t.rd (.seif .STAT_STATE) u l = 3 ∧ t.rd (.seif .pHeld) u l = 1 ∧
        t.rd (.seif .pTx) u l = s.rd (.seif .txok) (partnerOf u l).1 (partnerOf u l).2 % 2 ^ 68 ∧
        t.rd (.seif .pRx) u l = s.rd (.seif .rxok) (partnerOf u l).1 (partnerOf u l).2 % 2 ^ 68 ∧
        t.rd (.seif .STAT_PEER) u l = s.rd (.seif .fuseStep) (partnerOf u l).1 % 256 ∧
        (s.rd (.seif .STAT_STATE) (partnerOf u l).1 (partnerOf u l).2 = 1 →
          t.rd (.seif .STAT_STATE) (partnerOf u l).1 (partnerOf u l).2 = 2) ∧
        OnlyScalars [⟨.seif .STAT_STATE, u, l⟩, ⟨.seif .pHeld, u, l⟩, ⟨.seif .pTx, u, l⟩, ⟨.seif .pRx, u, l⟩, ⟨.seif .pW16, u, l⟩,
          ⟨.seif .STAT_PEER, u, l⟩, ⟨.seif .DIE_STEP, 0, l⟩, ⟨.seif .STAT_STATE, (partnerOf u l).1, (partnerOf u l).2⟩] s t) ∧
  (∀ s u l, s.coreUp = true → okSide u l = true → (s.rd (.seif .STAT_STATE) u l = 0 ∨ 3 < s.rd (.seif .STAT_STATE) u l) →
    exec (.mapMessage u l) s = .next s) ∧
  (∀ s lk, s.coreUp = true → lk < linkCount → Confirms s lk →
    s.agreed lk (initiator lk) = s.agreed lk (responder lk) → (s.agreed lk (initiator lk)).2.2 ≠ 0 →
    Does (.confirmComplete lk) s fun t =>
      ((s.agreed lk (initiator lk)).2.2 ≠ 1 ∨ (s.rd (.seif .levelSet) ≠ 0 ∧ (lk < Config.n → s.rd (.seif .joining) 0 lk = 0)) →
        ∀ q ∈ sidesOf lk, t.rd (.seif .STAT_STATE) q.1 q.2 = 4 ∧ t.rd (.seif .STAT_ROUNDS) q.1 q.2 = 0 ∧
          t.rd (.seif .STAT_WIDTH) q.1 q.2 = (s.agreed lk (initiator lk)).2.2) ∧
        (lk < Config.n → s.rd (.seif .joining) 0 lk = 1 →
          t.rd (.seif .joining) 0 lk = 0 ∧ t.rd (.fab .STATE_STATE) (1 + lk) = 0 ∧ t.rd (.seif .DIE_CAUSE) 0 lk = 0)) ∧
  (∀ s lk, s.coreUp = true → lk < linkCount → Confirms s lk →
    s.agreed lk (initiator lk) ≠ s.agreed lk (responder lk) → (s.agreed lk (initiator lk)).2.2 ≠ 0 →
    (s.agreed lk (responder lk)).2.2 ≠ 0 →
    Does (.confirmComplete lk) s fun t => RoundFails s t lk 3) ∧
  (∀ s lk, s.coreUp = true → lk < linkCount → Confirms s lk →
    ((s.agreed lk (initiator lk)).2.2 = 0 ∨ (s.agreed lk (responder lk)).2.2 = 0) →
    Does (.confirmComplete lk) s fun t => RoundFails s t lk 4) ∧
  (∀ s lk, s.coreUp = true → lk < linkCount → ¬Confirms s lk → exec (.confirmComplete lk) s = .next s) ∧
  (∀ s lk, s.coreUp = true → lk < linkCount →
    (∃ q ∈ sidesOf lk, 1 ≤ s.rd (.seif .STAT_STATE) q.1 q.2 ∧ s.rd (.seif .STAT_STATE) q.1 q.2 ≤ 3) →
    Does (.roundTimeout lk) s fun t => RoundFails s t lk 1) ∧
  (∀ s lk, s.coreUp = true → lk < linkCount →
    (∀ q ∈ sidesOf lk, s.rd (.seif .STAT_STATE) q.1 q.2 = 0 ∨ 3 < s.rd (.seif .STAT_STATE) q.1 q.2) →
    exec (.roundTimeout lk) s = .next s)

/-- Commands to links and dies: RETRAIN takes a link down for a full round, HOLD holds it with cause 2, RELEASE ends that with no failed
round left, REJOIN powers the die and lets its links train; each is refused with its code (R207, R211, R212, R227, R234). Log entries
42, 124 say what in it is the model's choice or reading. -/
def Obligations.LinkCommands : Prop :=
  (∀ s u l, s.coreUp = true → okSide u l = true → s.tickLive = false → s.linkState (linkOf u l) ≠ 5 →
    Does (.seifRetrain u l) s fun t =>
      t.linkState (linkOf u l) = 0 ∧ t.rd (.seif .STAT_REFUSE) u l = 0 ∧
        ∀ q ∈ sidesOf (linkOf u l), t.rd (.seif .mustFull) q.1 q.2 = 1) ∧
  (∀ s u l, s.coreUp = true → okSide u l = true → s.tickLive = false → s.linkState (linkOf u l) = 5 →
    exec (.seifRetrain u l) s = .next (s.wr (.seif .STAT_REFUSE) u l 0)) ∧
  (∀ s u l, s.coreUp = true → okSide u l = true → s.tickLive = false →
    Does (.seifHold u l) s fun t =>
      t.linkState (linkOf u l) = 5 ∧ t.rd (.seif .STAT_REFUSE) u l = 0 ∧
        ∀ q ∈ sidesOf (linkOf u l), t.rd (.seif .STAT_HOLD) q.1 q.2 = 2) ∧
  (∀ s u l, s.coreUp = true → okSide u l = true → s.rd (.seif .STAT_STATE) u l = 5 →
    s.rd (.seif .STAT_HOLD) u l ≠ 3 → s.rd (.seif .STAT_HOLD) u l ≠ 4 →
    (∀ d ∈ endDies (linkOf u l), s.dieHere d = true ∨ s.rd (.seif .joining) 0 d = 1) →
    Does (.seifRelease u l) s fun t =>
      t.linkState (linkOf u l) = 0 ∧ t.rd (.seif .STAT_REFUSE) u l = 0 ∧
        ∀ q ∈ sidesOf (linkOf u l), t.rd (.seif .STAT_HOLD) q.1 q.2 = 0 ∧ t.rd (.seif .STAT_ROUNDS) q.1 q.2 = 0) ∧
  (∀ s u l, s.coreUp = true → okSide u l = true → s.tickLive = true →
    exec (.seifRetrain u l) s = .next (s.wr (.seif .STAT_REFUSE) u l 1) ∧
    exec (.seifHold u l) s = .next (s.wr (.seif .STAT_REFUSE) u l 1)) ∧
  (∀ s u l d, s.coreUp = true → okSide u l = true → s.rd (.seif .STAT_STATE) u l = 5 →
    s.rd (.seif .STAT_HOLD) u l ≠ 3 → s.rd (.seif .STAT_HOLD) u l ≠ 4 → d ∈ endDies (linkOf u l) → s.dieHere d = false →
    s.rd (.seif .joining) 0 d ≠ 1 →
    Does (.seifRelease u l) s fun t =>
      t.linkState (linkOf u l) = 5 ∧ t.rd (.seif .STAT_REFUSE) u l = 0 ∧
        ∀ q ∈ sidesOf (linkOf u l), t.rd (.seif .STAT_HOLD) q.1 q.2 = 3) ∧
  (∀ s u l, s.coreUp = true → okSide u l = true →
    (s.rd (.seif .STAT_STATE) u l ≠ 5 ∨ s.rd (.seif .STAT_HOLD) u l = 3 ∨ s.rd (.seif .STAT_HOLD) u l = 4) →
    exec (.seifRelease u l) s = .next (s.wr (.seif .STAT_REFUSE) u l 2)) ∧
  (∀ s d, s.booted = true → d < Config.n → s.rejoinCode d = 0 →
    Does (.rejoin d) s fun t =>
      t.rd (.mod .dieOn) 0 d = 1 ∧ t.rd (.seif .joining) 0 d = 1 ∧ t.rd (.seif .levelSet) = 0 ∧
        t.rd (.seif .DIE_REFUSE) 0 d = 0 ∧
        (s.linkState d = 5 → s.rd (.seif .STAT_HOLD) 0 d ≠ 2 → t.linkState d = 0)) ∧
  (∀ s d, s.booted = true → d < 8 → s.rejoinCode d ≠ 0 → exec (.rejoin d) s = .next (s.wr (.seif .DIE_REFUSE) 0 d (s.rejoinCode d)))

/-- Power: the budget moves by 10 W with the limiting, each die that is there gets a grant within its cap that the next message carries; a
request is a tenth above the measured average and at least what the image declares; a grant that arrives ends STALE, a stale one takes
the floor, and the throttle moves only towards the grant and within its range (R220, R221, R222, R223). Log entries 43, 44 say what in
it is the model's choice or reading. -/
def Obligations.PowerBudget : Prop :=
  (∀ s, s.coreUp = true →
    Does .budgetPeriod s fun t =>
      t.rd (.mod .BUDGET_A) = (if s.rd (.mod .STAT_LIMITING) = 1 then max (Config.n * 600) (s.rd (.mod .BUDGET_A) - 1000)
        else min 24000 (s.rd (.mod .BUDGET_A) + 1000)) % 65536 ∧
      (∀ d ∈ s.grantDies, t.rd (.mod .GRANT_GRANT) 0 d ≤ 100 * t.rd (.mod .GRANT_CAP) 0 d ∧
        t.rd (.mod .sentGrant) 0 d = t.rd (.mod .GRANT_GRANT) 0 d ∧ t.rd (.mod .sentHas) 0 d = 1) ∧
      ∀ d, d < Config.n → t.rd (.mod .GRANT_CAP) 0 d = thermalCap (s.rd (.mod .DPWR_TJ) (1 + d))) ∧
  (∀ s d avg, s.coreUp = true → d < Config.n → avg < 65536 → s.dieHere d = true → s.linkActive 0 d = true → 10 ∣ avg →
    exec (.diePowerRequest d avg) s =
      .next (s.wr (.mod .GRANT_REQ) 0 d (min 3000 (max (s.rd (.mod .declared) 0 d) (11 * avg / 10))))) ∧
  (∀ s d avg, s.coreUp = true → d < Config.n → avg < 65536 → s.dieHere d = true → s.linkActive 0 d = true →
    Does (.diePowerRequest d avg) s fun t =>
      t.rd (.mod .GRANT_REQ) 0 d ≤ 3000 ∧ (11 * avg ≤ 30000 → 11 * avg / 10 ≤ t.rd (.mod .GRANT_REQ) 0 d) ∧
        OnlyScalars [⟨.mod .GRANT_REQ, 0, d⟩] { s with free := t.free } t) ∧
  (∀ s d avg, s.coreUp = true → d < Config.n → avg < 65536 → (s.dieHere d = false ∨ s.linkActive 0 d = false) →
    exec (.diePowerRequest d avg) s = .next s ∧ exec (.dieGrant d) s = .next s) ∧
  (∀ s d, s.coreUp = true → d < Config.n → s.rd (.mod .sentHas) 0 d = 0 → exec (.dieGrant d) s = .next s) ∧
  (∀ s d power tj, s.coreUp = true → d < Config.n → power < 65536 → tj < 256 → s.dieHere d = false →
    exec (.diePowerMeasurement d power tj) s = .next ((s.wr (.mod .DPWR_POWER) (1 + d) 0 power).wr (.mod .DPWR_TJ) (1 + d) 0 tj) ∧
      exec (.grantStale d) s = .next s) ∧
  (∀ s d, s.coreUp = true → d < Config.n → s.dieHere d = true → s.linkActive 0 d = true → s.rd (.mod .sentHas) 0 d ≠ 0 →
    Does (.dieGrant d) s fun t =>
      t.rd (.mod .DGRANT_GRANT) (1 + d) = s.rd (.mod .sentGrant) 0 d % 65536 ∧ t.rd (.mod .sentHas) 0 d = 0 ∧
        t.rd (.mod .DPWR_STALE) (1 + d) = 0) ∧
  (∀ s d power tj, s.coreUp = true → d < Config.n → power < 65536 → tj < 256 → s.dieHere d = true → s.rd (.mod .DPWR_K) (1 + d) ≤ 16 →
    Does (.diePowerMeasurement d power tj) s fun t =>
      t.rd (.mod .DPWR_POWER) (1 + d) = power ∧ t.rd (.mod .DPWR_TJ) (1 + d) = tj ∧
        (s.rd (.mod .DGRANT_GRANT) (1 + d) < power → 4 < s.rd (.mod .DPWR_K) (1 + d) →
          4 ≤ t.rd (.mod .DPWR_K) (1 + d) ∧ t.rd (.mod .DPWR_K) (1 + d) < s.rd (.mod .DPWR_K) (1 + d)) ∧
        (s.rd (.mod .DGRANT_GRANT) (1 + d) < power → s.rd (.mod .DPWR_K) (1 + d) ≤ 4 → s.rd (.mod .DPWR_OVER) (1 + d) ≤ 1 →
          t.rd (.mod .DPWR_OVER) (1 + d) = 1) ∧
        (power < s.rd (.mod .DGRANT_GRANT) (1 + d) →
          s.rd (.mod .DPWR_K) (1 + d) ≤ t.rd (.mod .DPWR_K) (1 + d) ∧ t.rd (.mod .DPWR_K) (1 + d) ≤ 16) ∧
        (power = s.rd (.mod .DGRANT_GRANT) (1 + d) → t.rd (.mod .DPWR_K) (1 + d) = s.rd (.mod .DPWR_K) (1 + d))) ∧
  (∀ s d, s.coreUp = true → d < Config.n → s.dieHere d = true →
    Does (.grantStale d) s fun t =>
      t.rd (.mod .DGRANT_GRANT) (1 + d) = s.rd (.mod .BUDGET_FLOOR) % 65536 ∧ t.rd (.mod .DPWR_STALE) (1 + d) = 1)

/-- The grants of one period never exceed the budget that the period works with (R221). Log entry 43 says what in it is the model's choice
or reading. -/
def Obligations.GrantsWithinBudget : Prop :=
  ∀ s, s.coreUp = true →
    Does .budgetPeriod s fun t =>
      ((s.grantDies.map fun d => t.rd (.mod .GRANT_GRANT) 0 d).foldl (fun a g => a + g) 0) ≤ t.rd (.mod .BUDGET_A)

/-- The module stands PARKED: the standby rail is up, the core rails are down, and only what needs no core rail is there (R534, R550). -/
def Parked (t : State) : Prop :=
  t.rd (.mod .stby) = 1 ∧ t.rd (.mod .STAT_STATE) = 0 ∧ t.coreUp = false ∧ t.net = [] ∧ t.banks = [] ∧ t.dram = [] ∧ t.queues = []

/-- The standby rail has fallen: nothing runs. -/
def Unpowered (t : State) : Prop := t.rd (.mod .stby) = 0 ∧ t.coreUp = false ∧ t.net = [] ∧ t.banks = [] ∧ t.dram = []

/-- A grant that a PARKED module meets, with what the power managers find: the dies whose core rail fails, and the fuses (R153, R536). -/
def Granted (s : State) (failed : Nat) (fuses : List (Nat × Nat × Nat)) : Prop :=
  failed < 2 ^ Config.n ∧ (∀ x ∈ fuses, x.1 < Config.n ∧ x.2.1 < 513 ∧ x.2.2 < 4) ∧ s.rd (.mod .stby) = 1 ∧ s.rd (.mod .STAT_STATE) = 0

/-- The cold plate lies within the limits of its grade (R540). -/
def PlateGood (s : State) : Prop := hottest s.coldPlate ≤ 70 ∧ gradeMinimum ≤ coldest s.coldPlate

/-- Power-on: an insertion, an input that rises, a retry after a trip and a lever closed again lead to PARKED with the slot pins sampled,
where nothing keeps the stage open; an insertion counts the mate. The grant: with every rail good and the cold plate within its limits
the module runs, the time base at 0 and every die present but one whose core rail failed, which is isolated with cause 5, and a bank
whose repair fuses fail their parity FAILED; a cold plate out of its limits or a rail that fails leaves the module PARKED with its
flag, and a module that is not PARKED takes no grant (R452, R531, R533, R534, R538, R545, R153, R224, R536, R540, R551). Log entry 101
says what in it is the model's choice or reading. -/
def Obligations.ModuleStarts : Prop :=
  (∀ s pins vin, pins < 2 ^ 11 → 3500 < vin → vin < 2 ^ 16 →
    Does (.insertion pins vin) s fun t =>
      Parked t ∧ t.rd (.mod .mated) = 1 ∧ t.rd (.mod .VIN_VIN) = vin ∧
        t.rd (.od .NODE_VALID) = b2n (decide (1 ≤ pins % 128) && onesOf 11 pins % 2 == 0) ∧
        t.rd (.mod .LIFE_CNT_MATES) = satInc 12 (s.rd (.mod .stored) 0 3 % 4096) ∧ t.pending = s.pending ∧ t.out = s.out) ∧
  (∀ s pins vin, pins < 2 ^ 11 → vin ≤ 3500 → Does (.insertion pins vin) s fun t => Unpowered t ∧ t.rd (.mod .mated) = 1) ∧
  (∀ s pins vin fell, pins < 2 ^ 11 → 3500 < vin → vin < 2 ^ 16 → s.rd (.mod .stby) = 0 → s.rd (.mod .mated) = 1 →
    (fell = true ∨ s.rd (.mod .latchedOpen) = 0) → s.rd (.mod .leverOut) = 0 →
    Does (.inputTurnOn pins vin fell) s fun t => Parked t ∧ t.rd (.mod .VIN_VIN) = vin) ∧
  (∀ s pins vin, pins < 2 ^ 11 → 3500 < vin → vin < 2 ^ 16 → s.rd (.mod .latchedOpen) = 1 →
    exec (.inputTurnOn pins vin false) s = .next s) ∧
  (∀ s pins vin fell, pins < 2 ^ 11 → 3500 < vin → vin < 2 ^ 16 →
    (s.rd (.mod .stby) = 1 ∨ s.rd (.mod .mated) = 0 ∨ s.rd (.mod .leverOut) = 1) →
    exec (.inputTurnOn pins vin fell) s = .next (if fell then s.wr (.mod .latchedOpen) 0 0 0 else s)) ∧
  (∀ s pins, pins < 2 ^ 11 → s.rd (.mod .tripWait) = 1 → s.rd (.mod .latchedOpen) = 0 → s.rd (.mod .mated) = 1 →
    Does (.tripRetry pins) s fun t => Parked t ∧ t.rd (.mod .tripWait) = 0) ∧
  (∀ s pins, pins < 2 ^ 11 → (s.rd (.mod .latchedOpen) ≠ 0 ∨ s.rd (.mod .tripWait) ≠ 1 ∨ s.rd (.mod .mated) ≠ 1) →
    exec (.tripRetry pins) s = .next s) ∧
  (∀ s pins, pins < 2 ^ 11 → s.rd (.mod .leverOut) = 1 → s.rd (.mod .mated) = 1 → s.rd (.mod .stby) = 0 →
    Does (.leverReclosed pins) s fun t => Parked t ∧ t.rd (.mod .STAT_LEVER) = 1 ∧ t.rd (.mod .leverOut) = 0) ∧
  (∀ s pins, pins < 2 ^ 11 → (s.rd (.mod .leverOut) ≠ 1 ∨ s.rd (.mod .mated) ≠ 1 ∨ s.rd (.mod .stby) ≠ 0) →
    exec (.leverReclosed pins) s = .next (s.wr (.mod .STAT_LEVER) 0 0 1)) ∧
  (∀ s failed fuses, Granted s failed fuses → PlateGood s → (∀ d, d < Config.n → s.rd (.seif .joining) 0 d = 0) →
    Does (.grant true failed fuses) s fun t =>
      t.coreUp = true ∧ t.rd (.mod .STAT_STATE) = 2 ∧ t.time = 0 ∧ t.rd (.mod .STAT_EJSRC) = 0 ∧ t.rd (.mod .STAT_GRANT) = 1 ∧
        (∀ d, d < Config.n → failed.testBit d = false → t.rd (.mod .dieOn) 0 d = 1 ∧ t.dieHere d = true) ∧
        (∀ d, d < Config.n → failed.testBit d = true → t.rd (.seif .DIE_STATE) 0 d = 4 ∧ t.rd (.seif .DIE_CAUSE) 0 d = 5)) ∧
  (∀ s fuses, Granted s 0 fuses → PlateGood s →
    Does (.grant true 0 fuses) s fun t =>
      ∀ x ∈ fuses, x.2.1 < 512 → x.2.2 = 3 → t.rd (.bank .STAT_FAILED) (1 + x.1) x.2.1 = 1) ∧
  (∀ s good failed fuses, Granted s failed fuses → ¬PlateGood s →
    Does (.grant good failed fuses) s fun t =>
      t.rd (.mod .STAT_STATE) = 0 ∧ (70 < hottest s.coldPlate → t.rd (.mod .STAT_HOT) = 1) ∧
        (coldest s.coldPlate < gradeMinimum → t.rd (.mod .STAT_COLD) = 1) ∧ t.coreUp = s.coreUp) ∧
  (∀ s failed fuses, Granted s failed fuses → PlateGood s →
    Does (.grant false failed fuses) s fun t =>
      t.rd (.mod .STAT_STATE) = 0 ∧ t.rd (.mod .STAT_RAILFAIL) = 1 ∧ t.coreUp = s.coreUp) ∧
  (∀ s good failed fuses, failed < 2 ^ Config.n → (∀ x ∈ fuses, x.1 < Config.n ∧ x.2.1 < 513 ∧ x.2.2 < 4) →
    (s.rd (.mod .stby) = 0 ∨ s.rd (.mod .STAT_STATE) ≠ 0) → exec (.grant good failed fuses) s = .next s)

/-- Removal: the lever and a withdrawn grant run the eject sequence, after which the stage is open or the module PARKED; an input that
fails, a lost mate and a trip power it down and are remembered; each is counted in the life record's store, and the third trip within
60 s latches the stage open (R533, R537, R538, R539, R545). Log entries 99, 100 say what in it is the model's choice or reading. -/
def Obligations.ModuleRemoval : Prop :=
  (∀ s, s.rd (.mod .stby) = 1 →
    Does .ejectLever s fun t =>
      Unpowered t ∧ t.rd (.mod .STAT_LEVER) = 0 ∧ t.rd (.mod .leverOut) = 1 ∧
        t.rd (.mod .stored) 0 6 = satInc 16 (s.rd (.mod .LIFE_CYC_EJECTS)) % 65536) ∧
  (∀ s, s.rd (.mod .stby) = 1 → s.rd (.mod .STAT_STATE) = 2 →
    Does .grantWithdrawn s fun t =>
      Parked t ∧ t.rd (.mod .STAT_GRANT) = 0 ∧ t.rd (.mod .STAT_EJSRC) = 2 ∧
        t.rd (.mod .LIFE_CYC_EJECTS) = satInc 16 (s.rd (.mod .LIFE_CYC_EJECTS)) % 65536) ∧
  (∀ s, (s.rd (.mod .STAT_STATE) ≠ 2 ∨ s.rd (.mod .stby) = 0) → exec .grantWithdrawn s = .next (s.wr (.mod .STAT_GRANT) 0 0 0)) ∧
  (∀ s, s.rd (.mod .stby) = 1 →
    Does .inputFailure s fun t =>
      Unpowered t ∧ t.rd (.mod .lastPf) = 1 ∧ t.rd (.mod .stored) 0 7 = satInc 16 (s.rd (.mod .LIFE_CYC_PFAIL)) % 65536) ∧
  (∀ s, s.rd (.mod .stby) = 1 → s.rd (.mod .STAT_STATE) ≠ 0 →
    Does .mateLost s fun t =>
      Unpowered t ∧ t.rd (.mod .mated) = 0 ∧ t.rd (.mod .stored) 0 7 = satInc 16 (s.rd (.mod .LIFE_CYC_PFAIL)) % 65536) ∧
  (∀ s, (s.rd (.mod .STAT_STATE) = 0 ∨ s.rd (.mod .stby) = 0) → exec .mateLost s = .next (s.wr (.mod .mated) 0 0 0)) ∧
  (∀ s ms, ms < 2 ^ 80 → s.rd (.mod .stby) = 0 →
    exec .ejectLever s = .next (s.wr (.mod .STAT_LEVER) 0 0 0) ∧ exec .inputFailure s = .next s ∧
      exec (.hotSwapTrip ms) s = .next s) ∧
  (∀ s ms, ms < 2 ^ 80 → s.rd (.mod .stby) = 1 →
    Does (.hotSwapTrip ms) s fun t =>
      Unpowered t ∧ t.rd (.mod .lastTrip) = 1 ∧
        (if s.rd (.mod .tripHas) 0 1 = 1 ∧ ms ≤ s.rd (.mod .tripAt) 0 1 + 60000 then t.rd (.mod .latchedOpen) = 1
          else t.rd (.mod .tripWait) = 1))

/-- The input, the cold plate and the life: limiting follows the current and is remembered; a limit of the cold plate sets its flag; a
second adds its equivalent hours, CONSUMED follows EQH and the powered hours count; the record is written as it stands (R533, R540,
R545, R547). Log entry 98 says what in it is the model's choice or reading. -/
def Obligations.ModuleUpkeep : Prop :=
  (∀ s vin iin pin, vin < 65536 → iin < 65536 → pin < 65536 → s.rd (.mod .stby) = 1 →
    Does (.inputCurrentLimiting vin iin pin) s fun t =>
      t.rd (.mod .VIN_VIN) = vin ∧ t.rd (.mod .VIN_IIN) = iin ∧ t.rd (.mod .VIN_PIN) = pin ∧
        t.rd (.mod .STAT_LIMITING) = (if 9000 ≤ iin then 1 else 0) ∧ (9000 ≤ iin → t.rd (.mod .STAT_LIMIT_SEEN) = 1) ∧
        (iin < 9000 → t.rd (.mod .STAT_LIMIT_SEEN) = s.rd (.mod .STAT_LIMIT_SEEN))) ∧
  (∀ s tcp, tcp < 2 ^ 32 → s.rd (.mod .stby) = 1 →
    Does (.coldPlateLimit tcp) s fun t =>
      t.rd (.mod .TEMP_TCP) = tcp ∧
        t.rd (.mod .STAT_HOT) = (if 70 < hottest t.coldPlate then 1 else s.rd (.mod .STAT_HOT)) ∧
        t.rd (.mod .STAT_COLD) = (if coldest t.coldPlate < gradeMinimum then 1 else s.rd (.mod .STAT_COLD)) ∧
        t.rd (.mod .STAT_GRAD) = (if 8 < hottest t.coldPlate - coldest t.coldPlate then 1 else s.rd (.mod .STAT_GRAD)) ∧
        toSigned 8 (t.rd (.mod .TEMP_HOTTEST)) = hottest t.coldPlate) ∧
  (∀ s tcp, tcp < 2 ^ 32 → s.rd (.mod .stby) = 1 →
    Does (.lifeAccounting tcp) s fun t =>
      t.rd (.mod .TEMP_TCP) = tcp ∧
        t.rd (.mod .LIFE_EQ_EQH) = satAdd 32 (s.rd (.mod .LIFE_EQ_EQH))
          ((s.rd (.mod .eqFrac) + acceleration (hottest t.coldPlate)) / (360 * 2 ^ 40)) ∧
        t.rd (.mod .LIFE_EQ_CONSUMED) = consumedOf (t.rd (.mod .LIFE_EQ_EQH)) ∧
        (s.rd (.mod .pwrSec) + 1 < 3600 →
          t.rd (.mod .pwrSec) = s.rd (.mod .pwrSec) + 1 ∧ t.rd (.mod .LIFE_CNT_PWRH) = s.rd (.mod .LIFE_CNT_PWRH)) ∧
        (3600 ≤ s.rd (.mod .pwrSec) + 1 → t.rd (.mod .pwrSec) = 0 ∧
          t.rd (.mod .LIFE_CNT_PWRH) = satInc 24 (s.rd (.mod .LIFE_CNT_PWRH)) % 2 ^ 24)) ∧
  (∀ s, s.rd (.mod .stby) = 1 →
    Does .lifeRecordWrite s fun t =>
      ∀ i, i < 13 → t.rd (.mod .stored) 0 i = s.rd (.mod (lifeFields.getD i .eqFrac)) % 2 ^ 50) ∧
  (∀ s vin iin pin, vin < 65536 → iin < 65536 → pin < 65536 → s.rd (.mod .stby) = 0 →
    exec (.inputCurrentLimiting vin iin pin) s = .next s) ∧
  (∀ s tcp, tcp < 2 ^ 32 → s.rd (.mod .stby) = 0 →
    exec (.coldPlateLimit tcp) s = .next s ∧ exec (.lifeAccounting tcp) s = .next s ∧ exec .lifeRecordWrite s = .next s)

/-- The debug level and the Oasis: dropping the level or its end leaves 0 and every comparator disarmed; a wipe empties the Oasis and
denies it until it ends; a completed seal holds the whole Oasis; a PUT that passes its checks stores its words and leaves every other
one, and one whose tag fails stores none (R438, R441, R442, R443, R509). Log entries 35, 73, 74 say what in it is the model's choice
or reading. -/
def Obligations.OasisAndLevel : Prop :=
  (∀ s, s.booted = true →
    Does .dropDebug s fun t =>
      t.rd (.sec .STAT_DBG_LEVEL) = 0 ∧ t.rd (.sec .STAT_DBG_CONSUME) = 0 ∧
        ∀ d c, d < Config.n → c < 8 → t.rd (.dbg .CMP_CFG_SRC) (1 + d) c = 0) ∧
  (∀ s powered, s.coreUp = true → (powered || s.grantOver) = true →
    Does (.debugGrantTimeout powered) s fun t =>
      t.rd (.sec .STAT_DBG_LEVEL) = 0 ∧ ∀ d c, d < Config.n → c < 8 → t.rd (.dbg .CMP_CFG_SRC) (1 + d) c = 0) ∧
  (∀ s, s.coreUp = true → s.grantOver = false → exec (.debugGrantTimeout false) s = .next s) ∧
  (∀ s, s.booted = true →
    Does .wipeOasis s fun t =>
      t.oasis = [] ∧ t.rd (.sec .STAT_OASIS_BUSY) = 1 ∧
        OnlyScalars [⟨.sec .STAT_OASIS_BUSY, 0, 0⟩, ⟨.sec .lateOasis, 0, 0⟩] { s with oasis := [] } t) ∧
  (∀ s, s.coreUp = true → s.rd (.sec .STAT_OASIS_BUSY) ≠ 0 →
    Does .oasisWipeDone s fun t =>
      t.oasis = [] ∧ t.rd (.sec .STAT_OASIS_BUSY) = 0 ∧ OnlyScalars [⟨.sec .STAT_OASIS_BUSY, 0, 0⟩] { s with oasis := [] } t) ∧
  (∀ s, s.coreUp = true → s.rd (.sec .STAT_OASIS_BUSY) = 0 → exec .oasisWipeDone s = .next s) ∧
  (∀ s, s.booted = true → s.rd (.sec .kill) = 1 → exec .seal s = .next s) ∧
  (∀ s, s.booted = true → s.rd (.sec .lateOasis) = 0 → exec .sealComplete s = .next s) ∧
  (∀ s, s.booted = true → s.rd (.sec .kill) ≠ 1 → exec .seal s = .next (s.wr (.sec .lateOasis) 0 0 1)) ∧
  (∀ s, s.booted = true → s.rd (.sec .lateOasis) ≠ 0 →
    Does .sealComplete s fun t =>
      t.sealedOasis = s.oasis ∧ t.oasis = s.oasis ∧ t.rd (.sec .STAT_OASIS_SEALED) = 1 ∧
        OnlyScalars [⟨.sec .STAT_OASIS_SEALED, 0, 0⟩, ⟨.sec .lateOasis, 0, 0⟩] { s with sealedOasis := t.sealedOasis } t) ∧
  (∀ s l v, s.booted = true → areBytes l = true → l.length = 36 + 6 * fromBe ((l.drop 16).take 4) →
    fromBe ((l.drop 12).take 4) + fromBe ((l.drop 16).take 4) ≤ oasisWords → (s.lc = 2 ∨ s.lc = 3) → s.slotUsable 15 = true →
    v.tags.headD false = true → s.rd (.sec .STAT_OASIS_BUSY) ≠ 1 →
    Does (.oasisPut l v) s fun t =>
      (∀ i, i < fromBe ((l.drop 16).take 4) →
        Sparse.get (fun _ => 0) t.oasis (fromBe ((l.drop 12).take 4) + i) = encodeRow (v.plain.getD i 0)) ∧
      (∀ k, (∀ i, i < fromBe ((l.drop 16).take 4) → k ≠ fromBe ((l.drop 12).take 4) + i) →
        Sparse.get (fun _ => 0) t.oasis k = Sparse.get (fun _ => 0) s.oasis k) ∧
      t.rd (.sec .CMDSTAT_RESULT) = 0 ∧ OnlyScalars [⟨.sec .CMDSTAT_RESULT, 0, 0⟩] { s with oasis := t.oasis } t) ∧
  (∀ s l v, s.booted = true → areBytes l = true → l.length = 36 + 6 * fromBe ((l.drop 16).take 4) →
    fromBe ((l.drop 12).take 4) + fromBe ((l.drop 16).take 4) ≤ oasisWords → (s.lc = 2 ∨ s.lc = 3) → s.slotUsable 15 = true →
    v.tags.headD false = false → exec (.oasisPut l v) s = .next (s.wr (.sec .CMDSTAT_RESULT) 0 0 12)) ∧
  (∀ s l v, s.booted = true → areBytes l = true →
    (l.length ≠ 36 + 6 * fromBe ((l.drop 16).take 4) ∨ oasisWords < fromBe ((l.drop 12).take 4) + fromBe ((l.drop 16).take 4)) →
    exec (.oasisPut l v) s = .next (s.wr (.sec .CMDSTAT_RESULT) 0 0 2)) ∧
  (∀ s l v, s.booted = true → areBytes l = true → l.length = 36 + 6 * fromBe ((l.drop 16).take 4) →
    fromBe ((l.drop 12).take 4) + fromBe ((l.drop 16).take 4) ≤ oasisWords → ((s.lc ≠ 2 ∧ s.lc ≠ 3) ∨ s.slotUsable 15 = false) →
    exec (.oasisPut l v) s = .next (s.wr (.sec .CMDSTAT_RESULT) 0 0 5)) ∧
  (∀ s l v, s.booted = true → areBytes l = true → l.length = 36 + 6 * fromBe ((l.drop 16).take 4) →
    fromBe ((l.drop 12).take 4) + fromBe ((l.drop 16).take 4) ≤ oasisWords → (s.lc = 2 ∨ s.lc = 3) → s.slotUsable 15 = true →
    v.tags.headD false = true → s.rd (.sec .STAT_OASIS_BUSY) = 1 →
    exec (.oasisPut l v) s = .next (s.wr (.sec .CMDSTAT_RESULT) 0 0 0))

/-- A signed command's bytes `l` with the verdict `v` on them pass every check of R433. -/
def Accepts (s : State) (code : Nat) (l : List Nat) (v : Verdict) : Prop :=
  s.booted = true ∧ areBytes l = true ∧ l.getD 5 0 = code ∧ s.commandCode l v = 0

/-- The payload of a signed command (R430). -/
def payloadOf (l : List Nat) : List Nat := (l.drop 36).take (fromBe ((l.drop 32).take 4))

/-- A transition leads to its state, empties the Oasis and its sealed copy, drops the debug level and counts the command. -/
def Transits (c : Instr) (s : State) (st : Nat) (P : State → Prop) : Prop :=
  Does c s fun t =>
    t.lc = st ∧ t.oasis = [] ∧ t.sealedOasis = [] ∧ t.rd (.sec .STAT_DBG_LEVEL) = 0 ∧ t.rd (.sec .CMDSTAT_RESULT) = 0 ∧
      t.secCnt 3 = (s.secCnt 3 + 1) % 2 ^ 32 ∧ P t

/-- Signed commands: a transition of the life cycle leads to the state of its row and does to slots and counters what the row says;
KEYSET, SVN_SET and REVOKE_ROOT change their one slot, counter or bit; a command that a check refuses leaves its code and changes
nothing else (R424, R430, R431, R432, R433). Log entries 71, 72 say what in it is the model's choice or reading. -/
def Obligations.SignedCommands : Prop :=
  (∀ s l v, Accepts s 1 l v → Transits (.provision l v) s 1 fun t =>
    t.slotUsable 2 = v.usable.testBit 2 ∧ t.rd (.sec .STAT_CREDIT) = 64 ∧ t.certificate = (payloadOf l).drop publicBytes) ∧
  (∀ s l v, Accepts s 2 l v → Transits (.claim l v) s 2 fun t =>
    (∀ i, i < 7 → t.slotUsable (4 + i) = v.usable.testBit (4 + i)) ∧ ∀ i, i < 4 → t.slotUsable (12 + i) = true) ∧
  (∀ s l v, Accepts s 3 l v → Transits (.deploy l v) s 3 fun t => t.keySlots = s.keySlots) ∧
  (∀ s l v, Accepts s 4 l v → Transits (.maintain l v) s 2 fun t => t.keySlots = s.keySlots) ∧
  (∀ s l v, Accepts s 5 l v → Transits (.rma l v) s 4 fun t => ∀ i, i < 4 → t.slotUsable (12 + i) = false) ∧
  (∀ s l v, Accepts s 6 l v → Transits (.refurbish l v) s 1 fun t =>
    (∀ i, i < 7 → t.slotUsable (4 + i) = false) ∧ (∀ i, i < 4 → t.slotUsable (12 + i) = false) ∧ t.secCnt 1 = 0 ∧ t.secCnt 2 = 0) ∧
  (∀ s l v, Accepts s 7 l v → Transits (.decommission l v) s 5 fun t =>
    t.rd (.sec .kill) = 1 ∧ t.slotUsable 2 = false ∧ (∀ i, i < 7 → t.slotUsable (4 + i) = false) ∧
      (∀ i, i < 4 → t.slotUsable (12 + i) = false) ∧ t.certificate = []) ∧
  (∀ s l v, Accepts s 16 l v →
    Does (.keyset l v) s fun t =>
      t.slotUsable ((payloadOf l).headD 0) =
        (if ownerPublic ((payloadOf l).headD 0) then v.usable.testBit ((payloadOf l).headD 0) else true) ∧
      t.lc = s.lc ∧ t.oasis = s.oasis ∧ (∀ k, k ≠ (payloadOf l).headD 0 → t.slotUsable k = s.slotUsable k ∨ 16 ≤ k)) ∧
  (∀ s l v, Accepts s 17 l v →
    Does (.svnSet l v) s fun t =>
      t.secCnt ((payloadOf l).headD 0) = fromBe ((payloadOf l).drop 1) ∧ t.lc = s.lc ∧ t.keySlots = s.keySlots ∧ t.oasis = s.oasis) ∧
  (∀ s l v, Accepts s 18 l v →
    Does (.revokeRoot l v) s fun t =>
      (t.rd (.sec .KEYS_REVOKED)).testBit ((payloadOf l).headD 0) = true ∧ t.lc = s.lc ∧ t.keySlots = s.keySlots) ∧
  (∀ s c l v, s.booted = true → areBytes l = true → s.commandCode l v = c → c ≠ 0 →
    ∀ x ∈ [(1, Instr.provision l v), (2, .claim l v), (3, .deploy l v), (4, .maintain l v), (5, .rma l v), (6, .refurbish l v),
      (7, .decommission l v), (16, .keyset l v), (17, .svnSet l v), (18, .revokeRoot l v)],
      l.getD 5 0 = x.1 → exec x.2 s = .next ((s.wr (.sec .CMDSTAT_RESULT) 0 0 c).wr (.sec .CMDSTAT_CODE) 0 0 x.1))

/-- Versions, tokens and reports: COMMIT raises FW_SVN to the running version; a sound package lies pending in the other copy, an older or
badly signed one does not; an accepted token grants its level and any other leaves 0; a report carries its body, spends one credit and
one key, and a refused one spends none; the credit accrues to 64 (R428, R434, R435, R437, R439, R440). Log entries 69, 72, 75 say what
in it is the model's choice or reading. -/
def Obligations.FirmwareAndReports : Prop :=
  (∀ s, s.booted = true →
    Does .commit s fun t =>
      t.secCnt 0 = max (s.secCnt 0) (s.rd (.sec .fwSvn) 0 (s.rd (.sec .FW_COPY))) % 2 ^ 32) ∧
  (∀ s, s.booted = true → s.imageActive = true →
    Does .commit s fun t =>
      t.secCnt 1 = max (s.secCnt 1) (s.rd (.cfg .actSvn)) % 2 ^ 32 ∧
        OnlyScalars [⟨.sec .CNT_VALUE, 0, 0⟩, ⟨.sec .CNT_VALUE, 0, 1⟩] s t) ∧
  (∀ s, s.booted = true → s.imageActive = false →
    Does .commit s fun t => OnlyScalars [⟨.sec .CNT_VALUE, 0, 0⟩] s t) ∧
  (∀ s l v, s.served = true → areBytes l = true → packageForm l = true → s.secCnt 0 ≤ bytesAt l 8 4 → s.slotUsable s.rootSlot = true →
    v.ecdsa = true → v.hss = true → s.rd (.sec .active) < 2 →
    Does (.firmwarePackage l v) s fun t =>
      t.rd (.sec .FW_PENDING) = 1 ∧ t.rd (.sec .FW_OTHER_OK) = 1 ∧ t.rd (.sec .CMDSTAT_RESULT) = 0 ∧
        t.rd (.sec .fwSvn) 0 (1 - s.rd (.sec .active)) = bytesAt l 8 4 ∧
        (if s.rd (.sec .active) = 0 then t.copyB = l ∧ t.copyA = s.copyA else t.copyA = l ∧ t.copyB = s.copyB)) ∧
  (∀ s l v, s.served = true → areBytes l = true → packageForm l = true → bytesAt l 8 4 < s.secCnt 0 →
    exec (.firmwarePackage l v) s = .next (s.wr (.sec .CMDSTAT_RESULT) 0 0 10)) ∧
  (∀ s l v, s.served = true → areBytes l = true → packageForm l = true → s.secCnt 0 ≤ bytesAt l 8 4 →
    ((v.ecdsa && v.hss) = false ∨ s.slotUsable s.rootSlot = false) →
    Does (.firmwarePackage l v) s fun t => t.rd (.sec .FW_PENDING) = 0 ∧ t.rd (.sec .CMDSTAT_RESULT) = 6) ∧
  (∀ s l v, s.served = true → areBytes l = true → packageForm l = false →
    Does (.firmwarePackage l v) s fun t => t.rd (.sec .FW_PENDING) = 0 ∧ t.rd (.sec .CMDSTAT_RESULT) = 2) ∧
  (∀ s l v, s.booted = true → areBytes l = true → s.tokenOk l v = true →
    Does (.debugToken l v) s fun t =>
      t.rd (.sec .STAT_DBG_LEVEL) = l.getD 5 0 ∧ t.rd (.sec .tokLo) = bytesAt l 24 8 ∧ t.rd (.sec .tokHi) = bytesAt l 32 8 ∧
        t.rd (.sec .tokCount) = 0) ∧
  (∀ s l v, s.booted = true → areBytes l = true → s.tokenOk l v = false →
    Does (.debugToken l v) s fun t => t.rd (.sec .STAT_DBG_LEVEL) = 0) ∧
  (∀ s nonce, s.booted = true → areBytes nonce = true → nonce.length = 32 → s.reportRefusal = 0 →
    Does (.attestationNonce nonce) s fun t =>
      (∃ sig, t.report = s.reportBody nonce ++ sig ∧ sig.length = 5172) ∧ t.out = s.out ++ [⟨.report, 0, t.report⟩] ∧
        t.secCnt 4 = s.secCnt 4 + 1 ∧ t.rd (.sec .STAT_CREDIT) = (s.rd (.sec .STAT_CREDIT) - 1) % 128 ∧ t.rd (.sec .STAT_ATT) = 0) ∧
  (∀ s nonce, s.booted = true → areBytes nonce = true → nonce.length = 32 → s.reportRefusal ≠ 0 →
    exec (.attestationNonce nonce) s = .next (s.wr (.sec .STAT_ATT) 0 0 s.reportRefusal)) ∧
  (∀ s, s.rd (.mod .stby) = 0 → exec .creditAccrual s = .next s) ∧
  (∀ s, s.rd (.mod .stby) ≠ 0 →
    exec .creditAccrual s = .next (s.wr (.sec .STAT_CREDIT) 0 0 (min 64 (s.rd (.sec .STAT_CREDIT) + 1))))

/-- Tamper and secure boot: a trip that is served wipes the Oasis and its sealed copy, drops the debug level, is latched and counted,
takes the active image away and, in class 2, the secret slots; before boot it is only latched. A part whose copy verifies boots from
it; one where none does serves recovery (R426, R427, R443, R444, R447, R550, R551). Log entries 68, 76, 102 say what in it is the
model's choice or reading. -/
def Obligations.TamperAndBoot : Prop :=
  (∀ s k present, 1 ≤ k → k ≤ 8 → present < 256 → s.rd (.mod .stby) ≠ 0 → s.served = true →
    Does (.tamperEvent k present) s fun t =>
      t.oasis = [] ∧ t.sealedOasis = [] ∧ t.rd (.sec .STAT_DBG_LEVEL) = 0 ∧ (t.rd (.sec .TAMPER_LATCHED)).testBit (k - 1) = true ∧
        t.rd (.sec .TAMPER_ACTIVE) = present ∧ t.rd (.sec .TLOG_SENSOR) = k ∧
        t.rd (.sec .TAMPER_EVENTS) = satInc 24 (s.rd (.sec .TAMPER_EVENTS)) % 2 ^ 24 ∧
        (s.imageActive = true → t.tick = 0 ∧ t.rd (.cfg .STAT_ACTIVE) = 0) ∧
        (class2 k = true → (∀ i, i < 4 → t.slotUsable (12 + i) = false) ∧ (s.lc = 2 ∨ s.lc = 3 → t.lc = 4)) ∧
        (class2 k = false → t.lc = s.lc)) ∧
  (∀ s k present, 1 ≤ k → k ≤ 8 → present < 256 → s.rd (.mod .stby) ≠ 0 → s.served = false →
    Does (.tamperEvent k present) s fun t =>
      (t.rd (.sec .TAMPER_LATCHED)).testBit (k - 1) = true ∧ (t.rd (.sec .tamperWait)).testBit (k - 1) = true ∧
        t.oasis = s.oasis ∧ t.sealedOasis = s.sealedOasis ∧ t.lc = s.lc) ∧
  (∀ s k present, 1 ≤ k → k ≤ 8 → present < 256 → s.rd (.mod .stby) = 0 → exec (.tamperEvent k present) s = .next s) ∧
  (∀ s roots okA okB present sealOk link j, s.coreUp = true → roots < 4 → present < 256 → s.rd (.od .up) ≠ 1 →
    s.rd (.sec .STAT_RECOVERY) = 0 → j < 2 →
    (s.wr (.sec .KEYS_PRESENT) 0 0 (s.rd (.sec .KEYS_PRESENT) / 4 * 4 + roots)).bootCopy okA okB = some j →
    Does (.secureBoot true roots okA okB present sealOk link) s fun t =>
      t.booted = true ∧ t.rd (.sec .FW_COPY) = j ∧ t.rd (.od .NODE_NMT) = 127 ∧ t.rd (.od .ETH_LINK) = b2n link ∧
        t.rd (.sec .STAT_OASIS_BUSY) = 0 ∧ t.rd (.sec .TAMPER_ACTIVE) = present ∧ (present ≠ 0 → t.oasis = [] ∧ t.sealedOasis = []) ∧
        (s.rd (.sec .tamperWait) = 0 → present = 0 → s.rd (.sec .STAT_OASIS_SEALED) = 1 →
          if sealOk then t.oasis = s.sealedOasis else t.sealedOasis = [] ∧ t.rd (.sec .STAT_OASIS_SEALED) = 0)) ∧
  (∀ s roots okA okB present sealOk link fuses, s.coreUp = true → roots < 4 → present < 256 → s.rd (.od .up) ≠ 1 →
    (fuses = false ∨ (s.wr (.sec .KEYS_PRESENT) 0 0 (s.rd (.sec .KEYS_PRESENT) / 4 * 4 + roots)).bootCopy okA okB = none) →
    Does (.secureBoot fuses roots okA okB present sealOk link) s fun t =>
      t.served = true ∧ t.booted = false ∧ t.rd (.sec .STAT_RECOVERY) = 1 ∧ (0x6010, 1) ∈ t.conditions) ∧
  (∀ s fuses roots okA okB present sealOk link, s.coreUp = true → roots < 4 → present < 256 → s.rd (.od .up) = 1 →
    exec (.secureBoot fuses roots okA okB present sealOk link) s = .next s)

/-- The dictionary has been initialised: every communication object at its default, no session, nothing held, Pre-operational; the objects
from 0x2000 on and those of the fabric are as they were, and the boot-up message is out on every controller that may send. -/
def Initialised (s t : State) : Prop :=
  t.nmt = 127 ∧ t.sessions = [] ∧ t.rpdoHeld = [] ∧ t.odGet 0x1017 0 = 100 ∧ t.odGet 0x1014 0 = 0x80 + s.nodeId ∧
    (∀ c, c < 2 → s.canTalks c = true → (⟨.bootUp, c, [s.nodeId]⟩ : Out) ∈ t.out) ∧
    (∀ k, odKey 0x2000 0 ≤ k → Sparse.get (fun _ => 0) t.odVals k = Sparse.get (fun _ => 0) s.odVals k) ∧
    t.fobjs = s.fobjs ∧ t.fvals = s.fvals ∧ t.regs.filter (fun e => e.1.f == .tick .NUMBER) = s.regs.filter (fun e => e.1.f == .tick .NUMBER)

/-- Network management: a command for this device sets its state or resets its communication, one for another node does nothing; UDP
brings the same commands. The heartbeat goes out, one that arrives arms its consumers and ends their condition, and one that is missed
raises 0x8130 with the actions of 0x1029:01 and 0x2400:10 (R388, R458, R459, R460, R473, R478). Log entries 65, 81 say what in it is
the model's choice or reading. -/
def Obligations.NetworkManagement : Prop :=
  (∀ s c node, c < 2 → node < 128 → s.served = true → s.nmtFor c node = true →
    exec (.nmtStart c node) s = .next (s.wr (.od .NODE_NMT) 0 0 5) ∧ exec (.nmtStop c node) s = .next (s.wr (.od .NODE_NMT) 0 0 4) ∧
      exec (.nmtEnterPreOperational c node) s = .next (s.wr (.od .NODE_NMT) 0 0 127)) ∧
  (∀ s c node, c < 2 → node < 128 → s.served = true → s.nmtFor c node = true →
    Does (.nmtResetCommunication c node) s fun t => Initialised s t) ∧
  (∀ s c node, c < 2 → node < 128 → s.served = true → s.nmtFor c node = true → s.tickLive = true →
    Does (.nmtResetNode c node) s fun t =>
      Initialised s t ∧ t.rd (.cfg .STAT_ACTIVE) = s.rd (.cfg .STAT_ACTIVE) ∧
        ∃ e, t.emcyHistory.head? = some e ∧ e.code = 0x6010 ∧ e.event = 2) ∧
  (∀ s c node, c < 2 → node < 128 → s.served = true → s.nmtFor c node = true → s.tickLive = false → s.loading = false →
    Does (.nmtResetNode c node) s fun t => t.nmt = 127 ∧ t.sessions = [] ∧ t.rd (.cfg .STAT_ACTIVE) = 0 ∧ t.fobjs = []) ∧
  (∀ s c node, c < 2 → node < 128 → s.served = true → s.nmtFor c node = true → s.tickLive = false → s.loading = true →
    Does (.nmtResetNode c node) s fun t => Initialised s t ∧ t.rd (.cfg .STAT_STATE) = s.rd (.cfg .STAT_STATE)) ∧
  (∀ s c node, c < 2 → node < 128 → s.served = true → s.nmtFor c node = false →
    ∀ i ∈ [Instr.nmtStart c node, .nmtStop c node, .nmtEnterPreOperational c node, .nmtResetCommunication c node, .nmtResetNode c node],
      exec i s = .next s) ∧
  (∀ s c node, c < 2 → node < 128 → s.served = true → s.nmtFor 2 node = true → s.nmtFor c node = true →
    exec (.udpNmt 0x01 node) s = exec (.nmtStart c node) s ∧ exec (.udpNmt 0x02 node) s = exec (.nmtStop c node) s ∧
      exec (.udpNmt 0x80 node) s = exec (.nmtEnterPreOperational c node) s ∧
      exec (.udpNmt 0x81 node) s = exec (.nmtResetNode c node) s ∧ exec (.udpNmt 0x82 node) s = exec (.nmtResetCommunication c node) s) ∧
  (∀ s node, node < 128 → s.served = true → s.nmtFor 2 node = true →
    exec (.udpNmt 0x01 node) s = .next (s.wr (.od .NODE_NMT) 0 0 5) ∧ exec (.udpNmt 0x02 node) s = .next (s.wr (.od .NODE_NMT) 0 0 4) ∧
      exec (.udpNmt 0x80 node) s = .next (s.wr (.od .NODE_NMT) 0 0 127) ∧ Does (.udpNmt 0x81 node) s (fun t => t.nmt = 127 ∧
      t.sessions = []) ∧
      Does (.udpNmt 0x82 node) s (fun t => Initialised s t) ∧
      ∀ k, k < 256 → k ∉ [0x01, 0x02, 0x80, 0x81, 0x82] → exec (.udpNmt k node) s = .next s) ∧
  (∀ s k node, k < 256 → node < 128 → s.served = true → s.nmtFor 2 node = false → exec (.udpNmt k node) s = .next s) ∧
  (∀ s, s.served = true → (s.odGet 0x1017 0 = 0 ∨ s.nmt = 0) → exec .heartbeatProducer s = .next s) ∧
  (∀ s p node, p < 3 → node < 256 → s.served = true →
    (s.hears p = false ∨ s.nmt = 0 ∨ ∀ j, j < 4 → (s.consumer j).1 = node → (s.consumer j).2 = 0) →
    exec (.heartbeatReceived p node) s = .next s) ∧
  (∀ s j, j < 4 → s.served = true → (s.rd (.od .armed) 0 j = 0 ∨ s.tick = 5 ∨ (s.consumer j).2 = 0) →
    exec (.heartbeatConsumerTimeout j) s = .next s) ∧
  (∀ s, s.served = true → s.odGet 0x1017 0 ≠ 0 → s.nmt ≠ 0 →
    Does .heartbeatProducer s fun t =>
      (∀ c, c < 2 → s.canTalks c = true → (⟨.heartbeat, c, [s.nmt]⟩ : Out) ∈ t.out) ∧
        OnlyScalars [⟨.od .udpSeq, 0, 6⟩] { s with out := t.out } t) ∧
  (∀ s p node, p < 3 → node < 256 → s.served = true → s.hears p = true → s.nmt ≠ 0 → (∃ j, j < 4 ∧ (s.consumer j).1 = node ∧
    (s.consumer j).2 ≠ 0) →
    Does (.heartbeatReceived p node) s fun t =>
      (∀ j, j < 4 → (s.consumer j).1 = node → (s.consumer j).2 ≠ 0 → t.rd (.od .armed) 0 j = 1) ∧ (0x8130, node) ∉ t.conditions) ∧
  (∀ s j, j < 4 → s.served = true → s.rd (.od .armed) 0 j ≠ 0 → s.tick ≠ 5 → (s.consumer j).2 ≠ 0 →
    Does (.heartbeatConsumerTimeout j) s fun t =>
      t.rd (.od .armed) 0 j = 0 ∧ (0x8130, (s.consumer j).1) ∈ t.conditions ∧
        t.nmt = (if s.odGet 0x1029 1 = 0 then 127 else if s.odGet 0x1029 1 = 2 then 4 else s.nmt) ∧
        (s.tick = 2 → s.odGet 0x2400 0x10 = 1 → t.rd (.tick .wait) = 1) ∧ (s.tick = 2 → s.odGet 0x2400 0x10 = 2 → t.rd (.tick .wait) = 2))

/-- The request of the key is the next of its session. -/
def NextRequest (s : State) (addr port id seq : Nat) : Prop :=
  addr < 2 ^ 32 ∧ port < 2 ^ 16 ∧ id < 2 ^ 16 ∧ seq < 2 ^ 16 ∧ s.served = true ∧ s.udpUp = true ∧ s.sdoServed = true ∧
    (s.nextOf addr port id seq).isSome = true

/-- A UDP request is answered: its session is the newest and keeps the response, and the datagram goes to where an answer can go. -/
def Replied (s t : State) (addr port id seq kind : Nat) (body : List Nat) : Prop :=
  (∃ x, t.sessions.head? = some x ∧ x.keyed addr port id = true ∧ x.seq = seq ∧ x.kept = kind :: body) ∧
    (s.canReach addr = true → (⟨.udp, 2, addr :: port :: s.datagram kind id seq body⟩ : Out) ∈ t.out) ∧
    (s.canReach addr = false → t.out = s.out)

/-- A response of the session stands among what has gone out, where one can go. -/
def Answered (t : State) (addr port id seq : Nat) : Prop :=
  t.canReach addr = true → ∃ body, (⟨.udp, 2, addr :: port :: t.datagram 3 id seq body⟩ : Out) ∈ t.out

/-- Transfers of objects: an upload answers the value, a download stores it, and every refusal answers its abort code and changes nothing
else, over CAN and over UDP, where a request is answered in its session; a repeated request has its response again and is not carried
out; a timeout aborts; an idle session closes. The management port answers ARP and ICMP for its own address (R457, R463, R465 to
R468). Log entries 78 to 80, 86 to 88 say what in it is the model's choice or reading. -/
def Obligations.ObjectTransfers : Prop :=
  (∀ s c idx sub r v, c < 2 → idx < 2 ^ 16 → sub < 256 → s.served = true → s.sdoServer c = true → s.objAbort idx sub = 0 →
    s.objRow idx sub = some r → r.acc ≠ .wo → r.src = .val v →
    exec (.sdoUpload c idx sub) s = .next (s.emit .sdoAnswer c ([idx, sub, 0] ++ leBytes (typeBytes r.type) v))) ∧
  (∀ s c idx sub a l v pins, okLevels pins = true → c < 2 → idx < 2 ^ 16 → sub < 256 → areBytes l = true → s.served = true →
    s.sdoServer c = true → s.objAbort idx sub = a →
    a ≠ 0 →
    exec (.sdoUpload c idx sub) s = .next (s.emit .sdoAnswer c [idx, sub, a]) ∧
      exec (.sdoDownload c idx sub l v pins) s = .next (s.emit .sdoAnswer c [idx, sub, a])) ∧
  (∀ s c idx sub r l v pins, okLevels pins = true → c < 2 → idx < 2 ^ 16 → sub < 256 → areBytes l = true → s.served = true →
    s.sdoServer c = true →
    s.objAbort idx sub = 0 → s.objRow idx sub = some r → (r.acc = .ro ∨ r.acc = .const) →
    exec (.sdoDownload c idx sub l v pins) s = .next (s.emit .sdoAnswer c [idx, sub, 0x06010002])) ∧
  (∀ s c idx sub r l v pins, okLevels pins = true → c < 2 → idx < 2 ^ 16 → sub < 256 → areBytes l = true → s.served = true →
    s.sdoServer c = true →
    s.objAbort idx sub = 0 → s.objRow idx sub = some r → r.acc ≠ .ro → r.acc ≠ .const → typeBytes r.type ≠ 0 → l.length ≠ typeBytes r.type →
    exec (.sdoDownload c idx sub l v pins) s = .next (s.emit .sdoAnswer c [idx, sub, 0x06070010])) ∧
  (∀ s c idx sub r l v pins, okLevels pins = true → c < 2 → idx < 2 ^ 16 → sub < 256 → areBytes l = true → s.served = true →
    s.sdoServer c = true →
    s.objAbort idx sub = 0 → s.objRow idx sub = some r → r.acc ≠ .ro → r.acc ≠ .const → l.length = typeBytes r.type →
    typeBytes r.type ≠ 0 → r.src = .held → s.heldAbort idx sub (fromLe l) = 0 →
    Does (.sdoDownload c idx sub l v pins) s fun t =>
      t.odGet idx sub = fromLe l ∧ t.out = s.out ++ [⟨.sdoAnswer, c, [idx, sub, 0]⟩] ∧
        ∀ k, k ≠ odKey idx sub → Sparse.get (fun _ => 0) t.odVals k = Sparse.get (fun _ => 0) s.odVals k) ∧
  (∀ s c idx sub l v pins, okLevels pins = true → c < 2 → idx < 2 ^ 16 → sub < 256 → areBytes l = true → s.served = true →
    s.sdoServer c = false →
    exec (.sdoUpload c idx sub) s = .next s ∧ exec (.sdoDownload c idx sub l v pins) s = .next s ∧
      exec (.sdoTimeout c idx sub) s = .next s) ∧
  (∀ s c idx sub, c < 2 → idx < 2 ^ 16 → sub < 256 → s.served = true → s.sdoServer c = true →
    exec (.sdoTimeout c idx sub) s = .next (s.emit .sdoAnswer c [idx, sub, 0x05040000])) ∧
  (∀ s addr port id seq idx sub r v, NextRequest s addr port id seq → idx < 2 ^ 16 → sub < 256 → s.objAbort idx sub = 0 →
    s.objRow idx sub = some r → r.acc ≠ .wo → r.src = .val v →
    Does (.udpRead addr port id seq none idx sub 0) s fun t =>
      Replied s t addr port id seq 3 (responseBody idx sub 0 (typeBytes r.type) ((leBytes (typeBytes r.type) v).reverse.take 1440)) ∧
        t = { s with sessions := t.sessions, out := t.out }) ∧
  (∀ s addr port id seq idx sub offset l v last pins, okLevels pins = true → NextRequest s addr port id seq → idx < 2 ^ 16 → sub < 256 →
    areBytes l = true →
    1 ≤ l.length → l.length ≤ 1440 → s.objAbort idx sub ≠ 0 →
    Does (.udpRead addr port id seq none idx sub offset) s (fun t =>
      Replied s t addr port id seq 3 (responseBody idx sub (s.objAbort idx sub) 0 []) ∧
        t = { s with sessions := t.sessions, out := t.out }) ∧
    Does (.udpWrite addr port id seq none idx sub offset last l v pins) s fun t =>
      Replied s t addr port id seq 3 (responseBody idx sub (s.objAbort idx sub) 0 []) ∧
        t = { s with sessions := t.sessions, out := t.out }) ∧
  (∀ s addr port id seq idx sub r l v pins, okLevels pins = true → NextRequest s addr port id seq → idx < 2 ^ 16 → sub < 256 →
    areBytes l = true → 1 ≤ l.length →
    l.length ≤ 1440 → s.objAbort idx sub = 0 → s.objRow idx sub = some r → r.acc ≠ .ro → r.acc ≠ .const → typeBytes r.type ≠ 0 →
    l.length = typeBytes r.type → r.src = .held → s.heldAbort idx sub (fromLe l.reverse) = 0 →
    Does (.udpWrite addr port id seq none idx sub 0 true l v pins) s fun t =>
      t.odGet idx sub = fromLe l.reverse ∧ Replied s t addr port id seq 3 (responseBody idx sub 0 0 []) ∧
        ∀ k, k ≠ odKey idx sub → Sparse.get (fun _ => 0) t.odVals k = Sparse.get (fun _ => 0) s.odVals k) ∧
  (∀ s c idx sub l v pins, c < 2 → idx < 2 ^ 16 → sub < 256 → areBytes l = true → okLevels pins = true → s.served = true →
    s.sdoServer c = true →
    Does (.sdoUpload c idx sub) s (fun t => ∃ code b, t.out.getLast? = some ⟨.sdoAnswer, c, [idx, sub, code] ++ b⟩) ∧
      Does (.sdoDownload c idx sub l v pins) s fun t => ∃ code, t.out.getLast? = some ⟨.sdoAnswer, c, [idx, sub, code]⟩) ∧
  (∀ s addr port id seq sel idx sub offset, NextRequest s addr port id seq → idx < 2 ^ 16 → sub < 256 →
    Does (.udpRead addr port id seq sel idx sub offset) s fun t =>
      (∃ x, t.sessions.head? = some x ∧ x.keyed addr port id = true ∧ x.seq = seq ∧ x.kept.head? = some 3) ∧ Answered t addr port id seq) ∧
  (∀ s addr port id seq sel idx sub offset last l v pins, NextRequest s addr port id seq → idx < 2 ^ 16 → sub < 256 → areBytes l = true →
    1 ≤ l.length → l.length ≤ 1440 → okLevels pins = true →
    Does (.udpWrite addr port id seq sel idx sub offset last l v pins) s fun t => Answered t addr port id seq) ∧
  (∀ s addr port id seq sel idx sub offset last l v pins, addr < 2 ^ 32 → port < 2 ^ 16 → id < 2 ^ 16 → seq < 2 ^ 16 → idx < 2 ^ 16 →
    sub < 256 → areBytes l = true → 1 ≤ l.length → l.length ≤ 1440 → okLevels pins = true → s.served = true →
    ∀ i ∈ [Instr.udpRead addr port id seq sel idx sub offset, .udpWrite addr port id seq sel idx sub offset last l v pins],
      (s.udpUp = true → s.sdoServed = true → s.nextOf addr port id seq = none → ∀ x, s.sessionOf addr port id = some x → x.seq = seq →
        Does i s fun t =>
          (s.canReach addr = true → t.out = s.out ++ [⟨.udp, 2, addr :: port :: s.datagram (x.kept.headD 3) id seq x.kept.tail⟩]) ∧
            t = { s with sessions := t.sessions, out := t.out }) ∧
      (s.udpUp = true → s.sdoServed = true → s.nextOf addr port id seq = none →
        (∀ x, s.sessionOf addr port id = some x → x.seq ≠ seq) →
        exec i s = .next (s.sendTo addr port 3 id seq (responseBody idx sub 0x08000000 0 []))) ∧
      ((s.udpUp = false ∨ s.sdoServed = false) → exec i s = .next s)) ∧
  (∀ s addr port id, addr < 2 ^ 32 → port < 2 ^ 16 → id < 2 ^ 16 → s.served = true →
    Does (.udpSessionTimeout addr port id) s fun t =>
      t.sessionOf addr port id = none ∧ (∀ x ∈ s.sessions, x.keyed addr port id = false → x ∈ t.sessions) ∧
        t = { s with sessions := t.sessions }) ∧
  (∀ s addr, addr < 2 ^ 32 → s.served = true → s.udpUp = true → s.rd (.od .ETH_ADDR) = addr →
    exec (.arpRequest addr) s = .next (s.emit .arp 2 [s.rd (.od .MAC_ADDR), addr])) ∧
  (∀ s addr, addr < 2 ^ 32 → s.served = true → (s.udpUp = false ∨ s.rd (.od .ETH_ADDR) ≠ addr) → exec (.arpRequest addr) s = .next s) ∧
  (∀ s addr l, addr < 2 ^ 32 → areBytes l = true → s.served = true → (s.udpUp = false ∨ s.canReach addr = false) →
    exec (.icmpEcho addr l) s = .next s) ∧
  (∀ s addr l, addr < 2 ^ 32 → areBytes l = true → s.served = true → s.udpUp = true → s.canReach addr = true →
    exec (.icmpEcho addr l) s = .next (s.emit .icmp 2 (addr :: l)))

/-- TPDO `n` counts a SYNC with the counter: it is synchronous and enabled, and counting has begun or begins with it (R471). -/
def Counts (s : State) (counter n : Nat) : Prop :=
  s.pdoOff true n = false ∧ 1 ≤ s.odGet (commIndex true n) 2 ∧ s.odGet (commIndex true n) 2 ≤ 240 ∧
    (s.rd (.od .syncOn) 0 n ≠ 0 ∨ s.odGet 0x1019 0 = 0 ∨ s.odGet (commIndex true n) 6 = 0 ∨ s.odGet (commIndex true n) 6 = counter)

/-- An RPDO that its path brings in a state that serves it, of at most 8 bytes where it comes in a classical frame (R472). -/
def BringsPdo (s : State) (p n : Nat) (b : List Nat) : Prop :=
  p < 3 ∧ n < 8 ∧ areBytes b = true ∧ s.booted = true ∧ s.hears p = true ∧ s.pdoServed = true ∧ s.pdoOff false n = false ∧
    (8 < mapBytes (s.mapping false n) → p = 2 ∨ s.rd (.od .CAN_FD) 0 p ≠ 0)

/-- PDOs and boundaries: a TPDO goes out with its sampled values and not within its inhibit time; a synchronous one counts its SYNCs; an
RPDO of an asynchronous type is written at once, a synchronous one waits for the next SYNC, a short one is refused with 0x8210, and a
missing one raises 0x8250; a boundary that commits moves the tick number on, and one that finds nothing to do changes nothing (R45,
R470, R471, R472). Log entries 82 to 85 say what in it is the model's choice or reading. -/
def Obligations.ProcessData : Prop :=
  (∀ s n t vs s', n < 8 → t < 2 ^ 80 → s.booted = true → s.pdoServed = true → s.odGet (commIndex true n) 2 = 255 →
    s.odGet (commIndex true n) 5 ≠ 0 → s.pdoOff true n = false → s.mapping true n ≠ [] →
    (s.rd (.od .tpdoHas) 0 n ≠ 1 ∨ s.rd (.od .tpdoAt) 0 n + nsec (100000 * s.odGet (commIndex true n) 3) ≤ t) →
    (s.at t).sample (s.mapping true n) = (vs, s') →
    Does (.tpdoEventTimer n t) s fun u =>
      u.rd (.od .tpdoHas) 0 n = 1 ∧ u.rd (.od .tpdoAt) 0 n = s'.time % 2 ^ 80 ∧
        ∀ c, c < 2 → vs.flatten.length ≤ 8 → s'.canTalks c = true →
        (⟨.tpdo, c, s'.odGet (commIndex true n) 1 % 2 ^ 29 :: vs.flatten⟩ : Out) ∈ u.out) ∧
  (∀ s n t, n < 8 → t < 2 ^ 80 → s.booted = true → s.pdoServed = true → s.odGet (commIndex true n) 2 = 255 →
    s.odGet (commIndex true n) 5 ≠ 0 → s.rd (.od .tpdoHas) 0 n = 1 →
    t < s.rd (.od .tpdoAt) 0 n + nsec (100000 * s.odGet (commIndex true n) 3) →
    exec (.tpdoEventTimer n t) s = .next (s.at t)) ∧
  (∀ s n t, n < 8 → t < 2 ^ 80 → s.booted = true → s.pdoServed = true → s.odGet (commIndex true n) 2 = 255 →
    s.odGet (commIndex true n) 5 ≠ 0 → (s.pdoOff true n = true ∨ s.mapping true n = []) →
    exec (.tpdoEventTimer n t) s = .next (s.at t)) ∧
  (∀ s n t, n < 8 → t < 2 ^ 80 → s.booted = true →
    (s.pdoServed = false ∨ s.odGet (commIndex true n) 2 ≠ 255 ∨ s.odGet (commIndex true n) 5 = 0) →
    exec (.tpdoEventTimer n t) s = .next s) ∧
  (∀ s c counter t, c < 2 → counter < 256 → t < 2 ^ 80 → s.booted = true → s.canHears c = true → s.pdoServed = true →
    s.rd (.tick .SRC_CAN) = c → Does (.syncMessage c counter t) s fun u => u.rpdoHeld = []) ∧
  (∀ s c counter t, c < 2 → counter < 256 → t < 2 ^ 80 → s.booted = true → s.canHears c = true → s.pdoServed = true →
    s.rd (.tick .SRC_CAN) = c → s.rpdoHeld = [] →
    Does (.syncMessage c counter t) s fun u =>
      ∀ n, n < 8 →
        (Counts s counter n → u.rd (.od .syncCount) 0 n =
          if s.odGet (commIndex true n) 2 ≤ s.rd (.od .syncCount) 0 n + 1 then 0 else s.rd (.od .syncCount) 0 n + 1) ∧
        (¬Counts s counter n → u.rd (.od .syncCount) 0 n = s.rd (.od .syncCount) 0 n)) ∧
  (∀ s c counter t, c < 2 → counter < 256 → t < 2 ^ 80 → s.booted = true →
    (s.canHears c = false ∨ s.pdoServed = false ∨ s.rd (.tick .SRC_CAN) ≠ c) → exec (.syncMessage c counter t) s = .next s) ∧
  (∀ s c counter t n, c < 2 → counter < 256 → t < 2 ^ 80 → n < 8 → s.booted = true → s.canHears c = true → s.pdoServed = true →
    s.rd (.tick .SRC_CAN) = c → s.rpdoHeld = [] → (∀ m, m < 8 → m ≠ n → s.pdoOff true m = true) → s.pdoOff true n = false →
    s.odGet (commIndex true n) 2 ≤ 240 → s.rd (.od .syncOn) 0 n = 1 → s.rd (.od .syncCount) 0 n + 1 < s.odGet (commIndex true n) 2 →
    Does (.syncMessage c counter t) s fun u =>
      u.rd (.od .syncCount) 0 n = (s.rd (.od .syncCount) 0 n + 1) % 256 ∧ u.time = t ∧
        OnlyScalars [⟨.od .syncCount, 0, n⟩, ⟨.od .syncOn, 0, n⟩] (s.at t) u) ∧
  (∀ s c counter t n b, c < 2 → counter < 256 → t < 2 ^ 80 → s.booted = true → s.canHears c = true → s.pdoServed = true →
    s.rd (.tick .SRC_CAN) = c → s.rpdoHeld = [(n, b)] → (∀ m, m < 8 → s.pdoOff true m = true) →
    Does (.syncMessage c counter t) s fun u =>
      u = { (({ s.at t with rpdoHeld := [] } : State).applyPdo n b) with pending := s.pending }) ∧
  (∀ s p n b, BringsPdo s p n b → b.length < mapBytes (s.mapping false n) →
    Does (.rpdoReceived p n b) s fun t =>
      (∃ e, t.emcyHistory.head? = some e ∧ e.code = 0x8210 ∧ e.event = n) ∧ t.odVals = s.odVals ∧ t.rpdoHeld = s.rpdoHeld) ∧
  (∀ s p n b, BringsPdo s p n b → mapBytes (s.mapping false n) ≤ b.length → s.odGet (commIndex false n) 2 ≤ 240 →
    Does (.rpdoReceived p n b) s fun t =>
      (n, valueOrder (p == 2) (s.mapping false n) b) ∈ t.rpdoHeld ∧ (∀ x ∈ s.rpdoHeld, x.1 ≠ n → x ∈ t.rpdoHeld) ∧
        (0x8250, n) ∉ t.conditions ∧ t.odVals = s.odVals) ∧
  (∀ s n e c s1 b, n < 8 → areBytes b = true → s.booted = true → s.hears 0 = true → s.pdoServed = true → s.pdoOff false n = false →
    s.mapping false n = [e] → 8 * (e % 256 / 8) ≤ 64 → e % 256 / 8 ≤ b.length → 240 < s.odGet (commIndex false n) 2 →
    (s.endCond 0x8250 n).odWrite (e / 65536) (e / 256 % 256) (b.take (e % 256 / 8)) noVerdict = (c, s1) →
    exec (.rpdoReceived 0 n b) s = .next { (if c = 0 then s1 else s1.raiseEvent 0x8220 n c) with pending := s.pending }) ∧
  (∀ s p n b, BringsPdo s p n b → mapBytes (s.mapping false n) ≤ b.length → 240 < s.odGet (commIndex false n) 2 →
    exec (.rpdoReceived p n b) s =
      .next { (s.endCond 0x8250 n).applyPdo n (valueOrder (p == 2) (s.mapping false n) b) with pending := s.pending }) ∧
  (∀ s p n b, p < 2 → n < 8 → areBytes b = true → s.booted = true → s.hears p = true → s.pdoServed = true → s.pdoOff false n = false →
    8 < mapBytes (s.mapping false n) → s.rd (.od .CAN_FD) 0 p = 0 →
    (s.rd (.od .pdoSaid) 0 n = 1 → exec (.rpdoReceived p n b) s = .next s) ∧
    (s.rd (.od .pdoSaid) 0 n ≠ 1 →
      Does (.rpdoReceived p n b) s fun t =>
        t.rd (.od .pdoSaid) 0 n = 1 ∧ t.odVals = s.odVals ∧ ∃ e, t.emcyHistory.head? = some e ∧ e.code = 0x8210 ∧ e.event = n)) ∧
  (∀ s p n b, p < 3 → n < 8 → areBytes b = true → s.booted = true → (s.hears p = false ∨ s.pdoServed = false ∨ s.pdoOff false n = true) →
    exec (.rpdoReceived p n b) s = .next s) ∧
  (∀ s n, n < 8 → s.booted = true →
    (s.pdoServed = false ∨ s.pdoOff false n = true ∨ s.odGet (commIndex false n) 5 = 0 ∨ s.tick = 5) →
    exec (.rpdoTimeout n) s = .next s) ∧
  (∀ s n, n < 8 → s.booted = true → s.pdoServed = true → s.pdoOff false n = false → s.odGet (commIndex false n) 5 ≠ 0 → s.tick ≠ 5 →
    Does (.rpdoTimeout n) s fun t => (0x8250, n) ∈ t.conditions ∧ ∀ c ∈ s.conditions, c ∈ t.conditions)

/-- Emergencies and controllers: the oldest emergency goes out on every controller and is held in Stopped; a controller enters bus-off and
leaves it with 0x8140, becomes error passive and active again, counts lost frames; OD_CAN and OD_ETH take what is written to them
(R455, R456, R457, R474, R476, R478). Log entries 89, 90 say what in it is the model's choice or reading. -/
def Obligations.EmergenciesAndControllers : Prop :=
  (∀ s t e l, t < 2 ^ 80 → s.served = true → s.sdoServed = true →
    (s.rd (.od .emcyHas) ≠ 1 ∨ s.rd (.od .emcyAt) + nsec (100000 * s.odGet 0x1015 0) ≤ t) → s.emcyQueue = e :: l →
    Does (.emcyTransmit t) s fun u =>
      u.emcyQueue = l ∧ u.rd (.od .emcyHas) = 1 ∧ u.rd (.od .emcyAt) = t ∧ u.time = t ∧
        (∀ c, c < 2 → s.canTalks c = true → s.emcyOff = false → (⟨.emcy, c, [e.code, e.reg, e.event, e.arg]⟩ : Out) ∈ u.out) ∧
        OnlyScalars [⟨.od .emcyHas, 0, 0⟩, ⟨.od .emcyAt, 0, 0⟩, ⟨.od .udpSeq, 0, 5⟩] { s with time := t, emcyQueue := l, out := u.out } u) ∧
  (∀ s t, t < 2 ^ 80 → s.served = true →
    (s.sdoServed = false ∨ s.emcyQueue = [] ∨
      (s.rd (.od .emcyHas) = 1 ∧ t < s.rd (.od .emcyAt) + nsec (100000 * s.odGet 0x1015 0))) →
    exec (.emcyTransmit t) s = .next (s.at t)) ∧
  (∀ s c on k tec rec', c < 2 → tec < 256 → rec' < 256 → 1 ≤ k → s.served = true → s.canHears c = false →
    exec (.canBusOff c tec rec') s = .next s ∧ exec (.canErrorPassive c on tec rec') s = .next s ∧
      exec (.canReceiveOverrun c k) s = .next s) ∧
  (∀ s c tec rec', c < 2 → tec < 256 → rec' < 256 → s.served = true → s.canHears c = true →
    Does (.canBusOff c tec rec') s fun t =>
      t.rd (.od .CAN_STATE) 0 c = 2 ∧ t.rd (.od .CAN_TEC) 0 c = tec ∧ t.rd (.od .CAN_REC) 0 c = rec' ∧
        t.rd (.od .CAN_BUSOFF) 0 c = satInc 16 (s.rd (.od .CAN_BUSOFF) 0 c) % 65536 ∧ t.canTalks c = false ∧ (0x8120, c) ∉ t.conditions ∧
        t.nmt = (if s.odGet 0x1029 1 = 0 then 127 else if s.odGet 0x1029 1 = 2 then 4 else s.nmt)) ∧
  (∀ s c, c < 2 → s.served = true → s.rd (.od .CAN_STATE) 0 c = 2 →
    Does (.busOffRecovery c) s fun t =>
      t.rd (.od .CAN_STATE) 0 c = 0 ∧ t.rd (.od .CAN_TEC) 0 c = 0 ∧ t.rd (.od .CAN_REC) 0 c = 0 ∧
        ∃ e, t.emcyHistory.head? = some e ∧ e.code = 0x8140 ∧ e.event = c) ∧
  (∀ s c, c < 2 → s.served = true → s.rd (.od .CAN_STATE) 0 c ≠ 2 → exec (.busOffRecovery c) s = .next s) ∧
  (∀ s c on tec rec', c < 2 → tec < 256 → rec' < 256 → s.served = true → s.canHears c = true →
    Does (.canErrorPassive c on tec rec') s fun t =>
      t.rd (.od .CAN_STATE) 0 c = b2n on ∧ t.rd (.od .CAN_TEC) 0 c = tec ∧ t.rd (.od .CAN_REC) 0 c = rec' ∧
        (on = true → (0x8120, c) ∈ t.conditions) ∧ (on = false → (0x8120, c) ∉ t.conditions)) ∧
  (∀ s c k, c < 2 → 1 ≤ k → s.served = true → s.canHears c = true →
    Does (.canReceiveOverrun c k) s fun t =>
      t.rd (.od .canLost) 0 c = satAdd 32 (s.rd (.od .canLost) 0 c) k % 2 ^ 32 ∧
        ∃ e, t.emcyHistory.head? = some e ∧ e.code = 0x8110 ∧ e.event = c ∧ e.arg = t.rd (.od .canLost) 0 c) ∧
  (∀ s c v, c < 2 → v < 2 ^ 48 → s.served = true → v % 2 = 1 →
    Does (.odCanWrite c v) s fun t =>
      t.rd (.od .CAN_EN) 0 c = 1 ∧ t.rd (.od .CAN_PROTO) 0 c = slice v 6 1 ∧ t.rd (.od .CAN_FD) 0 c = s.rd (.od .CAN_FD) 0 c ∧
        t.rd (.od .CAN_NBR) 0 c = s.rd (.od .CAN_NBR) 0 c ∧ t.rd (.od .CAN_DBR) 0 c = s.rd (.od .CAN_DBR) 0 c ∧
        t.rd (.od .heldFd) 0 c = slice v 1 1 ∧ t.rd (.od .heldNbr) 0 c = slice v 2 2 ∧ t.rd (.od .heldDbr) 0 c = slice v 4 2) ∧
  (∀ s c v, c < 2 → v < 2 ^ 48 → s.served = true → v % 2 = 0 → s.rd (.od .CAN_EN) 0 (1 - c) = 0 → s.rd (.od .ETH_EN) = 0 →
    exec (.odCanWrite c v) s = .next s) ∧
  (∀ s c v, c < 2 → v < 2 ^ 48 → s.served = true → v % 2 = 0 → (s.rd (.od .CAN_EN) 0 (1 - c) ≠ 0 ∨ s.rd (.od .ETH_EN) ≠ 0) →
    Does (.odCanWrite c v) s fun t =>
      t.rd (.od .CAN_EN) 0 c = 0 ∧ t.rd (.od .CAN_STATE) 0 c = 3 ∧ t.rd (.od .CAN_PROTO) 0 c = slice v 6 1 ∧
        t.rd (.od .CAN_FD) 0 c = s.rd (.od .CAN_FD) 0 c ∧ t.rd (.od .heldFd) 0 c = slice v 1 1) ∧
  (∀ s addr, addr < 2 ^ 32 → s.served = true → s.rd (.od .ETH_EN) < 2 → s.rd (.od .ETH_PREFIX) < 64 →
    (s.rd (.od .ETH_EN) = 0 → s.rd (.od .CAN_EN) 0 0 ≠ 0 ∨ s.rd (.od .CAN_EN) 0 1 ≠ 0) →
    Does (.odEthAddrWrite addr) s fun t =>
      t.rd (.od .ETH_ADDR) = addr ∧ t.rd (.od .ETH_EN) = s.rd (.od .ETH_EN) ∧ t.sessions = []) ∧
  (∀ s addr, addr < 2 ^ 32 → s.served = true → s.rd (.od .ETH_EN) = 0 → s.rd (.od .CAN_EN) 0 0 = 0 → s.rd (.od .CAN_EN) 0 1 = 0 →
    exec (.odEthAddrWrite addr) s = .next s)

/-- Objects of the fabric: a declaration that is in range and free stands, one out of range is counted, and of two dies the one with the
lower logical number holds an object; an update is staged while the tick runs and else stands at once; a host write joins its die's
list, from which fabric logic takes it (R489, R490, R491). Log entry 91 says what in it is the model's choice or reading. -/
def Obligations.FabricObjects : Prop :=
  (∀ s d vidx v, s.booted = true → d < Config.n → vidx < 2 ^ 12 → v < 2 ^ 64 → s.rd (.od .FPORT_READY) 0 d ≠ 0 → s.fabricRuns d = true →
    s.rd (.od .FPORT_OPEN) 0 d ≠ 0 → declarationOk 0 v = true → (s.fobjs.find? fun x => x.idx == 0x5000 + vidx) = none →
    s.fvaluesUsed + v % 256 ≤ 16384 →
    exec (.odDeclaration d vidx 0 v) s =
      .next { s with fobjs := s.fobjs ++ [⟨d, 0x5000 + vidx, v % 256, v / 256 % 256, slice v 16 3, v.testBit 19⟩] }) ∧
  (∀ s d vidx vsub v, s.booted = true → d < Config.n → vidx < 2 ^ 12 → vsub < 256 → v < 2 ^ 64 → s.rd (.od .FPORT_READY) 0 d ≠ 0 →
    s.fabricRuns d = true → (s.rd (.od .FPORT_OPEN) 0 d = 0 ∨ declarationOk vsub v = false) →
    Does (.odDeclaration d vidx vsub v) s fun t =>
      t.rd (.od .FPORT_BADUPD) 0 d = satInc 8 (s.rd (.od .FPORT_BADUPD) 0 d) % 256 ∧ OnlyScalars [⟨.od .FPORT_BADUPD, 0, d⟩] s t) ∧
  (∀ s d vidx v x, s.booted = true → d < Config.n → vidx < 2 ^ 12 → v < 2 ^ 64 → s.rd (.od .FPORT_READY) 0 d ≠ 0 → s.fabricRuns d = true →
    s.rd (.od .FPORT_OPEN) 0 d ≠ 0 → declarationOk 0 v = true → (s.fobjs.find? fun x => x.idx == 0x5000 + vidx) = some x → x.die ≠ d →
    s.logicalDie x.die < s.logicalDie d →
    exec (.odDeclaration d vidx 0 v) s = .next (s.inc (.od .FPORT_CONFLICTS) 0 d)) ∧
  (∀ s d vidx v x, s.booted = true → d < Config.n → vidx < 2 ^ 12 → v < 2 ^ 64 → s.rd (.od .FPORT_READY) 0 d ≠ 0 → s.fabricRuns d = true →
    s.rd (.od .FPORT_OPEN) 0 d ≠ 0 → declarationOk 0 v = true → (s.fobjs.find? fun x => x.idx == 0x5000 + vidx) = some x → x.die ≠ d →
    s.logicalDie d ≤ s.logicalDie x.die → s.fvaluesUsed + v % 256 ≤ 16384 →
    Does (.odDeclaration d vidx 0 v) s fun t =>
      (t.fobjs.find? fun x => x.idx == 0x5000 + vidx) = some ⟨d, 0x5000 + vidx, v % 256, v / 256 % 256, slice v 16 3, v.testBit 19⟩) ∧
  (∀ s d vidx v x, s.booted = true → d < Config.n → vidx < 2 ^ 12 → v < 2 ^ 64 → s.rd (.od .FPORT_READY) 0 d ≠ 0 → s.fabricRuns d = true →
    s.rd (.od .FPORT_OPEN) 0 d ≠ 0 → declarationOk 0 v = true → (s.fobjs.find? fun x => x.idx == 0x5000 + vidx) = some x → x.die = d →
    exec (.odDeclaration d vidx 0 v) s =
      .next (if x = ⟨d, 0x5000 + vidx, v % 256, v / 256 % 256, slice v 16 3, v.testBit 19⟩ then s else s.inc (.od .FPORT_BADUPD) 0 d)) ∧
  (∀ s d vidx v, s.booted = true → d < Config.n → vidx < 2 ^ 12 → v < 2 ^ 64 → s.rd (.od .FPORT_READY) 0 d ≠ 0 → s.fabricRuns d = true →
    s.rd (.od .FPORT_OPEN) 0 d ≠ 0 → declarationOk 0 v = true → (s.fobjs.find? fun x => x.idx == 0x5000 + vidx) = none →
    16384 < s.fvaluesUsed + v % 256 → exec (.odDeclaration d vidx 0 v) s = .next (s.inc (.od .FPORT_BADUPD) 0 d)) ∧
  (∀ s d vidx vsub v, s.booted = true → d < Config.n → vidx < 2 ^ 12 → vsub < 256 → v < 2 ^ 64 →
    (s.rd (.od .FPORT_READY) 0 d = 0 ∨ s.fabricRuns d = false) →
    exec (.odDeclaration d vidx vsub v) s = .next s ∧ exec (.odUpdate d vidx vsub v) s = .next s) ∧
  (∀ s d vidx vsub v, s.booted = true → d < Config.n → vidx < 2 ^ 12 → vsub < 256 → v < 2 ^ 64 → s.rd (.od .FPORT_READY) 0 d ≠ 0 →
    s.fabricRuns d = true →
    (∀ o, (s.fobjs.find? fun x => x.idx == 0x5000 + vidx && x.die == d) = some o → vsub = 0 ∨ o.top < vsub ∨ o.access = 1) →
    exec (.odUpdate d vidx vsub v) s = .next (s.inc (.od .FPORT_BADUPD) 0 d)) ∧
  (∀ s d vidx vsub v o, s.booted = true → d < Config.n → vidx < 2 ^ 12 → vsub < 256 → v < 2 ^ 64 → s.rd (.od .FPORT_READY) 0 d ≠ 0 →
    s.fabricRuns d = true → (s.fobjs.find? fun x => x.idx == 0x5000 + vidx && x.die == d) = some o → 1 ≤ vsub → vsub ≤ o.top →
    o.access ≠ 1 →
    s.tick ≠ 2 →
    Does (.odUpdate d vidx vsub v) s fun t =>
      Sparse.get (fun _ => 0) t.fvals (256 * o.idx + vsub) = v % 2 ^ (8 * typeBytes o.type) ∧
        (∀ k, k ≠ 256 * o.idx + vsub → Sparse.get (fun _ => 0) t.fvals k = Sparse.get (fun _ => 0) s.fvals k) ∧
        t = { s with fvals := t.fvals }) ∧
  (∀ s d vidx vsub v o, s.booted = true → d < Config.n → vidx < 2 ^ 12 → vsub < 256 → v < 2 ^ 64 → s.rd (.od .FPORT_READY) 0 d ≠ 0 →
    s.fabricRuns d = true → (s.fobjs.find? fun x => x.idx == 0x5000 + vidx && x.die == d) = some o → 1 ≤ vsub → vsub ≤ o.top →
    o.access ≠ 1 →
    s.tick = 2 →
    Does (.odUpdate d vidx vsub v) s fun t =>
      (⟨o.idx, vsub, v % 2 ^ (8 * typeBytes o.type)⟩ : FUpdate) ∈ t.fstaged ∧ t.fvals = s.fvals ∧ t = { s with fstaged := t.fstaged }) ∧
  (∀ s c idx sub r o l, s.booted = true → c < 2 → 0x5000 ≤ idx → idx < 0x6000 → sub < 256 → areBytes l = true → s.sdoServer c = true →
    s.objAbort idx sub = 0 → s.objRow idx sub = some r → r.acc ≠ .ro → r.acc ≠ .const → typeBytes r.type ≠ 0 → l.length = typeBytes r.type →
    r.src = .own (.fabric idx sub) → (s.fobjs.find? fun o => o.idx == idx) = some o → s.rd (.od .FPORT_READY) 0 o.die ≠ 0 →
    (s.fwrites.filter fun w => w.die == o.die).length < 256 →
    exec (.fabricObjectWrite c idx sub l) s =
      .next (State.emit { s with fwrites := s.fwrites ++ [⟨o.die, idx, sub, fromLe l, false, false⟩] } .sdoAnswer c [idx, sub, 0])) ∧
  (∀ s c idx sub l, s.booted = true → c < 2 → 0x5000 ≤ idx → idx < 0x6000 → sub < 256 → areBytes l = true →
    (s.sdoServer c = false → exec (.fabricObjectWrite c idx sub l) s = .next s) ∧
    (s.sdoServer c = true → s.objAbort idx sub ≠ 0 →
      exec (.fabricObjectWrite c idx sub l) s = .next (s.emit .sdoAnswer c [idx, sub, s.objAbort idx sub])) ∧
    (s.sdoServer c = true →
      Does (.fabricObjectWrite c idx sub l) s fun t => ∃ code, t.out.getLast? = some ⟨.sdoAnswer, c, [idx, sub, code]⟩)) ∧
  (∀ s d, s.booted = true → d < Config.n → (s.tick ≠ 2 ∨ s.fabricRuns d = false) → exec (.odHostWriteTake d) s = .next s) ∧
  (∀ s d w r, s.coreUp = true → s.booted = true → d < Config.n → s.tick = 2 → s.fabricRuns d = true →
    (s.fwrites.filter fun w => w.die == d && w.shown && !w.taken) = w :: r →
    Does (.odHostWriteTake d) s fun t =>
      t.out = s.out ++ [⟨.readBack, d, [w.idx - 0x5000, w.sub, s.hdata w, b2n r.isEmpty]⟩] ∧
        (∀ x ∈ s.fwrites, x ≠ w → x ∈ t.fwrites) ∧ ({ w with taken := true } : FWrite) ∈ t.fwrites) ∧
  (∀ s d, s.booted = true → d < Config.n → (s.fwrites.filter fun w => w.die == d && w.shown && !w.taken) = [] →
    exec (.odHostWriteTake d) s = .next s)

/-- The answer of a monitor operation with no data. -/
def Told (s : State) (op status tag : Nat) : State := { s with response := [op, status] ++ beBytes 2 tag ++ [0, 0] }

/-- Requests of the monitor reach it as downloads: the firmware runs, and the dictionary serves SDO. -/
def Heard (s : State) : Prop := s.booted = true ∧ (s.nmt = 127 ∨ s.nmt = 5)

/-- Every request of the monitor that these operands make, by its OP. -/
def monitorRequests (via : Via) (flags tag : Nat) (b : List Nat) (v : Verdict) (pins : List (Nat × Nat × Nat)) (t : Nat) : List (Nat × Instr) :=
  [(1, .monitorToken via flags tag b v), (2, .monitorStatus via flags tag b), (3, .monitorHalt via flags tag b),
    (4, .monitorRelease via flags tag b pins t), (5, .monitorStep via flags tag b pins t), (6, .monitorRead via flags tag b),
    (7, .monitorWrite via flags tag b), (8, .monitorObject via flags tag b v), (9, .monitorReadback via flags tag b),
    (10, .monitorCompare via flags tag b)]

/-- The response that stands is one to the operation `op` with the tag. -/
def Responded (u : State) (op tag : Nat) : Prop := ∃ st d l, u.response = [op, st] ++ beBytes 2 tag ++ beBytes 2 d ++ l

/-- The words that a READBACK answers. -/
def ReadsBack (s : State) (tag : Nat) (l : List Nat) : State :=
  { s with response := [9, 0] ++ beBytes 2 tag ++ [0, 0] ++ l.flatMap fun w => beBytes 6 w }

/-- The monitor: an operation above the granted level answers 1 and does nothing; STATUS answers the debug and tick state; a token that
its last part completes sets the level; HALT asks for a boundary or stops every clock at once; RELEASE and STEP let the tick go on;
READ and WRITE answer what the debug master finds; OBJECT, READBACK and COMPARE do as they say (R496, R497, R502 to R506, R510, R514,
R517). Log entries 92 to 95, 119 say what in it is the model's choice or reading. -/
def Obligations.MonitorRequests : Prop :=
  (∀ s tag b, Heard s → tag < 2 ^ 16 → areBytes b = true →
    (∀ x ∈ [(3, 2, Instr.monitorHalt .object 0 tag b), (6, 1, .monitorRead .object 0 tag b), (7, 2, .monitorWrite .object 0 tag b),
        (9, 2, .monitorReadback .object 0 tag b), (10, 1, .monitorCompare .object 0 tag b)],
      s.dbgLevel < x.2.1 → exec x.2.2 s = .next (Told s x.1 1 tag)) ∧
    (∀ t pins, t < 2 ^ 80 → okLevels pins = true → s.dbgLevel < 2 →
      exec (.monitorRelease .object 0 tag b pins t) s = .next (Told (s.at t) 4 1 tag) ∧
        exec (.monitorStep .object 0 tag b pins t) s = .next (Told (s.at t) 5 1 tag))) ∧
  (∀ s flags tag b v pins t, Heard s → flags < 256 → tag < 2 ^ 16 → areBytes b = true → okLevels pins = true → t < 2 ^ 80 →
    ∀ x ∈ monitorRequests .object flags tag b v pins t, Does x.2 s fun u => Responded u x.1 tag) ∧
  (∀ s addr port id seq flags tag b v pins t, s.booted = true → s.udpUp = true → (s.nextOf addr port id seq).isSome = true → flags < 256 →
    tag < 2 ^ 16 → areBytes b = true → okLevels pins = true → t < 2 ^ 80 →
    ∀ x ∈ monitorRequests (.udp addr port id seq) flags tag b v pins t,
      Does x.2 s fun u =>
        Responded u x.1 tag ∧
          (u.canReach addr = true → (⟨.udp, 2, addr :: port :: u.datagram 0x11 id seq u.response⟩ : Out) ∈ u.out)) ∧
  (∀ s via flags tag b v pins t, s.booted = true → flags < 256 → tag < 2 ^ 16 → areBytes b = true → okLevels pins = true → t < 2 ^ 80 →
    ((via = .object ∧ s.nmt ≠ 127 ∧ s.nmt ≠ 5) ∨ (via ≠ .object ∧ s.udpUp = false)) →
    ∀ x ∈ monitorRequests via flags tag b v pins t, exec x.2 s = .next (if x.1 = 4 ∨ x.1 = 5 then s.at t else s)) ∧
  (∀ s tag, Heard s → tag < 2 ^ 16 →
    exec (.monitorStatus .object 0 tag []) s = .next { s with
      response := [2, 0] ++ beBytes 2 tag ++ [0, 0] ++ (beBytes 6 s.dbgStat ++ beBytes 2 (s.csrGet 0 1 1 % 65536) ++
        beBytes 8 (s.rd (.tick .NUMBER)) ++ [s.dbgLevel]) }) ∧
  (∀ s tag l v, Heard s → tag < 2 ^ 16 → areBytes l = true → 1 ≤ l.length → l.length ≤ 1400 →
    exec (.monitorToken .object 0 tag ([0, 0, 0, 0] ++ l) v) s = .next (Told { s with tokenParts := l } 1 0 tag)) ∧
  (∀ s tag l v, Heard s → tag < 2 ^ 16 → areBytes l = true → 1 ≤ l.length → l.length ≤ 1400 → s.tokenParts.length < 2 ^ 32 →
    s.tokenParts.length ≠ 0 → s.tokenOk (s.tokenParts ++ l) v = true →
    Does (.monitorToken .object 2 tag (beBytes 4 s.tokenParts.length ++ l) v) s fun t =>
      t.dbgLevel = (s.tokenParts ++ l).getD 5 0 ∧ t.tokenParts = [] ∧ t.response = [1, 0] ++ beBytes 2 tag ++ [0, 0]) ∧
  (∀ s tag, Heard s → tag < 2 ^ 16 → s.dbgLevel = 2 → s.tick = 2 → s.rd (.tick .GROUP_EN) = 0 → s.haltBusy = false →
    Does (.monitorHalt .object 0 tag [0]) s (fun t =>
      t.tick = 2 ∧ t.rd (.dbg .STAT_PENDING) = 1 ∧ t.rd (.dbg .STAT_CAUSE) = 0 ∧ t.rd (.dbg .STAT_DROPPED) = 0 ∧
        t.response = [3, 0] ++ beBytes 2 tag ++ [0, 0] ∧
        OnlyScalars [⟨.dbg .STAT_PENDING, 0, 0⟩, ⟨.dbg .STAT_CAUSE, 0, 0⟩, ⟨.dbg .STAT_CMP, 0, 0⟩, ⟨.dbg .STAT_UNIT, 0, 0⟩,
          ⟨.dbg .STAT_DROPPED, 0, 0⟩, ⟨.dbg .STAT_AUTOREL, 0, 0⟩, ⟨.dbg .later, 0, 0⟩] { s with response := t.response } t) ∧
    Does (.monitorHalt .object 0 tag [1]) s fun t =>
      t.tick = 5 ∧ t.rd (.dbg .STAT_HALT) = 2 ∧ t.rd (.tick .midTick) = 1 ∧ (∀ d, d < Config.n → t.fabricRuns d = false) ∧
        t.response = [3, 0] ++ beBytes 2 tag ++ [0, 0]) ∧
  (∀ s tag m, Heard s → tag < 2 ^ 16 → m < 2 → s.dbgLevel = 2 → s.tick ≠ 2 →
    exec (.monitorHalt .object 0 tag [m]) s = .next (Told s 3 2 tag)) ∧
  (∀ s tag k pins t, Heard s → tag < 2 ^ 16 → t < 2 ^ 80 → okLevels pins = true → 1 ≤ k → k < 2 ^ 64 → s.dbgLevel = 2 → s.tick = 5 →
    s.rd (.dbg .STAT_HALT) = 2 → s.rd (.tick .heldCause) = 0 → s.rd (.cfg .waits) ≠ 2 → t + nsec 20000 ≤ s.boundaryAt k →
    Does (.monitorRelease .object 0 tag (beBytes 8 k) pins t) s fun u =>
      u.tick = 2 ∧ u.rd (.tick .kNext) = k ∧ u.rd (.dbg .STAT_HALT) = 0 ∧ u.rd (.tick .WDOG_REMAIN) = s.rd (.tick .WDOG_PERIOD) % 65536 ∧
        u.rd (.tick .NUMBER) = s.rd (.tick .NUMBER) ∧ u.response = [4, 0] ++ beBytes 2 tag ++ [0, 0]) ∧
  (∀ s tag k pins t, Heard s → tag < 2 ^ 16 → t < 2 ^ 80 → okLevels pins = true → k < 2 ^ 64 → s.dbgLevel = 2 → s.tick = 5 →
    (k = 0 ∨ t + nsec 20000 ≤ s.boundaryAt k) → s.rd (.cfg .waits) ≠ 2 →
    Does (.monitorRelease .object 0 tag (beBytes 8 k) pins t) s fun u =>
      (u.tick = 2 ∨ u.tick = 4) ∧ (s.rd (.tick .heldCause) ≠ 0 → u.tick = 4) ∧ u.rd (.dbg .STAT_HALT) = 0 ∧
        u.response = [4, 0] ++ beBytes 2 tag ++ [0, 0]) ∧
  (∀ s tag k pins t, Heard s → tag < 2 ^ 16 → t < 2 ^ 80 → okLevels pins = true → 1 ≤ k → k < 2 ^ 64 → s.dbgLevel = 2 → s.tick = 5 →
    s.boundaryAt k < t + nsec 20000 →
    exec (.monitorRelease .object 0 tag (beBytes 8 k) pins t) s = .next (Told (s.at t) 4 3 tag)) ∧
  (∀ s tag n pins t, Heard s → tag < 2 ^ 16 → t < 2 ^ 80 → okLevels pins = true → 1 ≤ n → n < 2 ^ 16 → s.dbgLevel = 2 → s.tick = 2 →
    s.rd (.tick .GROUP_EN) = 0 → s.haltBusy = false →
    Does (.monitorStep .object 0 tag (beBytes 2 n ++ beBytes 8 0) pins t) s fun u =>
      u.tick = 2 ∧ u.rd (.dbg .STAT_STEPPING) = 1 ∧ u.rd (.dbg .STAT_STEPS) = n ∧ u.response = [5, 0] ++ beBytes 2 tag ++ [0, 0] ∧
        OnlyScalars [⟨.dbg .STAT_STEPPING, 0, 0⟩, ⟨.dbg .STAT_STEPS, 0, 0⟩, ⟨.dbg .STAT_DROPPED, 0, 0⟩, ⟨.dbg .later, 0, 0⟩]
          { s.at t with response := u.response } u) ∧
  (∀ s tag b ws s', Heard s → tag < 2 ^ 16 → areBytes b = true → b.length = 6 → 1 ≤ b.getD 5 0 → b.getD 5 0 ≤ 200 → 1 ≤ s.dbgLevel →
    s.readChunks (bytesAt b 0 5) false (b.getD 5 0 + 1) 0 (b.getD 5 0) [] 0 = (ws, 0, s') →
    exec (.monitorRead .object 0 tag b) s = .next { s' with
      response := [6, 0] ++ beBytes 2 tag ++ [0, 0] ++ ((ws.flatMap fun w => beBytes 6 (if w.2 then 0 else w.1)) ++ beBytes 25 (poisonMap ws)),
      pending := s.pending }) ∧
  (∀ s tag b s', Heard s → tag < 2 ^ 16 → areBytes b = true → 1 ≤ b.getD 5 0 → b.getD 5 0 ≤ 200 → b.length = 6 + 6 * b.getD 5 0 →
    s.dbgLevel = 2 →
    s.touch.writeChunks (bytesAt b 0 5) (b.getD 5 0 + 1) 0 ((List.range (b.getD 5 0)).map fun i => bytesAt b (6 + 6 * i) 6) = (0, s') →
    exec (.monitorWrite .object 0 tag b) s = .next { Told s' 7 0 tag with pending := s.pending }) ∧
  (∀ s tag idx sub r v x, Heard s → tag < 2 ^ 16 → idx < 2 ^ 16 → sub < 256 → 1 ≤ s.dbgLevel → ¬(idx = 0x3001 ∧ sub = 7) →
    s.objAbort idx sub = 0 → s.objRow idx sub = some r → r.acc ≠ .wo → r.src = .val v →
    exec (.monitorObject .object 0 tag (beBytes 2 idx ++ [sub, 0] ++ beBytes 4 0) x) s = .next { s with
      response := [8, 0] ++ beBytes 2 tag ++ [0, 0] ++
        responseBody idx sub 0 (typeBytes r.type) ((leBytes (typeBytes r.type) v).reverse.take 1440) }) ∧
  (∀ s tag d i, Heard s → tag < 2 ^ 16 → s.dbgLevel = 2 → d < Config.n → s.isolated d = false → s.tick = 5 →
    (i < 49152 → exec (.monitorReadback .object 0 tag ([d, 0] ++ beBytes 4 i)) s = .next (ReadsBack s tag (s.readTile d i))) ∧
    (i < 4608 → exec (.monitorReadback .object 0 tag ([d, 1] ++ beBytes 4 i)) s = .next (ReadsBack s tag (s.readSlice d i))) ∧
    (i < 1024 → exec (.monitorReadback .object 0 tag ([d, 2] ++ beBytes 4 i)) s = .next (ReadsBack s tag (s.readPort d (i / 2) (i % 2)))) ∧
    (i < 24 → exec (.monitorReadback .object 0 tag ([d, 3] ++ beBytes 4 i)) s = .next (ReadsBack s tag [s.readPin d i]))) ∧
  (∀ s tag d i, Heard s → tag < 2 ^ 16 → s.dbgLevel = 2 → d < Config.n → s.isolated d = false → s.tick ≠ 5 → i < 2 ^ 32 →
    exec (.monitorReadback .object 0 tag ([d, 2] ++ beBytes 4 i)) s = .next (Told s 9 2 tag)) ∧
  (∀ s tag d c src val mask limit, Heard s → tag < 2 ^ 16 → 1 ≤ s.dbgLevel → d < Config.n → s.isolated d = false → c < 8 → 1 ≤ src →
    src ≤ 5 →
    val < 2 ^ 48 → mask < 2 ^ 48 → limit < 2 ^ 16 →
    Does (.monitorCompare .object 0 tag ([d, c] ++ beBytes 6 (src + 8) ++ beBytes 6 val ++ beBytes 6 mask ++ beBytes 2 limit)) s fun t =>
      t.rd (.dbg .CMP_CFG_SRC) (1 + d) c = src ∧ t.rd (.dbg .CMP_CFG_ACTION) (1 + d) c = 1 ∧ t.rd (.dbg .CMP_VAL_VAL) (1 + d) c = val ∧
        t.rd (.dbg .CMP_MASK_MASK) (1 + d) c = mask ∧ t.rd (.dbg .CMP_CNT_LIMIT) (1 + d) c = limit ∧
        t.rd (.dbg .CMP_CNT_HITS) (1 + d) c = 0 ∧
        t.response = [10, 0] ++ beBytes 2 tag ++ [0, 0])

/-- What the comparator samples, none where its source does not run (R514). -/
def observes (s : State) (d c observed : Nat) : Option Nat :=
  match s.rd (.dbg .CMP_CFG_SRC) (1 + d) c with
  | 0 | 6 | 7 => none
  | 5 => if s.fabricRuns d && s.tick == 2 then some (s.rd (.tick .NUMBER) % 2 ^ 48) else none
  | 1 => s.fabricObserved d c
  | _ => if s.fabricRuns d then some observed else none

/-- The comparator exists and what it samples matches. -/
def Matches (s : State) (d c observed : Nat) : Prop :=
  s.coreUp = true ∧ d < Config.n ∧ c < 8 ∧ observed < 2 ^ 48 ∧ ∃ v, observes s d c observed = some v ∧ s.comparatorHits d c v = true

/-- It is not chained, or the comparator below it has matched in this tick (R515). -/
def ChainAllows (s : State) (d c : Nat) : Prop := c = 0 ∨ s.rd (.dbg .CMP_CFG_CHAIN) (1 + d) c ≠ 1 ∨ 8 * d + (c - 1) ∈ s.matched

/-- Comparators and registers: a disarmed comparator does nothing, one that matches counts and at its limit logs, an event is read once; a
register write takes what its register takes in the tick state that allows it, is ignored in another, by an isolated die, by SEC and
by comparators for any source but the monitor, and TICK_CTRL carries out its commands (R12, R40, R72, R449, R515, R516, R519, R520).
Log entries 77, 97, 103, 133 say what in it is the model's choice or reading. -/
def Obligations.ComparatorsAndRegisters : Prop :=
  (∀ s d c observed pos, s.coreUp = true → d < Config.n → c < 8 → observed < 2 ^ 48 →
    (∀ v, observes s d c observed = some v → s.comparatorHits d c v = false) →
    exec (.comparatorMatch d c observed pos) s = .next s) ∧
  (∀ s d c observed pos, Matches s d c observed → ¬ChainAllows s d c →
    exec (.comparatorMatch d c observed pos) s =
      .next { s with matched := if s.matched.contains (8 * d + c) then s.matched else s.matched ++ [8 * d + c] }) ∧
  (∀ s d c observed pos, Matches s d c observed → ChainAllows s d c →
    Does (.comparatorMatch d c observed pos) s fun t =>
      8 * d + c ∈ t.matched ∧ t.rd (.dbg .CMP_CNT_HITS) (1 + d) c = satInc 16 (s.rd (.dbg .CMP_CNT_HITS) (1 + d) c)) ∧
  (∀ s d c observed pos, Matches s d c observed → ChainAllows s d c → s.rd (.dbg .CMP_CNT_HITS) (1 + d) c < 65535 →
    (s.rd (.dbg .CMP_CNT_HITS) (1 + d) c + 1) % max 1 (s.rd (.dbg .CMP_CNT_LIMIT) (1 + d) c) ≠ 0 →
    Does (.comparatorMatch d c observed pos) s fun t => OnlyScalars [⟨.dbg .CMP_CNT_HITS, 1 + d, c⟩] { s with matched := t.matched } t) ∧
  (∀ s d c observed pos, Matches s d c observed → ChainAllows s d c → s.rd (.dbg .CMP_CNT_HITS) (1 + d) c < 65535 →
    s.rd (.dbg .CMP_CNT_LIMIT) (1 + d) c ≤ 1 → 2 ≤ s.rd (.dbg .CMP_CFG_ACTION) (1 + d) c → s.rd (.dbg .CMP_CFG_ACTION) (1 + d) c ≤ 3 →
    s.tick = 2 → s.rd (.tick .GROUP_EN) ≠ 1 → s.haltBusy = false →
    Does (.comparatorMatch d c observed pos) s fun t =>
      t.rd (.dbg .STAT_CMP) = c ∧
        (if s.rd (.dbg .CMP_CFG_ACTION) (1 + d) c = 2 then t.tick = 2 ∧ t.rd (.dbg .STAT_PENDING) = 1 ∧ t.rd (.dbg .STAT_CAUSE) = 1
         else t.tick = 5 ∧ t.rd (.dbg .STAT_HALT) = 2)) ∧
  (∀ s d c observed pos, Matches s d c observed → ChainAllows s d c → pos < 2 ^ 24 → s.rd (.dbg .CMP_CFG_SRC) (1 + d) c ≠ 5 →
    s.rd (.dbg .CMP_CFG_ACTION) (1 + d) c = 1 → s.rd (.dbg .CMP_CFG_ONCE) (1 + d) c = 0 →
    s.rd (.dbg .CMP_CNT_LIMIT) (1 + d) c ≤ 1 → s.rd (.dbg .CMP_CNT_HITS) (1 + d) c < 65535 → s.dbgEvents.length < 64 →
    Does (.comparatorMatch d c observed pos) s fun t =>
      t.rd (.dbg .CMP_CNT_HITS) (1 + d) c = s.rd (.dbg .CMP_CNT_HITS) (1 + d) c + 1 ∧
        t.dbgEvents = s.dbgEvents ++ [1 + (1 + d) * 2 + c * 2 ^ 5 + s.tickTag * 2 ^ 8 + pos * 2 ^ 24] ∧
        t.rd (.dbg .STAT_QUEUED) = s.dbgEvents.length + 1 ∧ 8 * d + c ∈ t.matched ∧
        OnlyScalars [⟨.dbg .CMP_CNT_HITS, 1 + d, c⟩, ⟨.dbg .STAT_QUEUED, 0, 0⟩] { s with dbgEvents := t.dbgEvents, matched := t.matched } t) ∧
  (∀ s e l, s.coreUp = true → s.dbgEvents = e :: l → l.length < 64 →
    Does .dbgEventRead s fun t =>
      t.out = s.out ++ [⟨.readBack, 0, [e]⟩] ∧ t.dbgEvents = l ∧ t.rd (.dbg .STAT_QUEUED) = l.length ∧
        OnlyScalars [⟨.dbg .STAT_QUEUED, 0, 0⟩] { s with dbgEvents := l, out := t.out } t) ∧
  (∀ s, s.coreUp = true → s.dbgEvents = [] →
    Does .dbgEventRead s fun t => t.out = s.out ++ [⟨.readBack, 0, [0]⟩] ∧ t.dbgEvents = [] ∧ t.rd (.dbg .STAT_QUEUED) = 0) ∧
  (∀ s src v, s.coreUp = true → v < 2 ^ 48 → s.tickIdle = true →
    Does (.registerWrite src 0 1 2 v) s fun t => t.rd (.tick .PERIOD_P) = v % 2 ^ 26 ∧ OnlyScalars [⟨.tick .PERIOD_P, 0, 0⟩] s t) ∧
  (∀ s src v, s.coreUp = true → v < 2 ^ 48 → s.tickIdle = false → exec (.registerWrite src 0 1 2 v) s = .next s) ∧
  (∀ s src, s.coreUp = true → s.time < 2 ^ 80 →
    exec (.registerWrite src 0 1 0 1) s = exec (.tickArm s.time) s ∧ exec (.registerWrite src 0 1 0 2) s = exec (.tickResume s.time) s ∧
      exec (.registerWrite src 0 1 0 3) s = exec .tickPause s ∧ exec (.registerWrite src 0 1 0 4) s = exec .tickStop s) ∧
  (∀ s src d block off v, s.coreUp = true → d < Config.n → s.isolated d = true → v < 2 ^ 48 → blockExists (1 + d) block = true →
    csrExists (1 + d) block off = true → exec (.registerWrite src (1 + d) block off v) s = .next s) ∧
  (∀ s src off v, s.coreUp = true → v < 2 ^ 48 → blockExists 0 4 = true → csrExists 0 4 off = true → off ≠ 0x10 →
    exec (.registerWrite src 0 4 off v) s = .next s) ∧
  (∀ s src d off v, s.coreUp = true → v < 2 ^ 48 → d < Config.n → csrExists (1 + d) 5 off = true → 0x10 ≤ off → off < 0x30 → src ≠ 2 →
    exec (.registerWrite src (1 + d) 5 off v) s = .next s)

/-- A step carries out the command at the front of the queue, with the rest of the queue waiting; with none waiting the fabric clocks run
(FabricClocks), which is the model's choice (log entry 3). No word spells a command: the table gives no row bits, so none is put in
front. -/
def Obligations.StepRunsTheFront : Prop :=
  (∀ (c : Instr) (l : List Instr) (s : State), step { s with pending := c :: l } = exec c { s with pending := l }) ∧
    (∀ s, s.pending = [] → step s = .next s.idle ∧ s.idle.pending = []) ∧
    (∀ (nbits w : Nat) (s : State), decodeTableWord nbits w = none ∧ s.withFetchWord nbits w = s)

/-- Every command whose operands name something the part has completes, from every state, and leaves the queue of waiting commands alone;
one that names something the part does not have is turned away by name, and none is refused. Log entry 9 says what in it is the
model's choice or reading. -/
def Obligations.WellFormedCommandsComplete : Prop :=
  ∀ (i : Instr) (s : State),
    (i.wellFormed = true → ∃ t, exec i s = .next t ∧ t.pending = s.pending) ∧ (i.wellFormed = false → exec i s = .fault .noSuchUnit)

/-- The frame of every command: the registers of a block, a memory, a buffer or a list that `Instr.touches` does not name for it is as it
was. Log entries 6 to 8 say what in it is the model's choice or reading. -/
def Obligations.CommandsKeepTheRest : Prop :=
  ∀ (i : Instr) (s t : State), exec i s = .next t → ∀ a, a ∉ i.touches → a.same s t

/-- Without the core rails nothing of the part works but the power manager, the tamper sensors, the credit and the CFG pins; before the
services are up nothing of the firmware does; before the dictionary runs no message is taken (R427, R550, R551). Log entry 10 says
what in it is the model's choice or reading. -/
def Obligations.PowerAndBootGateCommands : Prop :=
  (∀ (i : Instr) s, i.wellFormed = true → i.alwaysOn = false → s.coreUp = false → exec i s = .next s) ∧
    (∀ (i : Instr) s, i.wellFormed = true → i.ofFirmware = true → s.booted = false → exec i s = .next s) ∧
    (∀ (i : Instr) s, i.wellFormed = true → i.ofDictionary = true → s.served = false → exec i s = .next s)

/-- A step leaves no memory out of its canonical form, no scalar beyond its width, and no queue of R468, R474, R478 and R516 beyond its
length. Log entries 6 to 8 say what in it is the model's choice or reading. -/
def Obligations.StepsKeepStateSound : Prop :=
  ∀ s t : State, s.sound = true → step s = .next t → t.sound = true

/-- A queue of well-formed commands runs without a stop, and a step takes just its front away. Log entries 3, 9 say what in it is the
model's choice or reading. -/
def Obligations.StepsKeepQueueWellFormed : Prop :=
  ∀ s : State, s.queueOk = true → ∃ t, step s = .next t ∧ t.queueOk = true ∧ t.pending = s.pending.drop 1

/-- Right after power-on the part is sound, no command waits, nothing has gone out, every register reads its reset value, the tick is
STOPPED, every bank is off and its memories read zero, no die is powered and the module is PARKED with the core rails down. Log
entries 1, 2, 4 to 8 say what in it is the model's choice or reading. -/
def Obligations.ResetLeaves : Prop :=
  State.reset.sound = true ∧ State.reset.queueOk = true ∧ State.reset.pending = [] ∧ State.reset.out = [] ∧
    (∀ f u j, State.reset.rd f u j = f.dflt u j) ∧ State.reset.tick = 0 ∧ State.reset.coreUp = false ∧
    State.reset.rd (.mod .STAT_STATE) = 0 ∧ (∀ d b, d < Config.n → b < 512 → State.reset.rd (.bank .STAT_PWR) (1 + d) b = 0) ∧
    State.reset.rd (.tick .PERIOD_P) = 1000000 ∧ State.reset.conditions = [] ∧ State.reset.emcyQueue = []
end

