-- ==== Sys2Proof/Laws/Sparse.lean ====
section
/-! SUPPORT. The laws of the sparse stores: what is read after a write, and that every operation keeps the canonical
form. -/

namespace Sys2Proof.Machine.Sparse

variable {κ : Type} [DecidableEq κ] {num : κ → Nat} {d : κ → Nat}

/-- Numbering pairs is injective. -/
theorem pair_inj {a b c e : Nat} (h : pair a b = pair c e) : a = c ∧ b = e := by
  unfold pair at h
  have key : ∀ x y b e : Nat, b ≤ x → x < y → x * x + b < y * y + e := by
    intro x y b e hb hxy
    have : (x + 1) * (x + 1) ≤ y * y := Nat.mul_self_le_mul_self hxy
    nlinarith
  rcases Nat.lt_trichotomy (a + b) (c + e) with hl | he | hg
  · exact absurd h (Nat.ne_of_lt (key _ _ b e (by omega) hl))
  · rw [he] at h
    omega
  · exact absurd h.symm (Nat.ne_of_lt (key _ _ e b (by omega) hg))

@[simp] theorem get_nil (k : κ) : get d [] k = d k := rfl

/-- What no entry lists reads as the default. -/
theorem get_of_not_mem {l : List (κ × Nat)} {k : κ} (h : ∀ e ∈ l, e.1 ≠ k) : get d l k = d k := by
  induction l with
  | nil => rfl
  | cons a l ih =>
    simp only [get]
    rw [if_neg (h a (by simp))]
    exact ih fun e he => h e (by simp [he])

theorem get_erase_same (l : List (κ × Nat)) (k : κ) : get d (erase l k) k = d k :=
  get_of_not_mem fun e he => by simpa [erase] using (List.mem_filter.mp he).2

theorem get_filter_other (l : List (κ × Nat)) (p : κ × Nat → Bool) (k : κ) (h : ∀ v, p (k, v) = true) :
    get d (l.filter p) k = get d l k := by
  induction l with
  | nil => rfl
  | cons a l ih =>
    obtain ⟨k', v⟩ := a
    by_cases hk : k' = k
    · subst hk
      simp [h, get]
    · by_cases hp : p (k', v) = true <;> simp [hp, get, hk, ih]

theorem get_erase_other (l : List (κ × Nat)) {k k' : κ} (h : k' ≠ k) : get d (erase l k) k' = get d l k' :=
  get_filter_other l _ k' fun _ => by simpa using h

theorem get_insert_same (l : List (κ × Nat)) (k : κ) (v : Nat) (h : ∀ e ∈ l, e.1 ≠ k) :
    get d (insert num k v l) k = v := by
  induction l with
  | nil => simp [insert, get]
  | cons a l ih =>
    obtain ⟨k', v'⟩ := a
    have hk : k' ≠ k := h (k', v') (by simp)
    unfold insert
    split
    · simp [get]
    · simp only [get, hk, if_false]
      exact ih fun e he => h e (by simp [he])

theorem get_insert_other (l : List (κ × Nat)) {k k' : κ} (v : Nat) (h : k' ≠ k) :
    get d (insert num k v l) k' = get d l k' := by
  induction l with
  | nil => simp [insert, get, Ne.symm h]
  | cons a l ih =>
    obtain ⟨k₀, v₀⟩ := a
    unfold insert
    split
    · simp [get, Ne.symm h]
    · simp only [get, ih]

/-- A read of what was just written gives the value written. -/
@[simp] theorem get_set_same (l : List (κ × Nat)) (k : κ) (v : Nat) : get d (set num d l k v) k = v := by
  unfold set
  split
  · rename_i h
    rw [get_erase_same, h]
  · exact get_insert_same _ k v fun e he => by simpa [erase] using (List.mem_filter.mp he).2

/-- A write leaves every other key alone. -/
theorem get_set_other (l : List (κ × Nat)) {k k' : κ} (v : Nat) (h : k' ≠ k) :
    get d (set num d l k v) k' = get d l k' := by
  unfold set
  split
  · exact get_erase_other l h
  · rw [get_insert_other _ v h, get_erase_other l h]

/-- A read after a write. -/
theorem get_set (l : List (κ × Nat)) (k k' : κ) (v : Nat) :
    get d (set num d l k v) k' = if k' = k then v else get d l k' := by
  split
  · rename_i h
    rw [h, get_set_same]
  · rename_i h
    exact get_set_other l v h

theorem get_clear_in (l : List (κ × Nat)) (p : κ → Bool) {k : κ} (h : p k = true) : get d (clear p l) k = d k :=
  get_of_not_mem fun e he => by
    intro hk
    have := (List.mem_filter.mp he).2
    simp [hk, h] at this

theorem get_clear_out (l : List (κ × Nat)) (p : κ → Bool) {k : κ} (h : p k = false) :
    get d (clear p l) k = get d l k :=
  get_filter_other l _ k fun _ => by simp [h]

/-- Keys that `p` meets read as the default after they are cleared, and no other key changes. -/
theorem get_clear (l : List (κ × Nat)) (p : κ → Bool) (k : κ) :
    get d (clear p l) k = if p k then d k else get d l k := by
  by_cases h : p k = true
  · rw [if_pos h, get_clear_in l p h]
  · rw [if_neg h, get_clear_out l p (by simpa using h)]

omit [DecidableEq κ] in
/-- The strict order on entries, as Mathlib's lists know it. -/
theorem sorted_iff (l : List (κ × Nat)) : sorted num l = true ↔ l.Pairwise (fun a b => num a.1 < num b.1) := by
  induction l with
  | nil => simp [sorted]
  | cons a l ih =>
    cases l with
    | nil => simp [sorted]
    | cons b r =>
      rw [sorted, Bool.and_eq_true, ih, List.pairwise_cons (a := a), decide_eq_true_eq]
      refine and_congr_left fun hp => ⟨fun h c hc => ?_, fun h => h b (by simp)⟩
      rcases List.mem_cons.mp hc with rfl | hc
      · exact h
      · exact lt_trans h ((List.pairwise_cons.mp hp).1 c hc)

omit [DecidableEq κ] in
theorem mem_insert {l : List (κ × Nat)} {k : κ} {v : Nat} {e : κ × Nat} (h : e ∈ insert num k v l) :
    e = (k, v) ∨ e ∈ l := by
  induction l with
  | nil => simpa [insert] using h
  | cons a l ih =>
    obtain ⟨k', v'⟩ := a
    unfold insert at h
    split at h
    · simpa using h
    · rcases List.mem_cons.mp h with h | h
      · exact .inr (by simp [h])
      · rcases ih h with h | h
        · exact .inl h
        · exact .inr (by simp [h])

omit [DecidableEq κ] in
theorem pairwise_insert {l : List (κ × Nat)} {k : κ} {v : Nat} (h : l.Pairwise (fun a b => num a.1 < num b.1))
    (hk : ∀ e ∈ l, num e.1 ≠ num k) : (insert num k v l).Pairwise (fun a b => num a.1 < num b.1) := by
  induction l with
  | nil => simp [insert]
  | cons a l ih =>
    obtain ⟨k', v'⟩ := a
    have hc := List.pairwise_cons.mp h
    unfold insert
    split
    · rename_i hlt
      refine List.pairwise_cons.mpr ⟨fun e he => ?_, h⟩
      rcases List.mem_cons.mp he with rfl | he
      · exact hlt
      · exact lt_trans hlt (hc.1 e he)
    · rename_i hge
      refine List.pairwise_cons.mpr ⟨fun e he => ?_, ih hc.2 fun e he => hk e (by simp [he])⟩
      rcases mem_insert he with rfl | he
      · have := hk (k', v') (by simp)
        simp only at this ⊢
        omega
      · exact hc.1 e he

/-- A write keeps the canonical form. -/
theorem set_wf {l : List (κ × Nat)} (inj : ∀ a b, num a = num b → a = b) (k : κ) (v : Nat) (h : wf num d l = true) :
    wf num d (set num d l k v) = true := by
  simp only [wf, Bool.and_eq_true, sorted_iff, List.all_eq_true, decide_eq_true_eq] at h ⊢
  obtain ⟨hs, hd⟩ := h
  have he : (erase l k).Pairwise (fun a b => num a.1 < num b.1) := hs.sublist List.filter_sublist
  have hm : ∀ e ∈ erase l k, e ∈ l ∧ e.1 ≠ k := fun e h => by simpa [erase] using h
  unfold set
  split
  · exact ⟨he, fun e h => hd e (hm e h).1⟩
  · rename_i hv
    refine ⟨pairwise_insert he fun e h hn => (hm e h).2 (inj _ _ hn), fun e h => ?_⟩
    rcases mem_insert h with rfl | h
    · exact hv
    · exact hd e (hm e h).1

omit [DecidableEq κ] in
/-- Clearing keeps the canonical form. -/
theorem clear_wf {l : List (κ × Nat)} (p : κ → Bool) (h : wf num d l = true) : wf num d (clear p l) = true := by
  simp only [wf, Bool.and_eq_true, sorted_iff, List.all_eq_true, decide_eq_true_eq] at h ⊢
  exact ⟨h.1.sublist List.filter_sublist, fun e he => h.2 e (List.mem_filter.mp he).1⟩

end Sys2Proof.Machine.Sparse
end

