-- ==== Sys2Proof/Laws/State.lean ====
section
/-! SUPPORT. What each update of the state leaves alone, field by field: every line is true by `rfl`. -/

namespace Sys2Proof.Machine

variable (s : State)

@[simp] theorem State.wr_time (f : Fld) (u j v : Nat) : (s.wr f u j v).time = s.time := rfl
@[simp] theorem State.wr_free (f : Fld) (u j v : Nat) : (s.wr f u j v).free = s.free := rfl
@[simp] theorem State.wr_emcyQueue (f : Fld) (u j v : Nat) : (s.wr f u j v).emcyQueue = s.emcyQueue := rfl
@[simp] theorem State.wr_emcyHistory (f : Fld) (u j v : Nat) : (s.wr f u j v).emcyHistory = s.emcyHistory := rfl
@[simp] theorem State.wr_conditions (f : Fld) (u j v : Nat) : (s.wr f u j v).conditions = s.conditions := rfl
@[simp] theorem State.wr_out (f : Fld) (u j v : Nat) : (s.wr f u j v).out = s.out := rfl
@[simp] theorem State.wr_banks (f : Fld) (u j v : Nat) : (s.wr f u j v).banks = s.banks := rfl
@[simp] theorem State.wr_writeBacks (f : Fld) (u j v : Nat) : (s.wr f u j v).writeBacks = s.writeBacks := rfl
@[simp] theorem State.wr_heldOps (f : Fld) (u j v : Nat) : (s.wr f u j v).heldOps = s.heldOps := rfl
@[simp] theorem State.wr_bankWaits (f : Fld) (u j v : Nat) : (s.wr f u j v).bankWaits = s.bankWaits := rfl
@[simp] theorem State.wr_scrubWaits (f : Fld) (u j v : Nat) : (s.wr f u j v).scrubWaits = s.scrubWaits := rfl
@[simp] theorem State.wr_cache (f : Fld) (u j v : Nat) : (s.wr f u j v).cache = s.cache := rfl
@[simp] theorem State.wr_net (f : Fld) (u j v : Nat) : (s.wr f u j v).net = s.net := rfl
@[simp] theorem State.wr_replay (f : Fld) (u j v : Nat) : (s.wr f u j v).replay = s.replay := rfl
@[simp] theorem State.wr_crossing (f : Fld) (u j v : Nat) : (s.wr f u j v).crossing = s.crossing := rfl
@[simp] theorem State.wr_netHeld (f : Fld) (u j v : Nat) : (s.wr f u j v).netHeld = s.netHeld := rfl
@[simp] theorem State.wr_niWaits (f : Fld) (u j v : Nat) : (s.wr f u j v).niWaits = s.niWaits := rfl
@[simp] theorem State.wr_txns (f : Fld) (u j v : Nat) : (s.wr f u j v).txns = s.txns := rfl
@[simp] theorem State.wr_quarantine (f : Fld) (u j v : Nat) : (s.wr f u j v).quarantine = s.quarantine := rfl
@[simp] theorem State.wr_delivered (f : Fld) (u j v : Nat) : (s.wr f u j v).delivered = s.delivered := rfl
@[simp] theorem State.wr_mailboxes (f : Fld) (u j v : Nat) : (s.wr f u j v).mailboxes = s.mailboxes := rfl
@[simp] theorem State.wr_queues (f : Fld) (u j v : Nat) : (s.wr f u j v).queues = s.queues := rfl
@[simp] theorem State.wr_queueSnaps (f : Fld) (u j v : Nat) : (s.wr f u j v).queueSnaps = s.queueSnaps := rfl
@[simp] theorem State.wr_ctx (f : Fld) (u j v : Nat) : (s.wr f u j v).ctx = s.ctx := rfl
@[simp] theorem State.wr_ctxImage (f : Fld) (u j v : Nat) : (s.wr f u j v).ctxImage = s.ctxImage := rfl
@[simp] theorem State.wr_ctxShadow (f : Fld) (u j v : Nat) : (s.wr f u j v).ctxShadow = s.ctxShadow := rfl
@[simp] theorem State.wr_ctxStaged (f : Fld) (u j v : Nat) : (s.wr f u j v).ctxStaged = s.ctxStaged := rfl
@[simp] theorem State.wr_exchanges (f : Fld) (u j v : Nat) : (s.wr f u j v).exchanges = s.exchanges := rfl
@[simp] theorem State.wr_statuses (f : Fld) (u j v : Nat) : (s.wr f u j v).statuses = s.statuses := rfl
@[simp] theorem State.wr_built (f : Fld) (u j v : Nat) : (s.wr f u j v).built = s.built := rfl
@[simp] theorem State.wr_dram (f : Fld) (u j v : Nat) : (s.wr f u j v).dram = s.dram := rfl
@[simp] theorem State.wr_dramReqs (f : Fld) (u j v : Nat) : (s.wr f u j v).dramReqs = s.dramReqs := rfl
@[simp] theorem State.wr_dramWrites (f : Fld) (u j v : Nat) : (s.wr f u j v).dramWrites = s.dramWrites := rfl
@[simp] theorem State.wr_portTx (f : Fld) (u j v : Nat) : (s.wr f u j v).portTx = s.portTx := rfl
@[simp] theorem State.wr_rxHeld (f : Fld) (u j v : Nat) : (s.wr f u j v).rxHeld = s.rxHeld := rfl
@[simp] theorem State.wr_laneBufs (f : Fld) (u j v : Nat) : (s.wr f u j v).laneBufs = s.laneBufs := rfl
@[simp] theorem State.wr_oasis (f : Fld) (u j v : Nat) : (s.wr f u j v).oasis = s.oasis := rfl
@[simp] theorem State.wr_sealedOasis (f : Fld) (u j v : Nat) : (s.wr f u j v).sealedOasis = s.sealedOasis := rfl
@[simp] theorem State.wr_keySlots (f : Fld) (u j v : Nat) : (s.wr f u j v).keySlots = s.keySlots := rfl
@[simp] theorem State.wr_certificate (f : Fld) (u j v : Nat) : (s.wr f u j v).certificate = s.certificate := rfl
@[simp] theorem State.wr_report (f : Fld) (u j v : Nat) : (s.wr f u j v).report = s.report := rfl
@[simp] theorem State.wr_copyA (f : Fld) (u j v : Nat) : (s.wr f u j v).copyA = s.copyA := rfl
@[simp] theorem State.wr_copyB (f : Fld) (u j v : Nat) : (s.wr f u j v).copyB = s.copyB := rfl
@[simp] theorem State.wr_tamperLog (f : Fld) (u j v : Nat) : (s.wr f u j v).tamperLog = s.tamperLog := rfl
@[simp] theorem State.wr_plane (f : Fld) (u j v : Nat) : (s.wr f u j v).plane = s.plane := rfl
@[simp] theorem State.wr_ffs (f : Fld) (u j v : Nat) : (s.wr f u j v).ffs = s.ffs := rfl
@[simp] theorem State.wr_hops (f : Fld) (u j v : Nat) : (s.wr f u j v).hops = s.hops := rfl
@[simp] theorem State.wr_portOuts (f : Fld) (u j v : Nat) : (s.wr f u j v).portOuts = s.portOuts := rfl
@[simp] theorem State.wr_isoHeld (f : Fld) (u j v : Nat) : (s.wr f u j v).isoHeld = s.isoHeld := rfl
@[simp] theorem State.wr_targets (f : Fld) (u j v : Nat) : (s.wr f u j v).targets = s.targets := rfl
@[simp] theorem State.wr_staged (f : Fld) (u j v : Nat) : (s.wr f u j v).staged = s.staged := rfl
@[simp] theorem State.wr_stream (f : Fld) (u j v : Nat) : (s.wr f u j v).stream = s.stream := rfl
@[simp] theorem State.wr_imageBytes (f : Fld) (u j v : Nat) : (s.wr f u j v).imageBytes = s.imageBytes := rfl
@[simp] theorem State.wr_odVals (f : Fld) (u j v : Nat) : (s.wr f u j v).odVals = s.odVals := rfl
@[simp] theorem State.wr_sessions (f : Fld) (u j v : Nat) : (s.wr f u j v).sessions = s.sessions := rfl
@[simp] theorem State.wr_rpdoHeld (f : Fld) (u j v : Nat) : (s.wr f u j v).rpdoHeld = s.rpdoHeld := rfl
@[simp] theorem State.wr_response (f : Fld) (u j v : Nat) : (s.wr f u j v).response = s.response := rfl
@[simp] theorem State.wr_tokenParts (f : Fld) (u j v : Nat) : (s.wr f u j v).tokenParts = s.tokenParts := rfl
@[simp] theorem State.wr_objectParts (f : Fld) (u j v : Nat) : (s.wr f u j v).objectParts = s.objectParts := rfl
@[simp] theorem State.wr_dbgEvents (f : Fld) (u j v : Nat) : (s.wr f u j v).dbgEvents = s.dbgEvents := rfl
@[simp] theorem State.wr_matched (f : Fld) (u j v : Nat) : (s.wr f u j v).matched = s.matched := rfl
@[simp] theorem State.wr_fobjs (f : Fld) (u j v : Nat) : (s.wr f u j v).fobjs = s.fobjs := rfl
@[simp] theorem State.wr_fvals (f : Fld) (u j v : Nat) : (s.wr f u j v).fvals = s.fvals := rfl
@[simp] theorem State.wr_fstaged (f : Fld) (u j v : Nat) : (s.wr f u j v).fstaged = s.fstaged := rfl
@[simp] theorem State.wr_fwrites (f : Fld) (u j v : Nat) : (s.wr f u j v).fwrites = s.fwrites := rfl
@[simp] theorem State.wr_pending (f : Fld) (u j v : Nat) : (s.wr f u j v).pending = s.pending := rfl

@[simp] theorem State.resetKeys_time (p : Key → Bool) : (s.resetKeys p).time = s.time := rfl
@[simp] theorem State.resetKeys_free (p : Key → Bool) : (s.resetKeys p).free = s.free := rfl
@[simp] theorem State.resetKeys_emcyQueue (p : Key → Bool) : (s.resetKeys p).emcyQueue = s.emcyQueue := rfl
@[simp] theorem State.resetKeys_emcyHistory (p : Key → Bool) : (s.resetKeys p).emcyHistory = s.emcyHistory := rfl
@[simp] theorem State.resetKeys_conditions (p : Key → Bool) : (s.resetKeys p).conditions = s.conditions := rfl
@[simp] theorem State.resetKeys_out (p : Key → Bool) : (s.resetKeys p).out = s.out := rfl
@[simp] theorem State.resetKeys_banks (p : Key → Bool) : (s.resetKeys p).banks = s.banks := rfl
@[simp] theorem State.resetKeys_writeBacks (p : Key → Bool) : (s.resetKeys p).writeBacks = s.writeBacks := rfl
@[simp] theorem State.resetKeys_heldOps (p : Key → Bool) : (s.resetKeys p).heldOps = s.heldOps := rfl
@[simp] theorem State.resetKeys_bankWaits (p : Key → Bool) : (s.resetKeys p).bankWaits = s.bankWaits := rfl
@[simp] theorem State.resetKeys_scrubWaits (p : Key → Bool) : (s.resetKeys p).scrubWaits = s.scrubWaits := rfl
@[simp] theorem State.resetKeys_cache (p : Key → Bool) : (s.resetKeys p).cache = s.cache := rfl
@[simp] theorem State.resetKeys_net (p : Key → Bool) : (s.resetKeys p).net = s.net := rfl
@[simp] theorem State.resetKeys_replay (p : Key → Bool) : (s.resetKeys p).replay = s.replay := rfl
@[simp] theorem State.resetKeys_crossing (p : Key → Bool) : (s.resetKeys p).crossing = s.crossing := rfl
@[simp] theorem State.resetKeys_netHeld (p : Key → Bool) : (s.resetKeys p).netHeld = s.netHeld := rfl
@[simp] theorem State.resetKeys_niWaits (p : Key → Bool) : (s.resetKeys p).niWaits = s.niWaits := rfl
@[simp] theorem State.resetKeys_txns (p : Key → Bool) : (s.resetKeys p).txns = s.txns := rfl
@[simp] theorem State.resetKeys_quarantine (p : Key → Bool) : (s.resetKeys p).quarantine = s.quarantine := rfl
@[simp] theorem State.resetKeys_delivered (p : Key → Bool) : (s.resetKeys p).delivered = s.delivered := rfl
@[simp] theorem State.resetKeys_mailboxes (p : Key → Bool) : (s.resetKeys p).mailboxes = s.mailboxes := rfl
@[simp] theorem State.resetKeys_queues (p : Key → Bool) : (s.resetKeys p).queues = s.queues := rfl
@[simp] theorem State.resetKeys_queueSnaps (p : Key → Bool) : (s.resetKeys p).queueSnaps = s.queueSnaps := rfl
@[simp] theorem State.resetKeys_ctx (p : Key → Bool) : (s.resetKeys p).ctx = s.ctx := rfl
@[simp] theorem State.resetKeys_ctxImage (p : Key → Bool) : (s.resetKeys p).ctxImage = s.ctxImage := rfl
@[simp] theorem State.resetKeys_ctxShadow (p : Key → Bool) : (s.resetKeys p).ctxShadow = s.ctxShadow := rfl
@[simp] theorem State.resetKeys_ctxStaged (p : Key → Bool) : (s.resetKeys p).ctxStaged = s.ctxStaged := rfl
@[simp] theorem State.resetKeys_exchanges (p : Key → Bool) : (s.resetKeys p).exchanges = s.exchanges := rfl
@[simp] theorem State.resetKeys_statuses (p : Key → Bool) : (s.resetKeys p).statuses = s.statuses := rfl
@[simp] theorem State.resetKeys_built (p : Key → Bool) : (s.resetKeys p).built = s.built := rfl
@[simp] theorem State.resetKeys_dram (p : Key → Bool) : (s.resetKeys p).dram = s.dram := rfl
@[simp] theorem State.resetKeys_dramReqs (p : Key → Bool) : (s.resetKeys p).dramReqs = s.dramReqs := rfl
@[simp] theorem State.resetKeys_dramWrites (p : Key → Bool) : (s.resetKeys p).dramWrites = s.dramWrites := rfl
@[simp] theorem State.resetKeys_portTx (p : Key → Bool) : (s.resetKeys p).portTx = s.portTx := rfl
@[simp] theorem State.resetKeys_rxHeld (p : Key → Bool) : (s.resetKeys p).rxHeld = s.rxHeld := rfl
@[simp] theorem State.resetKeys_laneBufs (p : Key → Bool) : (s.resetKeys p).laneBufs = s.laneBufs := rfl
@[simp] theorem State.resetKeys_oasis (p : Key → Bool) : (s.resetKeys p).oasis = s.oasis := rfl
@[simp] theorem State.resetKeys_sealedOasis (p : Key → Bool) : (s.resetKeys p).sealedOasis = s.sealedOasis := rfl
@[simp] theorem State.resetKeys_keySlots (p : Key → Bool) : (s.resetKeys p).keySlots = s.keySlots := rfl
@[simp] theorem State.resetKeys_certificate (p : Key → Bool) : (s.resetKeys p).certificate = s.certificate := rfl
@[simp] theorem State.resetKeys_report (p : Key → Bool) : (s.resetKeys p).report = s.report := rfl
@[simp] theorem State.resetKeys_copyA (p : Key → Bool) : (s.resetKeys p).copyA = s.copyA := rfl
@[simp] theorem State.resetKeys_copyB (p : Key → Bool) : (s.resetKeys p).copyB = s.copyB := rfl
@[simp] theorem State.resetKeys_tamperLog (p : Key → Bool) : (s.resetKeys p).tamperLog = s.tamperLog := rfl
@[simp] theorem State.resetKeys_plane (p : Key → Bool) : (s.resetKeys p).plane = s.plane := rfl
@[simp] theorem State.resetKeys_ffs (p : Key → Bool) : (s.resetKeys p).ffs = s.ffs := rfl
@[simp] theorem State.resetKeys_hops (p : Key → Bool) : (s.resetKeys p).hops = s.hops := rfl
@[simp] theorem State.resetKeys_portOuts (p : Key → Bool) : (s.resetKeys p).portOuts = s.portOuts := rfl
@[simp] theorem State.resetKeys_isoHeld (p : Key → Bool) : (s.resetKeys p).isoHeld = s.isoHeld := rfl
@[simp] theorem State.resetKeys_targets (p : Key → Bool) : (s.resetKeys p).targets = s.targets := rfl
@[simp] theorem State.resetKeys_staged (p : Key → Bool) : (s.resetKeys p).staged = s.staged := rfl
@[simp] theorem State.resetKeys_stream (p : Key → Bool) : (s.resetKeys p).stream = s.stream := rfl
@[simp] theorem State.resetKeys_imageBytes (p : Key → Bool) : (s.resetKeys p).imageBytes = s.imageBytes := rfl
@[simp] theorem State.resetKeys_odVals (p : Key → Bool) : (s.resetKeys p).odVals = s.odVals := rfl
@[simp] theorem State.resetKeys_sessions (p : Key → Bool) : (s.resetKeys p).sessions = s.sessions := rfl
@[simp] theorem State.resetKeys_rpdoHeld (p : Key → Bool) : (s.resetKeys p).rpdoHeld = s.rpdoHeld := rfl
@[simp] theorem State.resetKeys_response (p : Key → Bool) : (s.resetKeys p).response = s.response := rfl
@[simp] theorem State.resetKeys_tokenParts (p : Key → Bool) : (s.resetKeys p).tokenParts = s.tokenParts := rfl
@[simp] theorem State.resetKeys_objectParts (p : Key → Bool) : (s.resetKeys p).objectParts = s.objectParts := rfl
@[simp] theorem State.resetKeys_dbgEvents (p : Key → Bool) : (s.resetKeys p).dbgEvents = s.dbgEvents := rfl
@[simp] theorem State.resetKeys_matched (p : Key → Bool) : (s.resetKeys p).matched = s.matched := rfl
@[simp] theorem State.resetKeys_fobjs (p : Key → Bool) : (s.resetKeys p).fobjs = s.fobjs := rfl
@[simp] theorem State.resetKeys_fvals (p : Key → Bool) : (s.resetKeys p).fvals = s.fvals := rfl
@[simp] theorem State.resetKeys_fstaged (p : Key → Bool) : (s.resetKeys p).fstaged = s.fstaged := rfl
@[simp] theorem State.resetKeys_fwrites (p : Key → Bool) : (s.resetKeys p).fwrites = s.fwrites := rfl
@[simp] theorem State.resetKeys_pending (p : Key → Bool) : (s.resetKeys p).pending = s.pending := rfl

@[simp] theorem State.spend_regs : (s.spend).regs = s.regs := rfl
@[simp] theorem State.spend_time : (s.spend).time = s.time := rfl
@[simp] theorem State.spend_emcyQueue : (s.spend).emcyQueue = s.emcyQueue := rfl
@[simp] theorem State.spend_emcyHistory : (s.spend).emcyHistory = s.emcyHistory := rfl
@[simp] theorem State.spend_conditions : (s.spend).conditions = s.conditions := rfl
@[simp] theorem State.spend_out : (s.spend).out = s.out := rfl
@[simp] theorem State.spend_banks : (s.spend).banks = s.banks := rfl
@[simp] theorem State.spend_writeBacks : (s.spend).writeBacks = s.writeBacks := rfl
@[simp] theorem State.spend_heldOps : (s.spend).heldOps = s.heldOps := rfl
@[simp] theorem State.spend_bankWaits : (s.spend).bankWaits = s.bankWaits := rfl
@[simp] theorem State.spend_scrubWaits : (s.spend).scrubWaits = s.scrubWaits := rfl
@[simp] theorem State.spend_cache : (s.spend).cache = s.cache := rfl
@[simp] theorem State.spend_net : (s.spend).net = s.net := rfl
@[simp] theorem State.spend_replay : (s.spend).replay = s.replay := rfl
@[simp] theorem State.spend_crossing : (s.spend).crossing = s.crossing := rfl
@[simp] theorem State.spend_netHeld : (s.spend).netHeld = s.netHeld := rfl
@[simp] theorem State.spend_niWaits : (s.spend).niWaits = s.niWaits := rfl
@[simp] theorem State.spend_txns : (s.spend).txns = s.txns := rfl
@[simp] theorem State.spend_quarantine : (s.spend).quarantine = s.quarantine := rfl
@[simp] theorem State.spend_delivered : (s.spend).delivered = s.delivered := rfl
@[simp] theorem State.spend_mailboxes : (s.spend).mailboxes = s.mailboxes := rfl
@[simp] theorem State.spend_queues : (s.spend).queues = s.queues := rfl
@[simp] theorem State.spend_queueSnaps : (s.spend).queueSnaps = s.queueSnaps := rfl
@[simp] theorem State.spend_ctx : (s.spend).ctx = s.ctx := rfl
@[simp] theorem State.spend_ctxImage : (s.spend).ctxImage = s.ctxImage := rfl
@[simp] theorem State.spend_ctxShadow : (s.spend).ctxShadow = s.ctxShadow := rfl
@[simp] theorem State.spend_ctxStaged : (s.spend).ctxStaged = s.ctxStaged := rfl
@[simp] theorem State.spend_exchanges : (s.spend).exchanges = s.exchanges := rfl
@[simp] theorem State.spend_statuses : (s.spend).statuses = s.statuses := rfl
@[simp] theorem State.spend_built : (s.spend).built = s.built := rfl
@[simp] theorem State.spend_dram : (s.spend).dram = s.dram := rfl
@[simp] theorem State.spend_dramReqs : (s.spend).dramReqs = s.dramReqs := rfl
@[simp] theorem State.spend_dramWrites : (s.spend).dramWrites = s.dramWrites := rfl
@[simp] theorem State.spend_portTx : (s.spend).portTx = s.portTx := rfl
@[simp] theorem State.spend_rxHeld : (s.spend).rxHeld = s.rxHeld := rfl
@[simp] theorem State.spend_laneBufs : (s.spend).laneBufs = s.laneBufs := rfl
@[simp] theorem State.spend_oasis : (s.spend).oasis = s.oasis := rfl
@[simp] theorem State.spend_sealedOasis : (s.spend).sealedOasis = s.sealedOasis := rfl
@[simp] theorem State.spend_keySlots : (s.spend).keySlots = s.keySlots := rfl
@[simp] theorem State.spend_certificate : (s.spend).certificate = s.certificate := rfl
@[simp] theorem State.spend_report : (s.spend).report = s.report := rfl
@[simp] theorem State.spend_copyA : (s.spend).copyA = s.copyA := rfl
@[simp] theorem State.spend_copyB : (s.spend).copyB = s.copyB := rfl
@[simp] theorem State.spend_tamperLog : (s.spend).tamperLog = s.tamperLog := rfl
@[simp] theorem State.spend_plane : (s.spend).plane = s.plane := rfl
@[simp] theorem State.spend_ffs : (s.spend).ffs = s.ffs := rfl
@[simp] theorem State.spend_hops : (s.spend).hops = s.hops := rfl
@[simp] theorem State.spend_portOuts : (s.spend).portOuts = s.portOuts := rfl
@[simp] theorem State.spend_isoHeld : (s.spend).isoHeld = s.isoHeld := rfl
@[simp] theorem State.spend_targets : (s.spend).targets = s.targets := rfl
@[simp] theorem State.spend_staged : (s.spend).staged = s.staged := rfl
@[simp] theorem State.spend_stream : (s.spend).stream = s.stream := rfl
@[simp] theorem State.spend_imageBytes : (s.spend).imageBytes = s.imageBytes := rfl
@[simp] theorem State.spend_odVals : (s.spend).odVals = s.odVals := rfl
@[simp] theorem State.spend_sessions : (s.spend).sessions = s.sessions := rfl
@[simp] theorem State.spend_rpdoHeld : (s.spend).rpdoHeld = s.rpdoHeld := rfl
@[simp] theorem State.spend_response : (s.spend).response = s.response := rfl
@[simp] theorem State.spend_tokenParts : (s.spend).tokenParts = s.tokenParts := rfl
@[simp] theorem State.spend_objectParts : (s.spend).objectParts = s.objectParts := rfl
@[simp] theorem State.spend_dbgEvents : (s.spend).dbgEvents = s.dbgEvents := rfl
@[simp] theorem State.spend_matched : (s.spend).matched = s.matched := rfl
@[simp] theorem State.spend_fobjs : (s.spend).fobjs = s.fobjs := rfl
@[simp] theorem State.spend_fvals : (s.spend).fvals = s.fvals := rfl
@[simp] theorem State.spend_fstaged : (s.spend).fstaged = s.fstaged := rfl
@[simp] theorem State.spend_fwrites : (s.spend).fwrites = s.fwrites := rfl
@[simp] theorem State.spend_pending : (s.spend).pending = s.pending := rfl

@[simp] theorem State.emit_regs (k : OutKind) (n : Nat) (l : List Nat) : (s.emit k n l).regs = s.regs := rfl
@[simp] theorem State.emit_time (k : OutKind) (n : Nat) (l : List Nat) : (s.emit k n l).time = s.time := rfl
@[simp] theorem State.emit_free (k : OutKind) (n : Nat) (l : List Nat) : (s.emit k n l).free = s.free := rfl
@[simp] theorem State.emit_emcyQueue (k : OutKind) (n : Nat) (l : List Nat) : (s.emit k n l).emcyQueue = s.emcyQueue := rfl
@[simp] theorem State.emit_emcyHistory (k : OutKind) (n : Nat) (l : List Nat) : (s.emit k n l).emcyHistory = s.emcyHistory := rfl
@[simp] theorem State.emit_conditions (k : OutKind) (n : Nat) (l : List Nat) : (s.emit k n l).conditions = s.conditions := rfl
@[simp] theorem State.emit_banks (k : OutKind) (n : Nat) (l : List Nat) : (s.emit k n l).banks = s.banks := rfl
@[simp] theorem State.emit_writeBacks (k : OutKind) (n : Nat) (l : List Nat) : (s.emit k n l).writeBacks = s.writeBacks := rfl
@[simp] theorem State.emit_heldOps (k : OutKind) (n : Nat) (l : List Nat) : (s.emit k n l).heldOps = s.heldOps := rfl
@[simp] theorem State.emit_bankWaits (k : OutKind) (n : Nat) (l : List Nat) : (s.emit k n l).bankWaits = s.bankWaits := rfl
@[simp] theorem State.emit_scrubWaits (k : OutKind) (n : Nat) (l : List Nat) : (s.emit k n l).scrubWaits = s.scrubWaits := rfl
@[simp] theorem State.emit_cache (k : OutKind) (n : Nat) (l : List Nat) : (s.emit k n l).cache = s.cache := rfl
@[simp] theorem State.emit_net (k : OutKind) (n : Nat) (l : List Nat) : (s.emit k n l).net = s.net := rfl
@[simp] theorem State.emit_replay (k : OutKind) (n : Nat) (l : List Nat) : (s.emit k n l).replay = s.replay := rfl
@[simp] theorem State.emit_crossing (k : OutKind) (n : Nat) (l : List Nat) : (s.emit k n l).crossing = s.crossing := rfl
@[simp] theorem State.emit_netHeld (k : OutKind) (n : Nat) (l : List Nat) : (s.emit k n l).netHeld = s.netHeld := rfl
@[simp] theorem State.emit_niWaits (k : OutKind) (n : Nat) (l : List Nat) : (s.emit k n l).niWaits = s.niWaits := rfl
@[simp] theorem State.emit_txns (k : OutKind) (n : Nat) (l : List Nat) : (s.emit k n l).txns = s.txns := rfl
@[simp] theorem State.emit_quarantine (k : OutKind) (n : Nat) (l : List Nat) : (s.emit k n l).quarantine = s.quarantine := rfl
@[simp] theorem State.emit_delivered (k : OutKind) (n : Nat) (l : List Nat) : (s.emit k n l).delivered = s.delivered := rfl
@[simp] theorem State.emit_mailboxes (k : OutKind) (n : Nat) (l : List Nat) : (s.emit k n l).mailboxes = s.mailboxes := rfl
@[simp] theorem State.emit_queues (k : OutKind) (n : Nat) (l : List Nat) : (s.emit k n l).queues = s.queues := rfl
@[simp] theorem State.emit_queueSnaps (k : OutKind) (n : Nat) (l : List Nat) : (s.emit k n l).queueSnaps = s.queueSnaps := rfl
@[simp] theorem State.emit_ctx (k : OutKind) (n : Nat) (l : List Nat) : (s.emit k n l).ctx = s.ctx := rfl
@[simp] theorem State.emit_ctxImage (k : OutKind) (n : Nat) (l : List Nat) : (s.emit k n l).ctxImage = s.ctxImage := rfl
@[simp] theorem State.emit_ctxShadow (k : OutKind) (n : Nat) (l : List Nat) : (s.emit k n l).ctxShadow = s.ctxShadow := rfl
@[simp] theorem State.emit_ctxStaged (k : OutKind) (n : Nat) (l : List Nat) : (s.emit k n l).ctxStaged = s.ctxStaged := rfl
@[simp] theorem State.emit_exchanges (k : OutKind) (n : Nat) (l : List Nat) : (s.emit k n l).exchanges = s.exchanges := rfl
@[simp] theorem State.emit_statuses (k : OutKind) (n : Nat) (l : List Nat) : (s.emit k n l).statuses = s.statuses := rfl
@[simp] theorem State.emit_built (k : OutKind) (n : Nat) (l : List Nat) : (s.emit k n l).built = s.built := rfl
@[simp] theorem State.emit_dram (k : OutKind) (n : Nat) (l : List Nat) : (s.emit k n l).dram = s.dram := rfl
@[simp] theorem State.emit_dramReqs (k : OutKind) (n : Nat) (l : List Nat) : (s.emit k n l).dramReqs = s.dramReqs := rfl
@[simp] theorem State.emit_dramWrites (k : OutKind) (n : Nat) (l : List Nat) : (s.emit k n l).dramWrites = s.dramWrites := rfl
@[simp] theorem State.emit_portTx (k : OutKind) (n : Nat) (l : List Nat) : (s.emit k n l).portTx = s.portTx := rfl
@[simp] theorem State.emit_rxHeld (k : OutKind) (n : Nat) (l : List Nat) : (s.emit k n l).rxHeld = s.rxHeld := rfl
@[simp] theorem State.emit_laneBufs (k : OutKind) (n : Nat) (l : List Nat) : (s.emit k n l).laneBufs = s.laneBufs := rfl
@[simp] theorem State.emit_oasis (k : OutKind) (n : Nat) (l : List Nat) : (s.emit k n l).oasis = s.oasis := rfl
@[simp] theorem State.emit_sealedOasis (k : OutKind) (n : Nat) (l : List Nat) : (s.emit k n l).sealedOasis = s.sealedOasis := rfl
@[simp] theorem State.emit_keySlots (k : OutKind) (n : Nat) (l : List Nat) : (s.emit k n l).keySlots = s.keySlots := rfl
@[simp] theorem State.emit_certificate (k : OutKind) (n : Nat) (l : List Nat) : (s.emit k n l).certificate = s.certificate := rfl
@[simp] theorem State.emit_report (k : OutKind) (n : Nat) (l : List Nat) : (s.emit k n l).report = s.report := rfl
@[simp] theorem State.emit_copyA (k : OutKind) (n : Nat) (l : List Nat) : (s.emit k n l).copyA = s.copyA := rfl
@[simp] theorem State.emit_copyB (k : OutKind) (n : Nat) (l : List Nat) : (s.emit k n l).copyB = s.copyB := rfl
@[simp] theorem State.emit_tamperLog (k : OutKind) (n : Nat) (l : List Nat) : (s.emit k n l).tamperLog = s.tamperLog := rfl
@[simp] theorem State.emit_plane (k : OutKind) (n : Nat) (l : List Nat) : (s.emit k n l).plane = s.plane := rfl
@[simp] theorem State.emit_ffs (k : OutKind) (n : Nat) (l : List Nat) : (s.emit k n l).ffs = s.ffs := rfl
@[simp] theorem State.emit_hops (k : OutKind) (n : Nat) (l : List Nat) : (s.emit k n l).hops = s.hops := rfl
@[simp] theorem State.emit_portOuts (k : OutKind) (n : Nat) (l : List Nat) : (s.emit k n l).portOuts = s.portOuts := rfl
@[simp] theorem State.emit_isoHeld (k : OutKind) (n : Nat) (l : List Nat) : (s.emit k n l).isoHeld = s.isoHeld := rfl
@[simp] theorem State.emit_targets (k : OutKind) (n : Nat) (l : List Nat) : (s.emit k n l).targets = s.targets := rfl
@[simp] theorem State.emit_staged (k : OutKind) (n : Nat) (l : List Nat) : (s.emit k n l).staged = s.staged := rfl
@[simp] theorem State.emit_stream (k : OutKind) (n : Nat) (l : List Nat) : (s.emit k n l).stream = s.stream := rfl
@[simp] theorem State.emit_imageBytes (k : OutKind) (n : Nat) (l : List Nat) : (s.emit k n l).imageBytes = s.imageBytes := rfl
@[simp] theorem State.emit_odVals (k : OutKind) (n : Nat) (l : List Nat) : (s.emit k n l).odVals = s.odVals := rfl
@[simp] theorem State.emit_sessions (k : OutKind) (n : Nat) (l : List Nat) : (s.emit k n l).sessions = s.sessions := rfl
@[simp] theorem State.emit_rpdoHeld (k : OutKind) (n : Nat) (l : List Nat) : (s.emit k n l).rpdoHeld = s.rpdoHeld := rfl
@[simp] theorem State.emit_response (k : OutKind) (n : Nat) (l : List Nat) : (s.emit k n l).response = s.response := rfl
@[simp] theorem State.emit_tokenParts (k : OutKind) (n : Nat) (l : List Nat) : (s.emit k n l).tokenParts = s.tokenParts := rfl
@[simp] theorem State.emit_objectParts (k : OutKind) (n : Nat) (l : List Nat) : (s.emit k n l).objectParts = s.objectParts := rfl
@[simp] theorem State.emit_dbgEvents (k : OutKind) (n : Nat) (l : List Nat) : (s.emit k n l).dbgEvents = s.dbgEvents := rfl
@[simp] theorem State.emit_matched (k : OutKind) (n : Nat) (l : List Nat) : (s.emit k n l).matched = s.matched := rfl
@[simp] theorem State.emit_fobjs (k : OutKind) (n : Nat) (l : List Nat) : (s.emit k n l).fobjs = s.fobjs := rfl
@[simp] theorem State.emit_fvals (k : OutKind) (n : Nat) (l : List Nat) : (s.emit k n l).fvals = s.fvals := rfl
@[simp] theorem State.emit_fstaged (k : OutKind) (n : Nat) (l : List Nat) : (s.emit k n l).fstaged = s.fstaged := rfl
@[simp] theorem State.emit_fwrites (k : OutKind) (n : Nat) (l : List Nat) : (s.emit k n l).fwrites = s.fwrites := rfl
@[simp] theorem State.emit_pending (k : OutKind) (n : Nat) (l : List Nat) : (s.emit k n l).pending = s.pending := rfl

@[simp] theorem State.at_regs (x : Nat) : (s.at x).regs = s.regs := rfl
@[simp] theorem State.at_free (x : Nat) : (s.at x).free = s.free := rfl
@[simp] theorem State.at_emcyQueue (x : Nat) : (s.at x).emcyQueue = s.emcyQueue := rfl
@[simp] theorem State.at_emcyHistory (x : Nat) : (s.at x).emcyHistory = s.emcyHistory := rfl
@[simp] theorem State.at_conditions (x : Nat) : (s.at x).conditions = s.conditions := rfl
@[simp] theorem State.at_out (x : Nat) : (s.at x).out = s.out := rfl
@[simp] theorem State.at_banks (x : Nat) : (s.at x).banks = s.banks := rfl
@[simp] theorem State.at_writeBacks (x : Nat) : (s.at x).writeBacks = s.writeBacks := rfl
@[simp] theorem State.at_heldOps (x : Nat) : (s.at x).heldOps = s.heldOps := rfl
@[simp] theorem State.at_bankWaits (x : Nat) : (s.at x).bankWaits = s.bankWaits := rfl
@[simp] theorem State.at_scrubWaits (x : Nat) : (s.at x).scrubWaits = s.scrubWaits := rfl
@[simp] theorem State.at_cache (x : Nat) : (s.at x).cache = s.cache := rfl
@[simp] theorem State.at_net (x : Nat) : (s.at x).net = s.net := rfl
@[simp] theorem State.at_replay (x : Nat) : (s.at x).replay = s.replay := rfl
@[simp] theorem State.at_crossing (x : Nat) : (s.at x).crossing = s.crossing := rfl
@[simp] theorem State.at_netHeld (x : Nat) : (s.at x).netHeld = s.netHeld := rfl
@[simp] theorem State.at_niWaits (x : Nat) : (s.at x).niWaits = s.niWaits := rfl
@[simp] theorem State.at_txns (x : Nat) : (s.at x).txns = s.txns := rfl
@[simp] theorem State.at_quarantine (x : Nat) : (s.at x).quarantine = s.quarantine := rfl
@[simp] theorem State.at_delivered (x : Nat) : (s.at x).delivered = s.delivered := rfl
@[simp] theorem State.at_mailboxes (x : Nat) : (s.at x).mailboxes = s.mailboxes := rfl
@[simp] theorem State.at_queues (x : Nat) : (s.at x).queues = s.queues := rfl
@[simp] theorem State.at_queueSnaps (x : Nat) : (s.at x).queueSnaps = s.queueSnaps := rfl
@[simp] theorem State.at_ctx (x : Nat) : (s.at x).ctx = s.ctx := rfl
@[simp] theorem State.at_ctxImage (x : Nat) : (s.at x).ctxImage = s.ctxImage := rfl
@[simp] theorem State.at_ctxShadow (x : Nat) : (s.at x).ctxShadow = s.ctxShadow := rfl
@[simp] theorem State.at_ctxStaged (x : Nat) : (s.at x).ctxStaged = s.ctxStaged := rfl
@[simp] theorem State.at_exchanges (x : Nat) : (s.at x).exchanges = s.exchanges := rfl
@[simp] theorem State.at_statuses (x : Nat) : (s.at x).statuses = s.statuses := rfl
@[simp] theorem State.at_built (x : Nat) : (s.at x).built = s.built := rfl
@[simp] theorem State.at_dram (x : Nat) : (s.at x).dram = s.dram := rfl
@[simp] theorem State.at_dramReqs (x : Nat) : (s.at x).dramReqs = s.dramReqs := rfl
@[simp] theorem State.at_dramWrites (x : Nat) : (s.at x).dramWrites = s.dramWrites := rfl
@[simp] theorem State.at_portTx (x : Nat) : (s.at x).portTx = s.portTx := rfl
@[simp] theorem State.at_rxHeld (x : Nat) : (s.at x).rxHeld = s.rxHeld := rfl
@[simp] theorem State.at_laneBufs (x : Nat) : (s.at x).laneBufs = s.laneBufs := rfl
@[simp] theorem State.at_oasis (x : Nat) : (s.at x).oasis = s.oasis := rfl
@[simp] theorem State.at_sealedOasis (x : Nat) : (s.at x).sealedOasis = s.sealedOasis := rfl
@[simp] theorem State.at_keySlots (x : Nat) : (s.at x).keySlots = s.keySlots := rfl
@[simp] theorem State.at_certificate (x : Nat) : (s.at x).certificate = s.certificate := rfl
@[simp] theorem State.at_report (x : Nat) : (s.at x).report = s.report := rfl
@[simp] theorem State.at_copyA (x : Nat) : (s.at x).copyA = s.copyA := rfl
@[simp] theorem State.at_copyB (x : Nat) : (s.at x).copyB = s.copyB := rfl
@[simp] theorem State.at_tamperLog (x : Nat) : (s.at x).tamperLog = s.tamperLog := rfl
@[simp] theorem State.at_plane (x : Nat) : (s.at x).plane = s.plane := rfl
@[simp] theorem State.at_ffs (x : Nat) : (s.at x).ffs = s.ffs := rfl
@[simp] theorem State.at_hops (x : Nat) : (s.at x).hops = s.hops := rfl
@[simp] theorem State.at_portOuts (x : Nat) : (s.at x).portOuts = s.portOuts := rfl
@[simp] theorem State.at_isoHeld (x : Nat) : (s.at x).isoHeld = s.isoHeld := rfl
@[simp] theorem State.at_targets (x : Nat) : (s.at x).targets = s.targets := rfl
@[simp] theorem State.at_staged (x : Nat) : (s.at x).staged = s.staged := rfl
@[simp] theorem State.at_stream (x : Nat) : (s.at x).stream = s.stream := rfl
@[simp] theorem State.at_imageBytes (x : Nat) : (s.at x).imageBytes = s.imageBytes := rfl
@[simp] theorem State.at_odVals (x : Nat) : (s.at x).odVals = s.odVals := rfl
@[simp] theorem State.at_sessions (x : Nat) : (s.at x).sessions = s.sessions := rfl
@[simp] theorem State.at_rpdoHeld (x : Nat) : (s.at x).rpdoHeld = s.rpdoHeld := rfl
@[simp] theorem State.at_response (x : Nat) : (s.at x).response = s.response := rfl
@[simp] theorem State.at_tokenParts (x : Nat) : (s.at x).tokenParts = s.tokenParts := rfl
@[simp] theorem State.at_objectParts (x : Nat) : (s.at x).objectParts = s.objectParts := rfl
@[simp] theorem State.at_dbgEvents (x : Nat) : (s.at x).dbgEvents = s.dbgEvents := rfl
@[simp] theorem State.at_matched (x : Nat) : (s.at x).matched = s.matched := rfl
@[simp] theorem State.at_fobjs (x : Nat) : (s.at x).fobjs = s.fobjs := rfl
@[simp] theorem State.at_fvals (x : Nat) : (s.at x).fvals = s.fvals := rfl
@[simp] theorem State.at_fstaged (x : Nat) : (s.at x).fstaged = s.fstaged := rfl
@[simp] theorem State.at_fwrites (x : Nat) : (s.at x).fwrites = s.fwrites := rfl
@[simp] theorem State.at_pending (x : Nat) : (s.at x).pending = s.pending := rfl

@[simp] theorem State.inc_time (f : Fld) (u j : Nat) : (s.inc f u j).time = s.time := rfl
@[simp] theorem State.inc_free (f : Fld) (u j : Nat) : (s.inc f u j).free = s.free := rfl
@[simp] theorem State.inc_emcyQueue (f : Fld) (u j : Nat) : (s.inc f u j).emcyQueue = s.emcyQueue := rfl
@[simp] theorem State.inc_emcyHistory (f : Fld) (u j : Nat) : (s.inc f u j).emcyHistory = s.emcyHistory := rfl
@[simp] theorem State.inc_conditions (f : Fld) (u j : Nat) : (s.inc f u j).conditions = s.conditions := rfl
@[simp] theorem State.inc_out (f : Fld) (u j : Nat) : (s.inc f u j).out = s.out := rfl
@[simp] theorem State.inc_banks (f : Fld) (u j : Nat) : (s.inc f u j).banks = s.banks := rfl
@[simp] theorem State.inc_writeBacks (f : Fld) (u j : Nat) : (s.inc f u j).writeBacks = s.writeBacks := rfl
@[simp] theorem State.inc_heldOps (f : Fld) (u j : Nat) : (s.inc f u j).heldOps = s.heldOps := rfl
@[simp] theorem State.inc_bankWaits (f : Fld) (u j : Nat) : (s.inc f u j).bankWaits = s.bankWaits := rfl
@[simp] theorem State.inc_scrubWaits (f : Fld) (u j : Nat) : (s.inc f u j).scrubWaits = s.scrubWaits := rfl
@[simp] theorem State.inc_cache (f : Fld) (u j : Nat) : (s.inc f u j).cache = s.cache := rfl
@[simp] theorem State.inc_net (f : Fld) (u j : Nat) : (s.inc f u j).net = s.net := rfl
@[simp] theorem State.inc_replay (f : Fld) (u j : Nat) : (s.inc f u j).replay = s.replay := rfl
@[simp] theorem State.inc_crossing (f : Fld) (u j : Nat) : (s.inc f u j).crossing = s.crossing := rfl
@[simp] theorem State.inc_netHeld (f : Fld) (u j : Nat) : (s.inc f u j).netHeld = s.netHeld := rfl
@[simp] theorem State.inc_niWaits (f : Fld) (u j : Nat) : (s.inc f u j).niWaits = s.niWaits := rfl
@[simp] theorem State.inc_txns (f : Fld) (u j : Nat) : (s.inc f u j).txns = s.txns := rfl
@[simp] theorem State.inc_quarantine (f : Fld) (u j : Nat) : (s.inc f u j).quarantine = s.quarantine := rfl
@[simp] theorem State.inc_delivered (f : Fld) (u j : Nat) : (s.inc f u j).delivered = s.delivered := rfl
@[simp] theorem State.inc_mailboxes (f : Fld) (u j : Nat) : (s.inc f u j).mailboxes = s.mailboxes := rfl
@[simp] theorem State.inc_queues (f : Fld) (u j : Nat) : (s.inc f u j).queues = s.queues := rfl
@[simp] theorem State.inc_queueSnaps (f : Fld) (u j : Nat) : (s.inc f u j).queueSnaps = s.queueSnaps := rfl
@[simp] theorem State.inc_ctx (f : Fld) (u j : Nat) : (s.inc f u j).ctx = s.ctx := rfl
@[simp] theorem State.inc_ctxImage (f : Fld) (u j : Nat) : (s.inc f u j).ctxImage = s.ctxImage := rfl
@[simp] theorem State.inc_ctxShadow (f : Fld) (u j : Nat) : (s.inc f u j).ctxShadow = s.ctxShadow := rfl
@[simp] theorem State.inc_ctxStaged (f : Fld) (u j : Nat) : (s.inc f u j).ctxStaged = s.ctxStaged := rfl
@[simp] theorem State.inc_exchanges (f : Fld) (u j : Nat) : (s.inc f u j).exchanges = s.exchanges := rfl
@[simp] theorem State.inc_statuses (f : Fld) (u j : Nat) : (s.inc f u j).statuses = s.statuses := rfl
@[simp] theorem State.inc_built (f : Fld) (u j : Nat) : (s.inc f u j).built = s.built := rfl
@[simp] theorem State.inc_dram (f : Fld) (u j : Nat) : (s.inc f u j).dram = s.dram := rfl
@[simp] theorem State.inc_dramReqs (f : Fld) (u j : Nat) : (s.inc f u j).dramReqs = s.dramReqs := rfl
@[simp] theorem State.inc_dramWrites (f : Fld) (u j : Nat) : (s.inc f u j).dramWrites = s.dramWrites := rfl
@[simp] theorem State.inc_portTx (f : Fld) (u j : Nat) : (s.inc f u j).portTx = s.portTx := rfl
@[simp] theorem State.inc_rxHeld (f : Fld) (u j : Nat) : (s.inc f u j).rxHeld = s.rxHeld := rfl
@[simp] theorem State.inc_laneBufs (f : Fld) (u j : Nat) : (s.inc f u j).laneBufs = s.laneBufs := rfl
@[simp] theorem State.inc_oasis (f : Fld) (u j : Nat) : (s.inc f u j).oasis = s.oasis := rfl
@[simp] theorem State.inc_sealedOasis (f : Fld) (u j : Nat) : (s.inc f u j).sealedOasis = s.sealedOasis := rfl
@[simp] theorem State.inc_keySlots (f : Fld) (u j : Nat) : (s.inc f u j).keySlots = s.keySlots := rfl
@[simp] theorem State.inc_certificate (f : Fld) (u j : Nat) : (s.inc f u j).certificate = s.certificate := rfl
@[simp] theorem State.inc_report (f : Fld) (u j : Nat) : (s.inc f u j).report = s.report := rfl
@[simp] theorem State.inc_copyA (f : Fld) (u j : Nat) : (s.inc f u j).copyA = s.copyA := rfl
@[simp] theorem State.inc_copyB (f : Fld) (u j : Nat) : (s.inc f u j).copyB = s.copyB := rfl
@[simp] theorem State.inc_tamperLog (f : Fld) (u j : Nat) : (s.inc f u j).tamperLog = s.tamperLog := rfl
@[simp] theorem State.inc_plane (f : Fld) (u j : Nat) : (s.inc f u j).plane = s.plane := rfl
@[simp] theorem State.inc_ffs (f : Fld) (u j : Nat) : (s.inc f u j).ffs = s.ffs := rfl
@[simp] theorem State.inc_hops (f : Fld) (u j : Nat) : (s.inc f u j).hops = s.hops := rfl
@[simp] theorem State.inc_portOuts (f : Fld) (u j : Nat) : (s.inc f u j).portOuts = s.portOuts := rfl
@[simp] theorem State.inc_isoHeld (f : Fld) (u j : Nat) : (s.inc f u j).isoHeld = s.isoHeld := rfl
@[simp] theorem State.inc_targets (f : Fld) (u j : Nat) : (s.inc f u j).targets = s.targets := rfl
@[simp] theorem State.inc_staged (f : Fld) (u j : Nat) : (s.inc f u j).staged = s.staged := rfl
@[simp] theorem State.inc_stream (f : Fld) (u j : Nat) : (s.inc f u j).stream = s.stream := rfl
@[simp] theorem State.inc_imageBytes (f : Fld) (u j : Nat) : (s.inc f u j).imageBytes = s.imageBytes := rfl
@[simp] theorem State.inc_odVals (f : Fld) (u j : Nat) : (s.inc f u j).odVals = s.odVals := rfl
@[simp] theorem State.inc_sessions (f : Fld) (u j : Nat) : (s.inc f u j).sessions = s.sessions := rfl
@[simp] theorem State.inc_rpdoHeld (f : Fld) (u j : Nat) : (s.inc f u j).rpdoHeld = s.rpdoHeld := rfl
@[simp] theorem State.inc_response (f : Fld) (u j : Nat) : (s.inc f u j).response = s.response := rfl
@[simp] theorem State.inc_tokenParts (f : Fld) (u j : Nat) : (s.inc f u j).tokenParts = s.tokenParts := rfl
@[simp] theorem State.inc_objectParts (f : Fld) (u j : Nat) : (s.inc f u j).objectParts = s.objectParts := rfl
@[simp] theorem State.inc_dbgEvents (f : Fld) (u j : Nat) : (s.inc f u j).dbgEvents = s.dbgEvents := rfl
@[simp] theorem State.inc_matched (f : Fld) (u j : Nat) : (s.inc f u j).matched = s.matched := rfl
@[simp] theorem State.inc_fobjs (f : Fld) (u j : Nat) : (s.inc f u j).fobjs = s.fobjs := rfl
@[simp] theorem State.inc_fvals (f : Fld) (u j : Nat) : (s.inc f u j).fvals = s.fvals := rfl
@[simp] theorem State.inc_fstaged (f : Fld) (u j : Nat) : (s.inc f u j).fstaged = s.fstaged := rfl
@[simp] theorem State.inc_fwrites (f : Fld) (u j : Nat) : (s.inc f u j).fwrites = s.fwrites := rfl
@[simp] theorem State.inc_pending (f : Fld) (u j : Nat) : (s.inc f u j).pending = s.pending := rfl

@[simp] theorem State.add_time (f : Fld) (u j k : Nat) : (s.add f u j k).time = s.time := rfl
@[simp] theorem State.add_free (f : Fld) (u j k : Nat) : (s.add f u j k).free = s.free := rfl
@[simp] theorem State.add_emcyQueue (f : Fld) (u j k : Nat) : (s.add f u j k).emcyQueue = s.emcyQueue := rfl
@[simp] theorem State.add_emcyHistory (f : Fld) (u j k : Nat) : (s.add f u j k).emcyHistory = s.emcyHistory := rfl
@[simp] theorem State.add_conditions (f : Fld) (u j k : Nat) : (s.add f u j k).conditions = s.conditions := rfl
@[simp] theorem State.add_out (f : Fld) (u j k : Nat) : (s.add f u j k).out = s.out := rfl
@[simp] theorem State.add_banks (f : Fld) (u j k : Nat) : (s.add f u j k).banks = s.banks := rfl
@[simp] theorem State.add_writeBacks (f : Fld) (u j k : Nat) : (s.add f u j k).writeBacks = s.writeBacks := rfl
@[simp] theorem State.add_heldOps (f : Fld) (u j k : Nat) : (s.add f u j k).heldOps = s.heldOps := rfl
@[simp] theorem State.add_bankWaits (f : Fld) (u j k : Nat) : (s.add f u j k).bankWaits = s.bankWaits := rfl
@[simp] theorem State.add_scrubWaits (f : Fld) (u j k : Nat) : (s.add f u j k).scrubWaits = s.scrubWaits := rfl
@[simp] theorem State.add_cache (f : Fld) (u j k : Nat) : (s.add f u j k).cache = s.cache := rfl
@[simp] theorem State.add_net (f : Fld) (u j k : Nat) : (s.add f u j k).net = s.net := rfl
@[simp] theorem State.add_replay (f : Fld) (u j k : Nat) : (s.add f u j k).replay = s.replay := rfl
@[simp] theorem State.add_crossing (f : Fld) (u j k : Nat) : (s.add f u j k).crossing = s.crossing := rfl
@[simp] theorem State.add_netHeld (f : Fld) (u j k : Nat) : (s.add f u j k).netHeld = s.netHeld := rfl
@[simp] theorem State.add_niWaits (f : Fld) (u j k : Nat) : (s.add f u j k).niWaits = s.niWaits := rfl
@[simp] theorem State.add_txns (f : Fld) (u j k : Nat) : (s.add f u j k).txns = s.txns := rfl
@[simp] theorem State.add_quarantine (f : Fld) (u j k : Nat) : (s.add f u j k).quarantine = s.quarantine := rfl
@[simp] theorem State.add_delivered (f : Fld) (u j k : Nat) : (s.add f u j k).delivered = s.delivered := rfl
@[simp] theorem State.add_mailboxes (f : Fld) (u j k : Nat) : (s.add f u j k).mailboxes = s.mailboxes := rfl
@[simp] theorem State.add_queues (f : Fld) (u j k : Nat) : (s.add f u j k).queues = s.queues := rfl
@[simp] theorem State.add_queueSnaps (f : Fld) (u j k : Nat) : (s.add f u j k).queueSnaps = s.queueSnaps := rfl
@[simp] theorem State.add_ctx (f : Fld) (u j k : Nat) : (s.add f u j k).ctx = s.ctx := rfl
@[simp] theorem State.add_ctxImage (f : Fld) (u j k : Nat) : (s.add f u j k).ctxImage = s.ctxImage := rfl
@[simp] theorem State.add_ctxShadow (f : Fld) (u j k : Nat) : (s.add f u j k).ctxShadow = s.ctxShadow := rfl
@[simp] theorem State.add_ctxStaged (f : Fld) (u j k : Nat) : (s.add f u j k).ctxStaged = s.ctxStaged := rfl
@[simp] theorem State.add_exchanges (f : Fld) (u j k : Nat) : (s.add f u j k).exchanges = s.exchanges := rfl
@[simp] theorem State.add_statuses (f : Fld) (u j k : Nat) : (s.add f u j k).statuses = s.statuses := rfl
@[simp] theorem State.add_built (f : Fld) (u j k : Nat) : (s.add f u j k).built = s.built := rfl
@[simp] theorem State.add_dram (f : Fld) (u j k : Nat) : (s.add f u j k).dram = s.dram := rfl
@[simp] theorem State.add_dramReqs (f : Fld) (u j k : Nat) : (s.add f u j k).dramReqs = s.dramReqs := rfl
@[simp] theorem State.add_dramWrites (f : Fld) (u j k : Nat) : (s.add f u j k).dramWrites = s.dramWrites := rfl
@[simp] theorem State.add_portTx (f : Fld) (u j k : Nat) : (s.add f u j k).portTx = s.portTx := rfl
@[simp] theorem State.add_rxHeld (f : Fld) (u j k : Nat) : (s.add f u j k).rxHeld = s.rxHeld := rfl
@[simp] theorem State.add_laneBufs (f : Fld) (u j k : Nat) : (s.add f u j k).laneBufs = s.laneBufs := rfl
@[simp] theorem State.add_oasis (f : Fld) (u j k : Nat) : (s.add f u j k).oasis = s.oasis := rfl
@[simp] theorem State.add_sealedOasis (f : Fld) (u j k : Nat) : (s.add f u j k).sealedOasis = s.sealedOasis := rfl
@[simp] theorem State.add_keySlots (f : Fld) (u j k : Nat) : (s.add f u j k).keySlots = s.keySlots := rfl
@[simp] theorem State.add_certificate (f : Fld) (u j k : Nat) : (s.add f u j k).certificate = s.certificate := rfl
@[simp] theorem State.add_report (f : Fld) (u j k : Nat) : (s.add f u j k).report = s.report := rfl
@[simp] theorem State.add_copyA (f : Fld) (u j k : Nat) : (s.add f u j k).copyA = s.copyA := rfl
@[simp] theorem State.add_copyB (f : Fld) (u j k : Nat) : (s.add f u j k).copyB = s.copyB := rfl
@[simp] theorem State.add_tamperLog (f : Fld) (u j k : Nat) : (s.add f u j k).tamperLog = s.tamperLog := rfl
@[simp] theorem State.add_plane (f : Fld) (u j k : Nat) : (s.add f u j k).plane = s.plane := rfl
@[simp] theorem State.add_ffs (f : Fld) (u j k : Nat) : (s.add f u j k).ffs = s.ffs := rfl
@[simp] theorem State.add_hops (f : Fld) (u j k : Nat) : (s.add f u j k).hops = s.hops := rfl
@[simp] theorem State.add_portOuts (f : Fld) (u j k : Nat) : (s.add f u j k).portOuts = s.portOuts := rfl
@[simp] theorem State.add_isoHeld (f : Fld) (u j k : Nat) : (s.add f u j k).isoHeld = s.isoHeld := rfl
@[simp] theorem State.add_targets (f : Fld) (u j k : Nat) : (s.add f u j k).targets = s.targets := rfl
@[simp] theorem State.add_staged (f : Fld) (u j k : Nat) : (s.add f u j k).staged = s.staged := rfl
@[simp] theorem State.add_stream (f : Fld) (u j k : Nat) : (s.add f u j k).stream = s.stream := rfl
@[simp] theorem State.add_imageBytes (f : Fld) (u j k : Nat) : (s.add f u j k).imageBytes = s.imageBytes := rfl
@[simp] theorem State.add_odVals (f : Fld) (u j k : Nat) : (s.add f u j k).odVals = s.odVals := rfl
@[simp] theorem State.add_sessions (f : Fld) (u j k : Nat) : (s.add f u j k).sessions = s.sessions := rfl
@[simp] theorem State.add_rpdoHeld (f : Fld) (u j k : Nat) : (s.add f u j k).rpdoHeld = s.rpdoHeld := rfl
@[simp] theorem State.add_response (f : Fld) (u j k : Nat) : (s.add f u j k).response = s.response := rfl
@[simp] theorem State.add_tokenParts (f : Fld) (u j k : Nat) : (s.add f u j k).tokenParts = s.tokenParts := rfl
@[simp] theorem State.add_objectParts (f : Fld) (u j k : Nat) : (s.add f u j k).objectParts = s.objectParts := rfl
@[simp] theorem State.add_dbgEvents (f : Fld) (u j k : Nat) : (s.add f u j k).dbgEvents = s.dbgEvents := rfl
@[simp] theorem State.add_matched (f : Fld) (u j k : Nat) : (s.add f u j k).matched = s.matched := rfl
@[simp] theorem State.add_fobjs (f : Fld) (u j k : Nat) : (s.add f u j k).fobjs = s.fobjs := rfl
@[simp] theorem State.add_fvals (f : Fld) (u j k : Nat) : (s.add f u j k).fvals = s.fvals := rfl
@[simp] theorem State.add_fstaged (f : Fld) (u j k : Nat) : (s.add f u j k).fstaged = s.fstaged := rfl
@[simp] theorem State.add_fwrites (f : Fld) (u j k : Nat) : (s.add f u j k).fwrites = s.fwrites := rfl
@[simp] theorem State.add_pending (f : Fld) (u j k : Nat) : (s.add f u j k).pending = s.pending := rfl

end Sys2Proof.Machine
end

