-- ==== Sys2Proof/Laws/Ops.lean ====
section
/-! SUPPORT. What the named operations over the scalars do, said once. -/

namespace Sys2Proof.Machine

/-- A field's number is its own. -/
theorem Fld.num_inj (a b : Fld) (h : a.num = b.num) : a = b := by
  cases a <;> cases b <;> simp only [Fld.num] at h <;> obtain ⟨h1, h2⟩ := Sparse.pair_inj h <;>
    first | (exact absurd h1 (by decide)) | skip
  · exact congrArg _ ((TickF.ofNat_ctorIdx _).symm.trans ((congrArg TickF.ofNat h2).trans (TickF.ofNat_ctorIdx _)))
  · exact congrArg _ ((FabF.ofNat_ctorIdx _).symm.trans ((congrArg FabF.ofNat h2).trans (FabF.ofNat_ctorIdx _)))
  · exact congrArg _ ((AsF.ofNat_ctorIdx _).symm.trans ((congrArg AsF.ofNat h2).trans (AsF.ofNat_ctorIdx _)))
  · exact congrArg _ ((BankF.ofNat_ctorIdx _).symm.trans ((congrArg BankF.ofNat h2).trans (BankF.ofNat_ctorIdx _)))
  · exact congrArg _ ((ErgF.ofNat_ctorIdx _).symm.trans ((congrArg ErgF.ofNat h2).trans (ErgF.ofNat_ctorIdx _)))
  · exact congrArg _ ((SeifF.ofNat_ctorIdx _).symm.trans ((congrArg SeifF.ofNat h2).trans (SeifF.ofNat_ctorIdx _)))
  · exact congrArg _ ((ModF.ofNat_ctorIdx _).symm.trans ((congrArg ModF.ofNat h2).trans (ModF.ofNat_ctorIdx _)))
  · exact congrArg _ ((QmF.ofNat_ctorIdx _).symm.trans ((congrArg QmF.ofNat h2).trans (QmF.ofNat_ctorIdx _)))
  · exact congrArg _ ((CvnF.ofNat_ctorIdx _).symm.trans ((congrArg CvnF.ofNat h2).trans (CvnF.ofNat_ctorIdx _)))
  · exact congrArg _ ((PpF.ofNat_ctorIdx _).symm.trans ((congrArg PpF.ofNat h2).trans (PpF.ofNat_ctorIdx _)))
  · exact congrArg _ ((DdrF.ofNat_ctorIdx _).symm.trans ((congrArg DdrF.ofNat h2).trans (DdrF.ofNat_ctorIdx _)))
  · exact congrArg _ ((ClkF.ofNat_ctorIdx _).symm.trans ((congrArg ClkF.ofNat h2).trans (ClkF.ofNat_ctorIdx _)))
  · exact congrArg _ ((CfgF.ofNat_ctorIdx _).symm.trans ((congrArg CfgF.ofNat h2).trans (CfgF.ofNat_ctorIdx _)))
  · exact congrArg _ ((NchF.ofNat_ctorIdx _).symm.trans ((congrArg NchF.ofNat h2).trans (NchF.ofNat_ctorIdx _)))
  · exact congrArg _ ((ScrubF.ofNat_ctorIdx _).symm.trans ((congrArg ScrubF.ofNat h2).trans (ScrubF.ofNat_ctorIdx _)))
  · exact congrArg _ ((SecF.ofNat_ctorIdx _).symm.trans ((congrArg SecF.ofNat h2).trans (SecF.ofNat_ctorIdx _)))
  · exact congrArg _ ((OdF.ofNat_ctorIdx _).symm.trans ((congrArg OdF.ofNat h2).trans (OdF.ofNat_ctorIdx _)))
  · exact congrArg _ ((DbgF.ofNat_ctorIdx _).symm.trans ((congrArg DbgF.ofNat h2).trans (DbgF.ofNat_ctorIdx _)))

/-- A key's number is its own. -/
theorem Key.num_inj (a b : Key) (h : a.num = b.num) : a = b := by
  obtain ⟨h1, h2⟩ := Sparse.pair_inj h
  obtain ⟨h3, h4⟩ := Sparse.pair_inj h1
  cases a
  cases b
  simp only at h2 h3 h4
  rw [Fld.num_inj _ _ h3, h4, h2]

/-! ### Scalars -/

/-- A read after a write: the value cut to the field's width at the place written, the old value elsewhere. -/
theorem State.rd_wr (s : State) (f f' : Fld) (u j v u' j' : Nat) :
    (s.wr f u j v).rd f' u' j' = if f' = f ∧ u' = u ∧ j' = j then v % 2 ^ f.width else s.rd f' u' j' := by
  simp only [State.rd, State.wr, Sparse.get_set, Key.mk.injEq]

@[simp] theorem State.rd_wr_same (s : State) (f : Fld) (u j v : Nat) : (s.wr f u j v).rd f u j = v % 2 ^ f.width := by
  simp [State.rd_wr]

theorem State.rd_wr_field (s : State) {f f' : Fld} (h : f' ≠ f) (u j v u' j' : Nat) :
    (s.wr f u j v).rd f' u' j' = s.rd f' u' j' := by
  simp [State.rd_wr, h]

/-- Two states with the same scalars read alike. -/
theorem State.rd_congr {s t : State} (h : s.regs = t.regs) (f : Fld) (u j : Nat) : s.rd f u j = t.rd f u j := by
  simp only [State.rd, h]

@[simp] theorem State.rd_emit (s : State) (k : OutKind) (n : Nat) (l : List Nat) (f : Fld) (u j : Nat) :
    (s.emit k n l).rd f u j = s.rd f u j := rfl

@[simp] theorem State.rd_spend (s : State) (f : Fld) (u j : Nat) : s.spend.rd f u j = s.rd f u j := rfl

@[simp] theorem State.rd_at (s : State) (x : Nat) (f : Fld) (u j : Nat) : (s.at x).rd f u j = s.rd f u j := rfl

/-- A quotient held to whole numbers is off by less than one, and exact where the division is. -/
theorem State.quotient_rounds (s : State) (n : Int) {d : Nat} (h : 0 < d) : (n - s.quotient n d * d).natAbs < d := by
  have hf : s.freeValue 1 < 2 := Nat.mod_lt _ (by decide)
  have e := Int.emod_add_ediv_mul n d
  have l := Int.emod_nonneg n (show (d : Int) ≠ 0 by omega)
  have u := Int.emod_lt_of_pos n (show (0 : Int) < d by omega)
  unfold State.quotient
  rw [Int.add_mul]
  split
  · omega
  · obtain c | c : ((s.freeValue 1 : Nat) : Int) = 0 ∨ ((s.freeValue 1 : Nat) : Int) = 1 := by omega
    all_goals (rw [c]; omega)

/-- A scalar that a reset names is at its reset value after it; every other one is as it was. -/
theorem State.rd_resetKeys (s : State) (p : Key → Bool) (f : Fld) (u j : Nat) :
    (s.resetKeys p).rd f u j = if p ⟨f, u, j⟩ then f.dflt u j else s.rd f u j := by
  simp only [State.rd, State.resetKeys, Sparse.get_clear]
  rfl

/-- Right after reset every scalar is at its reset value. -/
theorem State.rd_reset (f : Fld) (u j : Nat) : State.reset.rd f u j = f.dflt u j := rfl

theorem State.has_eq (s : State) (f : Fld) (u j v : Nat) : s.has f u j v = decide (s.rd f u j = v) := by
  unfold State.has
  by_cases h : s.rd f u j = v <;> simp [h]

theorem Key.dflt_lt (k : Key) : k.dflt < 2 ^ k.f.width := Nat.mod_lt _ (Nat.two_pow_pos _)

/-- A scalar is below the power of two that its width gives. -/
theorem State.rd_lt {s : State} (h : s.regsOk = true) (f : Fld) (u j : Nat) : s.rd f u j < 2 ^ f.width := by
  simp only [State.regsOk, Bool.and_eq_true, List.all_eq_true, decide_eq_true_eq] at h
  have key : ∀ l : List (Key × Nat), (∀ e ∈ l, e.2 < 2 ^ e.1.f.width) →
      Sparse.get Key.dflt l ⟨f, u, j⟩ < 2 ^ f.width := by
    intro l
    induction l with
    | nil => exact fun _ => Key.dflt_lt ⟨f, u, j⟩
    | cons a l ih =>
      intro hl
      simp only [Sparse.get]
      split
      · rename_i he
        have := hl a (by simp)
        rw [he] at this
        exact this
      · exact ih fun e he => hl e (by simp [he])
  exact key s.regs h.2

/-- A write of a scalar keeps the scalars in canonical form and within their widths. -/
theorem State.wr_regsOk {s : State} (h : s.regsOk = true) (f : Fld) (u j v : Nat) : (s.wr f u j v).regsOk = true := by
  simp only [State.regsOk, Bool.and_eq_true, List.all_eq_true, decide_eq_true_eq] at h ⊢
  refine ⟨Sparse.set_wf Key.num_inj _ _ h.1, fun e he => ?_⟩
  simp only [State.wr, Sparse.set] at he
  split at he
  · exact h.2 e (List.mem_filter.mp he).1
  · rcases Sparse.mem_insert he with rfl | he
    · exact Nat.mod_lt _ (Nat.two_pow_pos _)
    · exact h.2 e (List.mem_filter.mp he).1

/-- A reset of scalars keeps them so, too. -/
theorem State.resetKeys_regsOk {s : State} (h : s.regsOk = true) (p : Key → Bool) : (s.resetKeys p).regsOk = true := by
  simp only [State.regsOk, Bool.and_eq_true, List.all_eq_true, decide_eq_true_eq] at h ⊢
  exact ⟨Sparse.clear_wf _ h.1, fun e he => h.2 e (List.mem_filter.mp he).1⟩

/-! ### The forms of a meaning -/

@[simp] theorem act_true (s s' : State) : act true s s' = .next { s' with pending := s.pending } := rfl

@[simp] theorem act_false (s s' : State) : act false s s' = .fault .noSuchUnit := rfl

/-- A meaning whose operands name what the part has answers a next state, with the queue as it was. -/
theorem act_next (s s' : State) : ∃ t, act true s s' = .next t ∧ t.pending = s.pending := ⟨_, rfl, rfl⟩

theorem actCore_next (s s' : State) : ∃ t, actCore true s s' = .next t ∧ t.pending = s.pending := act_next _ _

theorem actFw_next (s s' : State) : ∃ t, actFw true s s' = .next t ∧ t.pending = s.pending := act_next _ _

theorem actOd_next (s s' : State) : ∃ t, actOd true s s' = .next t ∧ t.pending = s.pending := act_next _ _

/-- With the core rails up, a meaning of a block on them is its effect. -/
theorem actCore_on {s : State} (h : s.coreUp = true) (s' : State) :
    actCore true s s' = .next { s' with pending := s.pending } := by simp [actCore, h]

/-- Without the core rails a block on them does nothing. -/
theorem actCore_off {s : State} (h : s.coreUp = false) (s' : State) : actCore true s s' = .next s := by
  simp [actCore, h]

theorem actFw_on {s : State} (h : s.booted = true) (s' : State) :
    actFw true s s' = .next { s' with pending := s.pending } := by simp [actFw, h]

theorem actFw_off {s : State} (h : s.booted = false) (s' : State) : actFw true s s' = .next s := by
  simp [actFw, h]

theorem actOd_on {s : State} (h : s.served = true) (s' : State) :
    actOd true s s' = .next { s' with pending := s.pending } := by simp [actOd, h]

theorem actOd_off {s : State} (h : s.served = false) (s' : State) : actOd true s s' = .next s := by
  simp [actOd, h]

/-- The firmware's services need the object dictionary, which needs the core rails. -/
theorem State.coreUp_of_served {s : State} (h : s.served = true) : s.coreUp = true := by
  simp only [State.served, Bool.and_eq_true] at h
  exact h.1

theorem State.served_of_booted {s : State} (h : s.booted = true) : s.served = true := by
  simp only [State.booted, Bool.and_eq_true] at h
  exact h.1

theorem State.coreUp_of_booted {s : State} (h : s.booted = true) : s.coreUp = true :=
  State.coreUp_of_served (State.served_of_booted h)

/-! ### Emergencies -/

/-- The emergency queue never passes 32 (R474). -/
theorem State.enqueueEmcy_bound (s : State) (e : Emcy) (h : s.emcyQueue.length ≤ 32) :
    (s.enqueueEmcy e).emcyQueue.length ≤ 32 := by
  unfold State.enqueueEmcy
  split
  · simp only [List.length_append, List.length_singleton]
    omega
  · simpa [State.inc] using h

theorem State.sendEmcy_bound (s : State) (code event arg : Nat) (h : s.emcyQueue.length ≤ 32) :
    (s.sendEmcy code event arg).emcyQueue.length ≤ 32 := by
  unfold State.sendEmcy
  split
  · exact h
  · simp only
    split <;> exact State.enqueueEmcy_bound s _ h

end Sys2Proof.Machine
end

