-- ==== Sys2Proof/Laws/Areas.lean ====
section
/-! SUPPORT. What leaves an area of the state alone: the forms of every update. The masks are sets of areas, one bit for each. -/

namespace Sys2Proof.Machine

/-- `t` agrees with `s` in every area that the mask `w` does not name. -/
structure Keeps (w : Nat) (s t : State) : Prop where
  same : ∀ a : Area, w.testBit a.ctorIdx = false → a.same s t

/-- The mask of some areas. -/
def areas (l : List Area) : Nat := l.foldl (fun m a => m ||| 2 ^ a.ctorIdx) 0

variable {s t t' : State} {w w' : Nat}

theorem Area.same_refl (a : Area) (s : State) : a.same s s := by cases a <;> first | rfl | exact fun _ _ _ => rfl

theorem Area.same_trans {a : Area} {s t t' : State} (h : a.same s t) (k : a.same t t') : a.same s t' := by
  cases a <;> first | exact Eq.trans k h | exact fun f u j => (k f u j).trans (h f u j)

theorem Keeps.refl : Keeps w s s := ⟨fun a _ => a.same_refl s⟩

theorem Keeps.step (h : Keeps w s t) (k : Keeps w' t t') (sub : (w' &&& w == w') = true) : Keeps w s t' := by
  refine ⟨fun a ha => ?_⟩
  refine Area.same_trans (h.same a ha) (k.same a ?_)
  have := eq_of_beq sub
  rw [← this, Nat.testBit_and, ha, Bool.and_false]

/-- A field of an area that is kept reads as before. -/
theorem Keeps.rd (k : Keeps w s t) (f : Fld) (h : w.testBit f.area.ctorIdx = false) (u j : Nat) : t.rd f u j = s.rd f u j := by
  cases f
  · exact k.same .tick h _ u j
  · exact k.same .fab h _ u j
  · exact k.same .slc h _ u j
  · exact k.same .bank h _ u j
  · exact k.same .erg h _ u j
  · exact k.same .seif h _ u j
  · exact k.same .mod h _ u j
  · exact k.same .qm h _ u j
  · exact k.same .cvn h _ u j
  · exact k.same .pp h _ u j
  · exact k.same .ddr h _ u j
  · exact k.same .clk h _ u j
  · exact k.same .cfg h _ u j
  · exact k.same .nch h _ u j
  · exact k.same .scrub h _ u j
  · exact k.same .sec h _ u j
  · exact k.same .od h _ u j
  · exact k.same .dbg h _ u j

theorem Keeps.sub_of {a b m : Nat} (h : (a &&& b == a) = true) (k : (b &&& m == b) = true) : (a &&& m == a) = true := by
  have h := eq_of_beq h
  have k := eq_of_beq k
  rw [beq_iff_eq, ← h, Nat.and_assoc, k]

theorem Keeps.mono (k : Keeps w' s t) (sub : (w' &&& w == w') = true) : Keeps w s t := Keeps.refl.step k sub

theorem Keeps.ite {c : Prop} [Decidable c] (h : Keeps w s t) (k : Keeps w s t') : Keeps w s (if c then t else t') := by
  split <;> assumption

theorem Keeps.ite_snd {α : Type} {c : Prop} [Decidable c] {a b : α × State} (h : Keeps w s a.2) (k : Keeps w s b.2) : Keeps w s (if c then a else b).2 := by
  split <;> assumption

theorem Keeps.each {α : Type} {l : List α} {g : α → State → State} (k : ∀ a s, Keeps w s (g a s)) (h : Keeps w s t) :
    Keeps w s (each l g t) := by
  induction l generalizing t with
  | nil => exact h
  | cons a l ih =>
    refine ih (h.step (k a t) ?_)
    simp

theorem Keeps.foldl {α : Type} {l : List α} {g : State → α → State} (k : ∀ a s, Keeps w s (g s a)) (h : Keeps w s t) :
    Keeps w s (l.foldl g t) := by
  induction l generalizing t with
  | nil => exact h
  | cons a l ih =>
    refine ih (h.step (k a t) ?_)
    simp

theorem Keeps.doIf {c : Bool} {g : State → State} (k : ∀ s, Keeps w s (g s)) (h : Keeps w s t) : Keeps w s (doIf c g t) := by
  unfold Sys2Proof.Machine.doIf
  split
  · exact h.step (k t) (by simp)
  · exact h

/-- A frame by a mask is a frame by the list of its areas. -/
theorem Keeps.frame {l : List Area} {a : Area} (k : Keeps w s t) (e : (w &&& areas l == w) = true) (h : a ∉ l) : a.same s t := by
  refine k.same a ?_
  have key : ∀ (l : List Area) (m : Nat), a ∉ l → m.testBit a.ctorIdx = false →
      (l.foldl (fun m a => m ||| 2 ^ a.ctorIdx) m).testBit a.ctorIdx = false := by
    intro l
    induction l with
    | nil => exact fun _ _ hm => hm
    | cons b l ih =>
      intro m hl hm
      simp only [List.mem_cons, not_or] at hl
      refine ih _ hl.2 ?_
      rw [Nat.testBit_or, hm, Nat.testBit_two_pow, Bool.false_or, decide_eq_false_iff_not]
      exact fun hb => hl.1 ((Area.ofNat_ctorIdx _).symm.trans ((congrArg Area.ofNat hb.symm).trans (Area.ofNat_ctorIdx _)))
  have := eq_of_beq e
  rw [← this, Nat.testBit_and, areas, key l 0 h (by simp), Bool.and_false]

theorem Keeps.wr_tick {f : TickF} {u j v : Nat} (hw : w.testBit Area.tick.ctorIdx = true) (h : Keeps w s t) :
    Keeps w s (t.wr (.tick f) u j v) := by
  refine ⟨fun a ha => ?_⟩
  refine Area.same_trans (h.same a ha) ?_
  cases a <;> first
    | rfl
    | exact (Bool.noConfusion (ha.symm.trans hw))
    | (intro f u j; rw [State.rd_wr_field]; simp)

theorem Keeps.wr_fab {f : FabF} {u j v : Nat} (hw : w.testBit Area.fab.ctorIdx = true) (h : Keeps w s t) :
    Keeps w s (t.wr (.fab f) u j v) := by
  refine ⟨fun a ha => ?_⟩
  refine Area.same_trans (h.same a ha) ?_
  cases a <;> first
    | rfl
    | exact (Bool.noConfusion (ha.symm.trans hw))
    | (intro f u j; rw [State.rd_wr_field]; simp)

theorem Keeps.wr_slc {f : AsF} {u j v : Nat} (hw : w.testBit Area.slc.ctorIdx = true) (h : Keeps w s t) :
    Keeps w s (t.wr (.slc f) u j v) := by
  refine ⟨fun a ha => ?_⟩
  refine Area.same_trans (h.same a ha) ?_
  cases a <;> first
    | rfl
    | exact (Bool.noConfusion (ha.symm.trans hw))
    | (intro f u j; rw [State.rd_wr_field]; simp)

theorem Keeps.wr_bank {f : BankF} {u j v : Nat} (hw : w.testBit Area.bank.ctorIdx = true) (h : Keeps w s t) :
    Keeps w s (t.wr (.bank f) u j v) := by
  refine ⟨fun a ha => ?_⟩
  refine Area.same_trans (h.same a ha) ?_
  cases a <;> first
    | rfl
    | exact (Bool.noConfusion (ha.symm.trans hw))
    | (intro f u j; rw [State.rd_wr_field]; simp)

theorem Keeps.wr_erg {f : ErgF} {u j v : Nat} (hw : w.testBit Area.erg.ctorIdx = true) (h : Keeps w s t) :
    Keeps w s (t.wr (.erg f) u j v) := by
  refine ⟨fun a ha => ?_⟩
  refine Area.same_trans (h.same a ha) ?_
  cases a <;> first
    | rfl
    | exact (Bool.noConfusion (ha.symm.trans hw))
    | (intro f u j; rw [State.rd_wr_field]; simp)

theorem Keeps.wr_seif {f : SeifF} {u j v : Nat} (hw : w.testBit Area.seif.ctorIdx = true) (h : Keeps w s t) :
    Keeps w s (t.wr (.seif f) u j v) := by
  refine ⟨fun a ha => ?_⟩
  refine Area.same_trans (h.same a ha) ?_
  cases a <;> first
    | rfl
    | exact (Bool.noConfusion (ha.symm.trans hw))
    | (intro f u j; rw [State.rd_wr_field]; simp)

theorem Keeps.wr_mod {f : ModF} {u j v : Nat} (hw : w.testBit Area.mod.ctorIdx = true) (h : Keeps w s t) :
    Keeps w s (t.wr (.mod f) u j v) := by
  refine ⟨fun a ha => ?_⟩
  refine Area.same_trans (h.same a ha) ?_
  cases a <;> first
    | rfl
    | exact (Bool.noConfusion (ha.symm.trans hw))
    | (intro f u j; rw [State.rd_wr_field]; simp)

theorem Keeps.wr_qm {f : QmF} {u j v : Nat} (hw : w.testBit Area.qm.ctorIdx = true) (h : Keeps w s t) :
    Keeps w s (t.wr (.qm f) u j v) := by
  refine ⟨fun a ha => ?_⟩
  refine Area.same_trans (h.same a ha) ?_
  cases a <;> first
    | rfl
    | exact (Bool.noConfusion (ha.symm.trans hw))
    | (intro f u j; rw [State.rd_wr_field]; simp)

theorem Keeps.wr_cvn {f : CvnF} {u j v : Nat} (hw : w.testBit Area.cvn.ctorIdx = true) (h : Keeps w s t) :
    Keeps w s (t.wr (.cvn f) u j v) := by
  refine ⟨fun a ha => ?_⟩
  refine Area.same_trans (h.same a ha) ?_
  cases a <;> first
    | rfl
    | exact (Bool.noConfusion (ha.symm.trans hw))
    | (intro f u j; rw [State.rd_wr_field]; simp)

theorem Keeps.wr_pp {f : PpF} {u j v : Nat} (hw : w.testBit Area.pp.ctorIdx = true) (h : Keeps w s t) :
    Keeps w s (t.wr (.pp f) u j v) := by
  refine ⟨fun a ha => ?_⟩
  refine Area.same_trans (h.same a ha) ?_
  cases a <;> first
    | rfl
    | exact (Bool.noConfusion (ha.symm.trans hw))
    | (intro f u j; rw [State.rd_wr_field]; simp)

theorem Keeps.wr_ddr {f : DdrF} {u j v : Nat} (hw : w.testBit Area.ddr.ctorIdx = true) (h : Keeps w s t) :
    Keeps w s (t.wr (.ddr f) u j v) := by
  refine ⟨fun a ha => ?_⟩
  refine Area.same_trans (h.same a ha) ?_
  cases a <;> first
    | rfl
    | exact (Bool.noConfusion (ha.symm.trans hw))
    | (intro f u j; rw [State.rd_wr_field]; simp)

theorem Keeps.wr_clk {f : ClkF} {u j v : Nat} (hw : w.testBit Area.clk.ctorIdx = true) (h : Keeps w s t) :
    Keeps w s (t.wr (.clk f) u j v) := by
  refine ⟨fun a ha => ?_⟩
  refine Area.same_trans (h.same a ha) ?_
  cases a <;> first
    | rfl
    | exact (Bool.noConfusion (ha.symm.trans hw))
    | (intro f u j; rw [State.rd_wr_field]; simp)

theorem Keeps.wr_cfg {f : CfgF} {u j v : Nat} (hw : w.testBit Area.cfg.ctorIdx = true) (h : Keeps w s t) :
    Keeps w s (t.wr (.cfg f) u j v) := by
  refine ⟨fun a ha => ?_⟩
  refine Area.same_trans (h.same a ha) ?_
  cases a <;> first
    | rfl
    | exact (Bool.noConfusion (ha.symm.trans hw))
    | (intro f u j; rw [State.rd_wr_field]; simp)

theorem Keeps.wr_nch {f : NchF} {u j v : Nat} (hw : w.testBit Area.nch.ctorIdx = true) (h : Keeps w s t) :
    Keeps w s (t.wr (.nch f) u j v) := by
  refine ⟨fun a ha => ?_⟩
  refine Area.same_trans (h.same a ha) ?_
  cases a <;> first
    | rfl
    | exact (Bool.noConfusion (ha.symm.trans hw))
    | (intro f u j; rw [State.rd_wr_field]; simp)

theorem Keeps.wr_scrub {f : ScrubF} {u j v : Nat} (hw : w.testBit Area.scrub.ctorIdx = true) (h : Keeps w s t) :
    Keeps w s (t.wr (.scrub f) u j v) := by
  refine ⟨fun a ha => ?_⟩
  refine Area.same_trans (h.same a ha) ?_
  cases a <;> first
    | rfl
    | exact (Bool.noConfusion (ha.symm.trans hw))
    | (intro f u j; rw [State.rd_wr_field]; simp)

theorem Keeps.wr_sec {f : SecF} {u j v : Nat} (hw : w.testBit Area.sec.ctorIdx = true) (h : Keeps w s t) :
    Keeps w s (t.wr (.sec f) u j v) := by
  refine ⟨fun a ha => ?_⟩
  refine Area.same_trans (h.same a ha) ?_
  cases a <;> first
    | rfl
    | exact (Bool.noConfusion (ha.symm.trans hw))
    | (intro f u j; rw [State.rd_wr_field]; simp)

theorem Keeps.wr_od {f : OdF} {u j v : Nat} (hw : w.testBit Area.od.ctorIdx = true) (h : Keeps w s t) :
    Keeps w s (t.wr (.od f) u j v) := by
  refine ⟨fun a ha => ?_⟩
  refine Area.same_trans (h.same a ha) ?_
  cases a <;> first
    | rfl
    | exact (Bool.noConfusion (ha.symm.trans hw))
    | (intro f u j; rw [State.rd_wr_field]; simp)

theorem Keeps.wr_dbg {f : DbgF} {u j v : Nat} (hw : w.testBit Area.dbg.ctorIdx = true) (h : Keeps w s t) :
    Keeps w s (t.wr (.dbg f) u j v) := by
  refine ⟨fun a ha => ?_⟩
  refine Area.same_trans (h.same a ha) ?_
  cases a <;> first
    | rfl
    | exact (Bool.noConfusion (ha.symm.trans hw))
    | (intro f u j; rw [State.rd_wr_field]; simp)

theorem Keeps.wr {f : Fld} {u j v : Nat} (hw : w.testBit f.area.ctorIdx = true) (h : Keeps w s t) : Keeps w s (t.wr f u j v) := by
  cases f
  · exact Keeps.wr_tick hw h
  · exact Keeps.wr_fab hw h
  · exact Keeps.wr_slc hw h
  · exact Keeps.wr_bank hw h
  · exact Keeps.wr_erg hw h
  · exact Keeps.wr_seif hw h
  · exact Keeps.wr_mod hw h
  · exact Keeps.wr_qm hw h
  · exact Keeps.wr_cvn hw h
  · exact Keeps.wr_pp hw h
  · exact Keeps.wr_ddr hw h
  · exact Keeps.wr_clk hw h
  · exact Keeps.wr_cfg hw h
  · exact Keeps.wr_nch hw h
  · exact Keeps.wr_scrub hw h
  · exact Keeps.wr_sec hw h
  · exact Keeps.wr_od hw h
  · exact Keeps.wr_dbg hw h

theorem Keeps.inc {f : Fld} {u j : Nat} (hw : w.testBit f.area.ctorIdx = true) (h : Keeps w s t) : Keeps w s (t.inc f u j) := Keeps.wr hw h

theorem Keeps.add {f : Fld} {u j k : Nat} (hw : w.testBit f.area.ctorIdx = true) (h : Keeps w s t) : Keeps w s (t.add f u j k) := Keeps.wr hw h

theorem Keeps.resetKeys {p : Key → Bool} (hp : ∀ k, p k = true → w.testBit k.f.area.ctorIdx = true) (h : Keeps w s t) :
    Keeps w s (t.resetKeys p) := by
  refine ⟨fun a ha => ?_⟩
  refine Area.same_trans (h.same a ha) ?_
  cases a <;> first | rfl | skip
  all_goals
    intro f u j
    rw [State.rd_resetKeys, if_neg]
    intro hk
    exact Bool.noConfusion (ha.symm.trans (hp _ hk))

theorem Keeps.set_time {x} (hw : w.testBit Area.time.ctorIdx = true) (h : Keeps w s t) : Keeps w s { t with time := x } := by
  refine ⟨fun a ha => ?_⟩
  refine Area.same_trans (h.same a ha) ?_
  cases a <;> first | rfl | exact (Bool.noConfusion (ha.symm.trans hw)) | exact fun _ _ _ => rfl

theorem Keeps.set_free {x} (hw : w.testBit Area.free.ctorIdx = true) (h : Keeps w s t) : Keeps w s { t with free := x } := by
  refine ⟨fun a ha => ?_⟩
  refine Area.same_trans (h.same a ha) ?_
  cases a <;> first | rfl | exact (Bool.noConfusion (ha.symm.trans hw)) | exact fun _ _ _ => rfl

theorem Keeps.set_emcyQueue {x} (hw : w.testBit Area.emcyQueue.ctorIdx = true) (h : Keeps w s t) : Keeps w s { t with emcyQueue := x } := by
  refine ⟨fun a ha => ?_⟩
  refine Area.same_trans (h.same a ha) ?_
  cases a <;> first | rfl | exact (Bool.noConfusion (ha.symm.trans hw)) | exact fun _ _ _ => rfl

theorem Keeps.set_emcyHistory {x} (hw : w.testBit Area.emcyHistory.ctorIdx = true) (h : Keeps w s t) : Keeps w s { t with emcyHistory := x } := by
  refine ⟨fun a ha => ?_⟩
  refine Area.same_trans (h.same a ha) ?_
  cases a <;> first | rfl | exact (Bool.noConfusion (ha.symm.trans hw)) | exact fun _ _ _ => rfl

theorem Keeps.set_conditions {x} (hw : w.testBit Area.conditions.ctorIdx = true) (h : Keeps w s t) : Keeps w s { t with conditions := x } := by
  refine ⟨fun a ha => ?_⟩
  refine Area.same_trans (h.same a ha) ?_
  cases a <;> first | rfl | exact (Bool.noConfusion (ha.symm.trans hw)) | exact fun _ _ _ => rfl

theorem Keeps.set_out {x} (hw : w.testBit Area.out.ctorIdx = true) (h : Keeps w s t) : Keeps w s { t with out := x } := by
  refine ⟨fun a ha => ?_⟩
  refine Area.same_trans (h.same a ha) ?_
  cases a <;> first | rfl | exact (Bool.noConfusion (ha.symm.trans hw)) | exact fun _ _ _ => rfl

theorem Keeps.set_banks {x} (hw : w.testBit Area.banks.ctorIdx = true) (h : Keeps w s t) : Keeps w s { t with banks := x } := by
  refine ⟨fun a ha => ?_⟩
  refine Area.same_trans (h.same a ha) ?_
  cases a <;> first | rfl | exact (Bool.noConfusion (ha.symm.trans hw)) | exact fun _ _ _ => rfl

theorem Keeps.set_writeBacks {x} (hw : w.testBit Area.writeBacks.ctorIdx = true) (h : Keeps w s t) : Keeps w s { t with writeBacks := x } := by
  refine ⟨fun a ha => ?_⟩
  refine Area.same_trans (h.same a ha) ?_
  cases a <;> first | rfl | exact (Bool.noConfusion (ha.symm.trans hw)) | exact fun _ _ _ => rfl

theorem Keeps.set_heldOps {x} (hw : w.testBit Area.heldOps.ctorIdx = true) (h : Keeps w s t) : Keeps w s { t with heldOps := x } := by
  refine ⟨fun a ha => ?_⟩
  refine Area.same_trans (h.same a ha) ?_
  cases a <;> first | rfl | exact (Bool.noConfusion (ha.symm.trans hw)) | exact fun _ _ _ => rfl

theorem Keeps.set_bankWaits {x} (hw : w.testBit Area.bankWaits.ctorIdx = true) (h : Keeps w s t) : Keeps w s { t with bankWaits := x } := by
  refine ⟨fun a ha => ?_⟩
  refine Area.same_trans (h.same a ha) ?_
  cases a <;> first | rfl | exact (Bool.noConfusion (ha.symm.trans hw)) | exact fun _ _ _ => rfl

theorem Keeps.set_scrubWaits {x} (hw : w.testBit Area.scrubWaits.ctorIdx = true) (h : Keeps w s t) : Keeps w s { t with scrubWaits := x } := by
  refine ⟨fun a ha => ?_⟩
  refine Area.same_trans (h.same a ha) ?_
  cases a <;> first | rfl | exact (Bool.noConfusion (ha.symm.trans hw)) | exact fun _ _ _ => rfl

theorem Keeps.set_cache {x} (hw : w.testBit Area.cache.ctorIdx = true) (h : Keeps w s t) : Keeps w s { t with cache := x } := by
  refine ⟨fun a ha => ?_⟩
  refine Area.same_trans (h.same a ha) ?_
  cases a <;> first | rfl | exact (Bool.noConfusion (ha.symm.trans hw)) | exact fun _ _ _ => rfl

theorem Keeps.set_net {x} (hw : w.testBit Area.net.ctorIdx = true) (h : Keeps w s t) : Keeps w s { t with net := x } := by
  refine ⟨fun a ha => ?_⟩
  refine Area.same_trans (h.same a ha) ?_
  cases a <;> first | rfl | exact (Bool.noConfusion (ha.symm.trans hw)) | exact fun _ _ _ => rfl

theorem Keeps.set_replay {x} (hw : w.testBit Area.replay.ctorIdx = true) (h : Keeps w s t) : Keeps w s { t with replay := x } := by
  refine ⟨fun a ha => ?_⟩
  refine Area.same_trans (h.same a ha) ?_
  cases a <;> first | rfl | exact (Bool.noConfusion (ha.symm.trans hw)) | exact fun _ _ _ => rfl

theorem Keeps.set_crossing {x} (hw : w.testBit Area.crossing.ctorIdx = true) (h : Keeps w s t) : Keeps w s { t with crossing := x } := by
  refine ⟨fun a ha => ?_⟩
  refine Area.same_trans (h.same a ha) ?_
  cases a <;> first | rfl | exact (Bool.noConfusion (ha.symm.trans hw)) | exact fun _ _ _ => rfl

theorem Keeps.set_netHeld {x} (hw : w.testBit Area.netHeld.ctorIdx = true) (h : Keeps w s t) : Keeps w s { t with netHeld := x } := by
  refine ⟨fun a ha => ?_⟩
  refine Area.same_trans (h.same a ha) ?_
  cases a <;> first | rfl | exact (Bool.noConfusion (ha.symm.trans hw)) | exact fun _ _ _ => rfl

theorem Keeps.set_niWaits {x} (hw : w.testBit Area.niWaits.ctorIdx = true) (h : Keeps w s t) : Keeps w s { t with niWaits := x } := by
  refine ⟨fun a ha => ?_⟩
  refine Area.same_trans (h.same a ha) ?_
  cases a <;> first | rfl | exact (Bool.noConfusion (ha.symm.trans hw)) | exact fun _ _ _ => rfl

theorem Keeps.set_txns {x} (hw : w.testBit Area.txns.ctorIdx = true) (h : Keeps w s t) : Keeps w s { t with txns := x } := by
  refine ⟨fun a ha => ?_⟩
  refine Area.same_trans (h.same a ha) ?_
  cases a <;> first | rfl | exact (Bool.noConfusion (ha.symm.trans hw)) | exact fun _ _ _ => rfl

theorem Keeps.set_quarantine {x} (hw : w.testBit Area.quarantine.ctorIdx = true) (h : Keeps w s t) : Keeps w s { t with quarantine := x } := by
  refine ⟨fun a ha => ?_⟩
  refine Area.same_trans (h.same a ha) ?_
  cases a <;> first | rfl | exact (Bool.noConfusion (ha.symm.trans hw)) | exact fun _ _ _ => rfl

theorem Keeps.set_delivered {x} (hw : w.testBit Area.delivered.ctorIdx = true) (h : Keeps w s t) : Keeps w s { t with delivered := x } := by
  refine ⟨fun a ha => ?_⟩
  refine Area.same_trans (h.same a ha) ?_
  cases a <;> first | rfl | exact (Bool.noConfusion (ha.symm.trans hw)) | exact fun _ _ _ => rfl

theorem Keeps.set_mailboxes {x} (hw : w.testBit Area.mailboxes.ctorIdx = true) (h : Keeps w s t) : Keeps w s { t with mailboxes := x } := by
  refine ⟨fun a ha => ?_⟩
  refine Area.same_trans (h.same a ha) ?_
  cases a <;> first | rfl | exact (Bool.noConfusion (ha.symm.trans hw)) | exact fun _ _ _ => rfl

theorem Keeps.set_queues {x} (hw : w.testBit Area.queues.ctorIdx = true) (h : Keeps w s t) : Keeps w s { t with queues := x } := by
  refine ⟨fun a ha => ?_⟩
  refine Area.same_trans (h.same a ha) ?_
  cases a <;> first | rfl | exact (Bool.noConfusion (ha.symm.trans hw)) | exact fun _ _ _ => rfl

theorem Keeps.set_queueSnaps {x} (hw : w.testBit Area.queueSnaps.ctorIdx = true) (h : Keeps w s t) : Keeps w s { t with queueSnaps := x } := by
  refine ⟨fun a ha => ?_⟩
  refine Area.same_trans (h.same a ha) ?_
  cases a <;> first | rfl | exact (Bool.noConfusion (ha.symm.trans hw)) | exact fun _ _ _ => rfl

theorem Keeps.set_ctx {x} (hw : w.testBit Area.ctx.ctorIdx = true) (h : Keeps w s t) : Keeps w s { t with ctx := x } := by
  refine ⟨fun a ha => ?_⟩
  refine Area.same_trans (h.same a ha) ?_
  cases a <;> first | rfl | exact (Bool.noConfusion (ha.symm.trans hw)) | exact fun _ _ _ => rfl

theorem Keeps.set_ctxImage {x} (hw : w.testBit Area.ctxImage.ctorIdx = true) (h : Keeps w s t) : Keeps w s { t with ctxImage := x } := by
  refine ⟨fun a ha => ?_⟩
  refine Area.same_trans (h.same a ha) ?_
  cases a <;> first | rfl | exact (Bool.noConfusion (ha.symm.trans hw)) | exact fun _ _ _ => rfl

theorem Keeps.set_ctxShadow {x} (hw : w.testBit Area.ctxShadow.ctorIdx = true) (h : Keeps w s t) : Keeps w s { t with ctxShadow := x } := by
  refine ⟨fun a ha => ?_⟩
  refine Area.same_trans (h.same a ha) ?_
  cases a <;> first | rfl | exact (Bool.noConfusion (ha.symm.trans hw)) | exact fun _ _ _ => rfl

theorem Keeps.set_ctxStaged {x} (hw : w.testBit Area.ctxStaged.ctorIdx = true) (h : Keeps w s t) : Keeps w s { t with ctxStaged := x } := by
  refine ⟨fun a ha => ?_⟩
  refine Area.same_trans (h.same a ha) ?_
  cases a <;> first | rfl | exact (Bool.noConfusion (ha.symm.trans hw)) | exact fun _ _ _ => rfl

theorem Keeps.set_exchanges {x} (hw : w.testBit Area.exchanges.ctorIdx = true) (h : Keeps w s t) : Keeps w s { t with exchanges := x } := by
  refine ⟨fun a ha => ?_⟩
  refine Area.same_trans (h.same a ha) ?_
  cases a <;> first | rfl | exact (Bool.noConfusion (ha.symm.trans hw)) | exact fun _ _ _ => rfl

theorem Keeps.set_statuses {x} (hw : w.testBit Area.statuses.ctorIdx = true) (h : Keeps w s t) : Keeps w s { t with statuses := x } := by
  refine ⟨fun a ha => ?_⟩
  refine Area.same_trans (h.same a ha) ?_
  cases a <;> first | rfl | exact (Bool.noConfusion (ha.symm.trans hw)) | exact fun _ _ _ => rfl

theorem Keeps.set_built {x} (hw : w.testBit Area.built.ctorIdx = true) (h : Keeps w s t) : Keeps w s { t with built := x } := by
  refine ⟨fun a ha => ?_⟩
  refine Area.same_trans (h.same a ha) ?_
  cases a <;> first | rfl | exact (Bool.noConfusion (ha.symm.trans hw)) | exact fun _ _ _ => rfl

theorem Keeps.set_dram {x} (hw : w.testBit Area.dram.ctorIdx = true) (h : Keeps w s t) : Keeps w s { t with dram := x } := by
  refine ⟨fun a ha => ?_⟩
  refine Area.same_trans (h.same a ha) ?_
  cases a <;> first | rfl | exact (Bool.noConfusion (ha.symm.trans hw)) | exact fun _ _ _ => rfl

theorem Keeps.set_dramReqs {x} (hw : w.testBit Area.dramReqs.ctorIdx = true) (h : Keeps w s t) : Keeps w s { t with dramReqs := x } := by
  refine ⟨fun a ha => ?_⟩
  refine Area.same_trans (h.same a ha) ?_
  cases a <;> first | rfl | exact (Bool.noConfusion (ha.symm.trans hw)) | exact fun _ _ _ => rfl

theorem Keeps.set_dramWrites {x} (hw : w.testBit Area.dramWrites.ctorIdx = true) (h : Keeps w s t) : Keeps w s { t with dramWrites := x } := by
  refine ⟨fun a ha => ?_⟩
  refine Area.same_trans (h.same a ha) ?_
  cases a <;> first | rfl | exact (Bool.noConfusion (ha.symm.trans hw)) | exact fun _ _ _ => rfl

theorem Keeps.set_portTx {x} (hw : w.testBit Area.portTx.ctorIdx = true) (h : Keeps w s t) : Keeps w s { t with portTx := x } := by
  refine ⟨fun a ha => ?_⟩
  refine Area.same_trans (h.same a ha) ?_
  cases a <;> first | rfl | exact (Bool.noConfusion (ha.symm.trans hw)) | exact fun _ _ _ => rfl

theorem Keeps.set_rxHeld {x} (hw : w.testBit Area.rxHeld.ctorIdx = true) (h : Keeps w s t) : Keeps w s { t with rxHeld := x } := by
  refine ⟨fun a ha => ?_⟩
  refine Area.same_trans (h.same a ha) ?_
  cases a <;> first | rfl | exact (Bool.noConfusion (ha.symm.trans hw)) | exact fun _ _ _ => rfl

theorem Keeps.set_laneBufs {x} (hw : w.testBit Area.laneBufs.ctorIdx = true) (h : Keeps w s t) : Keeps w s { t with laneBufs := x } := by
  refine ⟨fun a ha => ?_⟩
  refine Area.same_trans (h.same a ha) ?_
  cases a <;> first | rfl | exact (Bool.noConfusion (ha.symm.trans hw)) | exact fun _ _ _ => rfl

theorem Keeps.set_oasis {x} (hw : w.testBit Area.oasis.ctorIdx = true) (h : Keeps w s t) : Keeps w s { t with oasis := x } := by
  refine ⟨fun a ha => ?_⟩
  refine Area.same_trans (h.same a ha) ?_
  cases a <;> first | rfl | exact (Bool.noConfusion (ha.symm.trans hw)) | exact fun _ _ _ => rfl

theorem Keeps.set_sealedOasis {x} (hw : w.testBit Area.sealedOasis.ctorIdx = true) (h : Keeps w s t) : Keeps w s { t with sealedOasis := x } := by
  refine ⟨fun a ha => ?_⟩
  refine Area.same_trans (h.same a ha) ?_
  cases a <;> first | rfl | exact (Bool.noConfusion (ha.symm.trans hw)) | exact fun _ _ _ => rfl

theorem Keeps.set_keySlots {x} (hw : w.testBit Area.keySlots.ctorIdx = true) (h : Keeps w s t) : Keeps w s { t with keySlots := x } := by
  refine ⟨fun a ha => ?_⟩
  refine Area.same_trans (h.same a ha) ?_
  cases a <;> first | rfl | exact (Bool.noConfusion (ha.symm.trans hw)) | exact fun _ _ _ => rfl

theorem Keeps.set_certificate {x} (hw : w.testBit Area.certificate.ctorIdx = true) (h : Keeps w s t) : Keeps w s { t with certificate := x } := by
  refine ⟨fun a ha => ?_⟩
  refine Area.same_trans (h.same a ha) ?_
  cases a <;> first | rfl | exact (Bool.noConfusion (ha.symm.trans hw)) | exact fun _ _ _ => rfl

theorem Keeps.set_report {x} (hw : w.testBit Area.report.ctorIdx = true) (h : Keeps w s t) : Keeps w s { t with report := x } := by
  refine ⟨fun a ha => ?_⟩
  refine Area.same_trans (h.same a ha) ?_
  cases a <;> first | rfl | exact (Bool.noConfusion (ha.symm.trans hw)) | exact fun _ _ _ => rfl

theorem Keeps.set_copyA {x} (hw : w.testBit Area.copyA.ctorIdx = true) (h : Keeps w s t) : Keeps w s { t with copyA := x } := by
  refine ⟨fun a ha => ?_⟩
  refine Area.same_trans (h.same a ha) ?_
  cases a <;> first | rfl | exact (Bool.noConfusion (ha.symm.trans hw)) | exact fun _ _ _ => rfl

theorem Keeps.set_copyB {x} (hw : w.testBit Area.copyB.ctorIdx = true) (h : Keeps w s t) : Keeps w s { t with copyB := x } := by
  refine ⟨fun a ha => ?_⟩
  refine Area.same_trans (h.same a ha) ?_
  cases a <;> first | rfl | exact (Bool.noConfusion (ha.symm.trans hw)) | exact fun _ _ _ => rfl

theorem Keeps.set_tamperLog {x} (hw : w.testBit Area.tamperLog.ctorIdx = true) (h : Keeps w s t) : Keeps w s { t with tamperLog := x } := by
  refine ⟨fun a ha => ?_⟩
  refine Area.same_trans (h.same a ha) ?_
  cases a <;> first | rfl | exact (Bool.noConfusion (ha.symm.trans hw)) | exact fun _ _ _ => rfl

theorem Keeps.set_plane {x} (hw : w.testBit Area.plane.ctorIdx = true) (h : Keeps w s t) : Keeps w s { t with plane := x } := by
  refine ⟨fun a ha => ?_⟩
  refine Area.same_trans (h.same a ha) ?_
  cases a <;> first | rfl | exact (Bool.noConfusion (ha.symm.trans hw)) | exact fun _ _ _ => rfl

theorem Keeps.set_ffs {x} (hw : w.testBit Area.ffs.ctorIdx = true) (h : Keeps w s t) : Keeps w s { t with ffs := x } := by
  refine ⟨fun a ha => ?_⟩
  refine Area.same_trans (h.same a ha) ?_
  cases a <;> first | rfl | exact (Bool.noConfusion (ha.symm.trans hw)) | exact fun _ _ _ => rfl

theorem Keeps.set_hops {x} (hw : w.testBit Area.hops.ctorIdx = true) (h : Keeps w s t) : Keeps w s { t with hops := x } := by
  refine ⟨fun a ha => ?_⟩
  refine Area.same_trans (h.same a ha) ?_
  cases a <;> first | rfl | exact (Bool.noConfusion (ha.symm.trans hw)) | exact fun _ _ _ => rfl

theorem Keeps.set_portOuts {x} (hw : w.testBit Area.portOuts.ctorIdx = true) (h : Keeps w s t) : Keeps w s { t with portOuts := x } := by
  refine ⟨fun a ha => ?_⟩
  refine Area.same_trans (h.same a ha) ?_
  cases a <;> first | rfl | exact (Bool.noConfusion (ha.symm.trans hw)) | exact fun _ _ _ => rfl

theorem Keeps.set_isoHeld {x} (hw : w.testBit Area.isoHeld.ctorIdx = true) (h : Keeps w s t) : Keeps w s { t with isoHeld := x } := by
  refine ⟨fun a ha => ?_⟩
  refine Area.same_trans (h.same a ha) ?_
  cases a <;> first | rfl | exact (Bool.noConfusion (ha.symm.trans hw)) | exact fun _ _ _ => rfl

theorem Keeps.set_targets {x} (hw : w.testBit Area.targets.ctorIdx = true) (h : Keeps w s t) : Keeps w s { t with targets := x } := by
  refine ⟨fun a ha => ?_⟩
  refine Area.same_trans (h.same a ha) ?_
  cases a <;> first | rfl | exact (Bool.noConfusion (ha.symm.trans hw)) | exact fun _ _ _ => rfl

theorem Keeps.set_staged {x} (hw : w.testBit Area.staged.ctorIdx = true) (h : Keeps w s t) : Keeps w s { t with staged := x } := by
  refine ⟨fun a ha => ?_⟩
  refine Area.same_trans (h.same a ha) ?_
  cases a <;> first | rfl | exact (Bool.noConfusion (ha.symm.trans hw)) | exact fun _ _ _ => rfl

theorem Keeps.set_stream {x} (hw : w.testBit Area.stream.ctorIdx = true) (h : Keeps w s t) : Keeps w s { t with stream := x } := by
  refine ⟨fun a ha => ?_⟩
  refine Area.same_trans (h.same a ha) ?_
  cases a <;> first | rfl | exact (Bool.noConfusion (ha.symm.trans hw)) | exact fun _ _ _ => rfl

theorem Keeps.set_imageBytes {x} (hw : w.testBit Area.imageBytes.ctorIdx = true) (h : Keeps w s t) : Keeps w s { t with imageBytes := x } := by
  refine ⟨fun a ha => ?_⟩
  refine Area.same_trans (h.same a ha) ?_
  cases a <;> first | rfl | exact (Bool.noConfusion (ha.symm.trans hw)) | exact fun _ _ _ => rfl

theorem Keeps.set_odVals {x} (hw : w.testBit Area.odVals.ctorIdx = true) (h : Keeps w s t) : Keeps w s { t with odVals := x } := by
  refine ⟨fun a ha => ?_⟩
  refine Area.same_trans (h.same a ha) ?_
  cases a <;> first | rfl | exact (Bool.noConfusion (ha.symm.trans hw)) | exact fun _ _ _ => rfl

theorem Keeps.set_sessions {x} (hw : w.testBit Area.sessions.ctorIdx = true) (h : Keeps w s t) : Keeps w s { t with sessions := x } := by
  refine ⟨fun a ha => ?_⟩
  refine Area.same_trans (h.same a ha) ?_
  cases a <;> first | rfl | exact (Bool.noConfusion (ha.symm.trans hw)) | exact fun _ _ _ => rfl

theorem Keeps.set_rpdoHeld {x} (hw : w.testBit Area.rpdoHeld.ctorIdx = true) (h : Keeps w s t) : Keeps w s { t with rpdoHeld := x } := by
  refine ⟨fun a ha => ?_⟩
  refine Area.same_trans (h.same a ha) ?_
  cases a <;> first | rfl | exact (Bool.noConfusion (ha.symm.trans hw)) | exact fun _ _ _ => rfl

theorem Keeps.set_response {x} (hw : w.testBit Area.response.ctorIdx = true) (h : Keeps w s t) : Keeps w s { t with response := x } := by
  refine ⟨fun a ha => ?_⟩
  refine Area.same_trans (h.same a ha) ?_
  cases a <;> first | rfl | exact (Bool.noConfusion (ha.symm.trans hw)) | exact fun _ _ _ => rfl

theorem Keeps.set_tokenParts {x} (hw : w.testBit Area.tokenParts.ctorIdx = true) (h : Keeps w s t) : Keeps w s { t with tokenParts := x } := by
  refine ⟨fun a ha => ?_⟩
  refine Area.same_trans (h.same a ha) ?_
  cases a <;> first | rfl | exact (Bool.noConfusion (ha.symm.trans hw)) | exact fun _ _ _ => rfl

theorem Keeps.set_objectParts {x} (hw : w.testBit Area.objectParts.ctorIdx = true) (h : Keeps w s t) : Keeps w s { t with objectParts := x } := by
  refine ⟨fun a ha => ?_⟩
  refine Area.same_trans (h.same a ha) ?_
  cases a <;> first | rfl | exact (Bool.noConfusion (ha.symm.trans hw)) | exact fun _ _ _ => rfl

theorem Keeps.set_dbgEvents {x} (hw : w.testBit Area.dbgEvents.ctorIdx = true) (h : Keeps w s t) : Keeps w s { t with dbgEvents := x } := by
  refine ⟨fun a ha => ?_⟩
  refine Area.same_trans (h.same a ha) ?_
  cases a <;> first | rfl | exact (Bool.noConfusion (ha.symm.trans hw)) | exact fun _ _ _ => rfl

theorem Keeps.set_matched {x} (hw : w.testBit Area.matched.ctorIdx = true) (h : Keeps w s t) : Keeps w s { t with matched := x } := by
  refine ⟨fun a ha => ?_⟩
  refine Area.same_trans (h.same a ha) ?_
  cases a <;> first | rfl | exact (Bool.noConfusion (ha.symm.trans hw)) | exact fun _ _ _ => rfl

theorem Keeps.set_fobjs {x} (hw : w.testBit Area.fobjs.ctorIdx = true) (h : Keeps w s t) : Keeps w s { t with fobjs := x } := by
  refine ⟨fun a ha => ?_⟩
  refine Area.same_trans (h.same a ha) ?_
  cases a <;> first | rfl | exact (Bool.noConfusion (ha.symm.trans hw)) | exact fun _ _ _ => rfl

theorem Keeps.set_fvals {x} (hw : w.testBit Area.fvals.ctorIdx = true) (h : Keeps w s t) : Keeps w s { t with fvals := x } := by
  refine ⟨fun a ha => ?_⟩
  refine Area.same_trans (h.same a ha) ?_
  cases a <;> first | rfl | exact (Bool.noConfusion (ha.symm.trans hw)) | exact fun _ _ _ => rfl

theorem Keeps.set_fstaged {x} (hw : w.testBit Area.fstaged.ctorIdx = true) (h : Keeps w s t) : Keeps w s { t with fstaged := x } := by
  refine ⟨fun a ha => ?_⟩
  refine Area.same_trans (h.same a ha) ?_
  cases a <;> first | rfl | exact (Bool.noConfusion (ha.symm.trans hw)) | exact fun _ _ _ => rfl

theorem Keeps.set_fwrites {x} (hw : w.testBit Area.fwrites.ctorIdx = true) (h : Keeps w s t) : Keeps w s { t with fwrites := x } := by
  refine ⟨fun a ha => ?_⟩
  refine Area.same_trans (h.same a ha) ?_
  cases a <;> first | rfl | exact (Bool.noConfusion (ha.symm.trans hw)) | exact fun _ _ _ => rfl

theorem Keeps.set_pending {x} (hw : w.testBit Area.pending.ctorIdx = true) (h : Keeps w s t) : Keeps w s { t with pending := x } := by
  refine ⟨fun a ha => ?_⟩
  refine Area.same_trans (h.same a ha) ?_
  cases a <;> first | rfl | exact (Bool.noConfusion (ha.symm.trans hw)) | exact fun _ _ _ => rfl

theorem Keeps.upd {t : State} {x_time} {x_free} {x_emcyQueue} {x_emcyHistory} {x_conditions} {x_out} {x_banks} {x_writeBacks} {x_heldOps} {x_bankWaits} {x_scrubWaits} {x_cache} {x_net} {x_replay} {x_crossing} {x_netHeld} {x_niWaits} {x_txns} {x_quarantine} {x_delivered} {x_mailboxes} {x_queues} {x_queueSnaps} {x_ctx} {x_ctxImage} {x_ctxShadow} {x_ctxStaged} {x_exchanges} {x_statuses} {x_built} {x_dram} {x_dramReqs} {x_dramWrites} {x_portTx} {x_rxHeld} {x_laneBufs} {x_oasis} {x_sealedOasis} {x_keySlots} {x_certificate} {x_report} {x_copyA} {x_copyB} {x_tamperLog} {x_plane} {x_ffs} {x_hops} {x_portOuts} {x_isoHeld} {x_targets} {x_staged} {x_stream} {x_imageBytes} {x_odVals} {x_sessions} {x_rpdoHeld} {x_response} {x_tokenParts} {x_objectParts} {x_dbgEvents} {x_matched} {x_fobjs} {x_fvals} {x_fstaged} {x_fwrites} {x_pending} (h : Keeps w s t)
    (h_time : w.testBit Area.time.ctorIdx = true ∨ x_time = t.time)
    (h_free : w.testBit Area.free.ctorIdx = true ∨ x_free = t.free)
    (h_emcyQueue : w.testBit Area.emcyQueue.ctorIdx = true ∨ x_emcyQueue = t.emcyQueue)
    (h_emcyHistory : w.testBit Area.emcyHistory.ctorIdx = true ∨ x_emcyHistory = t.emcyHistory)
    (h_conditions : w.testBit Area.conditions.ctorIdx = true ∨ x_conditions = t.conditions)
    (h_out : w.testBit Area.out.ctorIdx = true ∨ x_out = t.out)
    (h_banks : w.testBit Area.banks.ctorIdx = true ∨ x_banks = t.banks)
    (h_writeBacks : w.testBit Area.writeBacks.ctorIdx = true ∨ x_writeBacks = t.writeBacks)
    (h_heldOps : w.testBit Area.heldOps.ctorIdx = true ∨ x_heldOps = t.heldOps)
    (h_bankWaits : w.testBit Area.bankWaits.ctorIdx = true ∨ x_bankWaits = t.bankWaits)
    (h_scrubWaits : w.testBit Area.scrubWaits.ctorIdx = true ∨ x_scrubWaits = t.scrubWaits)
    (h_cache : w.testBit Area.cache.ctorIdx = true ∨ x_cache = t.cache)
    (h_net : w.testBit Area.net.ctorIdx = true ∨ x_net = t.net)
    (h_replay : w.testBit Area.replay.ctorIdx = true ∨ x_replay = t.replay)
    (h_crossing : w.testBit Area.crossing.ctorIdx = true ∨ x_crossing = t.crossing)
    (h_netHeld : w.testBit Area.netHeld.ctorIdx = true ∨ x_netHeld = t.netHeld)
    (h_niWaits : w.testBit Area.niWaits.ctorIdx = true ∨ x_niWaits = t.niWaits)
    (h_txns : w.testBit Area.txns.ctorIdx = true ∨ x_txns = t.txns)
    (h_quarantine : w.testBit Area.quarantine.ctorIdx = true ∨ x_quarantine = t.quarantine)
    (h_delivered : w.testBit Area.delivered.ctorIdx = true ∨ x_delivered = t.delivered)
    (h_mailboxes : w.testBit Area.mailboxes.ctorIdx = true ∨ x_mailboxes = t.mailboxes)
    (h_queues : w.testBit Area.queues.ctorIdx = true ∨ x_queues = t.queues)
    (h_queueSnaps : w.testBit Area.queueSnaps.ctorIdx = true ∨ x_queueSnaps = t.queueSnaps)
    (h_ctx : w.testBit Area.ctx.ctorIdx = true ∨ x_ctx = t.ctx)
    (h_ctxImage : w.testBit Area.ctxImage.ctorIdx = true ∨ x_ctxImage = t.ctxImage)
    (h_ctxShadow : w.testBit Area.ctxShadow.ctorIdx = true ∨ x_ctxShadow = t.ctxShadow)
    (h_ctxStaged : w.testBit Area.ctxStaged.ctorIdx = true ∨ x_ctxStaged = t.ctxStaged)
    (h_exchanges : w.testBit Area.exchanges.ctorIdx = true ∨ x_exchanges = t.exchanges)
    (h_statuses : w.testBit Area.statuses.ctorIdx = true ∨ x_statuses = t.statuses)
    (h_built : w.testBit Area.built.ctorIdx = true ∨ x_built = t.built)
    (h_dram : w.testBit Area.dram.ctorIdx = true ∨ x_dram = t.dram)
    (h_dramReqs : w.testBit Area.dramReqs.ctorIdx = true ∨ x_dramReqs = t.dramReqs)
    (h_dramWrites : w.testBit Area.dramWrites.ctorIdx = true ∨ x_dramWrites = t.dramWrites)
    (h_portTx : w.testBit Area.portTx.ctorIdx = true ∨ x_portTx = t.portTx)
    (h_rxHeld : w.testBit Area.rxHeld.ctorIdx = true ∨ x_rxHeld = t.rxHeld)
    (h_laneBufs : w.testBit Area.laneBufs.ctorIdx = true ∨ x_laneBufs = t.laneBufs)
    (h_oasis : w.testBit Area.oasis.ctorIdx = true ∨ x_oasis = t.oasis)
    (h_sealedOasis : w.testBit Area.sealedOasis.ctorIdx = true ∨ x_sealedOasis = t.sealedOasis)
    (h_keySlots : w.testBit Area.keySlots.ctorIdx = true ∨ x_keySlots = t.keySlots)
    (h_certificate : w.testBit Area.certificate.ctorIdx = true ∨ x_certificate = t.certificate)
    (h_report : w.testBit Area.report.ctorIdx = true ∨ x_report = t.report)
    (h_copyA : w.testBit Area.copyA.ctorIdx = true ∨ x_copyA = t.copyA)
    (h_copyB : w.testBit Area.copyB.ctorIdx = true ∨ x_copyB = t.copyB)
    (h_tamperLog : w.testBit Area.tamperLog.ctorIdx = true ∨ x_tamperLog = t.tamperLog)
    (h_plane : w.testBit Area.plane.ctorIdx = true ∨ x_plane = t.plane)
    (h_ffs : w.testBit Area.ffs.ctorIdx = true ∨ x_ffs = t.ffs)
    (h_hops : w.testBit Area.hops.ctorIdx = true ∨ x_hops = t.hops)
    (h_portOuts : w.testBit Area.portOuts.ctorIdx = true ∨ x_portOuts = t.portOuts)
    (h_isoHeld : w.testBit Area.isoHeld.ctorIdx = true ∨ x_isoHeld = t.isoHeld)
    (h_targets : w.testBit Area.targets.ctorIdx = true ∨ x_targets = t.targets)
    (h_staged : w.testBit Area.staged.ctorIdx = true ∨ x_staged = t.staged)
    (h_stream : w.testBit Area.stream.ctorIdx = true ∨ x_stream = t.stream)
    (h_imageBytes : w.testBit Area.imageBytes.ctorIdx = true ∨ x_imageBytes = t.imageBytes)
    (h_odVals : w.testBit Area.odVals.ctorIdx = true ∨ x_odVals = t.odVals)
    (h_sessions : w.testBit Area.sessions.ctorIdx = true ∨ x_sessions = t.sessions)
    (h_rpdoHeld : w.testBit Area.rpdoHeld.ctorIdx = true ∨ x_rpdoHeld = t.rpdoHeld)
    (h_response : w.testBit Area.response.ctorIdx = true ∨ x_response = t.response)
    (h_tokenParts : w.testBit Area.tokenParts.ctorIdx = true ∨ x_tokenParts = t.tokenParts)
    (h_objectParts : w.testBit Area.objectParts.ctorIdx = true ∨ x_objectParts = t.objectParts)
    (h_dbgEvents : w.testBit Area.dbgEvents.ctorIdx = true ∨ x_dbgEvents = t.dbgEvents)
    (h_matched : w.testBit Area.matched.ctorIdx = true ∨ x_matched = t.matched)
    (h_fobjs : w.testBit Area.fobjs.ctorIdx = true ∨ x_fobjs = t.fobjs)
    (h_fvals : w.testBit Area.fvals.ctorIdx = true ∨ x_fvals = t.fvals)
    (h_fstaged : w.testBit Area.fstaged.ctorIdx = true ∨ x_fstaged = t.fstaged)
    (h_fwrites : w.testBit Area.fwrites.ctorIdx = true ∨ x_fwrites = t.fwrites)
    (h_pending : w.testBit Area.pending.ctorIdx = true ∨ x_pending = t.pending)
    : Keeps w s ⟨t.regs, x_time, x_free, x_emcyQueue, x_emcyHistory, x_conditions, x_out, x_banks, x_writeBacks, x_heldOps, x_bankWaits, x_scrubWaits, x_cache, x_net, x_replay, x_crossing, x_netHeld, x_niWaits, x_txns, x_quarantine, x_delivered, x_mailboxes, x_queues, x_queueSnaps, x_ctx, x_ctxImage, x_ctxShadow, x_ctxStaged, x_exchanges, x_statuses, x_built, x_dram, x_dramReqs, x_dramWrites, x_portTx, x_rxHeld, x_laneBufs, x_oasis, x_sealedOasis, x_keySlots, x_certificate, x_report, x_copyA, x_copyB, x_tamperLog, x_plane, x_ffs, x_hops, x_portOuts, x_isoHeld, x_targets, x_staged, x_stream, x_imageBytes, x_odVals, x_sessions, x_rpdoHeld, x_response, x_tokenParts, x_objectParts, x_dbgEvents, x_matched, x_fobjs, x_fvals, x_fstaged, x_fwrites, x_pending⟩ := by
  refine ⟨fun a ha => ?_⟩
  refine Area.same_trans (h.same a ha) ?_
  cases a
  all_goals try exact fun _ _ _ => rfl
  · exact h_time.resolve_left fun hw => Bool.noConfusion (ha.symm.trans hw)
  · exact h_free.resolve_left fun hw => Bool.noConfusion (ha.symm.trans hw)
  · exact h_emcyQueue.resolve_left fun hw => Bool.noConfusion (ha.symm.trans hw)
  · exact h_emcyHistory.resolve_left fun hw => Bool.noConfusion (ha.symm.trans hw)
  · exact h_conditions.resolve_left fun hw => Bool.noConfusion (ha.symm.trans hw)
  · exact h_out.resolve_left fun hw => Bool.noConfusion (ha.symm.trans hw)
  · exact h_banks.resolve_left fun hw => Bool.noConfusion (ha.symm.trans hw)
  · exact h_writeBacks.resolve_left fun hw => Bool.noConfusion (ha.symm.trans hw)
  · exact h_heldOps.resolve_left fun hw => Bool.noConfusion (ha.symm.trans hw)
  · exact h_bankWaits.resolve_left fun hw => Bool.noConfusion (ha.symm.trans hw)
  · exact h_scrubWaits.resolve_left fun hw => Bool.noConfusion (ha.symm.trans hw)
  · exact h_cache.resolve_left fun hw => Bool.noConfusion (ha.symm.trans hw)
  · exact h_net.resolve_left fun hw => Bool.noConfusion (ha.symm.trans hw)
  · exact h_replay.resolve_left fun hw => Bool.noConfusion (ha.symm.trans hw)
  · exact h_crossing.resolve_left fun hw => Bool.noConfusion (ha.symm.trans hw)
  · exact h_netHeld.resolve_left fun hw => Bool.noConfusion (ha.symm.trans hw)
  · exact h_niWaits.resolve_left fun hw => Bool.noConfusion (ha.symm.trans hw)
  · exact h_txns.resolve_left fun hw => Bool.noConfusion (ha.symm.trans hw)
  · exact h_quarantine.resolve_left fun hw => Bool.noConfusion (ha.symm.trans hw)
  · exact h_delivered.resolve_left fun hw => Bool.noConfusion (ha.symm.trans hw)
  · exact h_mailboxes.resolve_left fun hw => Bool.noConfusion (ha.symm.trans hw)
  · exact h_queues.resolve_left fun hw => Bool.noConfusion (ha.symm.trans hw)
  · exact h_queueSnaps.resolve_left fun hw => Bool.noConfusion (ha.symm.trans hw)
  · exact h_ctx.resolve_left fun hw => Bool.noConfusion (ha.symm.trans hw)
  · exact h_ctxImage.resolve_left fun hw => Bool.noConfusion (ha.symm.trans hw)
  · exact h_ctxShadow.resolve_left fun hw => Bool.noConfusion (ha.symm.trans hw)
  · exact h_ctxStaged.resolve_left fun hw => Bool.noConfusion (ha.symm.trans hw)
  · exact h_exchanges.resolve_left fun hw => Bool.noConfusion (ha.symm.trans hw)
  · exact h_statuses.resolve_left fun hw => Bool.noConfusion (ha.symm.trans hw)
  · exact h_built.resolve_left fun hw => Bool.noConfusion (ha.symm.trans hw)
  · exact h_dram.resolve_left fun hw => Bool.noConfusion (ha.symm.trans hw)
  · exact h_dramReqs.resolve_left fun hw => Bool.noConfusion (ha.symm.trans hw)
  · exact h_dramWrites.resolve_left fun hw => Bool.noConfusion (ha.symm.trans hw)
  · exact h_portTx.resolve_left fun hw => Bool.noConfusion (ha.symm.trans hw)
  · exact h_rxHeld.resolve_left fun hw => Bool.noConfusion (ha.symm.trans hw)
  · exact h_laneBufs.resolve_left fun hw => Bool.noConfusion (ha.symm.trans hw)
  · exact h_oasis.resolve_left fun hw => Bool.noConfusion (ha.symm.trans hw)
  · exact h_sealedOasis.resolve_left fun hw => Bool.noConfusion (ha.symm.trans hw)
  · exact h_keySlots.resolve_left fun hw => Bool.noConfusion (ha.symm.trans hw)
  · exact h_certificate.resolve_left fun hw => Bool.noConfusion (ha.symm.trans hw)
  · exact h_report.resolve_left fun hw => Bool.noConfusion (ha.symm.trans hw)
  · exact h_copyA.resolve_left fun hw => Bool.noConfusion (ha.symm.trans hw)
  · exact h_copyB.resolve_left fun hw => Bool.noConfusion (ha.symm.trans hw)
  · exact h_tamperLog.resolve_left fun hw => Bool.noConfusion (ha.symm.trans hw)
  · exact h_plane.resolve_left fun hw => Bool.noConfusion (ha.symm.trans hw)
  · exact h_ffs.resolve_left fun hw => Bool.noConfusion (ha.symm.trans hw)
  · exact h_hops.resolve_left fun hw => Bool.noConfusion (ha.symm.trans hw)
  · exact h_portOuts.resolve_left fun hw => Bool.noConfusion (ha.symm.trans hw)
  · exact h_isoHeld.resolve_left fun hw => Bool.noConfusion (ha.symm.trans hw)
  · exact h_targets.resolve_left fun hw => Bool.noConfusion (ha.symm.trans hw)
  · exact h_staged.resolve_left fun hw => Bool.noConfusion (ha.symm.trans hw)
  · exact h_stream.resolve_left fun hw => Bool.noConfusion (ha.symm.trans hw)
  · exact h_imageBytes.resolve_left fun hw => Bool.noConfusion (ha.symm.trans hw)
  · exact h_odVals.resolve_left fun hw => Bool.noConfusion (ha.symm.trans hw)
  · exact h_sessions.resolve_left fun hw => Bool.noConfusion (ha.symm.trans hw)
  · exact h_rpdoHeld.resolve_left fun hw => Bool.noConfusion (ha.symm.trans hw)
  · exact h_response.resolve_left fun hw => Bool.noConfusion (ha.symm.trans hw)
  · exact h_tokenParts.resolve_left fun hw => Bool.noConfusion (ha.symm.trans hw)
  · exact h_objectParts.resolve_left fun hw => Bool.noConfusion (ha.symm.trans hw)
  · exact h_dbgEvents.resolve_left fun hw => Bool.noConfusion (ha.symm.trans hw)
  · exact h_matched.resolve_left fun hw => Bool.noConfusion (ha.symm.trans hw)
  · exact h_fobjs.resolve_left fun hw => Bool.noConfusion (ha.symm.trans hw)
  · exact h_fvals.resolve_left fun hw => Bool.noConfusion (ha.symm.trans hw)
  · exact h_fstaged.resolve_left fun hw => Bool.noConfusion (ha.symm.trans hw)
  · exact h_fwrites.resolve_left fun hw => Bool.noConfusion (ha.symm.trans hw)
  · exact h_pending.resolve_left fun hw => Bool.noConfusion (ha.symm.trans hw)

theorem Keeps.emit {k : OutKind} {n : Nat} {l : List Nat} (hw : w.testBit Area.out.ctorIdx = true) (h : Keeps w s t) : Keeps w s (t.emit k n l) := Keeps.set_out hw h

theorem Keeps.spend (hw : w.testBit Area.free.ctorIdx = true) (h : Keeps w s t) : Keeps w s t.spend := Keeps.set_free hw h

theorem Keeps.at {x : Nat} (hw : w.testBit Area.time.ctorIdx = true) (h : Keeps w s t) : Keeps w s (t.at x) := Keeps.set_time hw h

/-- A meaning keeps what its effect keeps. -/
theorem act_keeps {ok : Bool} {s s' t : State} (h : act ok s s' = .next t) (k : Keeps w s s') : Keeps w s t := by
  unfold act at h
  split at h
  · obtain rfl := Host.Outcome.next.inj h
    refine ⟨fun a ha => ?_⟩
    cases a <;> first | exact k.same _ ha | rfl
  · cases h

theorem actCore_keeps {ok : Bool} {s s' t : State} (h : actCore ok s s' = .next t) (k : Keeps w s s') : Keeps w s t := by
  refine act_keeps h ?_
  split
  · exact k
  · exact Keeps.refl

theorem actFw_keeps {ok : Bool} {s s' t : State} (h : actFw ok s s' = .next t) (k : Keeps w s s') : Keeps w s t := by
  refine act_keeps h ?_
  split
  · exact k
  · exact Keeps.refl

theorem actOd_keeps {ok : Bool} {s s' t : State} (h : actOd ok s s' = .next t) (k : Keeps w s s') : Keeps w s t := by
  refine act_keeps h ?_
  split
  · exact k
  · exact Keeps.refl

end Sys2Proof.Machine
end

