-- ==== Sys2Proof/Laws/KeepsTick.lean ====
section
/-! SUPPORT. What each operation and each command leaves alone: the tick, banks, network, queues and Caravan. -/

namespace Sys2Proof.Machine

theorem State.enqueueEmcy_keeps {s : State} {e : Emcy} {m₀ s₀} (k₀ : Keeps m₀ s₀ s) (hm : (1114112 &&& m₀ == 1114112)
    = true) : Keeps m₀ s₀ (State.enqueueEmcy s e) := by
  refine k₀.step (w' := 1114112) ?_ hm
  unfold State.enqueueEmcy
  try dsimp only
  repeat' first
    | (with_reducible exact Keeps.refl)
    | (with_reducible refine Keeps.inc ?_ ?_)
    | (with_reducible refine Keeps.ite ?_ ?_)
    | exact (rfl : _ = true)
    | assumption
    | split
    | (with_reducible refine Keeps.set_emcyQueue ?_ ?_)

theorem State.sendEmcy_keeps {s : State} {code event arg : Nat} {m₀ s₀} (k₀ : Keeps m₀ s₀ s) (hm : (3211264 &&& m₀ ==
    3211264) = true) : Keeps m₀ s₀ (State.sendEmcy s code event arg) := by
  refine k₀.step (w' := 3211264) ?_ hm
  unfold State.sendEmcy
  try dsimp only
  repeat' first
    | (with_reducible exact Keeps.refl)
    | (with_reducible refine Keeps.ite ?_ ?_)
    | (with_reducible refine State.enqueueEmcy_keeps ?_ ?_)
    | exact (rfl : _ = true)
    | assumption
    | split
    | (with_reducible refine Keeps.set_emcyHistory ?_ ?_)

theorem State.raiseEvent_keeps {s : State} {code event arg : Nat} {m₀ s₀} (k₀ : Keeps m₀ s₀ s) (hm : (3211264 &&& m₀
    == 3211264) = true) : Keeps m₀ s₀ (State.raiseEvent s code event arg) := by
  refine k₀.step (w' := 3211264) ?_ hm
  unfold State.raiseEvent
  try dsimp only
  repeat' first
    | (with_reducible exact Keeps.refl)
    | (with_reducible refine Keeps.wr ?_ ?_)
    | (with_reducible refine State.sendEmcy_keeps ?_ ?_)
    | exact (rfl : _ = true)

theorem State.raiseCondAs_keeps {s : State} {key code event arg : Nat} {m₀ s₀} (k₀ : Keeps m₀ s₀ s) (hm : (7405568 &&&
    m₀ == 7405568) = true) : Keeps m₀ s₀ (State.raiseCondAs s key code event arg) := by
  refine k₀.step (w' := 7405568) ?_ hm
  unfold State.raiseCondAs
  try dsimp only
  repeat' first
    | (with_reducible exact Keeps.refl)
    | (with_reducible refine Keeps.ite ?_ ?_)
    | (with_reducible refine State.sendEmcy_keeps ?_ ?_)
    | exact (rfl : _ = true)
    | assumption
    | split
    | (with_reducible refine Keeps.set_conditions ?_ ?_)

theorem State.raiseCond_keeps {s : State} {code event arg : Nat} {m₀ s₀} (k₀ : Keeps m₀ s₀ s) (hm : (7405568 &&& m₀ ==
    7405568) = true) : Keeps m₀ s₀ (State.raiseCond s code event arg) := by
  refine k₀.step (w' := 7405568) ?_ hm
  unfold State.raiseCond
  try dsimp only
  repeat' first
    | (with_reducible exact Keeps.refl)
    | (with_reducible refine State.raiseCondAs_keeps ?_ ?_)
    | exact (rfl : _ = true)

theorem State.errorRegisterFell_keeps {before : Nat} {s : State} {m₀ s₀} (k₀ : Keeps m₀ s₀ s) (hm : (3211264 &&& m₀ ==
    3211264) = true) : Keeps m₀ s₀ (State.errorRegisterFell before s) := by
  refine k₀.step (w' := 3211264) ?_ hm
  unfold State.errorRegisterFell
  try dsimp only
  repeat' first
    | (with_reducible exact Keeps.refl)
    | (with_reducible refine Keeps.ite ?_ ?_)
    | (with_reducible refine State.sendEmcy_keeps ?_ ?_)
    | exact (rfl : _ = true)

theorem State.endCond_keeps {s : State} {code key : Nat} {m₀ s₀} (k₀ : Keeps m₀ s₀ s) (hm : (7405568 &&& m₀ ==
    7405568) = true) : Keeps m₀ s₀ (State.endCond s code key) := by
  refine k₀.step (w' := 7405568) ?_ hm
  unfold State.endCond
  try dsimp only
  repeat' first
    | (with_reducible exact Keeps.refl)
    | (with_reducible refine Keeps.ite ?_ ?_)
    | (with_reducible refine State.errorRegisterFell_keeps ?_ ?_)
    | exact (rfl : _ = true)
    | assumption
    | split
    | (with_reducible refine Keeps.set_conditions ?_ ?_)

theorem State.endConds_keeps {s : State} {code : Nat} {m₀ s₀} (k₀ : Keeps m₀ s₀ s) (hm : (7405568 &&& m₀ == 7405568) =
    true) : Keeps m₀ s₀ (State.endConds s code) := by
  refine k₀.step (w' := 7405568) ?_ hm
  unfold State.endConds
  try dsimp only
  repeat' first
    | (with_reducible exact Keeps.refl)
    | (with_reducible refine Keeps.ite ?_ ?_)
    | (with_reducible refine State.errorRegisterFell_keeps ?_ ?_)
    | exact (rfl : _ = true)
    | assumption
    | split
    | (with_reducible refine Keeps.set_conditions ?_ ?_)

theorem State.sendOn_keeps {s : State} {k : OutKind} {data : List Nat} {p : Nat} {m₀ s₀} (k₀ : Keeps m₀ s₀ s) (hm :
    (8454144 &&& m₀ == 8454144) = true) : Keeps m₀ s₀ (State.sendOn s k data p) := by
  refine k₀.step (w' := 8454144) ?_ hm
  unfold State.sendOn
  try dsimp only
  repeat' first
    | (with_reducible exact Keeps.refl)
    | (with_reducible refine Keeps.wr ?_ ?_)
    | (with_reducible refine Keeps.emit ?_ ?_)
    | (with_reducible refine Keeps.ite ?_ ?_)
    | exact (rfl : _ = true)

theorem State.sendAll_keeps {s : State} {k : OutKind} {data : List Nat} {m₀ s₀} (k₀ : Keeps m₀ s₀ s) (hm : (8454144
    &&& m₀ == 8454144) = true) : Keeps m₀ s₀ (State.sendAll s k data) := by
  refine k₀.step (w' := 8454144) ?_ hm
  unfold State.sendAll
  try dsimp only
  repeat' first
    | (with_reducible exact Keeps.refl)
    | (with_reducible refine Keeps.each (fun _ _ => ?_) ?_)
    | (with_reducible refine State.sendOn_keeps ?_ ?_)
    | exact (rfl : _ = true)

theorem State.sendOut_keeps {s : State} {e : Emcy} {m₀ s₀} (k₀ : Keeps m₀ s₀ s) (hm : (8454144 &&& m₀ == 8454144) =
    true) : Keeps m₀ s₀ (State.sendOut s e) := by
  refine k₀.step (w' := 8454144) ?_ hm
  unfold State.sendOut
  try dsimp only
  repeat' first
    | (with_reducible exact Keeps.refl)
    | (with_reducible refine Keeps.each (fun _ _ => ?_) ?_)
    | (with_reducible refine State.sendOn_keeps ?_ ?_)
    | exact (rfl : _ = true)

theorem State.setRow_keeps {s : State} {d b row v : Nat} {m₀ s₀} (k₀ : Keeps m₀ s₀ s) (hm : (16777216 &&& m₀ ==
    16777216) = true) : Keeps m₀ s₀ (State.setRow s d b row v) := by
  refine k₀.step (w' := 16777216) ?_ hm
  unfold State.setRow
  try dsimp only
  repeat' first
    | (with_reducible exact Keeps.refl)
    | exact (rfl : _ = true)
    | assumption
    | split
    | (with_reducible refine Keeps.set_banks ?_ ?_)

theorem State.cancelWriteBacks_keeps {s : State} {d b row : Nat} {m₀ s₀} (k₀ : Keeps m₀ s₀ s) (hm : (33554432 &&& m₀
    == 33554432) = true) : Keeps m₀ s₀ (State.cancelWriteBacks s d b row) := by
  refine k₀.step (w' := 33554432) ?_ hm
  unfold State.cancelWriteBacks
  try dsimp only
  repeat' first
    | (with_reducible exact Keeps.refl)
    | exact (rfl : _ = true)
    | assumption
    | split
    | (with_reducible refine Keeps.set_writeBacks ?_ ?_)

theorem State.storeRow_keeps {s : State} {d b row data : Nat} {m₀ s₀} (k₀ : Keeps m₀ s₀ s) (hm : (50331648 &&& m₀ ==
    50331648) = true) : Keeps m₀ s₀ (State.storeRow s d b row data) := by
  refine k₀.step (w' := 50331648) ?_ hm
  unfold State.storeRow
  try dsimp only
  repeat' first
    | (with_reducible exact Keeps.refl)
    | (with_reducible refine State.cancelWriteBacks_keeps ?_ ?_)
    | (with_reducible refine State.setRow_keeps ?_ ?_)
    | exact (rfl : _ = true)

theorem State.storePoison_keeps {s : State} {d b row : Nat} {m₀ s₀} (k₀ : Keeps m₀ s₀ s) (hm : (50331648 &&& m₀ ==
    50331648) = true) : Keeps m₀ s₀ (State.storePoison s d b row) := by
  refine k₀.step (w' := 50331648) ?_ hm
  unfold State.storePoison
  try dsimp only
  repeat' first
    | (with_reducible exact Keeps.refl)
    | (with_reducible refine State.cancelWriteBacks_keeps ?_ ?_)
    | (with_reducible refine State.setRow_keeps ?_ ?_)
    | exact (rfl : _ = true)

theorem State.noteUncorrectable_keeps {s : State} {d b row src : Nat} {m₀ s₀} (k₀ : Keeps m₀ s₀ s) (hm : (3211272 &&&
    m₀ == 3211272) = true) : Keeps m₀ s₀ (State.noteUncorrectable s d b row src) := by
  refine k₀.step (w' := 3211272) ?_ hm
  unfold State.noteUncorrectable
  try dsimp only
  repeat' first
    | (with_reducible exact Keeps.refl)
    | (with_reducible refine Keeps.wr ?_ ?_)
    | (with_reducible refine Keeps.inc ?_ ?_)
    | (with_reducible refine Keeps.ite ?_ ?_)
    | (with_reducible refine State.raiseEvent_keeps ?_ ?_)
    | exact (rfl : _ = true)

theorem State.askWriteBack_keeps {s : State} {d b row src : Nat} {r : RowRead} {m₀ s₀} (k₀ : Keeps m₀ s₀ s) (hm :
    (33554432 &&& m₀ == 33554432) = true) : Keeps m₀ s₀ (State.askWriteBack s d b row src r) := by
  refine k₀.step (w' := 33554432) ?_ hm
  unfold State.askWriteBack
  try dsimp only
  repeat' first
    | (with_reducible exact Keeps.refl)
    | (with_reducible refine Keeps.ite ?_ ?_)
    | exact (rfl : _ = true)
    | assumption
    | split
    | (with_reducible refine Keeps.set_writeBacks ?_ ?_)

theorem State.readPhys_keeps {s : State} {d b row src : Nat} {m₀ s₀} (k₀ : Keeps m₀ s₀ s) (hm : (36765704 &&& m₀ ==
    36765704) = true) : Keeps m₀ s₀ (State.readPhys s d b row src).2 := by
  refine k₀.step (w' := 36765704) ?_ hm
  unfold State.readPhys
  try dsimp only
  repeat' first
    | (with_reducible exact Keeps.refl)
    | (with_reducible refine Keeps.ite ?_ ?_)
    | (with_reducible refine Keeps.ite_snd ?_ ?_)
    | (with_reducible refine State.askWriteBack_keeps ?_ ?_)
    | (with_reducible refine State.noteUncorrectable_keeps ?_ ?_)
    | exact (rfl : _ = true)

theorem State.readPhys_keeps_eq {s : State} {d b row src : Nat} {x} {s'' : State} (e : State.readPhys s d b row src =
    (x, s'')) {m₀ s₀} (k₀ : Keeps m₀ s₀ s) (hm : (36765704 &&& m₀ == 36765704) = true) : Keeps m₀ s₀ s'' := by
  have := State.readPhys_keeps (s := s) (d := d) (b := b) (row := row) (src := src) k₀ hm
  rwa [e] at this

theorem State.landWriteBack_keeps {s : State} {w : WriteBack} {m₀ s₀} (k₀ : Keeps m₀ s₀ s) (hm : (50331656 &&& m₀ ==
    50331656) = true) : Keeps m₀ s₀ (State.landWriteBack s w) := by
  refine k₀.step (w' := 50331656) ?_ hm
  unfold State.landWriteBack
  try dsimp only
  repeat' first
    | (with_reducible exact Keeps.refl)
    | (with_reducible refine Keeps.inc ?_ ?_)
    | (with_reducible refine Keeps.ite ?_ ?_)
    | (with_reducible refine State.cancelWriteBacks_keeps ?_ ?_)
    | (with_reducible refine State.setRow_keeps ?_ ?_)
    | exact (rfl : _ = true)

theorem State.modifyRow_keeps {s : State} {d b row src : Nat} {clear : Bool} {data : Nat} {m₀ s₀} (k₀ : Keeps m₀ s₀ s)
    (hm : (53542920 &&& m₀ == 53542920) = true) : Keeps m₀ s₀ (State.modifyRow s d b row src clear data).2 := by
  refine k₀.step (w' := 53542920) ?_ hm
  unfold State.modifyRow
  try dsimp only
  repeat' first
    | (with_reducible exact Keeps.refl)
    | (with_reducible refine Keeps.ite ?_ ?_)
    | (with_reducible refine Keeps.ite_snd ?_ ?_)
    | (with_reducible refine State.readPhys_keeps ?_ ?_)
    | (refine State.readPhys_keeps_eq (by assumption) ?_ ?_)
    | (with_reducible refine State.storeRow_keeps ?_ ?_)
    | exact (rfl : _ = true)

theorem State.modifyRow_keeps_eq {s : State} {d b row src : Nat} {clear : Bool} {data : Nat} {x} {s'' : State} (e :
    State.modifyRow s d b row src clear data = (x, s'')) {m₀ s₀} (k₀ : Keeps m₀ s₀ s) (hm : (53542920 &&& m₀ ==
    53542920) = true) : Keeps m₀ s₀ s'' := by
  have := State.modifyRow_keeps (s := s) (d := d) (b := b) (row := row) (src := src) (clear := clear) (data := data) k₀ hm
  rwa [e] at this

theorem State.blankRows_keeps {s : State} {d b lo hi : Nat} {m₀ s₀} (k₀ : Keeps m₀ s₀ s) (hm : (50331648 &&& m₀ ==
    50331648) = true) : Keeps m₀ s₀ (State.blankRows s d b lo hi) := by
  refine k₀.step (w' := 50331648) ?_ hm
  unfold State.blankRows
  try dsimp only
  repeat' first
    | (with_reducible exact Keeps.refl)
    | (with_reducible refine Keeps.ite ?_ ?_)
    | exact (rfl : _ = true)
    | (simp only [Fld.area]; exact (rfl : _ = true))
    | exact Or.inr rfl
    | exact Or.inl rfl
    | assumption
    | split
    | (with_reducible refine Keeps.set_banks ?_ ?_)
    | (with_reducible refine Keeps.set_writeBacks ?_ ?_)
    | (with_reducible refine Keeps.upd ?_ ?_ ?_ ?_ ?_ ?_ ?_ ?_ ?_ ?_ ?_ ?_ ?_ ?_ ?_ ?_ ?_ ?_ ?_ ?_ ?_ ?_ ?_ ?_ ?_ ?_ ?_ ?_ ?_ ?_ ?_ ?_ ?_ ?_ ?_ ?_ ?_ ?_ ?_ ?_ ?_ ?_ ?_ ?_ ?_ ?_ ?_ ?_ ?_ ?_ ?_ ?_ ?_ ?_ ?_ ?_ ?_ ?_ ?_ ?_ ?_ ?_ ?_ ?_ ?_ ?_ ?_)

theorem State.blankBank_keeps {s : State} {d b : Nat} {m₀ s₀} (k₀ : Keeps m₀ s₀ s) (hm : (50331648 &&& m₀ == 50331648)
    = true) : Keeps m₀ s₀ (State.blankBank s d b) := by
  refine k₀.step (w' := 50331648) ?_ hm
  unfold State.blankBank
  try dsimp only
  repeat' first
    | (with_reducible exact Keeps.refl)
    | (with_reducible refine State.blankRows_keeps ?_ ?_)
    | exact (rfl : _ = true)

theorem State.blankWriteSide_keeps {s : State} {d b : Nat} {m₀ s₀} (k₀ : Keeps m₀ s₀ s) (hm : (50331648 &&& m₀ ==
    50331648) = true) : Keeps m₀ s₀ (State.blankWriteSide s d b) := by
  refine k₀.step (w' := 50331648) ?_ hm
  unfold State.blankWriteSide
  try dsimp only
  repeat' first
    | (with_reducible exact Keeps.refl)
    | (with_reducible refine State.blankRows_keeps ?_ ?_)
    | exact (rfl : _ = true)

theorem State.loseBank_keeps {s : State} {d b : Nat} {m₀ s₀} (k₀ : Keeps m₀ s₀ s) (hm : (50331648 &&& m₀ == 50331648)
    = true) : Keeps m₀ s₀ (State.loseBank s d b) := by
  refine k₀.step (w' := 50331648) ?_ hm
  unfold State.loseBank
  try dsimp only
  repeat' first
    | (with_reducible exact Keeps.refl)
    | exact (rfl : _ = true)
    | (simp only [Fld.area]; exact (rfl : _ = true))
    | exact Or.inr rfl
    | exact Or.inl rfl
    | assumption
    | split
    | (with_reducible refine Keeps.set_banks ?_ ?_)
    | (with_reducible refine Keeps.set_writeBacks ?_ ?_)
    | (with_reducible refine Keeps.upd ?_ ?_ ?_ ?_ ?_ ?_ ?_ ?_ ?_ ?_ ?_ ?_ ?_ ?_ ?_ ?_ ?_ ?_ ?_ ?_ ?_ ?_ ?_ ?_ ?_ ?_ ?_ ?_ ?_ ?_ ?_ ?_ ?_ ?_ ?_ ?_ ?_ ?_ ?_ ?_ ?_ ?_ ?_ ?_ ?_ ?_ ?_ ?_ ?_ ?_ ?_ ?_ ?_ ?_ ?_ ?_ ?_ ?_ ?_ ?_ ?_ ?_ ?_ ?_ ?_ ?_ ?_)

theorem State.takeLock_keeps {s : State} {d b p row : Nat} {m₀ s₀} (k₀ : Keeps m₀ s₀ s) (hm : (8 &&& m₀ == 8) = true)
    : Keeps m₀ s₀ (State.takeLock s d b p row) := by
  refine k₀.step (w' := 8) ?_ hm
  unfold State.takeLock
  try dsimp only
  repeat' first
    | (with_reducible exact Keeps.refl)
    | (with_reducible refine Keeps.wr ?_ ?_)
    | (with_reducible refine Keeps.ite ?_ ?_)
    | exact (rfl : _ = true)

theorem State.dropLock_keeps {s : State} {d b p : Nat} {m₀ s₀} (k₀ : Keeps m₀ s₀ s) (hm : (8 &&& m₀ == 8) = true) :
    Keeps m₀ s₀ (State.dropLock s d b p) := by
  refine k₀.step (w' := 8) ?_ hm
  unfold State.dropLock
  try dsimp only
  repeat' first
    | (with_reducible exact Keeps.refl)
    | (with_reducible refine Keeps.wr ?_ ?_)
    | (with_reducible refine Keeps.ite ?_ ?_)
    | exact (rfl : _ = true)

theorem State.dropAllLocks_keeps {s : State} {m₀ s₀} (k₀ : Keeps m₀ s₀ s) (hm : (8 &&& m₀ == 8) = true) : Keeps m₀ s₀
    (State.dropAllLocks s) := by
  refine k₀.step (w' := 8) ?_ hm
  unfold State.dropAllLocks
  try dsimp only
  repeat' first
    | (with_reducible exact Keeps.refl)
    | ((with_reducible refine Keeps.resetKeys ?_ ?_); · (rintro ⟨f, u, j⟩ hk; cases f <;> first | (simp only [Fld.area]; rfl) | exact Bool.noConfusion (show false = true from hk)))

theorem State.dropBankLocks_keeps {s : State} {d b : Nat} {m₀ s₀} (k₀ : Keeps m₀ s₀ s) (hm : (8 &&& m₀ == 8) = true) :
    Keeps m₀ s₀ (State.dropBankLocks s d b) := by
  refine k₀.step (w' := 8) ?_ hm
  unfold State.dropBankLocks
  try dsimp only
  repeat' first
    | (with_reducible exact Keeps.refl)
    | (with_reducible refine State.dropLock_keeps ?_ ?_)
    | exact (rfl : _ = true)

theorem State.setPlane_keeps {s : State} {d k v : Nat} {m₀ s₀} (k₀ : Keeps m₀ s₀ s) (hm : (4611686018427387904 &&& m₀
    == 4611686018427387904) = true) : Keeps m₀ s₀ (State.setPlane s d k v) := by
  refine k₀.step (w' := 4611686018427387904) ?_ hm
  unfold State.setPlane
  try dsimp only
  repeat' first
    | (with_reducible exact Keeps.refl)
    | exact (rfl : _ = true)
    | assumption
    | split
    | (with_reducible refine Keeps.set_plane ?_ ?_)

theorem State.commitWords_rec {s₀ s : State} {d k : Nat} {l : List Nat} (h : Keeps 4611686018427387904 s₀ s) : Keeps
    4611686018427387904 s₀ (s.commitWords d k l) := by
  induction l generalizing s k with
  | nil => unfold State.commitWords; exact h
  | cons a l ih =>
    unfold State.commitWords
    try dsimp only
    repeat' first
      | (with_reducible exact h)
      | (with_reducible refine ih ?_)
      | (with_reducible refine State.setPlane_keeps ?_ ?_)
      | exact (rfl : _ = true)

theorem State.commitWords_keeps {s s₀ : State} {d k : Nat} {l : List Nat} {m₀ : Nat} (h : Keeps m₀ s₀ s) (hm :
    (4611686018427387904 &&& m₀ == 4611686018427387904) = true) : Keeps m₀ s₀ (s.commitWords d k l) :=
  h.step (w' := 4611686018427387904) (State.commitWords_rec Keeps.refl) hm

theorem State.spendMany_keeps {s : State} {k : Nat} {m₀ s₀} (k₀ : Keeps m₀ s₀ s) (hm : (524288 &&& m₀ == 524288) =
    true) : Keeps m₀ s₀ (State.spendMany s k) := by
  refine k₀.step (w' := 524288) ?_ hm
  unfold State.spendMany
  try dsimp only
  repeat' first
    | (with_reducible exact Keeps.refl)
    | exact (rfl : _ = true)
    | assumption
    | split
    | (with_reducible refine Keeps.set_free ?_ ?_)

theorem State.strike_keeps {s : State} {u : QUpset} {m₀ s₀} (k₀ : Keeps m₀ s₀ s) (hm : (549755814016 &&& m₀ ==
    549755814016) = true) : Keeps m₀ s₀ (State.strike s u) := by
  refine k₀.step (w' := 549755814016) ?_ hm
  unfold State.strike
  try dsimp only
  repeat' first
    | (with_reducible exact Keeps.refl)
    | (with_reducible refine Keeps.wr ?_ ?_)
    | (with_reducible refine Keeps.ite ?_ ?_)
    | (with_reducible refine Keeps.each (fun _ _ => ?_) ?_)
    | (with_reducible refine Keeps.foldl (fun _ _ => ?_) ?_)
    | exact (rfl : _ = true)
    | assumption
    | split
    | (with_reducible refine Keeps.set_queues ?_ ?_)

theorem State.noteFree_keeps {s : State} {m₀ s₀} (k₀ : Keeps m₀ s₀ s) (hm : (128 &&& m₀ == 128) = true) : Keeps m₀ s₀
    (State.noteFree s) := by
  refine k₀.step (w' := 128) ?_ hm
  unfold State.noteFree
  try dsimp only
  repeat' first
    | (with_reducible exact Keeps.refl)
    | (with_reducible refine Keeps.wr ?_ ?_)
    | (with_reducible refine Keeps.ite ?_ ?_)
    | exact (rfl : _ = true)

theorem State.qTake_keeps {s : State} {q count : Nat} {m₀ s₀} (k₀ : Keeps m₀ s₀ s) (hm : (549755813888 &&& m₀ ==
    549755813888) = true) : Keeps m₀ s₀ (State.qTake s q count) := by
  refine k₀.step (w' := 549755813888) ?_ hm
  unfold State.qTake
  try dsimp only
  repeat' first
    | (with_reducible exact Keeps.refl)
    | (with_reducible refine Keeps.ite ?_ ?_)
    | exact (rfl : _ = true)
    | assumption
    | split
    | (with_reducible refine Keeps.set_queues ?_ ?_)

theorem State.keepView_keeps {s : State} {q : Nat} {m₀ s₀} (k₀ : Keeps m₀ s₀ s) (hm : (1099511627776 &&& m₀ ==
    1099511627776) = true) : Keeps m₀ s₀ (State.keepView s q) := by
  refine k₀.step (w' := 1099511627776) ?_ hm
  unfold State.keepView
  try dsimp only
  repeat' first
    | (with_reducible exact Keeps.refl)
    | (with_reducible refine Keeps.ite ?_ ?_)
    | exact (rfl : _ = true)
    | assumption
    | split
    | (with_reducible refine Keeps.set_queueSnaps ?_ ?_)

theorem State.logQueue_keeps {s : State} {q kind : Nat} {m₀ s₀} (k₀ : Keeps m₀ s₀ s) (hm : (3211392 &&& m₀ == 3211392)
    = true) : Keeps m₀ s₀ (State.logQueue s q kind) := by
  refine k₀.step (w' := 3211392) ?_ hm
  unfold State.logQueue
  try dsimp only
  repeat' first
    | (with_reducible exact Keeps.refl)
    | (with_reducible refine Keeps.wr ?_ ?_)
    | (with_reducible refine Keeps.ite ?_ ?_)
    | (with_reducible refine State.raiseEvent_keeps ?_ ?_)
    | exact (rfl : _ = true)

theorem State.noteSlots_keeps {s : State} {q : Nat} {l : List ItemRead} {m₀ s₀} (k₀ : Keeps m₀ s₀ s) (hm : (3211392
    &&& m₀ == 3211392) = true) : Keeps m₀ s₀ (State.noteSlots s q l) := by
  refine k₀.step (w' := 3211392) ?_ hm
  unfold State.noteSlots
  try dsimp only
  repeat' first
    | (with_reducible exact Keeps.refl)
    | (with_reducible refine Keeps.add ?_ ?_)
    | (with_reducible refine State.logQueue_keeps ?_ ?_)
    | exact (rfl : _ = true)
    | assumption
    | split

theorem State.loseQueue_keeps {s : State} {q : Nat} {m₀ s₀} (k₀ : Keeps m₀ s₀ s) (hm : (1649274847360 &&& m₀ ==
    1649274847360) = true) : Keeps m₀ s₀ (State.loseQueue s q) := by
  refine k₀.step (w' := 1649274847360) ?_ hm
  unfold State.loseQueue
  try dsimp only
  repeat' first
    | (with_reducible exact Keeps.refl)
    | (with_reducible refine Keeps.wr ?_ ?_)
    | (with_reducible refine State.logQueue_keeps ?_ ?_)
    | (with_reducible refine State.raiseCondAs_keeps ?_ ?_)
    | exact (rfl : _ = true)
    | (simp only [Fld.area]; exact (rfl : _ = true))
    | exact Or.inr rfl
    | exact Or.inl rfl
    | assumption
    | split
    | (with_reducible refine Keeps.set_queues ?_ ?_)
    | (with_reducible refine Keeps.set_queueSnaps ?_ ?_)
    | (with_reducible refine Keeps.upd ?_ ?_ ?_ ?_ ?_ ?_ ?_ ?_ ?_ ?_ ?_ ?_ ?_ ?_ ?_ ?_ ?_ ?_ ?_ ?_ ?_ ?_ ?_ ?_ ?_ ?_ ?_ ?_ ?_ ?_ ?_ ?_ ?_ ?_ ?_ ?_ ?_ ?_ ?_ ?_ ?_ ?_ ?_ ?_ ?_ ?_ ?_ ?_ ?_ ?_ ?_ ?_ ?_ ?_ ?_ ?_ ?_ ?_ ?_ ?_ ?_ ?_ ?_ ?_ ?_ ?_ ?_)

theorem State.fixHead_keeps {s : State} {q count : Nat} {m₀ s₀} (k₀ : Keeps m₀ s₀ s) (hm : (549755813888 &&& m₀ ==
    549755813888) = true) : Keeps m₀ s₀ (State.fixHead s q count) := by
  refine k₀.step (w' := 549755813888) ?_ hm
  unfold State.fixHead
  try dsimp only
  repeat' first
    | (with_reducible exact Keeps.refl)
    | exact (rfl : _ = true)
    | assumption
    | split
    | (with_reducible refine Keeps.set_queues ?_ ?_)

theorem State.qPop_keeps {s : State} {q count : Nat} {tentative : Bool} {m₀ s₀} (k₀ : Keeps m₀ s₀ s) (hm :
    (1649270653056 &&& m₀ == 1649270653056) = true) : Keeps m₀ s₀ (State.qPop s q count tentative).2 := by
  refine k₀.step (w' := 1649270653056) ?_ hm
  unfold State.qPop
  try dsimp only
  repeat' first
    | (with_reducible exact Keeps.refl)
    | (with_reducible refine Keeps.wr ?_ ?_)
    | (with_reducible refine Keeps.ite ?_ ?_)
    | (with_reducible refine Keeps.ite_snd ?_ ?_)
    | (with_reducible refine State.fixHead_keeps ?_ ?_)
    | (with_reducible refine State.keepView_keeps ?_ ?_)
    | (with_reducible refine State.noteSlots_keeps ?_ ?_)
    | (with_reducible refine State.qTake_keeps ?_ ?_)
    | exact (rfl : _ = true)

theorem State.qPop_keeps_eq {s : State} {q count : Nat} {tentative : Bool} {x} {s'' : State} (e : State.qPop s q count
    tentative = (x, s'')) {m₀ s₀} (k₀ : Keeps m₀ s₀ s) (hm : (1649270653056 &&& m₀ == 1649270653056) = true) : Keeps
    m₀ s₀ s'' := by
  have := State.qPop_keeps (s := s) (q := q) (count := count) (tentative := tentative) k₀ hm
  rwa [e] at this

theorem State.fileNotice_keeps {s : State} {q prio len tag : Nat} {m₀ s₀} (k₀ : Keeps m₀ s₀ s) (hm : (549756338304 &&&
    m₀ == 549756338304) = true) : Keeps m₀ s₀ (State.fileNotice s q prio len tag) := by
  refine k₀.step (w' := 549756338304) ?_ hm
  unfold State.fileNotice
  try dsimp only
  repeat' first
    | (with_reducible exact Keeps.refl)
    | (with_reducible refine Keeps.wr ?_ ?_)
    | (with_reducible refine Keeps.ite ?_ ?_)
    | (with_reducible refine State.noteFree_keeps ?_ ?_)
    | (with_reducible refine State.spendMany_keeps ?_ ?_)
    | exact (rfl : _ = true)
    | assumption
    | split
    | (with_reducible refine Keeps.set_queues ?_ ?_)

theorem State.storePush_keeps {s : State} {q cls src seq prio : Nat} {last : Bool} {items : List QItem} {m₀ s₀} (k₀ :
    Keeps m₀ s₀ s) (hm : (549756338304 &&& m₀ == 549756338304) = true) : Keeps m₀ s₀ (State.storePush s q cls src seq
    prio last items) := by
  refine k₀.step (w' := 549756338304) ?_ hm
  unfold State.storePush
  try dsimp only
  repeat' first
    | (with_reducible exact Keeps.refl)
    | (with_reducible refine Keeps.add ?_ ?_)
    | (with_reducible refine Keeps.ite ?_ ?_)
    | (with_reducible refine State.fileNotice_keeps ?_ ?_)
    | (with_reducible refine State.noteFree_keeps ?_ ?_)
    | (with_reducible refine State.spendMany_keeps ?_ ?_)
    | exact (rfl : _ = true)
    | assumption
    | split
    | (with_reducible refine Keeps.set_queues ?_ ?_)

theorem State.markDrop_keeps {s : State} {q detail : Nat} {m₀ s₀} (k₀ : Keeps m₀ s₀ s) (hm : (128 &&& m₀ == 128) =
    true) : Keeps m₀ s₀ (State.markDrop s q detail) := by
  refine k₀.step (w' := 128) ?_ hm
  unfold State.markDrop
  try dsimp only
  repeat' first
    | (with_reducible exact Keeps.refl)
    | (with_reducible refine Keeps.wr ?_ ?_)
    | (with_reducible refine Keeps.ite ?_ ?_)
    | exact (rfl : _ = true)

theorem State.queuesVoid_keeps {s : State} {m₀ s₀} (k₀ : Keeps m₀ s₀ s) (hm : (1649267441792 &&& m₀ == 1649267441792)
    = true) : Keeps m₀ s₀ (State.queuesVoid s) := by
  refine k₀.step (w' := 1649267441792) ?_ hm
  unfold State.queuesVoid
  try dsimp only
  repeat' first
    | (with_reducible exact Keeps.refl)
    | ((with_reducible refine Keeps.resetKeys ?_ ?_); · (rintro ⟨f, u, j⟩ hk; cases f <;> first | (simp only [Fld.area]; rfl) | exact Bool.noConfusion (show false = true from hk)))
    | exact (rfl : _ = true)
    | (simp only [Fld.area]; exact (rfl : _ = true))
    | exact Or.inr rfl
    | exact Or.inl rfl
    | assumption
    | split
    | (with_reducible refine Keeps.set_queues ?_ ?_)
    | (with_reducible refine Keeps.set_queueSnaps ?_ ?_)
    | (with_reducible refine Keeps.upd ?_ ?_ ?_ ?_ ?_ ?_ ?_ ?_ ?_ ?_ ?_ ?_ ?_ ?_ ?_ ?_ ?_ ?_ ?_ ?_ ?_ ?_ ?_ ?_ ?_ ?_ ?_ ?_ ?_ ?_ ?_ ?_ ?_ ?_ ?_ ?_ ?_ ?_ ?_ ?_ ?_ ?_ ?_ ?_ ?_ ?_ ?_ ?_ ?_ ?_ ?_ ?_ ?_ ?_ ?_ ?_ ?_ ?_ ?_ ?_ ?_ ?_ ?_ ?_ ?_ ?_ ?_)

theorem State.abandon_keeps {s : State} {p : QPkt → Bool} {m₀ s₀} (k₀ : Keeps m₀ s₀ s) (hm : (549755814016 &&& m₀ ==
    549755814016) = true) : Keeps m₀ s₀ (State.abandon s p) := by
  refine k₀.step (w' := 549755814016) ?_ hm
  unfold State.abandon
  try dsimp only
  repeat' first
    | (with_reducible exact Keeps.refl)
    | (with_reducible refine Keeps.wr ?_ ?_)
    | (with_reducible refine Keeps.inc ?_ ?_)
    | (with_reducible refine Keeps.each (fun _ _ => ?_) ?_)
    | exact (rfl : _ = true)
    | assumption
    | split
    | (with_reducible refine Keeps.set_queues ?_ ?_)

theorem State.emptyQueue_keeps {s : State} {q : Nat} {m₀ s₀} (k₀ : Keeps m₀ s₀ s) (hm : (1649267441792 &&& m₀ ==
    1649267441792) = true) : Keeps m₀ s₀ (State.emptyQueue s q) := by
  refine k₀.step (w' := 1649267441792) ?_ hm
  unfold State.emptyQueue
  try dsimp only
  repeat' first
    | (with_reducible exact Keeps.refl)
    | (with_reducible refine Keeps.wr ?_ ?_)
    | (with_reducible refine State.abandon_keeps ?_ ?_)
    | exact (rfl : _ = true)
    | (simp only [Fld.area]; exact (rfl : _ = true))
    | exact Or.inr rfl
    | exact Or.inl rfl
    | assumption
    | split
    | (with_reducible refine Keeps.set_queues ?_ ?_)
    | (with_reducible refine Keeps.set_queueSnaps ?_ ?_)
    | (with_reducible refine Keeps.upd ?_ ?_ ?_ ?_ ?_ ?_ ?_ ?_ ?_ ?_ ?_ ?_ ?_ ?_ ?_ ?_ ?_ ?_ ?_ ?_ ?_ ?_ ?_ ?_ ?_ ?_ ?_ ?_ ?_ ?_ ?_ ?_ ?_ ?_ ?_ ?_ ?_ ?_ ?_ ?_ ?_ ?_ ?_ ?_ ?_ ?_ ?_ ?_ ?_ ?_ ?_ ?_ ?_ ?_ ?_ ?_ ?_ ?_ ?_ ?_ ?_ ?_ ?_ ?_ ?_ ?_ ?_)

theorem State.flushTickQueues_keeps {s : State} {m₀ s₀} (k₀ : Keeps m₀ s₀ s) (hm : (1649267441792 &&& m₀ ==
    1649267441792) = true) : Keeps m₀ s₀ (State.flushTickQueues s) := by
  refine k₀.step (w' := 1649267441792) ?_ hm
  unfold State.flushTickQueues
  try dsimp only
  repeat' first
    | (with_reducible exact Keeps.refl)
    | (with_reducible refine Keeps.each (fun _ _ => ?_) ?_)
    | (with_reducible refine State.emptyQueue_keeps ?_ ?_)
    | exact (rfl : _ = true)

theorem State.setCtx_keeps {s : State} {k v : Nat} {m₀ s₀} (k₀ : Keeps m₀ s₀ s) (hm : (2199023255552 &&& m₀ ==
    2199023255552) = true) : Keeps m₀ s₀ (State.setCtx s k v) := by
  refine k₀.step (w' := 2199023255552) ?_ hm
  unfold State.setCtx
  try dsimp only
  repeat' first
    | (with_reducible exact Keeps.refl)
    | exact (rfl : _ = true)
    | assumption
    | split
    | (with_reducible refine Keeps.set_ctx ?_ ?_)

theorem State.setSh_keeps {s : State} {k v : Nat} {m₀ s₀} (k₀ : Keeps m₀ s₀ s) (hm : (8796093022208 &&& m₀ ==
    8796093022208) = true) : Keeps m₀ s₀ (State.setSh s k v) := by
  refine k₀.step (w' := 8796093022208) ?_ hm
  unfold State.setSh
  try dsimp only
  repeat' first
    | (with_reducible exact Keeps.refl)
    | exact (rfl : _ = true)
    | assumption
    | split
    | (with_reducible refine Keeps.set_ctxShadow ?_ ?_)

theorem State.shInc_keeps {s : State} {k lo w : Nat} {m₀ s₀} (k₀ : Keeps m₀ s₀ s) (hm : (8796093022208 &&& m₀ ==
    8796093022208) = true) : Keeps m₀ s₀ (State.shInc s k lo w) := by
  refine k₀.step (w' := 8796093022208) ?_ hm
  unfold State.shInc
  try dsimp only
  repeat' first
    | (with_reducible exact Keeps.refl)
    | (with_reducible refine State.setSh_keeps ?_ ?_)
    | exact (rfl : _ = true)

theorem State.shPut_keeps {s : State} {k lo w v : Nat} {m₀ s₀} (k₀ : Keeps m₀ s₀ s) (hm : (8796093022208 &&& m₀ ==
    8796093022208) = true) : Keeps m₀ s₀ (State.shPut s k lo w v) := by
  refine k₀.step (w' := 8796093022208) ?_ hm
  unfold State.shPut
  try dsimp only
  repeat' first
    | (with_reducible exact Keeps.refl)
    | (with_reducible refine State.setSh_keeps ?_ ?_)
    | exact (rfl : _ = true)

theorem State.logCaravan_keeps {s : State} {kind c port : Nat} {quiet : Bool} {m₀ s₀} (k₀ : Keeps m₀ s₀ s) (hm :
    (3211520 &&& m₀ == 3211520) = true) : Keeps m₀ s₀ (State.logCaravan s kind c port quiet) := by
  refine k₀.step (w' := 3211520) ?_ hm
  unfold State.logCaravan
  try dsimp only
  repeat' first
    | (with_reducible exact Keeps.refl)
    | (with_reducible refine Keeps.wr ?_ ?_)
    | (with_reducible refine Keeps.ite ?_ ?_)
    | (with_reducible refine State.raiseEvent_keeps ?_ ?_)
    | exact (rfl : _ = true)

theorem State.openExchange_keeps {s : State} {x : Exch} {p : Nat} {f : Frame} {e : Entry} {m₀ s₀} (k₀ : Keeps m₀ s₀ s)
    (hm : (175921860444160 &&& m₀ == 175921860444160) = true) : Keeps m₀ s₀ (State.openExchange s x p f e) := by
  refine k₀.step (w' := 175921860444160) ?_ hm
  unfold State.openExchange
  try dsimp only
  repeat' first
    | (with_reducible exact Keeps.refl)
    | exact (rfl : _ = true)
    | (simp only [Fld.area]; exact (rfl : _ = true))
    | exact Or.inr rfl
    | exact Or.inl rfl
    | assumption
    | split
    | (with_reducible refine Keeps.set_exchanges ?_ ?_)
    | (with_reducible refine Keeps.set_built ?_ ?_)
    | (with_reducible refine Keeps.upd ?_ ?_ ?_ ?_ ?_ ?_ ?_ ?_ ?_ ?_ ?_ ?_ ?_ ?_ ?_ ?_ ?_ ?_ ?_ ?_ ?_ ?_ ?_ ?_ ?_ ?_ ?_ ?_ ?_ ?_ ?_ ?_ ?_ ?_ ?_ ?_ ?_ ?_ ?_ ?_ ?_ ?_ ?_ ?_ ?_ ?_ ?_ ?_ ?_ ?_ ?_ ?_ ?_ ?_ ?_ ?_ ?_ ?_ ?_ ?_ ?_ ?_ ?_ ?_ ?_ ?_ ?_)

theorem State.numberExchange_keeps {s : State} {c : Nat} {m₀ s₀} (k₀ : Keeps m₀ s₀ s) (hm : (8796093022208 &&& m₀ ==
    8796093022208) = true) : Keeps m₀ s₀ (State.numberExchange s c) := by
  refine k₀.step (w' := 8796093022208) ?_ hm
  unfold State.numberExchange
  try dsimp only
  repeat' first
    | (with_reducible exact Keeps.refl)
    | (with_reducible refine State.setSh_keeps ?_ ?_)
    | exact (rfl : _ = true)

theorem State.engineReach_keeps {s : State} {c : Nat} {m₀ s₀} (k₀ : Keeps m₀ s₀ s) (hm : (1649274847360 &&& m₀ ==
    1649274847360) = true) : Keeps m₀ s₀ (State.engineReach s c).2 := by
  refine k₀.step (w' := 1649274847360) ?_ hm
  unfold State.engineReach
  try dsimp only
  repeat' first
    | (with_reducible exact Keeps.refl)
    | (with_reducible refine Keeps.ite ?_ ?_)
    | (with_reducible refine Keeps.ite_snd ?_ ?_)
    | (with_reducible refine Keeps.each (fun _ _ => ?_) ?_)
    | (with_reducible refine State.loseQueue_keeps ?_ ?_)
    | exact (rfl : _ = true)

theorem State.engineReach_keeps_eq {s : State} {c : Nat} {x} {s'' : State} (e : State.engineReach s c = (x, s'')) {m₀
    s₀} (k₀ : Keeps m₀ s₀ s) (hm : (1649274847360 &&& m₀ == 1649274847360) = true) : Keeps m₀ s₀ s'' := by
  have := State.engineReach_keeps (s := s) (c := c) k₀ hm
  rwa [e] at this

theorem State.examine_keeps {s : State} {c ni : Nat} {m₀ s₀} (k₀ : Keeps m₀ s₀ s) (hm : (186367228313984 &&& m₀ ==
    186367228313984) = true) : Keeps m₀ s₀ (State.examine s c ni).2 := by
  refine k₀.step (w' := 186367228313984) ?_ hm
  unfold State.examine
  try dsimp only
  repeat' first
    | (with_reducible exact Keeps.refl)
    | (with_reducible refine Keeps.ite ?_ ?_)
    | (with_reducible refine Keeps.ite_snd ?_ ?_)
    | (with_reducible refine Keeps.each (fun _ _ => ?_) ?_)
    | (with_reducible refine State.engineReach_keeps ?_ ?_)
    | (refine State.engineReach_keeps_eq (by assumption) ?_ ?_)
    | (with_reducible refine State.logCaravan_keeps ?_ ?_)
    | (with_reducible refine State.noteFree_keeps ?_ ?_)
    | (with_reducible refine State.noteSlots_keeps ?_ ?_)
    | (with_reducible refine State.numberExchange_keeps ?_ ?_)
    | (with_reducible refine State.openExchange_keeps ?_ ?_)
    | (with_reducible refine State.qPop_keeps ?_ ?_)
    | (refine State.qPop_keeps_eq (by assumption) ?_ ?_)
    | (with_reducible refine State.setSh_keeps ?_ ?_)
    | (with_reducible refine State.shInc_keeps ?_ ?_)
    | (with_reducible refine State.shPut_keeps ?_ ?_)
    | exact (rfl : _ = true)

theorem State.examine_keeps_eq {s : State} {c ni : Nat} {x} {s'' : State} (e : State.examine s c ni = (x, s'')) {m₀
    s₀} (k₀ : Keeps m₀ s₀ s) (hm : (186367228313984 &&& m₀ == 186367228313984) = true) : Keeps m₀ s₀ s'' := by
  have := State.examine_keeps (s := s) (c := c) (ni := ni) k₀ hm
  rwa [e] at this

theorem State.walkFrom_rec {s₀ s : State} {n i : Nat} {l : List Nat} (h : Keeps 186367228313984 s₀ s) : Keeps
    186367228313984 s₀ (s.walkFrom n i l).2 := by
  induction l generalizing s i with
  | nil => unfold State.walkFrom; exact h
  | cons a l ih =>
    unfold State.walkFrom
    try dsimp only
    repeat' first
      | (with_reducible exact h)
      | exact ih h
      | (refine ih ?_)
      | (refine State.examine_keeps_eq (by assumption) h rfl)
      | split

theorem State.walkFrom_keeps {s s₀ : State} {n i : Nat} {l : List Nat} {m₀ : Nat} (h : Keeps m₀ s₀ s) (hm :
    (186367228313984 &&& m₀ == 186367228313984) = true) : Keeps m₀ s₀ (s.walkFrom n i l).2 :=
  h.step (w' := 186367228313984) (State.walkFrom_rec Keeps.refl) hm

theorem State.walkFrom_keeps_eq {s s₀ s'' : State} {n i : Nat} {l : List Nat} {x} (e : s.walkFrom n i l = (x, s''))
    {m₀ : Nat} (h : Keeps m₀ s₀ s) (hm : (186367228313984 &&& m₀ == 186367228313984) = true) : Keeps m₀ s₀ s'' := by
  have := State.walkFrom_keeps (l := l) h hm (s := s) (n := n) (i := i)
  rwa [e] at this

theorem State.walk_keeps {s : State} {m₀ s₀} (k₀ : Keeps m₀ s₀ s) (hm : (186367228313984 &&& m₀ == 186367228313984) =
    true) : Keeps m₀ s₀ (State.walk s).2 := by
  refine k₀.step (w' := 186367228313984) ?_ hm
  unfold State.walk
  try dsimp only
  repeat' first
    | (with_reducible exact Keeps.refl)
    | (with_reducible refine Keeps.wr ?_ ?_)
    | (with_reducible refine State.walkFrom_keeps ?_ ?_)
    | (refine State.walkFrom_keeps_eq (by assumption) ?_ ?_)
    | exact (rfl : _ = true)

theorem State.walk_keeps_eq {s : State} {x} {s'' : State} (e : State.walk s = (x, s'')) {m₀ s₀} (k₀ : Keeps m₀ s₀ s)
    (hm : (186367228313984 &&& m₀ == 186367228313984) = true) : Keeps m₀ s₀ s'' := by
  have := State.walk_keeps (s := s) k₀ hm
  rwa [e] at this

theorem State.takeStatus_keeps {s : State} {p mac c q nflags : Nat} {words : List Nat} {m₀ s₀} (k₀ : Keeps m₀ s₀ s)
    (hm : (114349212500224 &&& m₀ == 114349212500224) = true) : Keeps m₀ s₀ (State.takeStatus s p mac c q nflags
    words) := by
  refine k₀.step (w' := 114349212500224) ?_ hm
  unfold State.takeStatus
  try dsimp only
  repeat' first
    | (with_reducible exact Keeps.refl)
    | (with_reducible refine Keeps.inc ?_ ?_)
    | (with_reducible refine Keeps.ite ?_ ?_)
    | (with_reducible refine State.logCaravan_keeps ?_ ?_)
    | (with_reducible refine State.setSh_keeps ?_ ?_)
    | (with_reducible refine State.shInc_keeps ?_ ?_)
    | exact (rfl : _ = true)
    | (simp only [Fld.area]; exact (rfl : _ = true))
    | exact Or.inr rfl
    | exact Or.inl rfl
    | assumption
    | split
    | (with_reducible refine Keeps.set_exchanges ?_ ?_)
    | (with_reducible refine Keeps.set_statuses ?_ ?_)
    | (with_reducible refine Keeps.upd ?_ ?_ ?_ ?_ ?_ ?_ ?_ ?_ ?_ ?_ ?_ ?_ ?_ ?_ ?_ ?_ ?_ ?_ ?_ ?_ ?_ ?_ ?_ ?_ ?_ ?_ ?_ ?_ ?_ ?_ ?_ ?_ ?_ ?_ ?_ ?_ ?_ ?_ ?_ ?_ ?_ ?_ ?_ ?_ ?_ ?_ ?_ ?_ ?_ ?_ ?_ ?_ ?_ ?_ ?_ ?_ ?_ ?_ ?_ ?_ ?_ ?_ ?_ ?_ ?_ ?_ ?_)

theorem State.receiveStatus_keeps {s : State} {e : RxEntry} {m₀ s₀} (k₀ : Keeps m₀ s₀ s) (hm : (114349212500224 &&& m₀
    == 114349212500224) = true) : Keeps m₀ s₀ (State.receiveStatus s e) := by
  refine k₀.step (w' := 114349212500224) ?_ hm
  unfold State.receiveStatus
  try dsimp only
  repeat' first
    | (with_reducible exact Keeps.refl)
    | (with_reducible refine Keeps.inc ?_ ?_)
    | (with_reducible refine Keeps.ite ?_ ?_)
    | (with_reducible refine State.takeStatus_keeps ?_ ?_)
    | exact (rfl : _ = true)

theorem State.takeHeld_keeps {s : State} {m₀ s₀} (k₀ : Keeps m₀ s₀ s) (hm : (4617948839870720 &&& m₀ ==
    4617948839870720) = true) : Keeps m₀ s₀ (State.takeHeld s) := by
  refine k₀.step (w' := 4617948839870720) ?_ hm
  unfold State.takeHeld
  try dsimp only
  repeat' first
    | (with_reducible exact Keeps.refl)
    | (with_reducible refine Keeps.ite ?_ ?_)
    | (with_reducible refine Keeps.each (fun _ _ => ?_) ?_)
    | (with_reducible refine State.receiveStatus_keeps ?_ ?_)
    | exact (rfl : _ = true)
    | assumption
    | split
    | (with_reducible refine Keeps.set_rxHeld ?_ ?_)

theorem State.caravanVoid_keeps {s : State} {m₀ s₀} (k₀ : Keeps m₀ s₀ s) (hm : (114349209288960 &&& m₀ ==
    114349209288960) = true) : Keeps m₀ s₀ (State.caravanVoid s) := by
  refine k₀.step (w' := 114349209288960) ?_ hm
  unfold State.caravanVoid
  try dsimp only
  repeat' first
    | (with_reducible exact Keeps.refl)
    | (with_reducible refine Keeps.wr ?_ ?_)
    | (with_reducible refine Keeps.each (fun _ _ => ?_) ?_)
    | exact (rfl : _ = true)
    | (simp only [Fld.area]; exact (rfl : _ = true))
    | exact Or.inr rfl
    | exact Or.inl rfl
    | assumption
    | split
    | (with_reducible refine Keeps.set_ctxShadow ?_ ?_)
    | (with_reducible refine Keeps.set_exchanges ?_ ?_)
    | (with_reducible refine Keeps.set_statuses ?_ ?_)
    | (with_reducible refine Keeps.upd ?_ ?_ ?_ ?_ ?_ ?_ ?_ ?_ ?_ ?_ ?_ ?_ ?_ ?_ ?_ ?_ ?_ ?_ ?_ ?_ ?_ ?_ ?_ ?_ ?_ ?_ ?_ ?_ ?_ ?_ ?_ ?_ ?_ ?_ ?_ ?_ ?_ ?_ ?_ ?_ ?_ ?_ ?_ ?_ ?_ ?_ ?_ ?_ ?_ ?_ ?_ ?_ ?_ ?_ ?_ ?_ ?_ ?_ ?_ ?_ ?_ ?_ ?_ ?_ ?_ ?_ ?_)

theorem State.caravanArm_keeps {s : State} {m₀ s₀} (k₀ : Keeps m₀ s₀ s) (hm : (10995116277760 &&& m₀ ==
    10995116277760) = true) : Keeps m₀ s₀ (State.caravanArm s) := by
  refine k₀.step (w' := 10995116277760) ?_ hm
  unfold State.caravanArm
  try dsimp only
  repeat' first
    | (with_reducible exact Keeps.refl)
    | (with_reducible refine Keeps.each (fun _ _ => ?_) ?_)
    | (with_reducible refine State.setCtx_keeps ?_ ?_)
    | exact (rfl : _ = true)
    | (simp only [Fld.area]; exact (rfl : _ = true))
    | exact Or.inr rfl
    | exact Or.inl rfl
    | assumption
    | split
    | (with_reducible refine Keeps.set_ctx ?_ ?_)
    | (with_reducible refine Keeps.set_ctxShadow ?_ ?_)
    | (with_reducible refine Keeps.upd ?_ ?_ ?_ ?_ ?_ ?_ ?_ ?_ ?_ ?_ ?_ ?_ ?_ ?_ ?_ ?_ ?_ ?_ ?_ ?_ ?_ ?_ ?_ ?_ ?_ ?_ ?_ ?_ ?_ ?_ ?_ ?_ ?_ ?_ ?_ ?_ ?_ ?_ ?_ ?_ ?_ ?_ ?_ ?_ ?_ ?_ ?_ ?_ ?_ ?_ ?_ ?_ ?_ ?_ ?_ ?_ ?_ ?_ ?_ ?_ ?_ ?_ ?_ ?_ ?_ ?_ ?_)

theorem State.giveFrame_keeps {s : State} {p cls : Nat} {bytes : List Nat} {m₀ s₀} (k₀ : Keeps m₀ s₀ s) (hm :
    (2251799813685760 &&& m₀ == 2251799813685760) = true) : Keeps m₀ s₀ (State.giveFrame s p cls bytes) := by
  refine k₀.step (w' := 2251799813685760) ?_ hm
  unfold State.giveFrame
  try dsimp only
  repeat' first
    | (with_reducible exact Keeps.refl)
    | (with_reducible refine Keeps.inc ?_ ?_)
    | (with_reducible refine Keeps.ite ?_ ?_)
    | exact (rfl : _ = true)
    | assumption
    | split
    | (with_reducible refine Keeps.set_portTx ?_ ?_)

theorem State.countFlits_keeps {s : State} {l : List (Nat × Nat)} {k : Nat} {m₀ s₀} (k₀ : Keeps m₀ s₀ s) (hm : (16 &&&
    m₀ == 16) = true) : Keeps m₀ s₀ (State.countFlits s l k) := by
  refine k₀.step (w' := 16) ?_ hm
  unfold State.countFlits
  try dsimp only
  repeat' first
    | (with_reducible exact Keeps.refl)
    | (with_reducible refine Keeps.add ?_ ?_)
    | (with_reducible refine Keeps.each (fun _ _ => ?_) ?_)
    | exact (rfl : _ = true)

theorem State.sendOff_keeps {s : State} {p : Pkt} {r : List (Nat × Nat) × Option (Nat × Nat)} {m₀ s₀} (k₀ : Keeps m₀
    s₀ s) (hm : (1073741840 &&& m₀ == 1073741840) = true) : Keeps m₀ s₀ (State.sendOff s p r) := by
  refine k₀.step (w' := 1073741840) ?_ hm
  unfold State.sendOff
  try dsimp only
  repeat' first
    | (with_reducible exact Keeps.refl)
    | (with_reducible refine Keeps.inc ?_ ?_)
    | (with_reducible refine State.countFlits_keeps ?_ ?_)
    | exact (rfl : _ = true)
    | assumption
    | split
    | (with_reducible refine Keeps.set_net ?_ ?_)

theorem State.launch_keeps {s : State} {ni e : Nat} {p : Pkt} {m₀ s₀} (k₀ : Keeps m₀ s₀ s) (hm : (9663676432 &&& m₀ ==
    9663676432) = true) : Keeps m₀ s₀ (State.launch s ni e p) := by
  refine k₀.step (w' := 9663676432) ?_ hm
  unfold State.launch
  try dsimp only
  repeat' first
    | (with_reducible exact Keeps.refl)
    | (with_reducible refine Keeps.ite ?_ ?_)
    | (with_reducible refine State.sendOff_keeps ?_ ?_)
    | exact (rfl : _ = true)
    | assumption
    | split
    | (with_reducible refine Keeps.set_netHeld ?_ ?_)

theorem State.deliverOut_keeps {s : State} {p : Pkt} {m₀ s₀} (k₀ : Keeps m₀ s₀ s) (hm : (1073741824 &&& m₀ ==
    1073741824) = true) : Keeps m₀ s₀ (State.deliverOut s p) := by
  refine k₀.step (w' := 1073741824) ?_ hm
  unfold State.deliverOut
  try dsimp only
  repeat' first
    | (with_reducible exact Keeps.refl)
    | exact (rfl : _ = true)
    | assumption
    | split
    | (with_reducible refine Keeps.set_net ?_ ?_)

theorem State.respond_keeps {s : State} {req : Pkt} {ni type status detail : Nat} {body : List Quad} {m₀ s₀} (k₀ :
    Keeps m₀ s₀ s) (hm : (9663676432 &&& m₀ == 9663676432) = true) : Keeps m₀ s₀ (State.respond s req ni type status
    detail body) := by
  refine k₀.step (w' := 9663676432) ?_ hm
  unfold State.respond
  try dsimp only
  repeat' first
    | (with_reducible exact Keeps.refl)
    | (with_reducible refine Keeps.inc ?_ ?_)
    | (with_reducible refine Keeps.ite ?_ ?_)
    | (with_reducible refine State.launch_keeps ?_ ?_)
    | exact (rfl : _ = true)

theorem State.respondErr_keeps {s : State} {req : Pkt} {ni status detail : Nat} {m₀ s₀} (k₀ : Keeps m₀ s₀ s) (hm :
    (9663676432 &&& m₀ == 9663676432) = true) : Keeps m₀ s₀ (State.respondErr s req ni status detail) := by
  refine k₀.step (w' := 9663676432) ?_ hm
  unfold State.respondErr
  try dsimp only
  repeat' first
    | (with_reducible exact Keeps.refl)
    | (with_reducible refine State.respond_keeps ?_ ?_)
    | exact (rfl : _ = true)

theorem State.logNiError_keeps {s : State} {t : Txn} {status : Nat} {m₀ s₀} (k₀ : Keeps m₀ s₀ s) (hm : (16 &&& m₀ ==
    16) = true) : Keeps m₀ s₀ (State.logNiError s t status) := by
  refine k₀.step (w' := 16) ?_ hm
  unfold State.logNiError
  try dsimp only
  repeat' first
    | (with_reducible exact Keeps.refl)
    | (with_reducible refine Keeps.wr ?_ ?_)
    | (with_reducible refine Keeps.ite ?_ ?_)
    | exact (rfl : _ = true)

theorem State.deliverDecided_keeps {s : State} {m₀ s₀} (k₀ : Keeps m₀ s₀ s) (hm : (171798691856 &&& m₀ ==
    171798691856) = true) : Keeps m₀ s₀ (State.deliverDecided s) := by
  refine k₀.step (w' := 171798691856) ?_ hm
  unfold State.deliverDecided
  try dsimp only
  repeat' first
    | (with_reducible exact Keeps.refl)
    | (with_reducible refine Keeps.each (fun _ _ => ?_) ?_)
    | (with_reducible refine State.logNiError_keeps ?_ ?_)
    | exact (rfl : _ = true)
    | exact Or.inr rfl
    | exact Or.inl rfl
    | assumption
    | split
    | (with_reducible refine Keeps.set_txns ?_ ?_)
    | (with_reducible refine Keeps.set_delivered ?_ ?_)

theorem State.decide'_keeps {s : State} {p : Txn → Bool} {r : Resp} {m₀ s₀} (k₀ : Keeps m₀ s₀ s) (hm : (240518168592
    &&& m₀ == 240518168592) = true) : Keeps m₀ s₀ (State.decide' s p r) := by
  refine k₀.step (w' := 240518168592) ?_ hm
  unfold State.decide'
  try dsimp only
  repeat' first
    | (with_reducible exact Keeps.refl)
    | (with_reducible refine Keeps.ite ?_ ?_)
    | (with_reducible refine State.deliverDecided_keeps ?_ ?_)
    | exact (rfl : _ = true)
    | (simp only [Fld.area]; exact (rfl : _ = true))
    | exact Or.inr rfl
    | exact Or.inl rfl
    | assumption
    | split
    | (with_reducible refine Keeps.set_txns ?_ ?_)
    | (with_reducible refine Keeps.set_quarantine ?_ ?_)
    | (with_reducible refine Keeps.upd ?_ ?_ ?_ ?_ ?_ ?_ ?_ ?_ ?_ ?_ ?_ ?_ ?_ ?_ ?_ ?_ ?_ ?_ ?_ ?_ ?_ ?_ ?_ ?_ ?_ ?_ ?_ ?_ ?_ ?_ ?_ ?_ ?_ ?_ ?_ ?_ ?_ ?_ ?_ ?_ ?_ ?_ ?_ ?_ ?_ ?_ ?_ ?_ ?_ ?_ ?_ ?_ ?_ ?_ ?_ ?_ ?_ ?_ ?_ ?_ ?_ ?_ ?_ ?_ ?_ ?_ ?_)

theorem State.answerAtIssue_keeps {s : State} {ni ch : Nat} {c : Cmd} {cls peer : Nat} {r : Resp} {m₀ s₀} (k₀ : Keeps
    m₀ s₀ s) (hm : (171798691856 &&& m₀ == 171798691856) = true) : Keeps m₀ s₀ (State.answerAtIssue s ni ch c cls peer
    r) := by
  refine k₀.step (w' := 171798691856) ?_ hm
  unfold State.answerAtIssue
  try dsimp only
  repeat' first
    | (with_reducible exact Keeps.refl)
    | (with_reducible refine State.deliverDecided_keeps ?_ ?_)
    | exact (rfl : _ = true)
    | assumption
    | split
    | (with_reducible refine Keeps.set_txns ?_ ?_)

theorem State.send_keeps {s : State} {ni ch cls dest entry addr at' count : Nat} {c : Cmd} {m₀ s₀} (k₀ : Keeps m₀ s₀
    s) (hm : (61203283984 &&& m₀ == 61203283984) = true) : Keeps m₀ s₀ (State.send s ni ch cls dest entry addr at'
    count c) := by
  refine k₀.step (w' := 61203283984) ?_ hm
  unfold State.send
  try dsimp only
  repeat' first
    | (with_reducible exact Keeps.refl)
    | (with_reducible refine Keeps.wr ?_ ?_)
    | (with_reducible refine State.launch_keeps ?_ ?_)
    | exact (rfl : _ = true)
    | exact Or.inr rfl
    | exact Or.inl rfl
    | assumption
    | split
    | (with_reducible refine Keeps.set_niWaits ?_ ?_)
    | (with_reducible refine Keeps.set_txns ?_ ?_)

theorem State.touchLine_keeps {s : State} {d q : Nat} {m₀ s₀} (k₀ : Keeps m₀ s₀ s) (hm : (536870912 &&& m₀ ==
    536870912) = true) : Keeps m₀ s₀ (State.touchLine s d q) := by
  refine k₀.step (w' := 536870912) ?_ hm
  unfold State.touchLine
  try dsimp only
  repeat' first
    | (with_reducible exact Keeps.refl)
    | (with_reducible refine Keeps.ite ?_ ?_)
    | exact (rfl : _ = true)
    | assumption
    | split
    | (with_reducible refine Keeps.set_cache ?_ ?_)

theorem State.strikeLines_keeps {s : State} {d : Nat} {bad : List Nat} {m₀ s₀} (k₀ : Keeps m₀ s₀ s) (hm : (536870912
    &&& m₀ == 536870912) = true) : Keeps m₀ s₀ (State.strikeLines s d bad) := by
  refine k₀.step (w' := 536870912) ?_ hm
  unfold State.strikeLines
  try dsimp only
  repeat' first
    | (with_reducible exact Keeps.refl)
    | (with_reducible refine Keeps.ite ?_ ?_)
    | exact (rfl : _ = true)
    | assumption
    | split
    | (with_reducible refine Keeps.set_cache ?_ ?_)

theorem State.dropBadLines_keeps {s : State} {d addr k : Nat} {m₀ s₀} (k₀ : Keeps m₀ s₀ s) (hm : (536870920 &&& m₀ ==
    536870920) = true) : Keeps m₀ s₀ (State.dropBadLines s d addr k) := by
  refine k₀.step (w' := 536870920) ?_ hm
  unfold State.dropBadLines
  try dsimp only
  repeat' first
    | (with_reducible exact Keeps.refl)
    | (with_reducible refine Keeps.add ?_ ?_)
    | exact (rfl : _ = true)
    | assumption
    | split
    | (with_reducible refine Keeps.set_cache ?_ ?_)

theorem State.fillLine_keeps {s : State} {d addr : Nat} {q : Quad} {m₀ s₀} (k₀ : Keeps m₀ s₀ s) (hm : (536870912 &&&
    m₀ == 536870912) = true) : Keeps m₀ s₀ (State.fillLine s d addr q) := by
  refine k₀.step (w' := 536870912) ?_ hm
  unfold State.fillLine
  try dsimp only
  repeat' first
    | (with_reducible exact Keeps.refl)
    | exact (rfl : _ = true)
    | assumption
    | split
    | (with_reducible refine Keeps.set_cache ?_ ?_)

theorem State.dropWritten_keeps {s : State} {d addr k : Nat} {m₀ s₀} (k₀ : Keeps m₀ s₀ s) (hm : (536870912 &&& m₀ ==
    536870912) = true) : Keeps m₀ s₀ (State.dropWritten s d addr k) := by
  refine k₀.step (w' := 536870912) ?_ hm
  unfold State.dropWritten
  try dsimp only
  repeat' first
    | (with_reducible exact Keeps.refl)
    | exact (rfl : _ = true)
    | assumption
    | split
    | (with_reducible refine Keeps.set_cache ?_ ?_)

theorem State.issue_keeps {s : State} {ni ch : Nat} {c : Cmd} {m₀ s₀} (k₀ : Keeps m₀ s₀ s) (hm : (199179108376 &&& m₀
    == 199179108376) = true) : Keeps m₀ s₀ (State.issue s ni ch c) := by
  refine k₀.step (w' := 199179108376) ?_ hm
  unfold State.issue
  try dsimp only
  repeat' first
    | (with_reducible exact Keeps.refl)
    | (with_reducible refine Keeps.add ?_ ?_)
    | (with_reducible refine Keeps.ite ?_ ?_)
    | (with_reducible refine Keeps.each (fun _ _ => ?_) ?_)
    | (with_reducible refine State.answerAtIssue_keeps ?_ ?_)
    | (with_reducible refine State.dropBadLines_keeps ?_ ?_)
    | (with_reducible refine State.dropWritten_keeps ?_ ?_)
    | (with_reducible refine State.send_keeps ?_ ?_)
    | (with_reducible refine State.touchLine_keeps ?_ ?_)
    | exact (rfl : _ = true)
    | assumption
    | split
    | (with_reducible refine Keeps.set_niWaits ?_ ?_)

theorem State.failHeld_keeps {s : State} {p : Pkt} {m₀ s₀} (k₀ : Keeps m₀ s₀ s) (hm : (240518168592 &&& m₀ ==
    240518168592) = true) : Keeps m₀ s₀ (State.failHeld s p) := by
  refine k₀.step (w' := 240518168592) ?_ hm
  unfold State.failHeld
  try dsimp only
  repeat' first
    | (with_reducible exact Keeps.refl)
    | (with_reducible refine Keeps.inc ?_ ?_)
    | (with_reducible refine Keeps.ite ?_ ?_)
    | (with_reducible refine State.decide'_keeps ?_ ?_)
    | exact (rfl : _ = true)

theorem State.releaseHeld_keeps {s : State} {p : Pkt} {m₀ s₀} (k₀ : Keeps m₀ s₀ s) (hm : (250181845008 &&& m₀ ==
    250181845008) = true) : Keeps m₀ s₀ (State.releaseHeld s p) := by
  refine k₀.step (w' := 250181845008) ?_ hm
  unfold State.releaseHeld
  try dsimp only
  repeat' first
    | (with_reducible exact Keeps.refl)
    | (with_reducible refine Keeps.ite ?_ ?_)
    | (with_reducible refine State.failHeld_keeps ?_ ?_)
    | (with_reducible refine State.sendOff_keeps ?_ ?_)
    | exact (rfl : _ = true)
    | assumption
    | split
    | (with_reducible refine Keeps.set_netHeld ?_ ?_)

theorem State.releaseHolds_keeps {s : State} {m₀ s₀} (k₀ : Keeps m₀ s₀ s) (hm : (250181845008 &&& m₀ == 250181845008)
    = true) : Keeps m₀ s₀ (State.releaseHolds s) := by
  refine k₀.step (w' := 250181845008) ?_ hm
  unfold State.releaseHolds
  try dsimp only
  repeat' first
    | (with_reducible exact Keeps.refl)
    | (with_reducible refine Keeps.each (fun _ _ => ?_) ?_)
    | (with_reducible refine State.releaseHeld_keeps ?_ ?_)
    | exact (rfl : _ = true)
    | assumption
    | split
    | (with_reducible refine Keeps.set_netHeld ?_ ?_)

theorem State.boundaryRoom_keeps {s : State} {m₀ s₀} (k₀ : Keeps m₀ s₀ s) (hm : (250181845008 &&& m₀ == 250181845008)
    = true) : Keeps m₀ s₀ (State.boundaryRoom s) := by
  refine k₀.step (w' := 250181845008) ?_ hm
  unfold State.boundaryRoom
  try dsimp only
  repeat' first
    | (with_reducible exact Keeps.refl)
    | (with_reducible refine Keeps.ite ?_ ?_)
    | (with_reducible refine State.releaseHolds_keeps ?_ ?_)
    | exact (rfl : _ = true)

theorem State.retryWaits_keeps {s : State} {m₀ s₀} (k₀ : Keeps m₀ s₀ s) (hm : (267898585112 &&& m₀ == 267898585112) =
    true) : Keeps m₀ s₀ (State.retryWaits s) := by
  refine k₀.step (w' := 267898585112) ?_ hm
  unfold State.retryWaits
  try dsimp only
  repeat' first
    | (with_reducible exact Keeps.refl)
    | (with_reducible refine Keeps.each (fun _ _ => ?_) ?_)
    | (with_reducible refine State.boundaryRoom_keeps ?_ ?_)
    | (with_reducible refine State.issue_keeps ?_ ?_)
    | exact (rfl : _ = true)
    | assumption
    | split
    | (with_reducible refine Keeps.set_niWaits ?_ ?_)

theorem State.fileMbox_keeps {s : State} {p : MPkt} {m₀ s₀} (k₀ : Keeps m₀ s₀ s) (hm : (274877906944 &&& m₀ ==
    274877906944) = true) : Keeps m₀ s₀ (State.fileMbox s p) := by
  refine k₀.step (w' := 274877906944) ?_ hm
  unfold State.fileMbox
  try dsimp only
  repeat' first
    | (with_reducible exact Keeps.refl)
    | exact (rfl : _ = true)
    | assumption
    | split
    | (with_reducible refine Keeps.set_mailboxes ?_ ?_)

theorem State.emptyWriteSides_keeps {s : State} {m₀ s₀} (k₀ : Keeps m₀ s₀ s) (hm : (274877906944 &&& m₀ ==
    274877906944) = true) : Keeps m₀ s₀ (State.emptyWriteSides s) := by
  refine k₀.step (w' := 274877906944) ?_ hm
  unfold State.emptyWriteSides
  try dsimp only
  repeat' first
    | (with_reducible exact Keeps.refl)
    | exact (rfl : _ = true)
    | assumption
    | split
    | (with_reducible refine Keeps.set_mailboxes ?_ ?_)

theorem State.ergVoid_keeps {s : State} {m₀ s₀} (k₀ : Keeps m₀ s₀ s) (hm : (267495931920 &&& m₀ == 267495931920) =
    true) : Keeps m₀ s₀ (State.ergVoid s) := by
  refine k₀.step (w' := 267495931920) ?_ hm
  unfold State.ergVoid
  try dsimp only
  repeat' first
    | (with_reducible exact Keeps.refl)
    | (with_reducible refine State.decide'_keeps ?_ ?_)
    | exact (rfl : _ = true)
    | (simp only [Fld.area]; exact (rfl : _ = true))
    | exact Or.inr rfl
    | exact Or.inl rfl
    | assumption
    | split
    | (with_reducible refine Keeps.set_bankWaits ?_ ?_)
    | (with_reducible refine Keeps.set_net ?_ ?_)
    | (with_reducible refine Keeps.set_netHeld ?_ ?_)
    | (with_reducible refine Keeps.set_niWaits ?_ ?_)
    | (with_reducible refine Keeps.set_txns ?_ ?_)
    | (with_reducible refine Keeps.upd ?_ ?_ ?_ ?_ ?_ ?_ ?_ ?_ ?_ ?_ ?_ ?_ ?_ ?_ ?_ ?_ ?_ ?_ ?_ ?_ ?_ ?_ ?_ ?_ ?_ ?_ ?_ ?_ ?_ ?_ ?_ ?_ ?_ ?_ ?_ ?_ ?_ ?_ ?_ ?_ ?_ ?_ ?_ ?_ ?_ ?_ ?_ ?_ ?_ ?_ ?_ ?_ ?_ ?_ ?_ ?_ ?_ ?_ ?_ ?_ ?_ ?_ ?_ ?_ ?_ ?_ ?_)

theorem State.flushCaches_keeps {s : State} {m₀ s₀} (k₀ : Keeps m₀ s₀ s) (hm : (536870912 &&& m₀ == 536870912) = true)
    : Keeps m₀ s₀ (State.flushCaches s) := by
  refine k₀.step (w' := 536870912) ?_ hm
  unfold State.flushCaches
  try dsimp only
  repeat' first
    | (with_reducible exact Keeps.refl)
    | exact (rfl : _ = true)
    | assumption
    | split
    | (with_reducible refine Keeps.set_cache ?_ ?_)

theorem State.drove_keeps {s : State} {d p v : Nat} {m₀ s₀} (k₀ : Keeps m₀ s₀ s) (hm : (2 &&& m₀ == 2) = true) : Keeps
    m₀ s₀ (State.drove s d p v) := by
  refine k₀.step (w' := 2) ?_ hm
  unfold State.drove
  try dsimp only
  repeat' first
    | (with_reducible exact Keeps.refl)
    | (with_reducible refine Keeps.wr ?_ ?_)
    | (with_reducible refine Keeps.ite ?_ ?_)
    | exact (rfl : _ = true)

theorem State.driveSafe_keeps {s : State} {d p : Nat} {m₀ s₀} (k₀ : Keeps m₀ s₀ s) (hm : (2 &&& m₀ == 2) = true) :
    Keeps m₀ s₀ (State.driveSafe s d p) := by
  refine k₀.step (w' := 2) ?_ hm
  unfold State.driveSafe
  try dsimp only
  repeat' first
    | (with_reducible exact Keeps.refl)
    | (with_reducible refine Keeps.wr ?_ ?_)
    | (with_reducible refine Keeps.ite ?_ ?_)
    | (with_reducible refine State.drove_keeps ?_ ?_)
    | exact (rfl : _ = true)

theorem State.latchesVoid_keeps {s : State} {m₀ s₀} (k₀ : Keeps m₀ s₀ s) (hm : (2 &&& m₀ == 2) = true) : Keeps m₀ s₀
    (State.latchesVoid s) := by
  refine k₀.step (w' := 2) ?_ hm
  unfold State.latchesVoid
  try dsimp only
  repeat' first
    | (with_reducible exact Keeps.refl)
    | (with_reducible refine Keeps.each (fun _ _ => ?_) ?_)
    | (with_reducible refine State.driveSafe_keeps ?_ ?_)
    | exact (rfl : _ = true)

theorem State.startWriteBlank_keeps {s : State} {q : Nat × Nat} {m₀ s₀} (k₀ : Keeps m₀ s₀ s) (hm : (50331656 &&& m₀ ==
    50331656) = true) : Keeps m₀ s₀ (State.startWriteBlank s q) := by
  refine k₀.step (w' := 50331656) ?_ hm
  unfold State.startWriteBlank
  try dsimp only
  repeat' first
    | (with_reducible exact Keeps.refl)
    | (with_reducible refine Keeps.wr ?_ ?_)
    | (with_reducible refine State.blankWriteSide_keeps ?_ ?_)
    | exact (rfl : _ = true)

theorem State.sendGroup_keeps {s : State} {record : Nat} {commit : Bool} {cause : Nat} {m₀ s₀} (k₀ : Keeps m₀ s₀ s)
    (hm : (2251799813685760 &&& m₀ == 2251799813685760) = true) : Keeps m₀ s₀ (State.sendGroup s record commit cause)
    := by
  refine k₀.step (w' := 2251799813685760) ?_ hm
  unfold State.sendGroup
  try dsimp only
  repeat' first
    | (with_reducible exact Keeps.refl)
    | (with_reducible refine State.giveFrame_keeps ?_ ?_)
    | exact (rfl : _ = true)

theorem State.tellGroupVoid_keeps {s : State} {cause : Nat} {m₀ s₀} (k₀ : Keeps m₀ s₀ s) (hm : (2251799813685761 &&&
    m₀ == 2251799813685761) = true) : Keeps m₀ s₀ (State.tellGroupVoid s cause) := by
  refine k₀.step (w' := 2251799813685761) ?_ hm
  unfold State.tellGroupVoid
  try dsimp only
  repeat' first
    | (with_reducible exact Keeps.refl)
    | (with_reducible refine Keeps.wr ?_ ?_)
    | (with_reducible refine Keeps.ite ?_ ?_)
    | (with_reducible refine State.sendGroup_keeps ?_ ?_)
    | exact (rfl : _ = true)

theorem State.haltVoid_keeps {s : State} {m₀ s₀} (k₀ : Keeps m₀ s₀ s) (hm : (131072 &&& m₀ == 131072) = true) : Keeps
    m₀ s₀ (State.haltVoid s) := by
  refine k₀.step (w' := 131072) ?_ hm
  unfold State.haltVoid
  try dsimp only
  repeat' first
    | (with_reducible exact Keeps.refl)
    | (with_reducible refine Keeps.wr ?_ ?_)
    | (with_reducible refine Keeps.ite ?_ ?_)
    | exact (rfl : _ = true)

theorem State.recordVoid_keeps {s : State} {cause unit place : Nat} {m₀ s₀} (k₀ : Keeps m₀ s₀ s) (hm : (1 &&& m₀ == 1)
    = true) : Keeps m₀ s₀ (State.recordVoid s cause unit place) := by
  refine k₀.step (w' := 1) ?_ hm
  unfold State.recordVoid
  try dsimp only
  repeat' first
    | (with_reducible exact Keeps.refl)
    | (with_reducible refine Keeps.wr ?_ ?_)
    | exact (rfl : _ = true)

theorem State.voidWork_keeps {s : State} {m₀ s₀} (k₀ : Keeps m₀ s₀ s) (hm : (7253554922466245790990747 &&& m₀ ==
    7253554922466245790990747) = true) : Keeps m₀ s₀ (State.voidWork s) := by
  refine k₀.step (w' := 7253554922466245790990747) ?_ hm
  unfold State.voidWork
  try dsimp only
  repeat' first
    | (with_reducible exact Keeps.refl)
    | (with_reducible refine Keeps.each (fun _ _ => ?_) ?_)
    | ((with_reducible refine Keeps.resetKeys ?_ ?_); · (rintro ⟨f, u, j⟩ hk; cases f <;> first | (simp only [Fld.area]; rfl) | exact Bool.noConfusion (show false = true from hk)))
    | (with_reducible refine State.caravanVoid_keeps ?_ ?_)
    | (with_reducible refine State.dropAllLocks_keeps ?_ ?_)
    | (with_reducible refine State.emptyWriteSides_keeps ?_ ?_)
    | (with_reducible refine State.ergVoid_keeps ?_ ?_)
    | (with_reducible refine State.flushCaches_keeps ?_ ?_)
    | (with_reducible refine State.latchesVoid_keeps ?_ ?_)
    | (with_reducible refine State.queuesVoid_keeps ?_ ?_)
    | (with_reducible refine State.startWriteBlank_keeps ?_ ?_)
    | (with_reducible refine State.takeHeld_keeps ?_ ?_)
    | exact (rfl : _ = true)
    | (simp only [Fld.area]; exact (rfl : _ = true))
    | exact Or.inr rfl
    | exact Or.inl rfl
    | assumption
    | split
    | (with_reducible refine Keeps.set_ctxStaged ?_ ?_)
    | (with_reducible refine Keeps.set_built ?_ ?_)
    | (with_reducible refine Keeps.set_fstaged ?_ ?_)
    | (with_reducible refine Keeps.set_fwrites ?_ ?_)
    | (with_reducible refine Keeps.upd ?_ ?_ ?_ ?_ ?_ ?_ ?_ ?_ ?_ ?_ ?_ ?_ ?_ ?_ ?_ ?_ ?_ ?_ ?_ ?_ ?_ ?_ ?_ ?_ ?_ ?_ ?_ ?_ ?_ ?_ ?_ ?_ ?_ ?_ ?_ ?_ ?_ ?_ ?_ ?_ ?_ ?_ ?_ ?_ ?_ ?_ ?_ ?_ ?_ ?_ ?_ ?_ ?_ ?_ ?_ ?_ ?_ ?_ ?_ ?_ ?_ ?_ ?_ ?_ ?_ ?_ ?_)

theorem State.voidSequence_keeps {s : State} {cause unit place : Nat} {m₀ s₀} (k₀ : Keeps m₀ s₀ s) (hm :
    (7253554924718045609001883 &&& m₀ == 7253554924718045609001883) = true) : Keeps m₀ s₀ (State.voidSequence s cause
    unit place) := by
  refine k₀.step (w' := 7253554924718045609001883) ?_ hm
  unfold State.voidSequence
  try dsimp only
  repeat' first
    | (with_reducible exact Keeps.refl)
    | (with_reducible refine State.haltVoid_keeps ?_ ?_)
    | (with_reducible refine State.raiseCond_keeps ?_ ?_)
    | (with_reducible refine State.recordVoid_keeps ?_ ?_)
    | (with_reducible refine State.tellGroupVoid_keeps ?_ ?_)
    | (with_reducible refine State.voidWork_keeps ?_ ?_)
    | exact (rfl : _ = true)

theorem State.voidTick_keeps {s : State} {cause unit place : Nat} {m₀ s₀} (k₀ : Keeps m₀ s₀ s) (hm :
    (7253554924718045609001883 &&& m₀ == 7253554924718045609001883) = true) : Keeps m₀ s₀ (State.voidTick s cause unit
    place) := by
  refine k₀.step (w' := 7253554924718045609001883) ?_ hm
  unfold State.voidTick
  try dsimp only
  repeat' first
    | (with_reducible exact Keeps.refl)
    | (with_reducible refine Keeps.wr ?_ ?_)
    | (with_reducible refine Keeps.ite ?_ ?_)
    | (with_reducible refine State.voidSequence_keeps ?_ ?_)
    | exact (rfl : _ = true)

theorem State.consumePoison_keeps {s : State} {place : Nat} {m₀ s₀} (k₀ : Keeps m₀ s₀ s) (hm :
    (7253554924718045609001883 &&& m₀ == 7253554924718045609001883) = true) : Keeps m₀ s₀ (State.consumePoison s
    place) := by
  refine k₀.step (w' := 7253554924718045609001883) ?_ hm
  unfold State.consumePoison
  try dsimp only
  repeat' first
    | (with_reducible exact Keeps.refl)
    | (with_reducible refine Keeps.wr ?_ ?_)
    | (with_reducible refine Keeps.ite ?_ ?_)
    | (with_reducible refine State.voidTick_keeps ?_ ?_)
    | exact (rfl : _ = true)

theorem State.setTick_keeps {s : State} {st : Nat} {m₀ s₀} (k₀ : Keeps m₀ s₀ s) (hm : (7405569 &&& m₀ == 7405569) =
    true) : Keeps m₀ s₀ (State.setTick s st) := by
  refine k₀.step (w' := 7405569) ?_ hm
  unfold State.setTick
  try dsimp only
  repeat' first
    | (with_reducible exact Keeps.refl)
    | (with_reducible refine Keeps.wr ?_ ?_)
    | (with_reducible refine State.endConds_keeps ?_ ?_)
    | exact (rfl : _ = true)

theorem State.sliceStep_keeps {s : State} {d m : Nat} {o : OperandSet} {m₀ s₀} (k₀ : Keeps m₀ s₀ s) (hm : (4 &&& m₀ ==
    4) = true) : Keeps m₀ s₀ (State.sliceStep s d m o) := by
  refine k₀.step (w' := 4) ?_ hm
  unfold State.sliceStep
  try dsimp only
  repeat' first
    | (with_reducible exact Keeps.refl)
    | (with_reducible refine Keeps.wr ?_ ?_)
    | (with_reducible refine Keeps.ite ?_ ?_)
    | exact (rfl : _ = true)

theorem State.clearSlice_keeps {s : State} {d m : Nat} {m₀ s₀} (k₀ : Keeps m₀ s₀ s) (hm : (4 &&& m₀ == 4) = true) :
    Keeps m₀ s₀ (State.clearSlice s d m) := by
  refine k₀.step (w' := 4) ?_ hm
  unfold State.clearSlice
  try dsimp only
  repeat' first
    | (with_reducible exact Keeps.refl)
    | ((with_reducible refine Keeps.resetKeys ?_ ?_); · (rintro ⟨f, u, j⟩ hk; cases f <;> first | (simp only [Fld.area]; rfl) | exact Bool.noConfusion (show false = true from hk) | (simp [isSliceReg] at hk; done)))

theorem State.advanceSlice_keeps {s old : State} {d m : Nat} {o : OperandSet} {m₀ s₀} (k₀ : Keeps m₀ s₀ s) (hm : (4
    &&& m₀ == 4) = true) : Keeps m₀ s₀ (State.advanceSlice s old d m o) := by
  refine k₀.step (w' := 4) ?_ hm
  unfold State.advanceSlice
  try dsimp only
  repeat' first
    | (with_reducible exact Keeps.refl)
    | (with_reducible refine Keeps.wr ?_ ?_)
    | (with_reducible refine Keeps.ite ?_ ?_)
    | exact (rfl : _ = true)

theorem execSliceOperandSet_keeps (d m a b dd : Nat) (ce load neg : Bool) (s : State) {t' : State} (ho :
    execSliceOperandSet d m a b dd ce load neg s = .next t') : Keeps 4 s t' := by
  unfold execSliceOperandSet at ho
  refine actCore_keeps ho ?_
  try dsimp only
  repeat' first
    | (with_reducible exact Keeps.refl)
    | (with_reducible refine Keeps.ite ?_ ?_)
    | (with_reducible refine State.sliceStep_keeps ?_ ?_)
    | exact (rfl : _ = true)

theorem execAsStickyClr_keeps (d : Nat) (s : State) {t' : State} (ho : execAsStickyClr d s = .next t') : Keeps 4 s t'
    := by
  unfold execAsStickyClr at ho
  refine actCore_keeps ho ?_
  try dsimp only
  repeat' first
    | (with_reducible exact Keeps.refl)
    | ((with_reducible refine Keeps.resetKeys ?_ ?_); · (rintro ⟨f, u, j⟩ hk; cases f <;> first | (simp only [Fld.area]; rfl) | exact Bool.noConfusion (show false = true from hk) | (simp [] at hk; done)))

theorem State.present_keeps {s : State} {d b p : Nat} {r : PortResult} {m₀ s₀} (k₀ : Keeps m₀ s₀ s) (hm :
    (7253554924718045609001883 &&& m₀ == 7253554924718045609001883) = true) : Keeps m₀ s₀ (State.present s d b p r) :=
    by
  refine k₀.step (w' := 7253554924718045609001883) ?_ hm
  unfold State.present
  try dsimp only
  repeat' first
    | (with_reducible exact Keeps.refl)
    | (with_reducible refine Keeps.wr ?_ ?_)
    | (with_reducible refine Keeps.ite ?_ ?_)
    | (with_reducible refine State.consumePoison_keeps ?_ ?_)
    | exact (rfl : _ = true)

theorem State.presentStore_keeps {s : State} {d b p : Nat} {m₀ s₀} (k₀ : Keeps m₀ s₀ s) (hm :
    (7253554924718045609526171 &&& m₀ == 7253554924718045609526171) = true) : Keeps m₀ s₀ (State.presentStore s d b p)
    := by
  refine k₀.step (w' := 7253554924718045609526171) ?_ hm
  unfold State.presentStore
  try dsimp only
  repeat' first
    | (with_reducible exact Keeps.refl)
    | (with_reducible refine Keeps.spend ?_ ?_)
    | (with_reducible refine State.present_keeps ?_ ?_)
    | exact (rfl : _ = true)

theorem State.portRead_keeps {s : State} {o : PortOp} {m₀ s₀} (k₀ : Keeps m₀ s₀ s) (hm : (7253554924718045609001883
    &&& m₀ == 7253554924718045609001883) = true) : Keeps m₀ s₀ (State.portRead s o) := by
  refine k₀.step (w' := 7253554924718045609001883) ?_ hm
  unfold State.portRead
  try dsimp only
  repeat' first
    | (with_reducible exact Keeps.refl)
    | (with_reducible refine State.present_keeps ?_ ?_)
    | (with_reducible refine State.readPhys_keeps ?_ ?_)
    | (refine State.readPhys_keeps_eq (by assumption) ?_ ?_)
    | exact (rfl : _ = true)

theorem State.portWrite_keeps {s : State} {o : PortOp} {m₀ s₀} (k₀ : Keeps m₀ s₀ s) (hm : (7253554924718045609526171
    &&& m₀ == 7253554924718045609526171) = true) : Keeps m₀ s₀ (State.portWrite s o) := by
  refine k₀.step (w' := 7253554924718045609526171) ?_ hm
  unfold State.portWrite
  try dsimp only
  repeat' first
    | (with_reducible exact Keeps.refl)
    | (with_reducible refine State.presentStore_keeps ?_ ?_)
    | (with_reducible refine State.storeRow_keeps ?_ ?_)
    | exact (rfl : _ = true)

theorem State.portModify_keeps {s : State} {o : PortOp} {clear : Bool} {m₀ s₀} (k₀ : Keeps m₀ s₀ s) (hm :
    (7253554924718045609001883 &&& m₀ == 7253554924718045609001883) = true) : Keeps m₀ s₀ (State.portModify s o clear)
    := by
  refine k₀.step (w' := 7253554924718045609001883) ?_ hm
  unfold State.portModify
  try dsimp only
  repeat' first
    | (with_reducible exact Keeps.refl)
    | (with_reducible refine State.modifyRow_keeps ?_ ?_)
    | (refine State.modifyRow_keeps_eq (by assumption) ?_ ?_)
    | (with_reducible refine State.present_keeps ?_ ?_)
    | exact (rfl : _ = true)

theorem State.portLockRead_keeps {s : State} {o : PortOp} {m₀ s₀} (k₀ : Keeps m₀ s₀ s) (hm :
    (7253554924718045609001883 &&& m₀ == 7253554924718045609001883) = true) : Keeps m₀ s₀ (State.portLockRead s o) :=
    by
  refine k₀.step (w' := 7253554924718045609001883) ?_ hm
  unfold State.portLockRead
  try dsimp only
  repeat' first
    | (with_reducible exact Keeps.refl)
    | (with_reducible refine Keeps.ite ?_ ?_)
    | (with_reducible refine State.present_keeps ?_ ?_)
    | (with_reducible refine State.readPhys_keeps ?_ ?_)
    | (refine State.readPhys_keeps_eq (by assumption) ?_ ?_)
    | (with_reducible refine State.takeLock_keeps ?_ ?_)
    | exact (rfl : _ = true)

theorem State.portAction_keeps {s : State} {o : PortOp} {m₀ s₀} (k₀ : Keeps m₀ s₀ s) (hm : (7253554924718045609526171
    &&& m₀ == 7253554924718045609526171) = true) : Keeps m₀ s₀ (State.portAction s o) := by
  refine k₀.step (w' := 7253554924718045609526171) ?_ hm
  unfold State.portAction
  try dsimp only
  repeat' first
    | (with_reducible exact Keeps.refl)
    | (with_reducible refine State.dropLock_keeps ?_ ?_)
    | (with_reducible refine State.portLockRead_keeps ?_ ?_)
    | (with_reducible refine State.portModify_keeps ?_ ?_)
    | (with_reducible refine State.portRead_keeps ?_ ?_)
    | (with_reducible refine State.portWrite_keeps ?_ ?_)
    | (with_reducible refine State.presentStore_keeps ?_ ?_)
    | exact (rfl : _ = true)
    | assumption
    | split

theorem State.portNow_keeps {s : State} {o : PortOp} {m₀ s₀} (k₀ : Keeps m₀ s₀ s) (hm : (7253554924718045609526171 &&&
    m₀ == 7253554924718045609526171) = true) : Keeps m₀ s₀ (State.portNow s o) := by
  refine k₀.step (w' := 7253554924718045609526171) ?_ hm
  unfold State.portNow
  try dsimp only
  repeat' first
    | (with_reducible exact Keeps.refl)
    | (with_reducible refine State.portAction_keeps ?_ ?_)
    | (with_reducible refine State.present_keeps ?_ ?_)
    | exact (rfl : _ = true)
    | assumption
    | split

theorem State.portOp_keeps {s : State} {o : PortOp} {m₀ s₀} (k₀ : Keeps m₀ s₀ s) (hm : (7253554924718045676635035 &&&
    m₀ == 7253554924718045676635035) = true) : Keeps m₀ s₀ (State.portOp s o) := by
  refine k₀.step (w' := 7253554924718045676635035) ?_ hm
  unfold State.portOp
  try dsimp only
  repeat' first
    | (with_reducible exact Keeps.refl)
    | (with_reducible refine Keeps.ite ?_ ?_)
    | (with_reducible refine State.portNow_keeps ?_ ?_)
    | exact (rfl : _ = true)
    | assumption
    | split
    | (with_reducible refine Keeps.set_heldOps ?_ ?_)

theorem execBankRead_keeps (d b p a : Nat) (s : State) {t' : State} (ho : execBankRead d b p a s = .next t') : Keeps
    7253554924718045676635035 s t' := by
  unfold execBankRead at ho
  refine actCore_keeps ho ?_
  try dsimp only
  repeat' first
    | (with_reducible exact Keeps.refl)
    | (with_reducible refine State.portOp_keeps ?_ ?_)
    | exact (rfl : _ = true)

theorem execBankWrite_keeps (d b p a v : Nat) (s : State) {t' : State} (ho : execBankWrite d b p a v s = .next t') :
    Keeps 7253554924718045676635035 s t' := by
  unfold execBankWrite at ho
  refine actCore_keeps ho ?_
  try dsimp only
  repeat' first
    | (with_reducible exact Keeps.refl)
    | (with_reducible refine State.portOp_keeps ?_ ?_)
    | exact (rfl : _ = true)

theorem execBankSet_keeps (d b p a v : Nat) (s : State) {t' : State} (ho : execBankSet d b p a v s = .next t') : Keeps
    7253554924718045676635035 s t' := by
  unfold execBankSet at ho
  refine actCore_keeps ho ?_
  try dsimp only
  repeat' first
    | (with_reducible exact Keeps.refl)
    | (with_reducible refine State.portOp_keeps ?_ ?_)
    | exact (rfl : _ = true)

theorem execBankClear_keeps (d b p a v : Nat) (s : State) {t' : State} (ho : execBankClear d b p a v s = .next t') :
    Keeps 7253554924718045676635035 s t' := by
  unfold execBankClear at ho
  refine actCore_keeps ho ?_
  try dsimp only
  repeat' first
    | (with_reducible exact Keeps.refl)
    | (with_reducible refine State.portOp_keeps ?_ ?_)
    | exact (rfl : _ = true)

theorem execBankLockRead_keeps (d b p a : Nat) (s : State) {t' : State} (ho : execBankLockRead d b p a s = .next t') :
    Keeps 7253554924718045676635035 s t' := by
  unfold execBankLockRead at ho
  refine actCore_keeps ho ?_
  try dsimp only
  repeat' first
    | (with_reducible exact Keeps.refl)
    | (with_reducible refine State.portOp_keeps ?_ ?_)
    | exact (rfl : _ = true)

theorem execBankWriteUnlock_keeps (d b p a v : Nat) (s : State) {t' : State} (ho : execBankWriteUnlock d b p a v s =
    .next t') : Keeps 7253554924718045676635035 s t' := by
  unfold execBankWriteUnlock at ho
  refine actCore_keeps ho ?_
  try dsimp only
  repeat' first
    | (with_reducible exact Keeps.refl)
    | (with_reducible refine State.portOp_keeps ?_ ?_)
    | exact (rfl : _ = true)

theorem execBankUnlock_keeps (d b p a : Nat) (s : State) {t' : State} (ho : execBankUnlock d b p a s = .next t') :
    Keeps 7253554924718045676635035 s t' := by
  unfold execBankUnlock at ho
  refine actCore_keeps ho ?_
  try dsimp only
  repeat' first
    | (with_reducible exact Keeps.refl)
    | (with_reducible refine State.portOp_keeps ?_ ?_)
    | exact (rfl : _ = true)

theorem execBankInvalidOp_keeps (d b p a : Nat) (s : State) {t' : State} (ho : execBankInvalidOp d b p a s = .next t')
    : Keeps 7253554924718045676635035 s t' := by
  unfold execBankInvalidOp at ho
  refine actCore_keeps ho ?_
  try dsimp only
  repeat' first
    | (with_reducible exact Keeps.refl)
    | (with_reducible refine State.portOp_keeps ?_ ?_)
    | exact (rfl : _ = true)

theorem execCorrectionWriteBack_keeps (d b row : Nat) (s : State) {t' : State} (ho : execCorrectionWriteBack d b row s
    = .next t') : Keeps 50331656 s t' := by
  unfold execCorrectionWriteBack at ho
  refine actCore_keeps ho ?_
  try dsimp only
  repeat' first
    | (with_reducible exact Keeps.refl)
    | (with_reducible refine State.landWriteBack_keeps ?_ ?_)
    | exact (rfl : _ = true)
    | assumption
    | split

theorem State.proceedHeld_keeps {s : State} {d b : Nat} {m₀ s₀} (k₀ : Keeps m₀ s₀ s) (hm : (7253554924718045676635035
    &&& m₀ == 7253554924718045676635035) = true) : Keeps m₀ s₀ (State.proceedHeld s d b) := by
  refine k₀.step (w' := 7253554924718045676635035) ?_ hm
  unfold State.proceedHeld
  try dsimp only
  repeat' first
    | (with_reducible exact Keeps.refl)
    | (with_reducible refine Keeps.each (fun _ _ => ?_) ?_)
    | (with_reducible refine State.portNow_keeps ?_ ?_)
    | exact (rfl : _ = true)
    | assumption
    | split
    | (with_reducible refine Keeps.set_heldOps ?_ ?_)

theorem execBankBlankingDone_keeps (d b : Nat) (s : State) {t' : State} (ho : execBankBlankingDone d b s = .next t') :
    Keeps 7253554924718045676635035 s t' := by
  unfold execBankBlankingDone at ho
  refine actCore_keeps ho ?_
  try dsimp only
  repeat' first
    | (with_reducible exact Keeps.refl)
    | (with_reducible refine Keeps.wr ?_ ?_)
    | (with_reducible refine Keeps.ite ?_ ?_)
    | (with_reducible refine State.proceedHeld_keeps ?_ ?_)
    | exact (rfl : _ = true)

theorem State.powerRequest_keeps {s : State} {d b req : Nat} {level2 : Bool} {m₀ s₀} (k₀ : Keeps m₀ s₀ s) (hm :
    (50331656 &&& m₀ == 50331656) = true) : Keeps m₀ s₀ (State.powerRequest s d b req level2) := by
  refine k₀.step (w' := 50331656) ?_ hm
  unfold State.powerRequest
  try dsimp only
  repeat' first
    | (with_reducible exact Keeps.refl)
    | (with_reducible refine Keeps.wr ?_ ?_)
    | (with_reducible refine Keeps.ite ?_ ?_)
    | (with_reducible refine State.blankBank_keeps ?_ ?_)
    | exact (rfl : _ = true)

theorem execBankOn_keeps (d b : Nat) (s : State) {t' : State} (ho : execBankOn d b s = .next t') : Keeps 50331656 s t'
    := by
  unfold execBankOn at ho
  refine actCore_keeps ho ?_
  try dsimp only
  repeat' first
    | (with_reducible exact Keeps.refl)
    | (with_reducible refine State.powerRequest_keeps ?_ ?_)
    | exact (rfl : _ = true)

theorem execBankRetention_keeps (d b : Nat) (s : State) {t' : State} (ho : execBankRetention d b s = .next t') : Keeps
    50331656 s t' := by
  unfold execBankRetention at ho
  refine actCore_keeps ho ?_
  try dsimp only
  repeat' first
    | (with_reducible exact Keeps.refl)
    | (with_reducible refine State.powerRequest_keeps ?_ ?_)
    | exact (rfl : _ = true)

theorem execBankOff_keeps (d b : Nat) (s : State) {t' : State} (ho : execBankOff d b s = .next t') : Keeps 50331656 s
    t' := by
  unfold execBankOff at ho
  refine actCore_keeps ho ?_
  try dsimp only
  repeat' first
    | (with_reducible exact Keeps.refl)
    | (with_reducible refine State.powerRequest_keeps ?_ ?_)
    | exact (rfl : _ = true)

theorem execBankTest_keeps (d b : Nat) (level2 : Bool) (s : State) {t' : State} (ho : execBankTest d b level2 s =
    .next t') : Keeps 50331656 s t' := by
  unfold execBankTest at ho
  refine actCore_keeps ho ?_
  try dsimp only
  repeat' first
    | (with_reducible exact Keeps.refl)
    | (with_reducible refine State.powerRequest_keeps ?_ ?_)
    | exact (rfl : _ = true)

theorem execBankLeaveTest_keeps (d b : Nat) (s : State) {t' : State} (ho : execBankLeaveTest d b s = .next t') : Keeps
    50331656 s t' := by
  unfold execBankLeaveTest at ho
  refine actCore_keeps ho ?_
  try dsimp only
  repeat' first
    | (with_reducible exact Keeps.refl)
    | (with_reducible refine State.powerRequest_keeps ?_ ?_)
    | exact (rfl : _ = true)

theorem execBankBlank_keeps (d b : Nat) (s : State) {t' : State} (ho : execBankBlank d b s = .next t') : Keeps
    50331656 s t' := by
  unfold execBankBlank at ho
  refine actCore_keeps ho ?_
  try dsimp only
  repeat' first
    | (with_reducible exact Keeps.refl)
    | (with_reducible refine State.powerRequest_keeps ?_ ?_)
    | exact (rfl : _ = true)

theorem State.powerDone_keeps {s : State} {d b : Nat} {m₀ s₀} (k₀ : Keeps m₀ s₀ s) (hm : (7253554924718045676635035
    &&& m₀ == 7253554924718045676635035) = true) : Keeps m₀ s₀ (State.powerDone s d b) := by
  refine k₀.step (w' := 7253554924718045676635035) ?_ hm
  unfold State.powerDone
  try dsimp only
  repeat' first
    | (with_reducible exact Keeps.refl)
    | (with_reducible refine Keeps.wr ?_ ?_)
    | (with_reducible refine Keeps.ite ?_ ?_)
    | (with_reducible refine State.blankBank_keeps ?_ ?_)
    | (with_reducible refine State.dropBankLocks_keeps ?_ ?_)
    | (with_reducible refine State.loseBank_keeps ?_ ?_)
    | (with_reducible refine State.proceedHeld_keeps ?_ ?_)
    | exact (rfl : _ = true)

theorem execBankTransitionDone_keeps (d b : Nat) (s : State) {t' : State} (ho : execBankTransitionDone d b s = .next
    t') : Keeps 7253554924718045676635035 s t' := by
  unfold execBankTransitionDone at ho
  refine actCore_keeps ho ?_
  try dsimp only
  repeat' first
    | (with_reducible exact Keeps.refl)
    | (with_reducible refine Keeps.ite ?_ ?_)
    | (with_reducible refine State.powerDone_keeps ?_ ?_)
    | exact (rfl : _ = true)

theorem execBankTestWriteRaw_keeps (d : Nat) (level2 : Bool) (s : State) {t' : State} (ho : execBankTestWriteRaw d
    level2 s = .next t') : Keeps 16777216 s t' := by
  unfold execBankTestWriteRaw at ho
  refine actCore_keeps ho ?_
  try dsimp only
  repeat' first
    | (with_reducible exact Keeps.refl)
    | (with_reducible refine Keeps.ite ?_ ?_)
    | (with_reducible refine State.setRow_keeps ?_ ?_)
    | exact (rfl : _ = true)

theorem execBankTestReadRaw_keeps (d : Nat) (level2 : Bool) (s : State) {t' : State} (ho : execBankTestReadRaw d
    level2 s = .next t') : Keeps 8 s t' := by
  unfold execBankTestReadRaw at ho
  refine actCore_keeps ho ?_
  try dsimp only
  repeat' first
    | (with_reducible exact Keeps.refl)
    | (with_reducible refine Keeps.wr ?_ ?_)
    | (with_reducible refine Keeps.ite ?_ ?_)
    | exact (rfl : _ = true)

theorem execBankEccClr_keeps (d v : Nat) (s : State) {t' : State} (ho : execBankEccClr d v s = .next t') : Keeps 8 s
    t' := by
  unfold execBankEccClr at ho
  refine actCore_keeps ho ?_
  try dsimp only
  repeat' first
    | (with_reducible exact Keeps.refl)
    | (with_reducible refine Keeps.ite ?_ ?_)
    | ((with_reducible refine Keeps.resetKeys ?_ ?_); · (rintro ⟨f, u, j⟩ hk; cases f <;> first | (simp only [Fld.area]; rfl) | exact Bool.noConfusion (show false = true from hk) | (simp [] at hk; done)))

theorem State.setPolicy_keeps {s : State} {v : Nat} {m₀ s₀} (k₀ : Keeps m₀ s₀ s) (hm : (8 &&& m₀ == 8) = true) : Keeps
    m₀ s₀ (State.setPolicy s v) := by
  refine k₀.step (w' := 8) ?_ hm
  unfold State.setPolicy
  try dsimp only
  repeat' first
    | (with_reducible exact Keeps.refl)
    | (with_reducible refine Keeps.wr ?_ ?_)
    | (with_reducible refine Keeps.ite ?_ ?_)
    | (with_reducible refine Keeps.each (fun _ _ => ?_) ?_)
    | exact (rfl : _ = true)

theorem execBankPolicyWrite_keeps (v : Nat) (s : State) {t' : State} (ho : execBankPolicyWrite v s = .next t') : Keeps
    8 s t' := by
  unfold execBankPolicyWrite at ho
  refine actCore_keeps ho ?_
  try dsimp only
  repeat' first
    | (with_reducible exact Keeps.refl)
    | (with_reducible refine State.setPolicy_keeps ?_ ?_)
    | exact (rfl : _ = true)

theorem State.record_keeps {s : State} {d : Nat} {e : Finding} {m₀ s₀} (k₀ : Keeps m₀ s₀ s) (hm : (14 &&& m₀ == 14) =
    true) : Keeps m₀ s₀ (State.record s d e) := by
  refine k₀.step (w' := 14) ?_ hm
  unfold State.record
  try dsimp only
  repeat' first
    | (with_reducible exact Keeps.refl)
    | (with_reducible refine Keeps.wr ?_ ?_)
    | (with_reducible refine Keeps.ite ?_ ?_)
    | exact (rfl : _ = true)
    | assumption
    | split

theorem State.shiftResets_keeps {s : State} {d t : Nat} {m₀ s₀} (k₀ : Keeps m₀ s₀ s) (hm : (2 &&& m₀ == 2) = true) :
    Keeps m₀ s₀ (State.shiftResets s d t) := by
  refine k₀.step (w' := 2) ?_ hm
  unfold State.shiftResets
  try dsimp only
  repeat' first
    | (with_reducible exact Keeps.refl)
    | (with_reducible refine Keeps.wr ?_ ?_)
    | (with_reducible refine Keeps.each (fun _ _ => ?_) ?_)
    | exact (rfl : _ = true)

theorem State.keepPin_keeps {s : State} {d p : Nat} {m₀ s₀} (k₀ : Keeps m₀ s₀ s) (hm : (2 &&& m₀ == 2) = true) : Keeps
    m₀ s₀ (State.keepPin s d p) := by
  refine k₀.step (w' := 2) ?_ hm
  unfold State.keepPin
  try dsimp only
  repeat' first
    | (with_reducible exact Keeps.refl)
    | (with_reducible refine Keeps.wr ?_ ?_)
    | exact (rfl : _ = true)
    | assumption
    | split

theorem State.loadPin_keeps {s : State} {d p : Nat} {m₀ s₀} (k₀ : Keeps m₀ s₀ s) (hm : (2 &&& m₀ == 2) = true) : Keeps
    m₀ s₀ (State.loadPin s d p) := by
  refine k₀.step (w' := 2) ?_ hm
  unfold State.loadPin
  try dsimp only
  repeat' first
    | (with_reducible exact Keeps.refl)
    | (with_reducible refine Keeps.wr ?_ ?_)
    | (with_reducible refine Keeps.ite ?_ ?_)
    | (with_reducible refine Keeps.foldl (fun _ _ => ?_) ?_)
    | exact (rfl : _ = true)

theorem State.clockPins_keeps {s : State} {d t : Nat} {m₀ s₀} (k₀ : Keeps m₀ s₀ s) (hm : (2 &&& m₀ == 2) = true) :
    Keeps m₀ s₀ (State.clockPins s d t) := by
  refine k₀.step (w' := 2) ?_ hm
  unfold State.clockPins
  try dsimp only
  repeat' first
    | (with_reducible exact Keeps.refl)
    | (with_reducible refine Keeps.each (fun _ _ => ?_) ?_)
    | (with_reducible refine State.keepPin_keeps ?_ ?_)
    | (with_reducible refine State.loadPin_keeps ?_ ?_)
    | exact (rfl : _ = true)

theorem State.clockSlice_keeps {old : State} {d m : Nat} {s : State} {m₀ s₀} (k₀ : Keeps m₀ s₀ s) (hm : (4 &&& m₀ ==
    4) = true) : Keeps m₀ s₀ (State.clockSlice old d m s) := by
  refine k₀.step (w' := 4) ?_ hm
  unfold State.clockSlice
  try dsimp only
  repeat' first
    | (with_reducible exact Keeps.refl)
    | (with_reducible refine Keeps.ite ?_ ?_)
    | (with_reducible refine State.advanceSlice_keeps ?_ ?_)
    | (with_reducible refine State.clearSlice_keeps ?_ ?_)
    | exact (rfl : _ = true)

theorem State.clockEdge_keeps {s : State} {d t : Nat} {m₀ s₀} (k₀ : Keeps m₀ s₀ s) (hm : (64563604257983954950 &&& m₀
    == 64563604257983954950) = true) : Keeps m₀ s₀ (State.clockEdge s d t) := by
  refine k₀.step (w' := 64563604257983954950) ?_ hm
  unfold State.clockEdge
  try dsimp only
  repeat' first
    | (with_reducible exact Keeps.refl)
    | (with_reducible refine Keeps.wr ?_ ?_)
    | (with_reducible refine Keeps.spend ?_ ?_)
    | (with_reducible refine Keeps.each (fun _ _ => ?_) ?_)
    | (with_reducible refine State.clockPins_keeps ?_ ?_)
    | (with_reducible refine State.clockSlice_keeps ?_ ?_)
    | (with_reducible refine State.shiftResets_keeps ?_ ?_)
    | (with_reducible refine after_keeps ?_ (fun _ _ => ?_))
    | exact (rfl : _ = true)
    | (simp only [Fld.area]; exact (rfl : _ = true))
    | exact Or.inr rfl
    | exact Or.inl rfl
    | assumption
    | split
    | (with_reducible refine Keeps.set_ffs ?_ ?_)
    | (with_reducible refine Keeps.set_hops ?_ ?_)
    | (with_reducible refine Keeps.set_portOuts ?_ ?_)
    | (with_reducible refine Keeps.upd ?_ ?_ ?_ ?_ ?_ ?_ ?_ ?_ ?_ ?_ ?_ ?_ ?_ ?_ ?_ ?_ ?_ ?_ ?_ ?_ ?_ ?_ ?_ ?_ ?_ ?_ ?_ ?_ ?_ ?_ ?_ ?_ ?_ ?_ ?_ ?_ ?_ ?_ ?_ ?_ ?_ ?_ ?_ ?_ ?_ ?_ ?_ ?_ ?_ ?_ ?_ ?_ ?_ ?_ ?_ ?_ ?_ ?_ ?_ ?_ ?_ ?_ ?_ ?_ ?_ ?_ ?_)

theorem State.loadInit_keeps {s : State} {p : Nat → Bool} {m₀ s₀} (k₀ : Keeps m₀ s₀ s) (hm : (27670116110564327424 &&&
    m₀ == 27670116110564327424) = true) : Keeps m₀ s₀ (State.loadInit s p) := by
  refine k₀.step (w' := 27670116110564327424) ?_ hm
  unfold State.loadInit
  try dsimp only
  repeat' first
    | (with_reducible exact Keeps.refl)
    | (with_reducible refine Keeps.foldl (fun _ _ => ?_) ?_)
    | exact (rfl : _ = true)
    | (simp only [Fld.area]; exact (rfl : _ = true))
    | exact Or.inr rfl
    | exact Or.inl rfl
    | assumption
    | split
    | (with_reducible refine Keeps.set_ffs ?_ ?_)
    | (with_reducible refine Keeps.set_hops ?_ ?_)
    | (with_reducible refine Keeps.upd ?_ ?_ ?_ ?_ ?_ ?_ ?_ ?_ ?_ ?_ ?_ ?_ ?_ ?_ ?_ ?_ ?_ ?_ ?_ ?_ ?_ ?_ ?_ ?_ ?_ ?_ ?_ ?_ ?_ ?_ ?_ ?_ ?_ ?_ ?_ ?_ ?_ ?_ ?_ ?_ ?_ ?_ ?_ ?_ ?_ ?_ ?_ ?_ ?_ ?_ ?_ ?_ ?_ ?_ ?_ ?_ ?_ ?_ ?_ ?_ ?_ ?_ ?_ ?_ ?_ ?_ ?_)

theorem State.engageCells_keeps {s : State} {d x : Nat} {m₀ s₀} (k₀ : Keeps m₀ s₀ s) (hm : (73786976294838206464 &&&
    m₀ == 73786976294838206464) = true) : Keeps m₀ s₀ (State.engageCells s d x) := by
  refine k₀.step (w' := 73786976294838206464) ?_ hm
  unfold State.engageCells
  try dsimp only
  repeat' first
    | (with_reducible exact Keeps.refl)
    | (with_reducible refine Keeps.ite ?_ ?_)
    | (with_reducible refine Keeps.foldl (fun _ _ => ?_) ?_)
    | exact (rfl : _ = true)
    | assumption
    | split
    | (with_reducible refine Keeps.set_isoHeld ?_ ?_)

theorem State.sendStrobes_keeps {s : State} {m₀ s₀} (k₀ : Keeps m₀ s₀ s) (hm : (2 &&& m₀ == 2) = true) : Keeps m₀ s₀
    (State.sendStrobes s) := by
  refine k₀.step (w' := 2) ?_ hm
  unfold State.sendStrobes
  try dsimp only
  repeat' first
    | (with_reducible exact Keeps.refl)
    | (with_reducible refine Keeps.wr ?_ ?_)
    | (with_reducible refine Keeps.each (fun _ _ => ?_) ?_)
    | exact (rfl : _ = true)

theorem State.setLocked_keeps {s : State} {b : Bool} {m₀ s₀} (k₀ : Keeps m₀ s₀ s) (hm : (1 &&& m₀ == 1) = true) :
    Keeps m₀ s₀ (State.setLocked s b) := by
  refine k₀.step (w' := 1) ?_ hm
  unfold State.setLocked
  try dsimp only
  repeat' first
    | (with_reducible exact Keeps.refl)
    | (with_reducible refine Keeps.wr ?_ ?_)
    | exact (rfl : _ = true)

theorem State.bankToOn_keeps {s : State} {q : Nat × Nat} {m₀ s₀} (k₀ : Keeps m₀ s₀ s) (hm : (50331656 &&& m₀ ==
    50331656) = true) : Keeps m₀ s₀ (State.bankToOn s q) := by
  refine k₀.step (w' := 50331656) ?_ hm
  unfold State.bankToOn
  try dsimp only
  repeat' first
    | (with_reducible exact Keeps.refl)
    | (with_reducible refine Keeps.wr ?_ ?_)
    | (with_reducible refine Keeps.ite ?_ ?_)
    | (with_reducible refine State.blankBank_keeps ?_ ?_)
    | exact (rfl : _ = true)

theorem State.banksToOn_keeps {s : State} {m₀ s₀} (k₀ : Keeps m₀ s₀ s) (hm : (50331656 &&& m₀ == 50331656) = true) :
    Keeps m₀ s₀ (State.banksToOn s) := by
  refine k₀.step (w' := 50331656) ?_ hm
  unfold State.banksToOn
  try dsimp only
  repeat' first
    | (with_reducible exact Keeps.refl)
    | (with_reducible refine Keeps.each (fun _ _ => ?_) ?_)
    | (with_reducible refine State.bankToOn_keeps ?_ ?_)
    | exact (rfl : _ = true)

theorem State.resetFlops_keeps {s : State} {m₀ s₀} (k₀ : Keeps m₀ s₀ s) (hm : (27670116110564327428 &&& m₀ ==
    27670116110564327428) = true) : Keeps m₀ s₀ (State.resetFlops s) := by
  refine k₀.step (w' := 27670116110564327428) ?_ hm
  unfold State.resetFlops
  try dsimp only
  repeat' first
    | (with_reducible exact Keeps.refl)
    | ((with_reducible refine Keeps.resetKeys ?_ ?_); · (rintro ⟨f, u, j⟩ hk; cases f <;> first | (simp only [Fld.area]; rfl) | exact Bool.noConfusion (show false = true from hk) | (simp [isSliceReg] at hk; done)))
    | (with_reducible refine State.loadInit_keeps ?_ ?_)
    | exact (rfl : _ = true)

theorem State.runReset_keeps {s : State} {m₀ s₀} (k₀ : Keeps m₀ s₀ s) (hm : (27670116110564327436 &&& m₀ ==
    27670116110564327436) = true) : Keeps m₀ s₀ (State.runReset s) := by
  refine k₀.step (w' := 27670116110564327436) ?_ hm
  unfold State.runReset
  try dsimp only
  repeat' first
    | (with_reducible exact Keeps.refl)
    | (with_reducible refine State.dropAllLocks_keeps ?_ ?_)
    | (with_reducible refine State.resetFlops_keeps ?_ ?_)
    | exact (rfl : _ = true)

theorem State.armCommon_keeps {s : State} {fresh : Bool} {m₀ s₀} (k₀ : Keeps m₀ s₀ s) (hm : (27670116111158935565 &&&
    m₀ == 27670116111158935565) = true) : Keeps m₀ s₀ (State.armCommon s fresh) := by
  refine k₀.step (w' := 27670116111158935565) ?_ hm
  unfold State.armCommon
  try dsimp only
  repeat' first
    | (with_reducible exact Keeps.refl)
    | (with_reducible refine Keeps.wr ?_ ?_)
    | (with_reducible refine Keeps.each (fun _ _ => ?_) ?_)
    | ((with_reducible refine Keeps.resetKeys ?_ ?_); · (rintro ⟨f, u, j⟩ hk; cases f <;> first | (simp only [Fld.area]; rfl) | exact Bool.noConfusion (show false = true from hk)))
    | (with_reducible refine State.banksToOn_keeps ?_ ?_)
    | (with_reducible refine State.flushCaches_keeps ?_ ?_)
    | (with_reducible refine State.runReset_keeps ?_ ?_)
    | (with_reducible refine State.setTick_keeps ?_ ?_)
    | exact (rfl : _ = true)
    | (simp only [Fld.area]; exact (rfl : _ = true))

theorem State.armFresh_keeps {s : State} {m₀ s₀} (k₀ : Keeps m₀ s₀ s) (hm : (27670128755542790285 &&& m₀ ==
    27670128755542790285) = true) : Keeps m₀ s₀ (State.armFresh s) := by
  refine k₀.step (w' := 27670128755542790285) ?_ hm
  unfold State.armFresh
  try dsimp only
  repeat' first
    | (with_reducible exact Keeps.refl)
    | (with_reducible refine Keeps.wr ?_ ?_)
    | (with_reducible refine Keeps.each (fun _ _ => ?_) ?_)
    | ((with_reducible refine Keeps.resetKeys ?_ ?_); · (rintro ⟨f, u, j⟩ hk; cases f <;> first | (simp only [Fld.area]; rfl) | exact Bool.noConfusion (show false = true from hk)))
    | (with_reducible refine State.armCommon_keeps ?_ ?_)
    | (with_reducible refine State.caravanArm_keeps ?_ ?_)
    | (with_reducible refine State.flushTickQueues_keeps ?_ ?_)
    | exact (rfl : _ = true)
    | (simp only [Fld.area]; exact (rfl : _ = true))

theorem State.sendStart_keeps {s : State} {m₀ s₀} (k₀ : Keeps m₀ s₀ s) (hm : (2251799813685760 &&& m₀ ==
    2251799813685760) = true) : Keeps m₀ s₀ (State.sendStart s) := by
  refine k₀.step (w' := 2251799813685760) ?_ hm
  unfold State.sendStart
  try dsimp only
  repeat' first
    | (with_reducible exact Keeps.refl)
    | (with_reducible refine State.giveFrame_keeps ?_ ?_)
    | exact (rfl : _ = true)

theorem State.latchInit_keeps {s : State} {q : Nat × Nat} {m₀ s₀} (k₀ : Keeps m₀ s₀ s) (hm : (2 &&& m₀ == 2) = true) :
    Keeps m₀ s₀ (State.latchInit s q) := by
  refine k₀.step (w' := 2) ?_ hm
  unfold State.latchInit
  try dsimp only
  repeat' first
    | (with_reducible exact Keeps.refl)
    | (with_reducible refine Keeps.wr ?_ ?_)
    | (with_reducible refine Keeps.ite ?_ ?_)
    | (with_reducible refine State.drove_keeps ?_ ?_)
    | exact (rfl : _ = true)

theorem State.samplePin_keeps {s : State} {pins : List (Nat × Nat × Nat)} {q : Nat × Nat} {m₀ s₀} (k₀ : Keeps m₀ s₀ s)
    (hm : (524290 &&& m₀ == 524290) = true) : Keeps m₀ s₀ (State.samplePin s pins q) := by
  refine k₀.step (w' := 524290) ?_ hm
  unfold State.samplePin
  try dsimp only
  repeat' first
    | (with_reducible exact Keeps.refl)
    | (with_reducible refine Keeps.wr ?_ ?_)
    | (with_reducible refine Keeps.spend ?_ ?_)
    | (with_reducible refine Keeps.ite ?_ ?_)
    | exact (rfl : _ = true)
    | assumption
    | split

theorem State.sampleInputs_keeps {s : State} {pins : List (Nat × Nat × Nat)} {m₀ s₀} (k₀ : Keeps m₀ s₀ s) (hm :
    (524290 &&& m₀ == 524290) = true) : Keeps m₀ s₀ (State.sampleInputs s pins) := by
  refine k₀.step (w' := 524290) ?_ hm
  unfold State.sampleInputs
  try dsimp only
  repeat' first
    | (with_reducible exact Keeps.refl)
    | (with_reducible refine Keeps.each (fun _ _ => ?_) ?_)
    | (with_reducible refine State.samplePin_keeps ?_ ?_)
    | exact (rfl : _ = true)

theorem State.plinthDone_keeps {s : State} {t : Nat} {m₀ s₀} (k₀ : Keeps m₀ s₀ s) (hm : (1 &&& m₀ == 1) = true) :
    Keeps m₀ s₀ (State.plinthDone s t) := by
  refine k₀.step (w' := 1) ?_ hm
  unfold State.plinthDone
  try dsimp only
  repeat' first
    | (with_reducible exact Keeps.refl)
    | (with_reducible refine Keeps.wr ?_ ?_)
    | (with_reducible refine Keeps.ite ?_ ?_)
    | exact (rfl : _ = true)

theorem State.walkTimed_keeps {s : State} {m₀ s₀} (k₀ : Keeps m₀ s₀ s) (hm : (257 &&& m₀ == 257) = true) : Keeps m₀ s₀
    (State.walkTimed s) := by
  refine k₀.step (w' := 257) ?_ hm
  unfold State.walkTimed
  try dsimp only
  repeat' first
    | (with_reducible exact Keeps.refl)
    | (with_reducible refine Keeps.wr ?_ ?_)
    | (with_reducible refine State.plinthDone_keeps ?_ ?_)
    | exact (rfl : _ = true)

theorem State.openTick_keeps {s : State} {m₀ s₀} (k₀ : Keeps m₀ s₀ s) (hm : (7555786379621702902678427 &&& m₀ ==
    7555786379621702902678427) = true) : Keeps m₀ s₀ (State.openTick s) := by
  refine k₀.step (w' := 7555786379621702902678427) ?_ hm
  unfold State.openTick
  try dsimp only
  repeat' first
    | (with_reducible exact Keeps.refl)
    | (with_reducible refine Keeps.wr ?_ ?_)
    | (with_reducible refine Keeps.each (fun _ _ => ?_) ?_)
    | ((with_reducible refine Keeps.resetKeys ?_ ?_); · (rintro ⟨f, u, j⟩ hk; cases f <;> first | (simp only [Fld.area]; rfl) | exact Bool.noConfusion (show false = true from hk)))
    | (with_reducible refine State.sendStrobes_keeps ?_ ?_)
    | (with_reducible refine State.voidTick_keeps ?_ ?_)
    | (with_reducible refine State.walk_keeps ?_ ?_)
    | (refine State.walk_keeps_eq (by assumption) ?_ ?_)
    | (with_reducible refine State.walkTimed_keeps ?_ ?_)
    | exact (rfl : _ = true)
    | (simp only [Fld.area]; exact (rfl : _ = true))
    | exact Or.inr rfl
    | exact Or.inl rfl
    | assumption
    | split
    | (with_reducible refine Keeps.set_matched ?_ ?_)
    | (with_reducible refine Keeps.set_fwrites ?_ ?_)
    | (with_reducible refine Keeps.upd ?_ ?_ ?_ ?_ ?_ ?_ ?_ ?_ ?_ ?_ ?_ ?_ ?_ ?_ ?_ ?_ ?_ ?_ ?_ ?_ ?_ ?_ ?_ ?_ ?_ ?_ ?_ ?_ ?_ ?_ ?_ ?_ ?_ ?_ ?_ ?_ ?_ ?_ ?_ ?_ ?_ ?_ ?_ ?_ ?_ ?_ ?_ ?_ ?_ ?_ ?_ ?_ ?_ ?_ ?_ ?_ ?_ ?_ ?_ ?_ ?_ ?_ ?_ ?_ ?_ ?_ ?_)

theorem State.reachBoundary_keeps {s : State} {m₀ s₀} (k₀ : Keeps m₀ s₀ s) (hm : (262145 &&& m₀ == 262145) = true) :
    Keeps m₀ s₀ (State.reachBoundary s) := by
  refine k₀.step (w' := 262145) ?_ hm
  unfold State.reachBoundary
  try dsimp only
  repeat' first
    | (with_reducible exact Keeps.refl)
    | (with_reducible refine Keeps.wr ?_ ?_)
    | (with_reducible refine Keeps.at ?_ ?_)
    | exact (rfl : _ = true)

theorem State.recordDone_keeps {s : State} {u k : Nat} {m₀ s₀} (k₀ : Keeps m₀ s₀ s) (hm : (1 &&& m₀ == 1) = true) :
    Keeps m₀ s₀ (State.recordDone s u k) := by
  refine k₀.step (w' := 1) ?_ hm
  unfold State.recordDone
  try dsimp only
  repeat' first
    | (with_reducible exact Keeps.refl)
    | (with_reducible refine Keeps.wr ?_ ?_)
    | (with_reducible refine Keeps.ite ?_ ?_)
    | exact (rfl : _ = true)

theorem State.clocksOn_keeps {s : State} {m₀ s₀} (k₀ : Keeps m₀ s₀ s) (hm : (131074 &&& m₀ == 131074) = true) : Keeps
    m₀ s₀ (State.clocksOn s) := by
  refine k₀.step (w' := 131074) ?_ hm
  unfold State.clocksOn
  try dsimp only
  repeat' first
    | (with_reducible exact Keeps.refl)
    | (with_reducible refine Keeps.wr ?_ ?_)
    | (with_reducible refine Keeps.each (fun _ _ => ?_) ?_)
    | exact (rfl : _ = true)

theorem State.release_keeps {s : State} {k : Nat} {pins : List (Nat × Nat × Nat)} {m₀ s₀} (k₀ : Keeps m₀ s₀ s) (hm :
    (7555786379621702903464859 &&& m₀ == 7555786379621702903464859) = true) : Keeps m₀ s₀ (State.release s k pins) :=
    by
  refine k₀.step (w' := 7555786379621702903464859) ?_ hm
  unfold State.release
  try dsimp only
  repeat' first
    | (with_reducible exact Keeps.refl)
    | (with_reducible refine Keeps.wr ?_ ?_)
    | (with_reducible refine Keeps.ite ?_ ?_)
    | (with_reducible refine State.clocksOn_keeps ?_ ?_)
    | (with_reducible refine State.openTick_keeps ?_ ?_)
    | (with_reducible refine State.reachBoundary_keeps ?_ ?_)
    | (with_reducible refine State.sampleInputs_keeps ?_ ?_)
    | (with_reducible refine State.setTick_keeps ?_ ?_)
    | (with_reducible refine State.takeHeld_keeps ?_ ?_)
    | (with_reducible refine State.voidSequence_keeps ?_ ?_)
    | exact (rfl : _ = true)

theorem State.takeCommand_keeps {s s₀ : State} {ni ch m₀ : Nat} {g : State → State} (h : Keeps m₀ s₀ s)
    (hm : (7253554924718045609001883 &&& m₀ == 7253554924718045609001883) = true) (hg : ∀ t, Keeps m₀ t (g t)) : Keeps m₀ s₀ (s.takeCommand ni ch g) := by
  have hv := State.voidTick_keeps (cause := 0x06) (unit := 0) (place := ni / 16) h (Keeps.sub_of rfl hm)
  have hg' : Keeps m₀ s₀ (g s) := h.step (hg s) (by simp)
  unfold State.takeCommand
  dsimp only
  repeat' split
  · exact h
  · exact hv
  · exact State.recordDone_keeps hg' (Keeps.sub_of rfl hm)
  · exact hg'

theorem State.answerRead_keeps {s : State} {ni ch type peer seq status : Nat} {body : List Quad} {m₀ s₀} (k₀ : Keeps
    m₀ s₀ s) (hm : (171798691856 &&& m₀ == 171798691856) = true) : Keeps m₀ s₀ (State.answerRead s ni ch type peer seq
    status body) := by
  refine k₀.step (w' := 171798691856) ?_ hm
  unfold State.answerRead
  try dsimp only
  repeat' first
    | (with_reducible exact Keeps.refl)
    | (with_reducible refine State.deliverDecided_keeps ?_ ?_)
    | exact (rfl : _ = true)
    | assumption
    | split
    | (with_reducible refine Keeps.set_txns ?_ ?_)

theorem State.mread_keeps {s : State} {ni ch m i q : Nat} {m₀ s₀} (k₀ : Keeps m₀ s₀ s) (hm :
    (7253554924718045609001883 &&& m₀ == 7253554924718045609001883) = true) : Keeps m₀ s₀ (State.mread s ni ch m i q)
    := by
  refine k₀.step (w' := 7253554924718045609001883) ?_ hm
  unfold State.mread
  try dsimp only
  repeat' first
    | (with_reducible exact Keeps.refl)
    | (with_reducible refine Keeps.ite ?_ ?_)
    | (with_reducible refine State.answerRead_keeps ?_ ?_)
    | (with_reducible refine State.consumePoison_keeps ?_ ?_)
    | exact (rfl : _ = true)
    | assumption
    | split

theorem State.mcount_keeps {s : State} {ni ch m : Nat} {m₀ s₀} (k₀ : Keeps m₀ s₀ s) (hm : (171798691856 &&& m₀ ==
    171798691856) = true) : Keeps m₀ s₀ (State.mcount s ni ch m) := by
  refine k₀.step (w' := 171798691856) ?_ hm
  unfold State.mcount
  try dsimp only
  repeat' first
    | (with_reducible exact Keeps.refl)
    | (with_reducible refine Keeps.ite ?_ ?_)
    | (with_reducible refine State.answerRead_keeps ?_ ?_)
    | exact (rfl : _ = true)

theorem execFabricRequestIssue_keeps (d k c entry : Nat) (auto : Bool) (type count mbox addr seq prio aux : Nat)
    (words : List Nat) (t : Nat) (bad : List Nat) (s : State) {t' : State} (ho : execFabricRequestIssue d k c entry auto type count mbox addr seq prio aux words t s bad = .next t') : Keeps 7253554924718045609264027 s t' := by
  unfold execFabricRequestIssue at ho
  refine actCore_keeps ho ?_
  try dsimp only
  repeat' first
    | (with_reducible exact Keeps.refl)
    | (with_reducible refine Keeps.at ?_ ?_)
    | (with_reducible refine Keeps.ite ?_ ?_)
    | (with_reducible refine State.issue_keeps ?_ ?_)
    | (with_reducible refine State.mcount_keeps ?_ ?_)
    | (with_reducible refine State.mread_keeps ?_ ?_)
    | (with_reducible refine State.strikeLines_keeps ?_ ?_)
    | (with_reducible refine State.takeCommand_keeps ?_ ?_ (fun _ => ?_))
    | exact (rfl : _ = true)
    | assumption
    | split

theorem execMread_keeps (d k c m i q t : Nat) (s : State) {t' : State} (ho : execMread d k c m i q t s = .next t') :
    Keeps 7253554924718045609264027 s t' := by
  unfold execMread at ho
  refine actCore_keeps ho ?_
  try dsimp only
  repeat' first
    | (with_reducible exact Keeps.refl)
    | (with_reducible refine Keeps.at ?_ ?_)
    | (with_reducible refine Keeps.ite ?_ ?_)
    | (with_reducible refine State.mread_keeps ?_ ?_)
    | (with_reducible refine State.takeCommand_keeps ?_ ?_ (fun _ => ?_))
    | exact (rfl : _ = true)

theorem execMcount_keeps (d k c m t : Nat) (s : State) {t' : State} (ho : execMcount d k c m t s = .next t') : Keeps
    7253554924718045609264027 s t' := by
  unfold execMcount at ho
  refine actCore_keeps ho ?_
  try dsimp only
  repeat' first
    | (with_reducible exact Keeps.refl)
    | (with_reducible refine Keeps.at ?_ ?_)
    | (with_reducible refine Keeps.ite ?_ ?_)
    | (with_reducible refine State.mcount_keeps ?_ ?_)
    | (with_reducible refine State.takeCommand_keeps ?_ ?_ (fun _ => ?_))
    | exact (rfl : _ = true)

theorem State.discardBad_keeps {s : State} {p : Pkt} {m₀ s₀} (k₀ : Keeps m₀ s₀ s) (hm : (7253554924718045609001883 &&&
    m₀ == 7253554924718045609001883) = true) : Keeps m₀ s₀ (State.discardBad s p) := by
  refine k₀.step (w' := 7253554924718045609001883) ?_ hm
  unfold State.discardBad
  try dsimp only
  repeat' first
    | (with_reducible exact Keeps.refl)
    | (with_reducible refine Keeps.inc ?_ ?_)
    | (with_reducible refine Keeps.ite ?_ ?_)
    | (with_reducible refine State.voidTick_keeps ?_ ?_)
    | exact (rfl : _ = true)

theorem State.arrive_keeps {s s₀ : State} {p : Pkt} {ok : Bool} {m₀ : Nat} {g : State → State} (h : Keeps m₀ s₀ s)
    (hm : (7253554924718045609001883 &&& m₀ == 7253554924718045609001883) = true) (hg : ∀ t, Keeps m₀ t (g t)) : Keeps m₀ s₀ (s.arrive p ok g) := by
  unfold State.arrive
  dsimp only
  split
  · split
    · exact Keeps.step (State.deliverOut_keeps h (by exact Keeps.sub_of rfl hm)) (hg _) (by simp)
    · exact State.discardBad_keeps (State.deliverOut_keeps h (by exact Keeps.sub_of rfl hm)) (by exact Keeps.sub_of rfl hm)
  · exact h

theorem execMboxRequest_keeps (p : Pkt) (s : State) {t' : State} (ho : execMboxRequest p s = .next t') : Keeps
    7253554924718045609001883 s t' := by
  unfold execMboxRequest at ho
  refine actCore_keeps ho ?_
  try dsimp only
  repeat' first
    | (with_reducible exact Keeps.refl)
    | (with_reducible refine Keeps.ite ?_ ?_)
    | (with_reducible refine State.arrive_keeps ?_ ?_ (fun _ => ?_))
    | (with_reducible refine State.fileMbox_keeps ?_ ?_)
    | (with_reducible refine State.respond_keeps ?_ ?_)
    | (with_reducible refine State.respondErr_keeps ?_ ?_)
    | (with_reducible refine State.voidTick_keeps ?_ ?_)
    | exact (rfl : _ = true)

theorem execPostRequest_keeps (p : Pkt) (s : State) {t' : State} (ho : execPostRequest p s = .next t') : Keeps
    7253554924718045609001883 s t' := by
  unfold execPostRequest at ho
  refine actCore_keeps ho ?_
  try dsimp only
  repeat' first
    | (with_reducible exact Keeps.refl)
    | (with_reducible refine Keeps.ite ?_ ?_)
    | (with_reducible refine State.arrive_keeps ?_ ?_ (fun _ => ?_))
    | (with_reducible refine State.respond_keeps ?_ ?_)
    | (with_reducible refine State.respondErr_keeps ?_ ?_)
    | exact (rfl : _ = true)
    | assumption
    | split
    | (with_reducible refine Keeps.set_delivered ?_ ?_)

theorem State.fillFrom_keeps {s : State} {t : Txn} {p : Pkt} {l : List Quad} {m₀ s₀} (k₀ : Keeps m₀ s₀ s) (hm :
    (536870912 &&& m₀ == 536870912) = true) : Keeps m₀ s₀ (State.fillFrom s t p l) := by
  refine k₀.step (w' := 536870912) ?_ hm
  unfold State.fillFrom
  try dsimp only
  repeat' first
    | (with_reducible exact Keeps.refl)
    | (with_reducible refine Keeps.ite ?_ ?_)
    | (with_reducible refine Keeps.each (fun _ _ => ?_) ?_)
    | (with_reducible refine State.fillLine_keeps ?_ ?_)
    | exact (rfl : _ = true)

theorem execResponseArrival_keeps (p : Pkt) (t : Nat) (s : State) {t' : State} (ho : execResponseArrival p s t = .next
    t') : Keeps 7253554924718045609264027 s t' := by
  unfold execResponseArrival at ho
  refine actCore_keeps ho ?_
  try dsimp only
  repeat' first
    | (with_reducible exact Keeps.refl)
    | (with_reducible refine Keeps.inc ?_ ?_)
    | (with_reducible refine Keeps.at ?_ ?_)
    | (with_reducible refine Keeps.ite ?_ ?_)
    | (with_reducible refine State.arrive_keeps ?_ ?_ (fun _ => ?_))
    | (with_reducible refine State.consumePoison_keeps ?_ ?_)
    | (with_reducible refine State.decide'_keeps ?_ ?_)
    | (with_reducible refine State.fillFrom_keeps ?_ ?_)
    | (with_reducible refine State.recordDone_keeps ?_ ?_)
    | (with_reducible refine State.retryWaits_keeps ?_ ?_)
    | exact (rfl : _ = true)
    | assumption
    | split
    | (with_reducible refine Keeps.set_quarantine ?_ ?_)

theorem execRequestTimeout_keeps (u k tid : Nat) (s : State) {t' : State} (ho : execRequestTimeout u k tid s = .next
    t') : Keeps 267899109400 s t' := by
  unfold execRequestTimeout at ho
  refine actCore_keeps ho ?_
  try dsimp only
  repeat' first
    | (with_reducible exact Keeps.refl)
    | (with_reducible refine Keeps.inc ?_ ?_)
    | (with_reducible refine Keeps.spend ?_ ?_)
    | (with_reducible refine Keeps.ite ?_ ?_)
    | (with_reducible refine Keeps.doIf (fun _ => ?_) ?_)
    | (with_reducible refine State.decide'_keeps ?_ ?_)
    | (with_reducible refine State.retryWaits_keeps ?_ ?_)
    | exact (rfl : _ = true)
    | assumption
    | split

theorem execTidQuarantineExpiry_keeps (u k tid : Nat) (s : State) {t' : State} (ho : execTidQuarantineExpiry u k tid s
    = .next t') : Keeps 267898585112 s t' := by
  unfold execTidQuarantineExpiry at ho
  refine actCore_keeps ho ?_
  try dsimp only
  repeat' first
    | (with_reducible exact Keeps.refl)
    | (with_reducible refine State.retryWaits_keeps ?_ ?_)
    | exact (rfl : _ = true)
    | assumption
    | split
    | (with_reducible refine Keeps.set_quarantine ?_ ?_)

theorem execRouterClose_keeps (u r : Nat) (s : State) {t' : State} (ho : execRouterClose u r s = .next t') : Keeps 16
    s t' := by
  unfold execRouterClose at ho
  refine actCore_keeps ho ?_
  try dsimp only
  repeat' first
    | (with_reducible exact Keeps.refl)
    | (with_reducible refine Keeps.wr ?_ ?_)
    | (with_reducible refine Keeps.ite ?_ ?_)
    | exact (rfl : _ = true)

theorem State.takeTopology_keeps {s : State} {u r : Nat} {m₀ s₀} (k₀ : Keeps m₀ s₀ s) (hm : (16 &&& m₀ == 16) = true)
    : Keeps m₀ s₀ (State.takeTopology s u r) := by
  refine k₀.step (w' := 16) ?_ hm
  unfold State.takeTopology
  try dsimp only
  repeat' first
    | (with_reducible exact Keeps.refl)
    | (with_reducible refine Keeps.wr ?_ ?_)
    | exact (rfl : _ = true)

theorem execRouterClosed_keeps (u r : Nat) (s : State) {t' : State} (ho : execRouterClosed u r s = .next t') : Keeps
    16 s t' := by
  unfold execRouterClosed at ho
  refine actCore_keeps ho ?_
  try dsimp only
  repeat' first
    | (with_reducible exact Keeps.refl)
    | (with_reducible refine Keeps.wr ?_ ?_)
    | (with_reducible refine Keeps.ite ?_ ?_)
    | exact (rfl : _ = true)

theorem execRouterCloseTimeout_keeps (u r : Nat) (s : State) {t' : State} (ho : execRouterCloseTimeout u r s = .next
    t') : Keeps 267898585112 s t' := by
  unfold execRouterCloseTimeout at ho
  refine actCore_keeps ho ?_
  try dsimp only
  repeat' first
    | (with_reducible exact Keeps.refl)
    | (with_reducible refine Keeps.wr ?_ ?_)
    | (with_reducible refine Keeps.ite ?_ ?_)
    | (with_reducible refine State.releaseHolds_keeps ?_ ?_)
    | (with_reducible refine State.retryWaits_keeps ?_ ?_)
    | exact (rfl : _ = true)

theorem execRouterOpen_keeps (u r : Nat) (s : State) {t' : State} (ho : execRouterOpen u r s = .next t') : Keeps
    267898585112 s t' := by
  unfold execRouterOpen at ho
  refine actCore_keeps ho ?_
  try dsimp only
  repeat' first
    | (with_reducible exact Keeps.refl)
    | (with_reducible refine Keeps.wr ?_ ?_)
    | (with_reducible refine Keeps.ite ?_ ?_)
    | (with_reducible refine State.releaseHolds_keeps ?_ ?_)
    | (with_reducible refine State.retryWaits_keeps ?_ ?_)
    | (with_reducible refine State.takeTopology_keeps ?_ ?_)
    | exact (rfl : _ = true)

theorem execRouterCfgWrite_keeps (u r reg v : Nat) (s : State) {t' : State} (ho : execRouterCfgWrite u r reg v s =
    .next t') : Keeps 16 s t' := by
  unfold execRouterCfgWrite at ho
  refine actCore_keeps ho ?_
  try dsimp only
  repeat' first
    | (with_reducible exact Keeps.refl)
    | (with_reducible refine Keeps.wr ?_ ?_)
    | (with_reducible refine Keeps.ite ?_ ?_)
    | exact (rfl : _ = true)

theorem State.setFabState_keeps {s : State} {u k v : Nat} {m₀ s₀} (k₀ : Keeps m₀ s₀ s) (hm : (16 &&& m₀ == 16) = true)
    : Keeps m₀ s₀ (State.setFabState s u k v) := by
  refine k₀.step (w' := 16) ?_ hm
  unfold State.setFabState
  try dsimp only
  repeat' first
    | (with_reducible exact Keeps.refl)
    | (with_reducible refine Keeps.wr ?_ ?_)
    | (with_reducible refine Keeps.ite ?_ ?_)
    | exact (rfl : _ = true)

theorem State.drain_keeps {s : State} {u k : Nat} {m₀ s₀} (k₀ : Keeps m₀ s₀ s) (hm : (16 &&& m₀ == 16) = true) : Keeps
    m₀ s₀ (State.drain s u k) := by
  refine k₀.step (w' := 16) ?_ hm
  unfold State.drain
  try dsimp only
  repeat' first
    | (with_reducible exact Keeps.refl)
    | (with_reducible refine Keeps.wr ?_ ?_)
    | (with_reducible refine Keeps.ite ?_ ?_)
    | (with_reducible refine State.setFabState_keeps ?_ ?_)
    | exact (rfl : _ = true)

theorem execDomainDrain_keeps (d k : Nat) (s : State) {t' : State} (ho : execDomainDrain d k s = .next t') : Keeps 16
    s t' := by
  unfold execDomainDrain at ho
  refine actCore_keeps ho ?_
  try dsimp only
  repeat' first
    | (with_reducible exact Keeps.refl)
    | (with_reducible refine Keeps.ite ?_ ?_)
    | (with_reducible refine State.drain_keeps ?_ ?_)
    | exact (rfl : _ = true)

theorem State.closeGate_keeps {s : State} {u k : Nat} {m₀ s₀} (k₀ : Keeps m₀ s₀ s) (hm : (817654399128 &&& m₀ ==
    817654399128) = true) : Keeps m₀ s₀ (State.closeGate s u k) := by
  refine k₀.step (w' := 817654399128) ?_ hm
  unfold State.closeGate
  try dsimp only
  repeat' first
    | (with_reducible exact Keeps.refl)
    | (with_reducible refine Keeps.wr ?_ ?_)
    | (with_reducible refine Keeps.ite ?_ ?_)
    | (with_reducible refine State.abandon_keeps ?_ ?_)
    | (with_reducible refine State.decide'_keeps ?_ ?_)
    | (with_reducible refine State.retryWaits_keeps ?_ ?_)
    | (with_reducible refine State.setFabState_keeps ?_ ?_)
    | exact (rfl : _ = true)

theorem execDrainGateClose_keeps (d k : Nat) (s : State) {t' : State} (ho : execDrainGateClose d k s = .next t') :
    Keeps 817654399128 s t' := by
  unfold execDrainGateClose at ho
  refine actCore_keeps ho ?_
  try dsimp only
  repeat' first
    | (with_reducible exact Keeps.refl)
    | (with_reducible refine Keeps.ite ?_ ?_)
    | (with_reducible refine State.closeGate_keeps ?_ ?_)
    | exact (rfl : _ = true)

theorem State.queueArrive_keeps {s s₀ : State} {p : Pkt} {op m₀ : Nat} {g : State → State} (h : Keeps m₀ s₀ s)
    (hm : (7253554924718045609001883 &&& m₀ == 7253554924718045609001883) = true) (hg : ∀ t, Keeps m₀ t (g t)) : Keeps m₀ s₀ (s.queueArrive p op g) :=
  State.arrive_keeps h hm hg

theorem State.failQueue_keeps {s : State} {q : Nat} {m₀ s₀} (k₀ : Keeps m₀ s₀ s) (hm : (7253554924718045609001883 &&&
    m₀ == 7253554924718045609001883) = true) : Keeps m₀ s₀ (State.failQueue s q) := by
  refine k₀.step (w' := 7253554924718045609001883) ?_ hm
  unfold State.failQueue
  try dsimp only
  repeat' first
    | (with_reducible exact Keeps.refl)
    | (with_reducible refine Keeps.ite ?_ ?_)
    | (with_reducible refine State.loseQueue_keeps ?_ ?_)
    | (with_reducible refine State.voidTick_keeps ?_ ?_)
    | exact (rfl : _ = true)

theorem State.reachQueue_keeps {s : State} {u : QUpset} {q : Nat} {m₀ s₀} (k₀ : Keeps m₀ s₀ s) (hm :
    (7253554924718045609001883 &&& m₀ == 7253554924718045609001883) = true) : Keeps m₀ s₀ (State.reachQueue s u q) :=
    by
  refine k₀.step (w' := 7253554924718045609001883) ?_ hm
  unfold State.reachQueue
  try dsimp only
  repeat' first
    | (with_reducible exact Keeps.refl)
    | (with_reducible refine Keeps.ite ?_ ?_)
    | (with_reducible refine State.failQueue_keeps ?_ ?_)
    | (with_reducible refine State.strike_keeps ?_ ?_)
    | exact (rfl : _ = true)

theorem execQueuePush_keeps (p : Pkt) (u : QUpset) (s : State) {t' : State} (ho : execQueuePush p s u = .next t') :
    Keeps 7253554924718045609526171 s t' := by
  unfold execQueuePush at ho
  refine actCore_keeps ho ?_
  try dsimp only
  repeat' first
    | (with_reducible exact Keeps.refl)
    | (with_reducible refine State.markDrop_keeps ?_ ?_)
    | (with_reducible refine State.queueArrive_keeps ?_ ?_ (fun _ => ?_))
    | (with_reducible refine State.reachQueue_keeps ?_ ?_)
    | (with_reducible refine State.respond_keeps ?_ ?_)
    | (with_reducible refine State.respondErr_keeps ?_ ?_)
    | (with_reducible refine State.storePush_keeps ?_ ?_)
    | (with_reducible refine State.voidTick_keeps ?_ ?_)
    | exact (rfl : _ = true)
    | assumption
    | split

theorem State.servePop_keeps {s : State} {q count : Nat} {tentative : Bool} {m₀ s₀} (k₀ : Keeps m₀ s₀ s) (hm :
    (1649270653056 &&& m₀ == 1649270653056) = true) : Keeps m₀ s₀ (State.servePop s q count tentative).2 := by
  refine k₀.step (w' := 1649270653056) ?_ hm
  unfold State.servePop
  try dsimp only
  repeat' first
    | (with_reducible exact Keeps.refl)
    | (with_reducible refine Keeps.ite ?_ ?_)
    | (with_reducible refine Keeps.ite_snd ?_ ?_)
    | (with_reducible refine State.qPop_keeps ?_ ?_)
    | (refine State.qPop_keeps_eq (by assumption) ?_ ?_)
    | exact (rfl : _ = true)

theorem State.servePop_keeps_eq {s : State} {q count : Nat} {tentative : Bool} {x} {s'' : State} (e : State.servePop s
    q count tentative = (x, s'')) {m₀ s₀} (k₀ : Keeps m₀ s₀ s) (hm : (1649270653056 &&& m₀ == 1649270653056) = true) :
    Keeps m₀ s₀ s'' := by
  have := State.servePop_keeps (s := s) (q := q) (count := count) (tentative := tentative) k₀ hm
  rwa [e] at this

theorem execQueuePop_keeps (p : Pkt) (u : QUpset) (s : State) {t' : State} (ho : execQueuePop p u s = .next t') :
    Keeps 7253554924718045609001883 s t' := by
  unfold execQueuePop at ho
  refine actCore_keeps ho ?_
  try dsimp only
  repeat' first
    | (with_reducible exact Keeps.refl)
    | (with_reducible refine Keeps.ite ?_ ?_)
    | (with_reducible refine State.queueArrive_keeps ?_ ?_ (fun _ => ?_))
    | (with_reducible refine State.reachQueue_keeps ?_ ?_)
    | (with_reducible refine State.respond_keeps ?_ ?_)
    | (with_reducible refine State.respondErr_keeps ?_ ?_)
    | (with_reducible refine State.servePop_keeps ?_ ?_)
    | (refine State.servePop_keeps_eq (by assumption) ?_ ?_)
    | exact (rfl : _ = true)

theorem State.servePeek_keeps {s : State} {q count : Nat} {m₀ s₀} (k₀ : Keeps m₀ s₀ s) (hm : (549759025280 &&& m₀ ==
    549759025280) = true) : Keeps m₀ s₀ (State.servePeek s q count).2 := by
  refine k₀.step (w' := 549759025280) ?_ hm
  unfold State.servePeek
  try dsimp only
  repeat' first
    | (with_reducible exact Keeps.refl)
    | (with_reducible refine Keeps.ite ?_ ?_)
    | (with_reducible refine Keeps.ite_snd ?_ ?_)
    | (with_reducible refine State.fixHead_keeps ?_ ?_)
    | (with_reducible refine State.noteSlots_keeps ?_ ?_)
    | exact (rfl : _ = true)

theorem State.servePeek_keeps_eq {s : State} {q count : Nat} {x} {s'' : State} (e : State.servePeek s q count = (x,
    s'')) {m₀ s₀} (k₀ : Keeps m₀ s₀ s) (hm : (549759025280 &&& m₀ == 549759025280) = true) : Keeps m₀ s₀ s'' := by
  have := State.servePeek_keeps (s := s) (q := q) (count := count) k₀ hm
  rwa [e] at this

theorem execQueuePeek_keeps (p : Pkt) (u : QUpset) (s : State) {t' : State} (ho : execQueuePeek p s u = .next t') :
    Keeps 7253554924718045609001883 s t' := by
  unfold execQueuePeek at ho
  refine actCore_keeps ho ?_
  try dsimp only
  repeat' first
    | (with_reducible exact Keeps.refl)
    | (with_reducible refine Keeps.ite ?_ ?_)
    | (with_reducible refine State.queueArrive_keeps ?_ ?_ (fun _ => ?_))
    | (with_reducible refine State.reachQueue_keeps ?_ ?_)
    | (with_reducible refine State.respond_keeps ?_ ?_)
    | (with_reducible refine State.respondErr_keeps ?_ ?_)
    | (with_reducible refine State.servePeek_keeps ?_ ?_)
    | (refine State.servePeek_keeps_eq (by assumption) ?_ ?_)
    | exact (rfl : _ = true)

theorem execQueueQopReserved_keeps (p : Pkt) (s : State) {t' : State} (ho : execQueueQopReserved p s = .next t') :
    Keeps 7253554924718045609001883 s t' := by
  unfold execQueueQopReserved at ho
  refine actCore_keeps ho ?_
  try dsimp only
  repeat' first
    | (with_reducible exact Keeps.refl)
    | (with_reducible refine State.queueArrive_keeps ?_ ?_ (fun _ => ?_))
    | (with_reducible refine State.respondErr_keeps ?_ ?_)
    | exact (rfl : _ = true)

theorem State.popReg_keeps {s : State} {q src : Nat} {u : QUpset} {m₀ s₀} (k₀ : Keeps m₀ s₀ s) (hm :
    (16925026045239336990606239 &&& m₀ == 16925026045239336990606239) = true) : Keeps m₀ s₀ (State.popReg s q src u).2
    := by
  refine k₀.step (w' := 16925026045239336990606239) ?_ hm
  unfold State.popReg
  try dsimp only
  repeat' first
    | (with_reducible exact Keeps.refl)
    | (with_reducible refine Keeps.wr ?_ ?_)
    | (with_reducible refine Keeps.ite ?_ ?_)
    | (with_reducible refine Keeps.ite_snd ?_ ?_)
    | (with_reducible refine State.idle_keeps ?_ ?_)
    | (with_reducible refine State.reachQueue_keeps ?_ ?_)
    | (with_reducible refine State.servePop_keeps ?_ ?_)
    | (refine State.servePop_keeps_eq (by assumption) ?_ ?_)
    | exact (rfl : _ = true)

theorem State.popReg_keeps_eq {s : State} {q src : Nat} {u : QUpset} {x} {s'' : State} (e : State.popReg s q src u =
    (x, s'')) {m₀ s₀} (k₀ : Keeps m₀ s₀ s) (hm : (16925026045239336990606239 &&& m₀ == 16925026045239336990606239) =
    true) : Keeps m₀ s₀ s'' := by
  have := State.popReg_keeps (s := s) (q := q) (src := src) (u := u) k₀ hm
  rwa [e] at this

theorem State.peekReg_keeps {s : State} {q : Nat} {u : QUpset} {m₀ s₀} (k₀ : Keeps m₀ s₀ s) (hm :
    (7253554924718045609001883 &&& m₀ == 7253554924718045609001883) = true) : Keeps m₀ s₀ (State.peekReg s q u).2 :=
    by
  refine k₀.step (w' := 7253554924718045609001883) ?_ hm
  unfold State.peekReg
  try dsimp only
  repeat' first
    | (with_reducible exact Keeps.refl)
    | (with_reducible refine Keeps.ite ?_ ?_)
    | (with_reducible refine Keeps.ite_snd ?_ ?_)
    | (with_reducible refine State.reachQueue_keeps ?_ ?_)
    | (with_reducible refine State.servePeek_keeps ?_ ?_)
    | (refine State.servePeek_keeps_eq (by assumption) ?_ ?_)
    | exact (rfl : _ = true)

theorem State.peekReg_keeps_eq {s : State} {q : Nat} {u : QUpset} {x} {s'' : State} (e : State.peekReg s q u = (x,
    s'')) {m₀ s₀} (k₀ : Keeps m₀ s₀ s) (hm : (7253554924718045609001883 &&& m₀ == 7253554924718045609001883) = true) :
    Keeps m₀ s₀ s'' := by
  have := State.peekReg_keeps (s := s) (q := q) (u := u) k₀ hm
  rwa [e] at this

theorem State.pushReg_keeps {s : State} {q src : Nat} {last : Bool} {i : QItem} {m₀ s₀} (k₀ : Keeps m₀ s₀ s) (hm :
    (7253554924718045609526171 &&& m₀ == 7253554924718045609526171) = true) : Keeps m₀ s₀ (State.pushReg s q src last
    i).2 := by
  refine k₀.step (w' := 7253554924718045609526171) ?_ hm
  unfold State.pushReg
  try dsimp only
  repeat' first
    | (with_reducible exact Keeps.refl)
    | (with_reducible refine State.markDrop_keeps ?_ ?_)
    | (with_reducible refine State.reachQueue_keeps ?_ ?_)
    | (with_reducible refine State.storePush_keeps ?_ ?_)
    | exact (rfl : _ = true)
    | assumption
    | split

theorem State.pushReg_keeps_eq {s : State} {q src : Nat} {last : Bool} {i : QItem} {x} {s'' : State} (e :
    State.pushReg s q src last i = (x, s'')) {m₀ s₀} (k₀ : Keeps m₀ s₀ s) (hm : (7253554924718045609526171 &&& m₀ ==
    7253554924718045609526171) = true) : Keeps m₀ s₀ s'' := by
  have := State.pushReg_keeps (s := s) (q := q) (src := src) (last := last) (i := i) k₀ hm
  rwa [e] at this

theorem execQmPopRead_keeps (q src : Nat) (u : QUpset) (s : State) {t' : State} (ho : execQmPopRead q src u s = .next
    t') : Keeps 16925026045239336998994847 s t' := by
  unfold execQmPopRead at ho
  refine actCore_keeps ho ?_
  try dsimp only
  repeat' first
    | (with_reducible exact Keeps.refl)
    | (with_reducible refine Keeps.emit ?_ ?_)
    | (with_reducible refine State.popReg_keeps ?_ ?_)
    | (refine State.popReg_keeps_eq (by assumption) ?_ ?_)
    | exact (rfl : _ = true)
    | assumption
    | split

theorem execQmPeekRead_keeps (q src : Nat) (u : QUpset) (s : State) {t' : State} (ho : execQmPeekRead q src s u =
    .next t') : Keeps 7253554924718045617390491 s t' := by
  unfold execQmPeekRead at ho
  refine actCore_keeps ho ?_
  try dsimp only
  repeat' first
    | (with_reducible exact Keeps.refl)
    | (with_reducible refine Keeps.emit ?_ ?_)
    | (with_reducible refine State.peekReg_keeps ?_ ?_)
    | (refine State.peekReg_keeps_eq (by assumption) ?_ ?_)
    | exact (rfl : _ = true)
    | assumption
    | split

theorem State.answerPush_keeps {s₀ : State} {src : Nat} {r : Nat × State} {m₀ : Nat} (h : Keeps m₀ s₀ r.2)
    (hm : (8388608 &&& m₀ == 8388608) = true) : Keeps m₀ s₀ (State.answerPush src r) := by
  unfold State.answerPush
  split
  · exact h
  · exact h.step (w' := 8388608) (Keeps.emit rfl Keeps.refl) hm

theorem execQmPushWrite_keeps (q src v : Nat) (s : State) {t' : State} (ho : execQmPushWrite q src v s = .next t') :
    Keeps 7253554924718045617914779 s t' := by
  unfold execQmPushWrite at ho
  refine actCore_keeps ho ?_
  try dsimp only
  repeat' first
    | (with_reducible exact Keeps.refl)
    | (with_reducible refine State.answerPush_keeps ?_ ?_)
    | (with_reducible refine State.pushReg_keeps ?_ ?_)
    | (refine State.pushReg_keeps_eq (by assumption) ?_ ?_)
    | exact (rfl : _ = true)

theorem execQmPushendWrite_keeps (q src v : Nat) (s : State) {t' : State} (ho : execQmPushendWrite q src v s = .next
    t') : Keeps 7253554924718045617914779 s t' := by
  unfold execQmPushendWrite at ho
  refine actCore_keeps ho ?_
  try dsimp only
  repeat' first
    | (with_reducible exact Keeps.refl)
    | (with_reducible refine State.answerPush_keeps ?_ ?_)
    | (with_reducible refine State.pushReg_keeps ?_ ?_)
    | (refine State.pushReg_keeps_eq (by assumption) ?_ ?_)
    | exact (rfl : _ = true)

theorem State.queueCommand_keeps {s : State} {q op : Nat} {m₀ s₀} (k₀ : Keeps m₀ s₀ s) (hm :
    (7253554924718045609001883 &&& m₀ == 7253554924718045609001883) = true) : Keeps m₀ s₀ (State.queueCommand s q op)
    := by
  refine k₀.step (w' := 7253554924718045609001883) ?_ hm
  unfold State.queueCommand
  try dsimp only
  repeat' first
    | (with_reducible exact Keeps.refl)
    | (with_reducible refine Keeps.wr ?_ ?_)
    | (with_reducible refine Keeps.ite ?_ ?_)
    | (with_reducible refine State.failQueue_keeps ?_ ?_)
    | exact (rfl : _ = true)
    | assumption
    | split

theorem execQmEnable_keeps (q : Nat) (s : State) {t' : State} (ho : execQmEnable q s = .next t') : Keeps
    7253554924718045609001883 s t' := by
  unfold execQmEnable at ho
  refine actCore_keeps ho ?_
  try dsimp only
  repeat' first
    | (with_reducible exact Keeps.refl)
    | (with_reducible refine State.queueCommand_keeps ?_ ?_)
    | exact (rfl : _ = true)

theorem execQmDisable_keeps (q : Nat) (s : State) {t' : State} (ho : execQmDisable q s = .next t') : Keeps
    7253554924718045609001883 s t' := by
  unfold execQmDisable at ho
  refine actCore_keeps ho ?_
  try dsimp only
  repeat' first
    | (with_reducible exact Keeps.refl)
    | (with_reducible refine State.queueCommand_keeps ?_ ?_)
    | exact (rfl : _ = true)

theorem execQmHoldPush_keeps (q : Nat) (s : State) {t' : State} (ho : execQmHoldPush q s = .next t') : Keeps
    7253554924718045609001883 s t' := by
  unfold execQmHoldPush at ho
  refine actCore_keeps ho ?_
  try dsimp only
  repeat' first
    | (with_reducible exact Keeps.refl)
    | (with_reducible refine State.queueCommand_keeps ?_ ?_)
    | exact (rfl : _ = true)

theorem execQmHoldPop_keeps (q : Nat) (s : State) {t' : State} (ho : execQmHoldPop q s = .next t') : Keeps
    7253554924718045609001883 s t' := by
  unfold execQmHoldPop at ho
  refine actCore_keeps ho ?_
  try dsimp only
  repeat' first
    | (with_reducible exact Keeps.refl)
    | (with_reducible refine State.queueCommand_keeps ?_ ?_)
    | exact (rfl : _ = true)

theorem execQmRelease_keeps (q : Nat) (s : State) {t' : State} (ho : execQmRelease q s = .next t') : Keeps
    7253554924718045609001883 s t' := by
  unfold execQmRelease at ho
  refine actCore_keeps ho ?_
  try dsimp only
  repeat' first
    | (with_reducible exact Keeps.refl)
    | (with_reducible refine State.queueCommand_keeps ?_ ?_)
    | exact (rfl : _ = true)

theorem execQmFlush_keeps (q : Nat) (s : State) {t' : State} (ho : execQmFlush q s = .next t') : Keeps
    7253554924718045609001883 s t' := by
  unfold execQmFlush at ho
  refine actCore_keeps ho ?_
  try dsimp only
  repeat' first
    | (with_reducible exact Keeps.refl)
    | (with_reducible refine State.queueCommand_keeps ?_ ?_)
    | exact (rfl : _ = true)

theorem State.flushDone_keeps {s : State} {q : Nat} {m₀ s₀} (k₀ : Keeps m₀ s₀ s) (hm : (1649274847360 &&& m₀ ==
    1649274847360) = true) : Keeps m₀ s₀ (State.flushDone s q) := by
  refine k₀.step (w' := 1649274847360) ?_ hm
  unfold State.flushDone
  try dsimp only
  repeat' first
    | (with_reducible exact Keeps.refl)
    | (with_reducible refine Keeps.wr ?_ ?_)
    | (with_reducible refine State.emptyQueue_keeps ?_ ?_)
    | (with_reducible refine State.endCond_keeps ?_ ?_)
    | exact (rfl : _ = true)

theorem execQmFlushDone_keeps (q : Nat) (s : State) {t' : State} (ho : execQmFlushDone q s = .next t') : Keeps
    1649274847360 s t' := by
  unfold execQmFlushDone at ho
  refine actCore_keeps ho ?_
  try dsimp only
  repeat' first
    | (with_reducible exact Keeps.refl)
    | (with_reducible refine Keeps.ite ?_ ?_)
    | (with_reducible refine State.flushDone_keeps ?_ ?_)
    | exact (rfl : _ = true)

theorem State.setQcfg_keeps {s : State} {q v : Nat} {m₀ s₀} (k₀ : Keeps m₀ s₀ s) (hm : (128 &&& m₀ == 128) = true) :
    Keeps m₀ s₀ (State.setQcfg s q v) := by
  refine k₀.step (w' := 128) ?_ hm
  unfold State.setQcfg
  try dsimp only
  repeat' first
    | (with_reducible exact Keeps.refl)
    | (with_reducible refine Keeps.wr ?_ ?_)
    | exact (rfl : _ = true)

theorem State.writeQcfg_keeps {s : State} {q v : Nat} {m₀ s₀} (k₀ : Keeps m₀ s₀ s) (hm : (128 &&& m₀ == 128) = true) :
    Keeps m₀ s₀ (State.writeQcfg s q v) := by
  refine k₀.step (w' := 128) ?_ hm
  unfold State.writeQcfg
  try dsimp only
  repeat' first
    | (with_reducible exact Keeps.refl)
    | (with_reducible refine Keeps.wr ?_ ?_)
    | (with_reducible refine Keeps.ite ?_ ?_)
    | (with_reducible refine State.setQcfg_keeps ?_ ?_)
    | exact (rfl : _ = true)

theorem execQmQcfgWrite_keeps (q v : Nat) (s : State) {t' : State} (ho : execQmQcfgWrite q v s = .next t') : Keeps 128
    s t' := by
  unfold execQmQcfgWrite at ho
  refine actCore_keeps ho ?_
  try dsimp only
  repeat' first
    | (with_reducible exact Keeps.refl)
    | (with_reducible refine State.writeQcfg_keeps ?_ ?_)
    | exact (rfl : _ = true)

theorem execQmCntClr_keeps (v : Nat) (s : State) {t' : State} (ho : execQmCntClr v s = .next t') : Keeps 128 s t' := by
  unfold execQmCntClr at ho
  refine actCore_keeps ho ?_
  try dsimp only
  repeat' first
    | (with_reducible exact Keeps.refl)
    | (with_reducible refine Keeps.wr ?_ ?_)
    | (with_reducible refine Keeps.ite ?_ ?_)
    | (with_reducible refine Keeps.each (fun _ _ => ?_) ?_)
    | exact (rfl : _ = true)
    | (simp only [Fld.area]; exact (rfl : _ = true))

theorem execOpenPacketTimeout_keeps (q src prio : Nat) (s : State) {t' : State} (ho : execOpenPacketTimeout q src prio
    s = .next t') : Keeps 549755814016 s t' := by
  unfold execOpenPacketTimeout at ho
  refine actCore_keeps ho ?_
  try dsimp only
  repeat' first
    | (with_reducible exact Keeps.refl)
    | (with_reducible refine State.abandon_keeps ?_ ?_)
    | exact (rfl : _ = true)

theorem State.setRefuse_keeps {s : State} {c : Nat} {m₀ s₀} (k₀ : Keeps m₀ s₀ s) (hm : (1 &&& m₀ == 1) = true) : Keeps
    m₀ s₀ (State.setRefuse s c) := by
  refine k₀.step (w' := 1) ?_ hm
  unfold State.setRefuse
  try dsimp only
  repeat' first
    | (with_reducible exact Keeps.refl)
    | (with_reducible refine Keeps.wr ?_ ?_)
    | exact (rfl : _ = true)

theorem execTickArm_keeps (t : Nat) (s : State) {t' : State} (ho : execTickArm t s = .next t') : Keeps
    27672380555356738189 s t' := by
  unfold execTickArm at ho
  refine actCore_keeps ho ?_
  try dsimp only
  repeat' first
    | (with_reducible exact Keeps.refl)
    | (with_reducible refine Keeps.at ?_ ?_)
    | (with_reducible refine Keeps.ite ?_ ?_)
    | (with_reducible refine State.armFresh_keeps ?_ ?_)
    | (with_reducible refine State.sendStart_keeps ?_ ?_)
    | (with_reducible refine State.setRefuse_keeps ?_ ?_)
    | exact (rfl : _ = true)

theorem execTickResume_keeps (t : Nat) (s : State) {t' : State} (ho : execTickResume t s = .next t') : Keeps
    27670116111159197709 s t' := by
  unfold execTickResume at ho
  refine actCore_keeps ho ?_
  try dsimp only
  repeat' first
    | (with_reducible exact Keeps.refl)
    | (with_reducible refine Keeps.at ?_ ?_)
    | (with_reducible refine Keeps.ite ?_ ?_)
    | (with_reducible refine State.armCommon_keeps ?_ ?_)
    | (with_reducible refine State.setRefuse_keeps ?_ ?_)
    | exact (rfl : _ = true)

theorem execTickPause_keeps (s : State) {t' : State} (ho : execTickPause s = .next t') : Keeps 1 s t' := by
  unfold execTickPause at ho
  refine actCore_keeps ho ?_
  try dsimp only
  repeat' first
    | (with_reducible exact Keeps.refl)
    | (with_reducible refine Keeps.wr ?_ ?_)
    | (with_reducible refine Keeps.ite ?_ ?_)
    | (with_reducible refine State.setRefuse_keeps ?_ ?_)
    | exact (rfl : _ = true)

theorem execTickStop_keeps (s : State) {t' : State} (ho : execTickStop s = .next t') : Keeps 17592193449985 s t' := by
  unfold execTickStop at ho
  refine actCore_keeps ho ?_
  try dsimp only
  repeat' first
    | (with_reducible exact Keeps.refl)
    | (with_reducible refine Keeps.wr ?_ ?_)
    | (with_reducible refine Keeps.ite ?_ ?_)
    | (with_reducible refine State.setRefuse_keeps ?_ ?_)
    | (with_reducible refine State.setTick_keeps ?_ ?_)
    | exact (rfl : _ = true)
    | assumption
    | split
    | (with_reducible refine Keeps.set_ctxStaged ?_ ?_)

theorem State.sampleLatch_keeps {s : State} {o : Nat × Nat × Nat × Nat} {m₀ s₀} (k₀ : Keeps m₀ s₀ s) (hm : (2 &&& m₀
    == 2) = true) : Keeps m₀ s₀ (State.sampleLatch s o) := by
  refine k₀.step (w' := 2) ?_ hm
  unfold State.sampleLatch
  try dsimp only
  repeat' first
    | (with_reducible exact Keeps.refl)
    | (with_reducible refine Keeps.wr ?_ ?_)
    | exact (rfl : _ = true)

theorem State.decideTick_keeps {s : State} {missing : List Nat} {m₀ s₀} (k₀ : Keeps m₀ s₀ s) (hm :
    (7253554924718045609264027 &&& m₀ == 7253554924718045609264027) = true) : Keeps m₀ s₀ (State.decideTick s missing)
    := by
  refine k₀.step (w' := 7253554924718045609264027) ?_ hm
  unfold State.decideTick
  try dsimp only
  repeat' first
    | (with_reducible exact Keeps.refl)
    | (with_reducible refine Keeps.wr ?_ ?_)
    | (with_reducible refine Keeps.at ?_ ?_)
    | (with_reducible refine Keeps.ite ?_ ?_)
    | (with_reducible refine Keeps.each (fun _ _ => ?_) ?_)
    | (with_reducible refine State.sendGroup_keeps ?_ ?_)
    | (with_reducible refine State.voidTick_keeps ?_ ?_)
    | exact (rfl : _ = true)

theorem execDeadlinePulse_keeps (outs : List (Nat × Nat × Nat × Nat)) (missing : List Nat) (s : State) {t' : State}
    (ho : execDeadlinePulse outs missing s = .next t') : Keeps 7253554924718045609264027 s t' := by
  unfold execDeadlinePulse at ho
  refine actCore_keeps ho ?_
  try dsimp only
  repeat' first
    | (with_reducible exact Keeps.refl)
    | (with_reducible refine Keeps.wr ?_ ?_)
    | (with_reducible refine Keeps.at ?_ ?_)
    | (with_reducible refine Keeps.ite ?_ ?_)
    | (with_reducible refine Keeps.each (fun _ _ => ?_) ?_)
    | (with_reducible refine State.decideTick_keeps ?_ ?_)
    | (with_reducible refine State.sampleLatch_keeps ?_ ?_)
    | exact (rfl : _ = true)

theorem execTickWatchdogExpiry_keeps (s : State) {t' : State} (ho : execTickWatchdogExpiry s = .next t') : Keeps
    7253554924718045609264027 s t' := by
  unfold execTickWatchdogExpiry at ho
  refine actCore_keeps ho ?_
  try dsimp only
  repeat' first
    | (with_reducible exact Keeps.refl)
    | (with_reducible refine Keeps.at ?_ ?_)
    | (with_reducible refine Keeps.ite ?_ ?_)
    | (with_reducible refine State.voidTick_keeps ?_ ?_)
    | exact (rfl : _ = true)

theorem execTickWdogKick_keeps (v : Nat) (s : State) {t' : State} (ho : execTickWdogKick v s = .next t') : Keeps 1 s
    t' := by
  unfold execTickWdogKick at ho
  refine actCore_keeps ho ?_
  try dsimp only
  repeat' first
    | (with_reducible exact Keeps.refl)
    | (with_reducible refine Keeps.wr ?_ ?_)
    | (with_reducible refine Keeps.ite ?_ ?_)
    | exact (rfl : _ = true)

theorem execTickWdogPeriodWrite_keeps (v : Nat) (s : State) {t' : State} (ho : execTickWdogPeriodWrite v s = .next t')
    : Keeps 1 s t' := by
  unfold execTickWdogPeriodWrite at ho
  refine actCore_keeps ho ?_
  try dsimp only
  repeat' first
    | (with_reducible exact Keeps.refl)
    | (with_reducible refine Keeps.wr ?_ ?_)
    | exact (rfl : _ = true)

theorem execTickSlackClr_keeps (d v : Nat) (s : State) {t' : State} (ho : execTickSlackClr d v s = .next t') : Keeps 1
    s t' := by
  unfold execTickSlackClr at ho
  refine actCore_keeps ho ?_
  try dsimp only
  repeat' first
    | (with_reducible exact Keeps.refl)
    | (with_reducible refine Keeps.wr ?_ ?_)
    | (with_reducible refine Keeps.ite ?_ ?_)
    | exact (rfl : _ = true)

theorem execPairLoWrite_keeps (p v : Nat) (s : State) {t' : State} (ho : execPairLoWrite p v s = .next t') : Keeps 1 s
    t' := by
  unfold execPairLoWrite at ho
  refine actCore_keeps ho ?_
  try dsimp only
  repeat' first
    | (with_reducible exact Keeps.refl)
    | (with_reducible refine Keeps.wr ?_ ?_)
    | (with_reducible refine Keeps.ite ?_ ?_)
    | exact (rfl : _ = true)
    | assumption
    | split

theorem execPairLoRead_keeps (p : Nat) (s : State) {t' : State} (ho : execPairLoRead p s = .next t') : Keeps 8392705 s
    t' := by
  unfold execPairLoRead at ho
  refine actCore_keeps ho ?_
  try dsimp only
  repeat' first
    | (with_reducible exact Keeps.refl)
    | (with_reducible refine Keeps.wr ?_ ?_)
    | (with_reducible refine Keeps.emit ?_ ?_)
    | (unfold pairLatch; split <;> rfl)
    | exact (rfl : _ = true)

theorem State.unitRises_keeps {s : State} {u k : Nat} {m₀ s₀} (k₀ : Keeps m₀ s₀ s) (hm : (1 &&& m₀ == 1) = true) :
    Keeps m₀ s₀ (State.unitRises s u k) := by
  refine k₀.step (w' := 1) ?_ hm
  unfold State.unitRises
  try dsimp only
  repeat' first
    | (with_reducible exact Keeps.refl)
    | (with_reducible refine Keeps.wr ?_ ?_)
    | (with_reducible refine Keeps.ite ?_ ?_)
    | (with_reducible refine State.recordDone_keeps ?_ ?_)
    | exact (rfl : _ = true)

theorem execUnitDone_keeps (u k t : Nat) (s : State) {t' : State} (ho : execUnitDone u k t s = .next t') : Keeps
    262145 s t' := by
  unfold execUnitDone at ho
  refine actCore_keeps ho ?_
  try dsimp only
  repeat' first
    | (with_reducible exact Keeps.refl)
    | (with_reducible refine Keeps.at ?_ ?_)
    | (with_reducible refine Keeps.ite ?_ ?_)
    | (with_reducible refine State.unitRises_keeps ?_ ?_)
    | exact (rfl : _ = true)

theorem execGroupStart_keeps (p ns per g t0 ks : Nat) (s : State) {t' : State} (ho : execGroupStart p ns per g t0 ks s
    = .next t') : Keeps 27670128755542790285 s t' := by
  unfold execGroupStart at ho
  refine actCore_keeps ho ?_
  try dsimp only
  repeat' first
    | (with_reducible exact Keeps.refl)
    | (with_reducible refine Keeps.wr ?_ ?_)
    | (with_reducible refine Keeps.ite ?_ ?_)
    | (with_reducible refine State.armFresh_keeps ?_ ?_)
    | exact (rfl : _ = true)

theorem State.groupStray_keeps {s : State} {p : Nat} {m₀ s₀} (k₀ : Keeps m₀ s₀ s) (hm : (512 &&& m₀ == 512) = true) :
    Keeps m₀ s₀ (State.groupStray s p) := by
  refine k₀.step (w' := 512) ?_ hm
  unfold State.groupStray
  try dsimp only
  repeat' first
    | (with_reducible exact Keeps.refl)
    | (with_reducible refine Keeps.inc ?_ ?_)
    | exact (rfl : _ = true)

theorem execMemberDecision_keeps (p id n : Nat) (commit : Bool) (cause : Nat) (s : State) {t' : State} (ho :
    execMemberDecision p id n commit cause s = .next t') : Keeps 7253554924718045609001883 s t' := by
  unfold execMemberDecision at ho
  refine actCore_keeps ho ?_
  try dsimp only
  repeat' first
    | (with_reducible exact Keeps.refl)
    | (with_reducible refine Keeps.wr ?_ ?_)
    | (with_reducible refine Keeps.ite ?_ ?_)
    | (with_reducible refine State.groupStray_keeps ?_ ?_)
    | (with_reducible refine State.sendGroup_keeps ?_ ?_)
    | (with_reducible refine State.voidTick_keeps ?_ ?_)
    | exact (rfl : _ = true)

theorem execGroupDecision_keeps (p n : Nat) (commit : Bool) (cause : Nat) (s : State) {t' : State} (ho :
    execGroupDecision p n commit cause s = .next t') : Keeps 7253554924718045609001883 s t' := by
  unfold execGroupDecision at ho
  refine actCore_keeps ho ?_
  try dsimp only
  repeat' first
    | (with_reducible exact Keeps.refl)
    | (with_reducible refine Keeps.wr ?_ ?_)
    | (with_reducible refine Keeps.ite ?_ ?_)
    | (with_reducible refine State.groupStray_keeps ?_ ?_)
    | (with_reducible refine State.voidTick_keeps ?_ ?_)
    | exact (rfl : _ = true)

theorem execGroupDecisionMissing_keeps (s : State) {t' : State} (ho : execGroupDecisionMissing s = .next t') : Keeps
    7253554924718045609264027 s t' := by
  unfold execGroupDecisionMissing at ho
  refine actCore_keeps ho ?_
  try dsimp only
  repeat' first
    | (with_reducible exact Keeps.refl)
    | (with_reducible refine Keeps.at ?_ ?_)
    | (with_reducible refine Keeps.ite ?_ ?_)
    | (with_reducible refine State.voidTick_keeps ?_ ?_)
    | exact (rfl : _ = true)

theorem State.seeDone_keeps {s old : State} {d t : Nat} {m₀ s₀} (k₀ : Keeps m₀ s₀ s) (hm : (3 &&& m₀ == 3) = true) :
    Keeps m₀ s₀ (State.seeDone s old d t) := by
  refine k₀.step (w' := 3) ?_ hm
  unfold State.seeDone
  try dsimp only
  repeat' first
    | (with_reducible exact Keeps.refl)
    | (with_reducible refine Keeps.wr ?_ ?_)
    | (with_reducible refine Keeps.ite ?_ ?_)
    | (with_reducible refine State.unitRises_keeps ?_ ?_)
    | exact (rfl : _ = true)

theorem State.edge_keeps {s : State} {d t : Nat} {m₀ s₀} (k₀ : Keeps m₀ s₀ s) (hm : (64563604257983954951 &&& m₀ ==
    64563604257983954951) = true) : Keeps m₀ s₀ (State.edge s d t) := by
  refine k₀.step (w' := 64563604257983954951) ?_ hm
  unfold State.edge
  try dsimp only
  repeat' first
    | (with_reducible exact Keeps.refl)
    | (with_reducible refine State.clockEdge_keeps ?_ ?_)
    | (with_reducible refine State.seeDone_keeps ?_ ?_)
    | exact (rfl : _ = true)

theorem State.idle_keeps {s : State} {m₀ s₀} (k₀ : Keeps m₀ s₀ s) (hm : (9671471120521291381604359 &&& m₀ ==
    9671471120521291381604359) = true) : Keeps m₀ s₀ (State.idle s) := by
  refine k₀.step (w' := 9671471120521291381604359) ?_ hm
  unfold State.idle
  try dsimp only
  repeat' first
    | (with_reducible exact Keeps.refl)
    | (with_reducible refine State.edge_keeps ?_ ?_)
    | exact (rfl : _ = true)
    | assumption
    | split
    | (with_reducible refine Keeps.set_pending ?_ ?_)

theorem State.ctxWrite_keeps {s : State} {src k : Nat} {words : List Nat} {m₀ s₀} (k₀ : Keeps m₀ s₀ s) (hm :
    (19791209299968 &&& m₀ == 19791209299968) = true) : Keeps m₀ s₀ (State.ctxWrite s src k words).2 := by
  refine k₀.step (w' := 19791209299968) ?_ hm
  unfold State.ctxWrite
  try dsimp only
  repeat' first
    | (with_reducible exact Keeps.refl)
    | (with_reducible refine Keeps.ite ?_ ?_)
    | (with_reducible refine Keeps.ite_snd ?_ ?_)
    | (with_reducible refine Keeps.each (fun _ _ => ?_) ?_)
    | (with_reducible refine State.setCtx_keeps ?_ ?_)
    | exact (rfl : _ = true)
    | (simp only [Fld.area]; exact (rfl : _ = true))
    | assumption
    | split
    | (with_reducible refine Keeps.set_ctxStaged ?_ ?_)

theorem State.ctxWrite_keeps_eq {s : State} {src k : Nat} {words : List Nat} {x} {s'' : State} (e : State.ctxWrite s
    src k words = (x, s'')) {m₀ s₀} (k₀ : Keeps m₀ s₀ s) (hm : (19791209299968 &&& m₀ == 19791209299968) = true) :
    Keeps m₀ s₀ s'' := by
  have := State.ctxWrite_keeps (s := s) (src := src) (k := k) (words := words) k₀ hm
  rwa [e] at this

theorem execContextWrite_keeps (src k : Nat) (words : List Nat) (s : State) {t' : State} (ho : execContextWrite src k
    words s = .next t') : Keeps 19791217688576 s t' := by
  unfold execContextWrite at ho
  refine actCore_keeps ho ?_
  try dsimp only
  repeat' first
    | (with_reducible exact Keeps.refl)
    | (with_reducible refine Keeps.emit ?_ ?_)
    | (with_reducible refine Keeps.ite ?_ ?_)
    | (with_reducible refine State.ctxWrite_keeps ?_ ?_)
    | (refine State.ctxWrite_keeps_eq (by assumption) ?_ ?_)
    | exact (rfl : _ = true)

theorem execFrameHandover_keeps (p t : Nat) (s : State) {t' : State} (ho : execFrameHandover p s t = .next t') : Keeps
    2392537302303489 s t' := by
  unfold execFrameHandover at ho
  refine actCore_keeps ho ?_
  try dsimp only
  repeat' first
    | (with_reducible exact Keeps.refl)
    | (with_reducible refine Keeps.inc ?_ ?_)
    | (with_reducible refine Keeps.at ?_ ?_)
    | (with_reducible refine Keeps.ite ?_ ?_)
    | (with_reducible refine State.giveFrame_keeps ?_ ?_)
    | (with_reducible refine State.plinthDone_keeps ?_ ?_)
    | exact (rfl : _ = true)
    | assumption
    | split
    | (with_reducible refine Keeps.set_built ?_ ?_)

theorem after_keeps {a : Answer} {s s₀ : State} {m₀ : Nat} (h : Keeps m₀ s₀ s) (k : ∀ t, a = .next t → Keeps m₀ s t) :
    Keeps m₀ s₀ (after a s) := by
  unfold after
  split
  · exact h.step (k _ rfl) (by simp)
  · exact h

theorem State.takeRecord_keeps {s : State} {p : Nat} {r : List Nat} {m₀ s₀} (k₀ : Keeps m₀ s₀ s) (hm :
    (7253582594836355196588959 &&& m₀ == 7253582594836355196588959) = true) : Keeps m₀ s₀ (State.takeRecord s p r) :=
    by
  refine k₀.step (w' := 7253582594836355196588959) ?_ hm
  unfold State.takeRecord
  try dsimp only
  repeat' first
    | (with_reducible exact Keeps.refl)
    | (with_reducible refine after_keeps ?_ (fun _ _ => ?_))
    | (refine Keeps.step ?_ (execGroupDecision_keeps _ _ _ _ _ (by assumption)) ?_)
    | (refine Keeps.step ?_ (execGroupStart_keeps _ _ _ _ _ _ _ (by assumption)) ?_)
    | (refine Keeps.step ?_ (execMemberDecision_keeps _ _ _ _ _ _ (by assumption)) ?_)
    | exact (rfl : _ = true)
    | assumption
    | split

theorem State.fileEntries_rec {s₀ s : State} {t j : Nat} {l : List RxEntry} (h : Keeps 4617948839870720 s₀ s) : Keeps
    4617948839870720 s₀ (s.fileEntries t j l) := by
  induction l generalizing s j with
  | nil => unfold State.fileEntries; exact h
  | cons a l ih =>
    unfold State.fileEntries
    try dsimp only
    repeat' first
      | (with_reducible exact h)
      | (with_reducible refine ih ?_)
      | (with_reducible refine State.receiveStatus_keeps ?_ ?_)
      | exact (rfl : _ = true)
      | split
      | (with_reducible refine Keeps.set_rxHeld ?_ ?_)

theorem State.fileEntries_keeps {s s₀ : State} {t j : Nat} {l : List RxEntry} {m₀ : Nat} (h : Keeps m₀ s₀ s) (hm :
    (4617948839870720 &&& m₀ == 4617948839870720) = true) : Keeps m₀ s₀ (s.fileEntries t j l) :=
  h.step (w' := 4617948839870720) (State.fileEntries_rec Keeps.refl) hm

theorem State.takeCaravan_keeps {s : State} {p mac t : Nat} {l : List Nat} {m₀ s₀} (k₀ : Keeps m₀ s₀ s) (hm :
    (7253582594836355196588959 &&& m₀ == 7253582594836355196588959) = true) : Keeps m₀ s₀ (State.takeCaravan s p mac t
    l) := by
  refine k₀.step (w' := 7253582594836355196588959) ?_ hm
  unfold State.takeCaravan
  try dsimp only
  repeat' first
    | (with_reducible exact Keeps.refl)
    | (with_reducible refine Keeps.inc ?_ ?_)
    | (with_reducible refine Keeps.ite ?_ ?_)
    | (with_reducible refine CsrRead.ok_keeps ?_ ?_)
    | (refine CsrRead.ok_keeps_eq (by assumption) ?_ ?_)
    | (with_reducible refine MonRes.ok_keeps ?_ ?_)
    | (refine MonRes.ok_keeps_eq (by assumption) ?_ ?_)
    | (with_reducible refine State.fileEntries_keeps ?_ ?_)
    | (with_reducible refine State.takeRecord_keeps ?_ ?_)
    | exact (rfl : _ = true)
    | assumption
    | split

theorem State.takeFrame_keeps {s : State} {p t : Nat} {l : List Nat} {m₀ s₀} (k₀ : Keeps m₀ s₀ s) (hm :
    (7253582594836355196588959 &&& m₀ == 7253582594836355196588959) = true) : Keeps m₀ s₀ (State.takeFrame s p t l) :=
    by
  refine k₀.step (w' := 7253582594836355196588959) ?_ hm
  unfold State.takeFrame
  try dsimp only
  repeat' first
    | (with_reducible exact Keeps.refl)
    | (with_reducible refine Keeps.inc ?_ ?_)
    | (with_reducible refine Keeps.ite ?_ ?_)
    | (with_reducible refine State.takeCaravan_keeps ?_ ?_)
    | exact (rfl : _ = true)

theorem execCaravanFrameReceived_keeps (p t : Nat) (bytes : List Nat) (s : State) {t' : State} (ho :
    execCaravanFrameReceived p t bytes s = .next t') : Keeps 7253582594836355196851103 s t' := by
  unfold execCaravanFrameReceived at ho
  refine actCore_keeps ho ?_
  try dsimp only
  repeat' first
    | (with_reducible exact Keeps.refl)
    | (with_reducible refine Keeps.at ?_ ?_)
    | (with_reducible refine State.takeFrame_keeps ?_ ?_)
    | exact (rfl : _ = true)

theorem execCvnCntClr_keeps (v : Nat) (s : State) {t' : State} (ho : execCvnCntClr v s = .next t') : Keeps 256 s t' :=
    by
  unfold execCvnCntClr at ho
  refine actCore_keeps ho ?_
  try dsimp only
  repeat' first
    | (with_reducible exact Keeps.refl)
    | (with_reducible refine Keeps.wr ?_ ?_)
    | (with_reducible refine Keeps.ite ?_ ?_)
    | exact (rfl : _ = true)

end Sys2Proof.Machine
end

