-- ==== Sys2Proof/Laws/KeepsBlocks.lean ====
section
/-! SUPPORT. What each operation and each command leaves alone: DRAM, clocks, ports and loads. -/

namespace Sys2Proof.Machine

theorem State.setSlot_keeps {s : State} {i v : Nat} {m₀ s₀} (k₀ : Keeps m₀ s₀ s) (hm : (281474976710656 &&& m₀ ==
    281474976710656) = true) : Keeps m₀ s₀ (State.setSlot s i v) := by
  refine k₀.step (w' := 281474976710656) ?_ hm
  unfold State.setSlot
  try dsimp only
  repeat' first
    | (with_reducible exact Keeps.refl)
    | exact (rfl : _ = true)
    | assumption
    | split
    | (with_reducible refine Keeps.set_dram ?_ ?_)

theorem State.logDram_keeps {s : State} {q kind slot source : Nat} {m₀ s₀} (k₀ : Keeps m₀ s₀ s) (hm : (3212288 &&& m₀
    == 3212288) = true) : Keeps m₀ s₀ (State.logDram s q kind slot source) := by
  refine k₀.step (w' := 3212288) ?_ hm
  unfold State.logDram
  try dsimp only
  repeat' first
    | (with_reducible exact Keeps.refl)
    | (with_reducible refine Keeps.wr ?_ ?_)
    | (with_reducible refine Keeps.ite ?_ ?_)
    | (with_reducible refine State.raiseEvent_keeps ?_ ?_)
    | exact (rfl : _ = true)

theorem State.loseSub_keeps {s : State} {q : Nat} {m₀ s₀} (k₀ : Keeps m₀ s₀ s) (hm : (1407374883554304 &&& m₀ ==
    1407374883554304) = true) : Keeps m₀ s₀ (State.loseSub s q) := by
  refine k₀.step (w' := 1407374883554304) ?_ hm
  unfold State.loseSub
  try dsimp only
  repeat' first
    | (with_reducible exact Keeps.refl)
    | ((with_reducible refine Keeps.resetKeys ?_ ?_); · (rintro ⟨f, u, j⟩ hk; cases f <;> first | (simp only [Fld.area]; rfl) | exact Bool.noConfusion (show false = true from hk)))
    | exact (rfl : _ = true)
    | (simp only [Fld.area]; exact (rfl : _ = true))
    | exact Or.inr rfl
    | exact Or.inl rfl
    | assumption
    | split
    | (with_reducible refine Keeps.set_dram ?_ ?_)
    | (with_reducible refine Keeps.set_dramWrites ?_ ?_)
    | (with_reducible refine Keeps.upd ?_ ?_ ?_ ?_ ?_ ?_ ?_ ?_ ?_ ?_ ?_ ?_ ?_ ?_ ?_ ?_ ?_ ?_ ?_ ?_ ?_ ?_ ?_ ?_ ?_ ?_ ?_ ?_ ?_ ?_ ?_ ?_ ?_ ?_ ?_ ?_ ?_ ?_ ?_ ?_ ?_ ?_ ?_ ?_ ?_ ?_ ?_ ?_ ?_ ?_ ?_ ?_ ?_ ?_ ?_ ?_ ?_ ?_ ?_ ?_ ?_ ?_ ?_ ?_ ?_ ?_ ?_)

theorem State.respondPoisoned_keeps {s : State} {p : Pkt} {m₀ s₀} (k₀ : Keeps m₀ s₀ s) (hm : (9663676432 &&& m₀ ==
    9663676432) = true) : Keeps m₀ s₀ (State.respondPoisoned s p) := by
  refine k₀.step (w' := 9663676432) ?_ hm
  unfold State.respondPoisoned
  try dsimp only
  repeat' first
    | (with_reducible exact Keeps.refl)
    | (with_reducible refine State.respond_keeps ?_ ?_)
    | exact (rfl : _ = true)

theorem State.failRequest_keeps {s : State} {p : Pkt} {m₀ s₀} (k₀ : Keeps m₀ s₀ s) (hm : (7253554924718045609001883
    &&& m₀ == 7253554924718045609001883) = true) : Keeps m₀ s₀ (State.failRequest s p) := by
  refine k₀.step (w' := 7253554924718045609001883) ?_ hm
  unfold State.failRequest
  try dsimp only
  repeat' first
    | (with_reducible exact Keeps.refl)
    | (with_reducible refine Keeps.ite ?_ ?_)
    | (with_reducible refine State.consumePoison_keeps ?_ ?_)
    | (with_reducible refine State.respondErr_keeps ?_ ?_)
    | (with_reducible refine State.respondPoisoned_keeps ?_ ?_)
    | exact (rfl : _ = true)

theorem State.postWrite_keeps {s : State} {q : Nat} {p : Pkt} {m₀ s₀} (k₀ : Keeps m₀ s₀ s) (hm : (1125909570519056 &&&
    m₀ == 1125909570519056) = true) : Keeps m₀ s₀ (State.postWrite s q p) := by
  refine k₀.step (w' := 1125909570519056) ?_ hm
  unfold State.postWrite
  try dsimp only
  repeat' first
    | (with_reducible exact Keeps.refl)
    | (with_reducible refine State.respond_keeps ?_ ?_)
    | exact (rfl : _ = true)
    | assumption
    | split
    | (with_reducible refine Keeps.set_dramWrites ?_ ?_)

theorem State.promoteFrom_rec {s₀ s : State} {q : Nat} {ahead l : List DramReq} (h : Keeps 1688859523940368 s₀ s) :
    Keeps 1688859523940368 s₀ (State.promoteFrom q ahead l s) := by
  induction l generalizing s ahead with
  | nil => unfold State.promoteFrom; exact h
  | cons a l ih =>
    unfold State.promoteFrom
    try dsimp only
    repeat' first
      | (with_reducible exact h)
      | (with_reducible refine ih ?_)
      | (with_reducible refine State.postWrite_keeps ?_ ?_)
      | exact (rfl : _ = true)
      | split
      | (with_reducible refine Keeps.set_dramReqs ?_ ?_)

theorem State.promoteFrom_keeps {s s₀ : State} {q : Nat} {ahead l : List DramReq} {m₀ : Nat} (h : Keeps m₀ s₀ s) (hm :
    (1688859523940368 &&& m₀ == 1688859523940368) = true) : Keeps m₀ s₀ (State.promoteFrom q ahead l s) :=
  h.step (w' := 1688859523940368) (State.promoteFrom_rec Keeps.refl) hm

theorem State.promoteWrites_keeps {s : State} {q : Nat} {m₀ s₀} (k₀ : Keeps m₀ s₀ s) (hm : (1688859523940368 &&& m₀ ==
    1688859523940368) = true) : Keeps m₀ s₀ (State.promoteWrites s q) := by
  refine k₀.step (w' := 1688859523940368) ?_ hm
  unfold State.promoteWrites
  try dsimp only
  repeat' first
    | (with_reducible exact Keeps.refl)
    | (with_reducible refine State.promoteFrom_keeps ?_ ?_)
    | exact (rfl : _ = true)

theorem State.takeSlot_keeps {s : State} {q i source : Nat} {flips : List (Nat × Nat × Nat)} {m₀ s₀} (k₀ : Keeps m₀ s₀
    s) (hm : (1407374886765568 &&& m₀ == 1407374886765568) = true) : Keeps m₀ s₀ (State.takeSlot s q i source flips).2
    := by
  refine k₀.step (w' := 1407374886765568) ?_ hm
  unfold State.takeSlot
  try dsimp only
  repeat' first
    | (with_reducible exact Keeps.refl)
    | (with_reducible refine Keeps.inc ?_ ?_)
    | (with_reducible refine Keeps.ite ?_ ?_)
    | (with_reducible refine Keeps.ite_snd ?_ ?_)
    | (with_reducible refine State.logDram_keeps ?_ ?_)
    | (with_reducible refine State.setSlot_keeps ?_ ?_)
    | exact (rfl : _ = true)
    | assumption
    | split
    | (with_reducible refine Keeps.set_dramWrites ?_ ?_)

theorem State.takeSlot_keeps_eq {s : State} {q i source : Nat} {flips : List (Nat × Nat × Nat)} {x} {s'' : State} (e :
    State.takeSlot s q i source flips = (x, s'')) {m₀ s₀} (k₀ : Keeps m₀ s₀ s) (hm : (1407374886765568 &&& m₀ ==
    1407374886765568) = true) : Keeps m₀ s₀ s'' := by
  have := State.takeSlot_keeps (s := s) (q := q) (i := i) (source := source) (flips := flips) k₀ hm
  rwa [e] at this

theorem State.takeSlots_rec {s₀ s : State} {q source : Nat} {flips : List (Nat × Nat × Nat)} {l : List Nat} (h : Keeps
    1407374886765568 s₀ s) : Keeps 1407374886765568 s₀ (s.takeSlots q source flips l).2 := by
  induction l generalizing s with
  | nil => unfold State.takeSlots; exact h
  | cons a l ih =>
    unfold State.takeSlots
    try dsimp only
    repeat' first
      | (with_reducible exact h)
      | (with_reducible refine ih ?_)
      | (with_reducible refine State.takeSlot_keeps ?_ ?_)
      | exact (rfl : _ = true)

theorem State.takeSlots_keeps {s s₀ : State} {q source : Nat} {flips : List (Nat × Nat × Nat)} {l : List Nat} {m₀ :
    Nat} (h : Keeps m₀ s₀ s) (hm : (1407374886765568 &&& m₀ == 1407374886765568) = true) : Keeps m₀ s₀ (s.takeSlots q
    source flips l).2 :=
  h.step (w' := 1407374886765568) (State.takeSlots_rec Keeps.refl) hm

theorem State.takeSlots_keeps_eq {s s₀ s'' : State} {q source : Nat} {flips : List (Nat × Nat × Nat)} {l : List Nat}
    {x} (e : s.takeSlots q source flips l = (x, s'')) {m₀ : Nat} (h : Keeps m₀ s₀ s) (hm : (1407374886765568 &&& m₀ ==
    1407374886765568) = true) : Keeps m₀ s₀ s'' := by
  have := State.takeSlots_keeps (l := l) h hm (s := s) (q := q) (source := source) (flips := flips)
  rwa [e] at this

theorem State.openRowOf_keeps {s : State} {q i : Nat} {m₀ s₀} (k₀ : Keeps m₀ s₀ s) (hm : (1024 &&& m₀ == 1024) = true)
    : Keeps m₀ s₀ (State.openRowOf s q i) := by
  refine k₀.step (w' := 1024) ?_ hm
  unfold State.openRowOf
  try dsimp only
  repeat' first
    | (with_reducible exact Keeps.refl)
    | (with_reducible refine Keeps.wr ?_ ?_)
    | exact (rfl : _ = true)

theorem State.landWrite_keeps {s : State} {w : DramWrite} {m₀ s₀} (k₀ : Keeps m₀ s₀ s) (hm : (1407374883554304 &&& m₀
    == 1407374883554304) = true) : Keeps m₀ s₀ (State.landWrite s w) := by
  refine k₀.step (w' := 1407374883554304) ?_ hm
  unfold State.landWrite
  try dsimp only
  repeat' first
    | (with_reducible exact Keeps.refl)
    | (with_reducible refine Keeps.inc ?_ ?_)
    | (with_reducible refine Keeps.ite ?_ ?_)
    | (with_reducible refine Keeps.each (fun _ _ => ?_) ?_)
    | (with_reducible refine State.openRowOf_keeps ?_ ?_)
    | (with_reducible refine State.setSlot_keeps ?_ ?_)
    | exact (rfl : _ = true)
    | assumption
    | split
    | (with_reducible refine Keeps.set_dramWrites ?_ ?_)

theorem State.noteLatency_keeps {s : State} {r : DramReq} {m₀ s₀} (k₀ : Keeps m₀ s₀ s) (hm : (263168 &&& m₀ == 263168)
    = true) : Keeps m₀ s₀ (State.noteLatency s r) := by
  refine k₀.step (w' := 263168) ?_ hm
  unfold State.noteLatency
  try dsimp only
  repeat' first
    | (with_reducible exact Keeps.refl)
    | (with_reducible refine Keeps.wr ?_ ?_)
    | (with_reducible refine Keeps.ite ?_ ?_)
    | exact (rfl : _ = true)

theorem State.columnRead_keeps {s : State} {r : DramReq} {flips : List (Nat × Nat × Nat)} {m₀ s₀} (k₀ : Keeps m₀ s₀ s)
    (hm : (1970334504125456 &&& m₀ == 1970334504125456) = true) : Keeps m₀ s₀ (State.columnRead s r flips) := by
  refine k₀.step (w' := 1970334504125456) ?_ hm
  unfold State.columnRead
  try dsimp only
  repeat' first
    | (with_reducible exact Keeps.refl)
    | (with_reducible refine Keeps.ite ?_ ?_)
    | (with_reducible refine State.noteLatency_keeps ?_ ?_)
    | (with_reducible refine State.openRowOf_keeps ?_ ?_)
    | (with_reducible refine State.respond_keeps ?_ ?_)
    | (with_reducible refine State.takeSlots_keeps ?_ ?_)
    | (refine State.takeSlots_keeps_eq (by assumption) ?_ ?_)
    | exact (rfl : _ = true)
    | assumption
    | split
    | (with_reducible refine Keeps.set_dramReqs ?_ ?_)

theorem State.column_keeps {s : State} {q : Nat} {flips : List (Nat × Nat × Nat)} {m₀ s₀} (k₀ : Keeps m₀ s₀ s) (hm :
    (1970334504125456 &&& m₀ == 1970334504125456) = true) : Keeps m₀ s₀ (State.column s q flips) := by
  refine k₀.step (w' := 1970334504125456) ?_ hm
  unfold State.column
  try dsimp only
  repeat' first
    | (with_reducible exact Keeps.refl)
    | (with_reducible refine Keeps.wr ?_ ?_)
    | (with_reducible refine Keeps.ite ?_ ?_)
    | (with_reducible refine State.columnRead_keeps ?_ ?_)
    | (with_reducible refine State.landWrite_keeps ?_ ?_)
    | (with_reducible refine State.promoteWrites_keeps ?_ ?_)
    | exact (rfl : _ = true)
    | assumption
    | split

theorem execDramColumnCommand_keeps (q t : Nat) (flips : List (Nat × Nat × Nat)) (s : State) {t' : State} (ho :
    execDramColumnCommand q t flips s = .next t') : Keeps 1970334504125456 s t' := by
  unfold execDramColumnCommand at ho
  refine actCore_keeps ho ?_
  try dsimp only
  repeat' first
    | (with_reducible exact Keeps.refl)
    | (with_reducible refine Keeps.at ?_ ?_)
    | (with_reducible refine Keeps.ite ?_ ?_)
    | (with_reducible refine State.column_keeps ?_ ?_)
    | exact (rfl : _ = true)

theorem execDramWriteBack_keeps (q : Nat) (s : State) {t' : State} (ho : execDramWriteBack q s = .next t') : Keeps
    1407374883554304 s t' := by
  unfold execDramWriteBack at ho
  refine actCore_keeps ho ?_
  try dsimp only
  repeat' first
    | (with_reducible exact Keeps.refl)
    | (with_reducible refine Keeps.ite ?_ ?_)
    | (with_reducible refine State.landWrite_keeps ?_ ?_)
    | exact (rfl : _ = true)
    | assumption
    | split

theorem State.failSub_keeps {s : State} {q fail : Nat} {m₀ s₀} (k₀ : Keeps m₀ s₀ s) (hm : (7253554926406895469266843
    &&& m₀ == 7253554926406895469266843) = true) : Keeps m₀ s₀ (State.failSub s q fail) := by
  refine k₀.step (w' := 7253554926406895469266843) ?_ hm
  unfold State.failSub
  try dsimp only
  repeat' first
    | (with_reducible exact Keeps.refl)
    | (with_reducible refine Keeps.wr ?_ ?_)
    | (with_reducible refine Keeps.each (fun _ _ => ?_) ?_)
    | (with_reducible refine State.failRequest_keeps ?_ ?_)
    | (with_reducible refine State.raiseCond_keeps ?_ ?_)
    | exact (rfl : _ = true)
    | (simp only [Fld.area]; exact (rfl : _ = true))
    | exact Or.inr rfl
    | exact Or.inl rfl
    | assumption
    | split
    | (with_reducible refine Keeps.set_dramReqs ?_ ?_)
    | (with_reducible refine Keeps.set_dramWrites ?_ ?_)
    | (with_reducible refine Keeps.upd ?_ ?_ ?_ ?_ ?_ ?_ ?_ ?_ ?_ ?_ ?_ ?_ ?_ ?_ ?_ ?_ ?_ ?_ ?_ ?_ ?_ ?_ ?_ ?_ ?_ ?_ ?_ ?_ ?_ ?_ ?_ ?_ ?_ ?_ ?_ ?_ ?_ ?_ ?_ ?_ ?_ ?_ ?_ ?_ ?_ ?_ ?_ ?_ ?_ ?_ ?_ ?_ ?_ ?_ ?_ ?_ ?_ ?_ ?_ ?_ ?_ ?_ ?_ ?_ ?_ ?_ ?_)

theorem execWriteCrcFailure_keeps (q : Nat) (s : State) {t' : State} (ho : execWriteCrcFailure q s = .next t') : Keeps
    7253554926406895469266843 s t' := by
  unfold execWriteCrcFailure at ho
  refine actCore_keeps ho ?_
  try dsimp only
  repeat' first
    | (with_reducible exact Keeps.refl)
    | (with_reducible refine Keeps.inc ?_ ?_)
    | (with_reducible refine Keeps.ite ?_ ?_)
    | (with_reducible refine State.failSub_keeps ?_ ?_)
    | (with_reducible refine State.logDram_keeps ?_ ?_)
    | exact (rfl : _ = true)
    | assumption
    | split
    | (with_reducible refine Keeps.set_dramWrites ?_ ?_)

theorem State.refuseWaiting_keeps {s : State} {q : Nat} {m₀ s₀} (k₀ : Keeps m₀ s₀ s) (hm : (562959617097744 &&& m₀ ==
    562959617097744) = true) : Keeps m₀ s₀ (State.refuseWaiting s q) := by
  refine k₀.step (w' := 562959617097744) ?_ hm
  unfold State.refuseWaiting
  try dsimp only
  repeat' first
    | (with_reducible exact Keeps.refl)
    | (with_reducible refine Keeps.each (fun _ _ => ?_) ?_)
    | (with_reducible refine State.respondErr_keeps ?_ ?_)
    | exact (rfl : _ = true)
    | assumption
    | split
    | (with_reducible refine Keeps.set_dramReqs ?_ ?_)

theorem State.startTraining_keeps {s : State} {q : Nat} {m₀ s₀} (k₀ : Keeps m₀ s₀ s) (hm : (1970334508057616 &&& m₀ ==
    1970334508057616) = true) : Keeps m₀ s₀ (State.startTraining s q) := by
  refine k₀.step (w' := 1970334508057616) ?_ hm
  unfold State.startTraining
  try dsimp only
  repeat' first
    | (with_reducible exact Keeps.refl)
    | (with_reducible refine Keeps.wr ?_ ?_)
    | (with_reducible refine State.endCond_keeps ?_ ?_)
    | (with_reducible refine State.loseSub_keeps ?_ ?_)
    | (with_reducible refine State.refuseWaiting_keeps ?_ ?_)
    | exact (rfl : _ = true)

theorem State.ddrSettle_keeps {s : State} {m₀ s₀} (k₀ : Keeps m₀ s₀ s) (hm : (1024 &&& m₀ == 1024) = true) : Keeps m₀
    s₀ (State.ddrSettle s) := by
  refine k₀.step (w' := 1024) ?_ hm
  unfold State.ddrSettle
  try dsimp only
  repeat' first
    | (with_reducible exact Keeps.refl)
    | (with_reducible refine Keeps.wr ?_ ?_)
    | (with_reducible refine Keeps.ite ?_ ?_)
    | exact (rfl : _ = true)

theorem execDramInit_keeps (q step : Nat) (ok : Bool) (s : State) {t' : State} (ho : execDramInit q step ok s = .next
    t') : Keeps 7253554926688370445977499 s t' := by
  unfold execDramInit at ho
  refine actCore_keeps ho ?_
  try dsimp only
  repeat' first
    | (with_reducible exact Keeps.refl)
    | (with_reducible refine Keeps.wr ?_ ?_)
    | (with_reducible refine Keeps.ite ?_ ?_)
    | (with_reducible refine CsrRead.ok_keeps ?_ ?_)
    | (refine CsrRead.ok_keeps_eq (by assumption) ?_ ?_)
    | (with_reducible refine MonRes.ok_keeps ?_ ?_)
    | (refine MonRes.ok_keeps_eq (by assumption) ?_ ?_)
    | (with_reducible refine State.ddrSettle_keeps ?_ ?_)
    | (with_reducible refine State.failSub_keeps ?_ ?_)
    | (with_reducible refine State.logDram_keeps ?_ ?_)
    | (with_reducible refine State.loseSub_keeps ?_ ?_)
    | (with_reducible refine State.startTraining_keeps ?_ ?_)
    | exact (rfl : _ = true)

theorem State.ddrBlank_keeps {s : State} {m₀ s₀} (k₀ : Keeps m₀ s₀ s) (hm : (1970334500652048 &&& m₀ ==
    1970334500652048) = true) : Keeps m₀ s₀ (State.ddrBlank s) := by
  refine k₀.step (w' := 1970334500652048) ?_ hm
  unfold State.ddrBlank
  try dsimp only
  repeat' first
    | (with_reducible exact Keeps.refl)
    | (with_reducible refine Keeps.wr ?_ ?_)
    | (with_reducible refine Keeps.ite ?_ ?_)
    | (with_reducible refine Keeps.each (fun _ _ => ?_) ?_)
    | ((with_reducible refine Keeps.resetKeys ?_ ?_); · (rintro ⟨f, u, j⟩ hk; cases f <;> first | (simp only [Fld.area]; rfl) | exact Bool.noConfusion (show false = true from hk)))
    | (with_reducible refine State.loseSub_keeps ?_ ?_)
    | (with_reducible refine State.refuseWaiting_keeps ?_ ?_)
    | exact (rfl : _ = true)

theorem State.ddrCommand_keeps {s : State} {op q : Nat} {m₀ s₀} (k₀ : Keeps m₀ s₀ s) (hm : (1970334508057616 &&& m₀ ==
    1970334508057616) = true) : Keeps m₀ s₀ (State.ddrCommand s op q) := by
  refine k₀.step (w' := 1970334508057616) ?_ hm
  unfold State.ddrCommand
  try dsimp only
  repeat' first
    | (with_reducible exact Keeps.refl)
    | (with_reducible refine Keeps.wr ?_ ?_)
    | (with_reducible refine Keeps.ite ?_ ?_)
    | (with_reducible refine State.ddrBlank_keeps ?_ ?_)
    | (with_reducible refine State.startTraining_keeps ?_ ?_)
    | exact (rfl : _ = true)

theorem execDramBlank_keeps (s : State) {t' : State} (ho : execDramBlank s = .next t') : Keeps 1970334508057616 s t'
    := by
  unfold execDramBlank at ho
  refine actCore_keeps ho ?_
  try dsimp only
  repeat' first
    | (with_reducible exact Keeps.refl)
    | (with_reducible refine State.ddrCommand_keeps ?_ ?_)
    | exact (rfl : _ = true)

theorem execDramRetrain_keeps (q : Nat) (s : State) {t' : State} (ho : execDramRetrain q s = .next t') : Keeps
    1970334508057616 s t' := by
  unfold execDramRetrain at ho
  refine actCore_keeps ho ?_
  try dsimp only
  repeat' first
    | (with_reducible exact Keeps.refl)
    | (with_reducible refine State.ddrCommand_keeps ?_ ?_)
    | exact (rfl : _ = true)

theorem State.ddrLosesClock_keeps {s : State} {m₀ s₀} (k₀ : Keeps m₀ s₀ s) (hm : (1970334508057616 &&& m₀ ==
    1970334508057616) = true) : Keeps m₀ s₀ (State.ddrLosesClock s) := by
  refine k₀.step (w' := 1970334508057616) ?_ hm
  unfold State.ddrLosesClock
  try dsimp only
  repeat' first
    | (with_reducible exact Keeps.refl)
    | (with_reducible refine Keeps.each (fun _ _ => ?_) ?_)
    | (with_reducible refine State.startTraining_keeps ?_ ?_)
    | exact (rfl : _ = true)

theorem execRefresh_keeps (q : Nat) (s : State) {t' : State} (ho : execRefresh q s = .next t') : Keeps 1024 s t' := by
  unfold execRefresh at ho
  refine actCore_keeps ho ?_
  try dsimp only
  repeat' first
    | (with_reducible exact Keeps.refl)
    | (with_reducible refine Keeps.inc ?_ ?_)
    | (with_reducible refine Keeps.ite ?_ ?_)
    | ((with_reducible refine Keeps.resetKeys ?_ ?_); · (rintro ⟨f, u, j⟩ hk; cases f <;> first | (simp only [Fld.area]; rfl) | exact Bool.noConfusion (show false = true from hk)))
    | exact (rfl : _ = true)

theorem execMr4Read_keeps (q temp : Nat) (s : State) {t' : State} (ho : execMr4Read q temp s = .next t') : Keeps
    3212288 s t' := by
  unfold execMr4Read at ho
  refine actCore_keeps ho ?_
  try dsimp only
  repeat' first
    | (with_reducible exact Keeps.refl)
    | (with_reducible refine Keeps.wr ?_ ?_)
    | (with_reducible refine Keeps.ite ?_ ?_)
    | (with_reducible refine State.raiseEvent_keeps ?_ ?_)
    | exact (rfl : _ = true)

theorem execZqCalibration_keeps (q : Nat) (s : State) {t' : State} (ho : execZqCalibration q s = .next t') : Keeps 0 s
    t' := by
  unfold execZqCalibration at ho
  refine actCore_keeps ho ?_
  try dsimp only
  repeat' first
    | (with_reducible exact Keeps.refl)

theorem execDqsOscillator_keeps (q : Nat) (s : State) {t' : State} (ho : execDqsOscillator q s = .next t') : Keeps 0 s
    t' := by
  unfold execDqsOscillator at ho
  refine actCore_keeps ho ?_
  try dsimp only
  repeat' first
    | (with_reducible exact Keeps.refl)

theorem execEcsRead_keeps (q count : Nat) (s : State) {t' : State} (ho : execEcsRead q count s = .next t') : Keeps
    1024 s t' := by
  unfold execEcsRead at ho
  refine actCore_keeps ho ?_
  try dsimp only
  repeat' first
    | (with_reducible exact Keeps.refl)
    | (with_reducible refine Keeps.wr ?_ ?_)
    | (with_reducible refine Keeps.ite ?_ ?_)
    | exact (rfl : _ = true)

theorem State.patrolOn_keeps {s : State} {q : Nat} {m₀ s₀} (k₀ : Keeps m₀ s₀ s) (hm : (1024 &&& m₀ == 1024) = true) :
    Keeps m₀ s₀ (State.patrolOn s q) := by
  refine k₀.step (w' := 1024) ?_ hm
  unfold State.patrolOn
  try dsimp only
  repeat' first
    | (with_reducible exact Keeps.refl)
    | (with_reducible refine Keeps.wr ?_ ?_)
    | (with_reducible refine Keeps.inc ?_ ?_)
    | (with_reducible refine Keeps.ite ?_ ?_)
    | (with_reducible refine Keeps.foldl (fun _ _ => ?_) ?_)
    | exact (rfl : _ = true)

theorem execPatrolRead_keeps (q : Nat) (flips : List (Nat × Nat × Nat)) (s : State) {t' : State} (ho : execPatrolRead
    q flips s = .next t') : Keeps 1407374886765568 s t' := by
  unfold execPatrolRead at ho
  refine actCore_keeps ho ?_
  try dsimp only
  repeat' first
    | (with_reducible exact Keeps.refl)
    | (with_reducible refine Keeps.ite ?_ ?_)
    | (with_reducible refine State.patrolOn_keeps ?_ ?_)
    | (with_reducible refine State.takeSlots_keeps ?_ ?_)
    | (refine State.takeSlots_keeps_eq (by assumption) ?_ ?_)
    | exact (rfl : _ = true)

theorem execRowClose_keeps (q b : Nat) (s : State) {t' : State} (ho : execRowClose q b s = .next t') : Keeps 1024 s t'
    := by
  unfold execRowClose at ho
  refine actCore_keeps ho ?_
  try dsimp only
  repeat' first
    | (with_reducible exact Keeps.refl)
    | (with_reducible refine Keeps.wr ?_ ?_)
    | exact (rfl : _ = true)

theorem execDdrCntClr_keeps (v : Nat) (s : State) {t' : State} (ho : execDdrCntClr v s = .next t') : Keeps 1024 s t'
    := by
  unfold execDdrCntClr at ho
  refine actCore_keeps ho ?_
  try dsimp only
  repeat' first
    | (with_reducible exact Keeps.refl)
    | (with_reducible refine Keeps.ite ?_ ?_)
    | ((with_reducible refine Keeps.resetKeys ?_ ?_); · (rintro ⟨f, u, j⟩ hk; cases f <;> first | (simp only [Fld.area]; rfl) | exact Bool.noConfusion (show false = true from hk)))

theorem State.loseLock_keeps {s : State} {m₀ s₀} (k₀ : Keeps m₀ s₀ s) (hm : (7253554924718045609001883 &&& m₀ ==
    7253554924718045609001883) = true) : Keeps m₀ s₀ (State.loseLock s) := by
  refine k₀.step (w' := 7253554924718045609001883) ?_ hm
  unfold State.loseLock
  try dsimp only
  repeat' first
    | (with_reducible exact Keeps.refl)
    | (with_reducible refine Keeps.wr ?_ ?_)
    | (with_reducible refine Keeps.ite ?_ ?_)
    | (with_reducible refine State.raiseCond_keeps ?_ ?_)
    | (with_reducible refine State.setLocked_keeps ?_ ?_)
    | (with_reducible refine State.voidTick_keeps ?_ ?_)
    | exact (rfl : _ = true)

theorem State.gainLock_keeps {s : State} {m₀ s₀} (k₀ : Keeps m₀ s₀ s) (hm : (7405569 &&& m₀ == 7405569) = true) :
    Keeps m₀ s₀ (State.gainLock s) := by
  refine k₀.step (w' := 7405569) ?_ hm
  unfold State.gainLock
  try dsimp only
  repeat' first
    | (with_reducible exact Keeps.refl)
    | (with_reducible refine State.endConds_keeps ?_ ?_)
    | (with_reducible refine State.setLocked_keeps ?_ ?_)
    | exact (rfl : _ = true)

theorem State.decideLock_keeps {s : State} {within : Bool} {m₀ s₀} (k₀ : Keeps m₀ s₀ s) (hm :
    (7253554924718045609001883 &&& m₀ == 7253554924718045609001883) = true) : Keeps m₀ s₀ (State.decideLock s within)
    := by
  refine k₀.step (w' := 7253554924718045609001883) ?_ hm
  unfold State.decideLock
  try dsimp only
  repeat' first
    | (with_reducible exact Keeps.refl)
    | (with_reducible refine Keeps.wr ?_ ?_)
    | (with_reducible refine Keeps.ite ?_ ?_)
    | (with_reducible refine State.gainLock_keeps ?_ ?_)
    | (with_reducible refine State.loseLock_keeps ?_ ?_)
    | exact (rfl : _ = true)

theorem State.servo_keeps {s : State} {o : Int} {dt : Nat} {m₀ s₀} (k₀ : Keeps m₀ s₀ s) (hm : (526336 &&& m₀ ==
    526336) = true) : Keeps m₀ s₀ (State.servo s o dt) := by
  refine k₀.step (w' := 526336) ?_ hm
  unfold State.servo
  try dsimp only
  repeat' first
    | (with_reducible exact Keeps.refl)
    | (with_reducible refine Keeps.wr ?_ ?_)
    | (with_reducible refine Keeps.spend ?_ ?_)
    | (with_reducible refine Keeps.ite ?_ ?_)
    | exact (rfl : _ = true)

theorem State.sourceUpdate_keeps {s : State} {t src dt : Nat} {m₀ s₀} (k₀ : Keeps m₀ s₀ s) (hm :
    (7253554924718045609790363 &&& m₀ == 7253554924718045609790363) = true) : Keeps m₀ s₀ (State.sourceUpdate s t src
    dt) := by
  refine k₀.step (w' := 7253554924718045609790363) ?_ hm
  unfold State.sourceUpdate
  try dsimp only
  repeat' first
    | (with_reducible exact Keeps.refl)
    | (with_reducible refine Keeps.wr ?_ ?_)
    | (with_reducible refine Keeps.inc ?_ ?_)
    | (with_reducible refine Keeps.spend ?_ ?_)
    | (with_reducible refine Keeps.at ?_ ?_)
    | (with_reducible refine Keeps.ite ?_ ?_)
    | (with_reducible refine State.decideLock_keeps ?_ ?_)
    | (with_reducible refine State.servo_keeps ?_ ?_)
    | exact (rfl : _ = true)

theorem execSourceUpdate_keeps (t src dt : Nat) (s : State) {t' : State} (ho : execSourceUpdate t src dt s = .next t')
    : Keeps 7253554924718045609790363 s t' := by
  unfold execSourceUpdate at ho
  refine actCore_keeps ho ?_
  try dsimp only
  repeat' first
    | (with_reducible exact Keeps.refl)
    | (with_reducible refine Keeps.ite ?_ ?_)
    | (with_reducible refine State.sourceUpdate_keeps ?_ ?_)
    | exact (rfl : _ = true)

theorem State.canEdge_keeps {s : State} {t : Nat} {m₀ s₀} (k₀ : Keeps m₀ s₀ s) (hm : (7253554924718045609790363 &&& m₀
    == 7253554924718045609790363) = true) : Keeps m₀ s₀ (State.canEdge s t) := by
  refine k₀.step (w' := 7253554924718045609790363) ?_ hm
  unfold State.canEdge
  try dsimp only
  repeat' first
    | (with_reducible exact Keeps.refl)
    | (with_reducible refine Keeps.wr ?_ ?_)
    | (with_reducible refine Keeps.spend ?_ ?_)
    | (with_reducible refine Keeps.ite ?_ ?_)
    | (with_reducible refine State.sourceUpdate_keeps ?_ ?_)
    | exact (rfl : _ = true)
    | assumption
    | split

theorem execCanSyncEdge_keeps (c t : Nat) (s : State) {t' : State} (ho : execCanSyncEdge c t s = .next t') : Keeps
    7253554924718045609790363 s t' := by
  unfold execCanSyncEdge at ho
  refine actCore_keeps ho ?_
  try dsimp only
  repeat' first
    | (with_reducible exact Keeps.refl)
    | (with_reducible refine Keeps.ite ?_ ?_)
    | (with_reducible refine State.canEdge_keeps ?_ ?_)
    | exact (rfl : _ = true)

theorem execTimeMessage_keeps (c days ms : Nat) (s : State) {t' : State} (ho : execTimeMessage c days ms s = .next t')
    : Keeps 2048 s t' := by
  unfold execTimeMessage at ho
  refine actCore_keeps ho ?_
  try dsimp only
  repeat' first
    | (with_reducible exact Keeps.refl)
    | (with_reducible refine Keeps.wr ?_ ?_)
    | (with_reducible refine Keeps.ite ?_ ?_)
    | exact (rfl : _ = true)

theorem State.setInput_keeps {s : State} {u x v : Nat} {m₀ s₀} (k₀ : Keeps m₀ s₀ s) (hm : (1970334508059664 &&& m₀ ==
    1970334508059664) = true) : Keeps m₀ s₀ (State.setInput s u x v) := by
  refine k₀.step (w' := 1970334508059664) ?_ hm
  unfold State.setInput
  try dsimp only
  repeat' first
    | (with_reducible exact Keeps.refl)
    | (with_reducible refine Keeps.wr ?_ ?_)
    | (with_reducible refine Keeps.ite ?_ ?_)
    | (with_reducible refine State.ddrLosesClock_keeps ?_ ?_)
    | exact (rfl : _ = true)

theorem State.forceTo_keeps {s : State} {u x v : Nat} {m₀ s₀} (k₀ : Keeps m₀ s₀ s) (hm : (7253554926688370445979547
    &&& m₀ == 7253554926688370445979547) = true) : Keeps m₀ s₀ (State.forceTo s u x v) := by
  refine k₀.step (w' := 7253554926688370445979547) ?_ hm
  unfold State.forceTo
  try dsimp only
  repeat' first
    | (with_reducible exact Keeps.refl)
    | (with_reducible refine Keeps.wr ?_ ?_)
    | (with_reducible refine Keeps.inc ?_ ?_)
    | (with_reducible refine Keeps.ite ?_ ?_)
    | (with_reducible refine State.raiseEvent_keeps ?_ ?_)
    | (with_reducible refine State.setInput_keeps ?_ ?_)
    | (with_reducible refine State.voidTick_keeps ?_ ?_)
    | exact (rfl : _ = true)

theorem execForceSwitch_keeps (u x : Nat) (s : State) {t' : State} (ho : execForceSwitch u x s = .next t') : Keeps
    7253554926688370445979547 s t' := by
  unfold execForceSwitch at ho
  refine actCore_keeps ho ?_
  try dsimp only
  repeat' first
    | (with_reducible exact Keeps.refl)
    | (with_reducible refine Keeps.ite ?_ ?_)
    | (with_reducible refine State.forceTo_keeps ?_ ?_)
    | exact (rfl : _ = true)
    | assumption
    | split

theorem execPllUnlock_keeps (u k : Nat) (s : State) {t' : State} (ho : execPllUnlock u k s = .next t') : Keeps
    1970334508059664 s t' := by
  unfold execPllUnlock at ho
  refine actCore_keeps ho ?_
  try dsimp only
  repeat' first
    | (with_reducible exact Keeps.refl)
    | (with_reducible refine Keeps.wr ?_ ?_)
    | (with_reducible refine Keeps.inc ?_ ?_)
    | (with_reducible refine Keeps.ite ?_ ?_)
    | (with_reducible refine Keeps.each (fun _ _ => ?_) ?_)
    | (with_reducible refine State.raiseEvent_keeps ?_ ?_)
    | (with_reducible refine State.setInput_keeps ?_ ?_)
    | exact (rfl : _ = true)

theorem execAutoReturn_keeps (u x : Nat) (s : State) {t' : State} (ho : execAutoReturn u x s = .next t') : Keeps
    1970334508059664 s t' := by
  unfold execAutoReturn at ho
  refine actCore_keeps ho ?_
  try dsimp only
  repeat' first
    | (with_reducible exact Keeps.refl)
    | (with_reducible refine Keeps.ite ?_ ?_)
    | (with_reducible refine State.setInput_keeps ?_ ?_)
    | exact (rfl : _ = true)

theorem execClkRestore_keeps (u x : Nat) (s : State) {t' : State} (ho : execClkRestore u x s = .next t') : Keeps
    1970334508059664 s t' := by
  unfold execClkRestore at ho
  refine actCore_keeps ho ?_
  try dsimp only
  repeat' first
    | (with_reducible exact Keeps.refl)
    | (with_reducible refine Keeps.wr ?_ ?_)
    | (with_reducible refine Keeps.ite ?_ ?_)
    | (with_reducible refine State.setInput_keeps ?_ ?_)
    | exact (rfl : _ = true)

theorem execClkFallback_keeps (u x : Nat) (s : State) {t' : State} (ho : execClkFallback u x s = .next t') : Keeps
    1970334508059664 s t' := by
  unfold execClkFallback at ho
  refine actCore_keeps ho ?_
  try dsimp only
  repeat' first
    | (with_reducible exact Keeps.refl)
    | (with_reducible refine Keeps.wr ?_ ?_)
    | (with_reducible refine Keeps.ite ?_ ?_)
    | (with_reducible refine State.setInput_keeps ?_ ?_)
    | exact (rfl : _ = true)

theorem State.setFnom_keeps {s : State} {u x : Nat} {m₀ s₀} (k₀ : Keeps m₀ s₀ s) (hm : (2048 &&& m₀ == 2048) = true) :
    Keeps m₀ s₀ (State.setFnom s u x) := by
  refine k₀.step (w' := 2048) ?_ hm
  unfold State.setFnom
  try dsimp only
  repeat' first
    | (with_reducible exact Keeps.refl)
    | (with_reducible refine Keeps.wr ?_ ?_)
    | exact (rfl : _ = true)

theorem State.rewritePll_keeps {s : State} {u k v : Nat} {m₀ s₀} (k₀ : Keeps m₀ s₀ s) (hm : (1970334508059664 &&& m₀
    == 1970334508059664) = true) : Keeps m₀ s₀ (State.rewritePll s u k v) := by
  refine k₀.step (w' := 1970334508059664) ?_ hm
  unfold State.rewritePll
  try dsimp only
  repeat' first
    | (with_reducible exact Keeps.refl)
    | (with_reducible refine Keeps.wr ?_ ?_)
    | (with_reducible refine Keeps.ite ?_ ?_)
    | (with_reducible refine Keeps.each (fun _ _ => ?_) ?_)
    | (with_reducible refine Keeps.foldl (fun _ _ => ?_) ?_)
    | (with_reducible refine State.setFnom_keeps ?_ ?_)
    | (with_reducible refine State.setInput_keeps ?_ ?_)
    | exact (rfl : _ = true)

theorem State.rewriteTree_keeps {s : State} {u x v : Nat} {m₀ s₀} (k₀ : Keeps m₀ s₀ s) (hm : (1970334508059664 &&& m₀
    == 1970334508059664) = true) : Keeps m₀ s₀ (State.rewriteTree s u x v) := by
  refine k₀.step (w' := 1970334508059664) ?_ hm
  unfold State.rewriteTree
  try dsimp only
  repeat' first
    | (with_reducible exact Keeps.refl)
    | (with_reducible refine Keeps.wr ?_ ?_)
    | (with_reducible refine Keeps.ite ?_ ?_)
    | (with_reducible refine State.setFnom_keeps ?_ ?_)
    | (with_reducible refine State.setInput_keeps ?_ ?_)
    | exact (rfl : _ = true)

theorem execPllRewrite_keeps (d : Nat) (tree : Bool) (j v : Nat) (s : State) {t' : State} (ho : execPllRewrite d tree
    j v s = .next t') : Keeps 1970334508059664 s t' := by
  unfold execPllRewrite at ho
  refine actCore_keeps ho ?_
  try dsimp only
  repeat' first
    | (with_reducible exact Keeps.refl)
    | (with_reducible refine Keeps.ite ?_ ?_)
    | (with_reducible refine State.rewritePll_keeps ?_ ?_)
    | (with_reducible refine State.rewriteTree_keeps ?_ ?_)
    | exact (rfl : _ = true)

theorem State.enablePlls_keeps {s : State} {u : Nat} {m₀ s₀} (k₀ : Keeps m₀ s₀ s) (hm : (2048 &&& m₀ == 2048) = true)
    : Keeps m₀ s₀ (State.enablePlls s u) := by
  refine k₀.step (w' := 2048) ?_ hm
  unfold State.enablePlls
  try dsimp only
  repeat' first
    | (with_reducible exact Keeps.refl)
    | (with_reducible refine Keeps.wr ?_ ?_)
    | (with_reducible refine Keeps.ite ?_ ?_)
    | (with_reducible refine Keeps.each (fun _ _ => ?_) ?_)
    | exact (rfl : _ = true)

theorem execPllLock_keeps (u k : Nat) (s : State) {t' : State} (ho : execPllLock u k s = .next t') : Keeps
    1970334508059664 s t' := by
  unfold execPllLock at ho
  refine actCore_keeps ho ?_
  try dsimp only
  repeat' first
    | (with_reducible exact Keeps.refl)
    | (with_reducible refine Keeps.wr ?_ ?_)
    | (with_reducible refine Keeps.ite ?_ ?_)
    | (with_reducible refine Keeps.each (fun _ _ => ?_) ?_)
    | (with_reducible refine State.setInput_keeps ?_ ?_)
    | exact (rfl : _ = true)

theorem execFioReady_keeps (u : Nat) (s : State) {t' : State} (ho : execFioReady u s = .next t') : Keeps
    1970334508059664 s t' := by
  unfold execFioReady at ho
  refine actCore_keeps ho ?_
  try dsimp only
  repeat' first
    | (with_reducible exact Keeps.refl)
    | (with_reducible refine Keeps.wr ?_ ?_)
    | (with_reducible refine Keeps.ite ?_ ?_)
    | (with_reducible refine Keeps.each (fun _ _ => ?_) ?_)
    | (with_reducible refine State.setInput_keeps ?_ ?_)
    | exact (rfl : _ = true)

theorem State.oscFails_keeps {s : State} {u : Nat} {flag other : ClkF} {on toward : Nat} {m₀ s₀} (k₀ : Keeps m₀ s₀ s)
    (hm : (7253554926688370445979547 &&& m₀ == 7253554926688370445979547) = true) : Keeps m₀ s₀ (State.oscFails s u
    flag other on toward) := by
  refine k₀.step (w' := 7253554926688370445979547) ?_ hm
  unfold State.oscFails
  try dsimp only
  repeat' first
    | (with_reducible exact Keeps.refl)
    | (with_reducible refine Keeps.wr ?_ ?_)
    | (with_reducible refine Keeps.ite ?_ ?_)
    | (with_reducible refine Keeps.each (fun _ _ => ?_) ?_)
    | (with_reducible refine State.forceTo_keeps ?_ ?_)
    | (with_reducible refine State.raiseCondAs_keeps ?_ ?_)
    | exact (rfl : _ = true)
    | (simp only [Fld.area]; exact (rfl : _ = true))

theorem execFioFailure_keeps (u : Nat) (s : State) {t' : State} (ho : execFioFailure u s = .next t') : Keeps
    7253554926688370445979547 s t' := by
  unfold execFioFailure at ho
  refine actCore_keeps ho ?_
  try dsimp only
  repeat' first
    | (with_reducible exact Keeps.refl)
    | (with_reducible refine Keeps.wr ?_ ?_)
    | (with_reducible refine State.oscFails_keeps ?_ ?_)
    | exact (rfl : _ = true)

theorem execSioFailure_keeps (u : Nat) (s : State) {t' : State} (ho : execSioFailure u s = .next t') : Keeps
    7253554926688370445979547 s t' := by
  unfold execSioFailure at ho
  refine actCore_keeps ho ?_
  try dsimp only
  repeat' first
    | (with_reducible exact Keeps.refl)
    | (with_reducible refine Keeps.wr ?_ ?_)
    | (with_reducible refine State.oscFails_keeps ?_ ?_)
    | exact (rfl : _ = true)

theorem execFioTrim_keeps (u ppm move : Nat) (s : State) {t' : State} (ho : execFioTrim u ppm move s = .next t') :
    Keeps 2048 s t' := by
  unfold execFioTrim at ho
  refine actCore_keeps ho ?_
  try dsimp only
  repeat' first
    | (with_reducible exact Keeps.refl)
    | (with_reducible refine Keeps.wr ?_ ?_)
    | (with_reducible refine Keeps.ite ?_ ?_)
    | exact (rfl : _ = true)

theorem State.switchReference_keeps {s : State} {v : Nat} {m₀ s₀} (k₀ : Keeps m₀ s₀ s) (hm : (3213312 &&& m₀ ==
    3213312) = true) : Keeps m₀ s₀ (State.switchReference s v) := by
  refine k₀.step (w' := 3213312) ?_ hm
  unfold State.switchReference
  try dsimp only
  repeat' first
    | (with_reducible exact Keeps.refl)
    | (with_reducible refine Keeps.wr ?_ ?_)
    | (with_reducible refine Keeps.ite ?_ ?_)
    | (with_reducible refine State.raiseEvent_keeps ?_ ?_)
    | exact (rfl : _ = true)

theorem State.dropLanePlls_keeps {s : State} {r : Nat} {m₀ s₀} (k₀ : Keeps m₀ s₀ s) (hm : (512 &&& m₀ == 512) = true)
    : Keeps m₀ s₀ (State.dropLanePlls s r) := by
  refine k₀.step (w' := 512) ?_ hm
  unfold State.dropLanePlls
  try dsimp only
  repeat' first
    | (with_reducible exact Keeps.refl)
    | (with_reducible refine Keeps.wr ?_ ?_)
    | (with_reducible refine Keeps.each (fun _ _ => ?_) ?_)
    | exact (rfl : _ = true)

theorem execXinLost_keeps (i : Nat) (s : State) {t' : State} (ho : execXinLost i s = .next t') : Keeps 3213824 s t' :=
    by
  unfold execXinLost at ho
  refine actCore_keeps ho ?_
  try dsimp only
  repeat' first
    | (with_reducible exact Keeps.refl)
    | (with_reducible refine Keeps.wr ?_ ?_)
    | (with_reducible refine Keeps.ite ?_ ?_)
    | (with_reducible refine State.dropLanePlls_keeps ?_ ?_)
    | (with_reducible refine State.switchReference_keeps ?_ ?_)
    | exact (rfl : _ = true)

theorem execReferenceReturn_keeps (u i : Nat) (s : State) {t' : State} (ho : execReferenceReturn u i s = .next t') :
    Keeps 3213312 s t' := by
  unfold execReferenceReturn at ho
  refine actCore_keeps ho ?_
  try dsimp only
  repeat' first
    | (with_reducible exact Keeps.refl)
    | (with_reducible refine Keeps.wr ?_ ?_)
    | (with_reducible refine Keeps.ite ?_ ?_)
    | (with_reducible refine State.raiseEvent_keeps ?_ ?_)
    | (with_reducible refine State.switchReference_keeps ?_ ?_)
    | exact (rfl : _ = true)

theorem execSrefLostAtDie_keeps (d : Nat) (s : State) {t' : State} (ho : execSrefLostAtDie d s = .next t') : Keeps
    3213312 s t' := by
  unfold execSrefLostAtDie at ho
  refine actCore_keeps ho ?_
  try dsimp only
  repeat' first
    | (with_reducible exact Keeps.refl)
    | (with_reducible refine Keeps.wr ?_ ?_)
    | (with_reducible refine Keeps.ite ?_ ?_)
    | (with_reducible refine State.raiseEvent_keeps ?_ ?_)
    | exact (rfl : _ = true)

theorem State.putFields_keeps {s : State} {l : List PpF} {j v : Nat} {m₀ s₀} (k₀ : Keeps m₀ s₀ s) (hm : (512 &&& m₀ ==
    512) = true) : Keeps m₀ s₀ (State.putFields s l j v) := by
  refine k₀.step (w' := 512) ?_ hm
  unfold State.putFields
  try dsimp only
  repeat' first
    | (with_reducible exact Keeps.refl)
    | (with_reducible refine Keeps.wr ?_ ?_)
    | (with_reducible refine Keeps.each (fun _ _ => ?_) ?_)
    | exact (rfl : _ = true)
    | (simp only [Fld.area]; exact (rfl : _ = true))

theorem State.writePortReg_keeps {s : State} {reg p v : Nat} {m₀ s₀} (k₀ : Keeps m₀ s₀ s) (hm : (512 &&& m₀ == 512) =
    true) : Keeps m₀ s₀ (State.writePortReg s reg p v) := by
  refine k₀.step (w' := 512) ?_ hm
  unfold State.writePortReg
  try dsimp only
  repeat' first
    | (with_reducible exact Keeps.refl)
    | (with_reducible refine Keeps.wr ?_ ?_)
    | (with_reducible refine Keeps.ite ?_ ?_)
    | (with_reducible refine State.putFields_keeps ?_ ?_)
    | exact (rfl : _ = true)

theorem State.setLanes_keeps {s : State} {p m : Nat} {m₀ s₀} (k₀ : Keeps m₀ s₀ s) (hm : (512 &&& m₀ == 512) = true) :
    Keeps m₀ s₀ (State.setLanes s p m) := by
  refine k₀.step (w' := 512) ?_ hm
  unfold State.setLanes
  try dsimp only
  repeat' first
    | (with_reducible exact Keeps.refl)
    | (with_reducible refine Keeps.wr ?_ ?_)
    | (with_reducible refine Keeps.each (fun _ _ => ?_) ?_)
    | exact (rfl : _ = true)

theorem State.setFailed_keeps {s : State} {p m : Nat} {m₀ s₀} (k₀ : Keeps m₀ s₀ s) (hm : (512 &&& m₀ == 512) = true) :
    Keeps m₀ s₀ (State.setFailed s p m) := by
  refine k₀.step (w' := 512) ?_ hm
  unfold State.setFailed
  try dsimp only
  repeat' first
    | (with_reducible exact Keeps.refl)
    | (with_reducible refine Keeps.wr ?_ ?_)
    | (with_reducible refine Keeps.each (fun _ _ => ?_) ?_)
    | exact (rfl : _ = true)

theorem State.startAttempt_keeps {s : State} {p e : Nat} {m₀ s₀} (k₀ : Keeps m₀ s₀ s) (hm : (512 &&& m₀ == 512) =
    true) : Keeps m₀ s₀ (State.startAttempt s p e) := by
  refine k₀.step (w' := 512) ?_ hm
  unfold State.startAttempt
  try dsimp only
  repeat' first
    | (with_reducible exact Keeps.refl)
    | (with_reducible refine Keeps.wr ?_ ?_)
    | (with_reducible refine Keeps.ite ?_ ?_)
    | (with_reducible refine State.setLanes_keeps ?_ ?_)
    | exact (rfl : _ = true)

theorem State.loseSource_keeps {s : State} {p : Nat} {m₀ s₀} (k₀ : Keeps m₀ s₀ s) (hm : (7253554924718045609001883 &&&
    m₀ == 7253554924718045609001883) = true) : Keeps m₀ s₀ (State.loseSource s p) := by
  refine k₀.step (w' := 7253554924718045609001883) ?_ hm
  unfold State.loseSource
  try dsimp only
  repeat' first
    | (with_reducible exact Keeps.refl)
    | (with_reducible refine Keeps.wr ?_ ?_)
    | (with_reducible refine Keeps.ite ?_ ?_)
    | (with_reducible refine State.loseLock_keeps ?_ ?_)
    | exact (rfl : _ = true)

theorem State.leaveUp_keeps {s : State} {p m toward : Nat} {m₀ s₀} (k₀ : Keeps m₀ s₀ s) (hm :
    (7253554924718045609001883 &&& m₀ == 7253554924718045609001883) = true) : Keeps m₀ s₀ (State.leaveUp s p m toward)
    := by
  refine k₀.step (w' := 7253554924718045609001883) ?_ hm
  unfold State.leaveUp
  try dsimp only
  repeat' first
    | (with_reducible exact Keeps.refl)
    | (with_reducible refine Keeps.wr ?_ ?_)
    | (with_reducible refine Keeps.inc ?_ ?_)
    | (with_reducible refine Keeps.add ?_ ?_)
    | (with_reducible refine State.endCond_keeps ?_ ?_)
    | (with_reducible refine State.loseSource_keeps ?_ ?_)
    | (with_reducible refine State.raiseCond_keeps ?_ ?_)
    | (with_reducible refine State.setFailed_keeps ?_ ?_)
    | (with_reducible refine State.setLanes_keeps ?_ ?_)
    | exact (rfl : _ = true)
    | assumption
    | split
    | (with_reducible refine Keeps.set_portTx ?_ ?_)

theorem State.disablePort_keeps {s : State} {p : Nat} {m₀ s₀} (k₀ : Keeps m₀ s₀ s) (hm : (7253554924718045609001883
    &&& m₀ == 7253554924718045609001883) = true) : Keeps m₀ s₀ (State.disablePort s p) := by
  refine k₀.step (w' := 7253554924718045609001883) ?_ hm
  unfold State.disablePort
  try dsimp only
  repeat' first
    | (with_reducible exact Keeps.refl)
    | (with_reducible refine Keeps.wr ?_ ?_)
    | (with_reducible refine Keeps.ite ?_ ?_)
    | (with_reducible refine State.leaveUp_keeps ?_ ?_)
    | (with_reducible refine State.setLanes_keeps ?_ ?_)
    | exact (rfl : _ = true)

theorem execPpEnable_keeps (p : Nat) (s : State) {t' : State} (ho : execPpEnable p s = .next t') : Keeps 512 s t' := by
  unfold execPpEnable at ho
  refine actCore_keeps ho ?_
  try dsimp only
  repeat' first
    | (with_reducible exact Keeps.refl)
    | (with_reducible refine Keeps.wr ?_ ?_)
    | (with_reducible refine Keeps.ite ?_ ?_)
    | (with_reducible refine State.startAttempt_keeps ?_ ?_)
    | exact (rfl : _ = true)

theorem execPpDisable_keeps (p : Nat) (s : State) {t' : State} (ho : execPpDisable p s = .next t') : Keeps
    7253554924718045609001883 s t' := by
  unfold execPpDisable at ho
  refine actCore_keeps ho ?_
  try dsimp only
  repeat' first
    | (with_reducible exact Keeps.refl)
    | (with_reducible refine Keeps.wr ?_ ?_)
    | (with_reducible refine Keeps.ite ?_ ?_)
    | (with_reducible refine State.disablePort_keeps ?_ ?_)
    | exact (rfl : _ = true)

theorem execPpRestart_keeps (p : Nat) (s : State) {t' : State} (ho : execPpRestart p s = .next t') : Keeps
    7253554924718045609001883 s t' := by
  unfold execPpRestart at ho
  refine actCore_keeps ho ?_
  try dsimp only
  repeat' first
    | (with_reducible exact Keeps.refl)
    | (with_reducible refine Keeps.wr ?_ ?_)
    | (with_reducible refine Keeps.ite ?_ ?_)
    | (with_reducible refine State.leaveUp_keeps ?_ ?_)
    | (with_reducible refine State.setFailed_keeps ?_ ?_)
    | (with_reducible refine State.startAttempt_keeps ?_ ?_)
    | exact (rfl : _ = true)

theorem execPortUp_keeps (p st' : Nat) (s : State) {t' : State} (ho : execPortUp p s st' = .next t') : Keeps 7406080 s
    t' := by
  unfold execPortUp at ho
  refine actCore_keeps ho ?_
  try dsimp only
  repeat' first
    | (with_reducible exact Keeps.refl)
    | (with_reducible refine Keeps.wr ?_ ?_)
    | (with_reducible refine Keeps.ite ?_ ?_)
    | (with_reducible refine Keeps.each (fun _ _ => ?_) ?_)
    | (with_reducible refine State.endCond_keeps ?_ ?_)
    | (with_reducible refine State.raiseCond_keeps ?_ ?_)
    | exact (rfl : _ = true)

theorem execAttemptTimeout_keeps (p : Nat) (s : State) {t' : State} (ho : execAttemptTimeout p s = .next t') : Keeps
    512 s t' := by
  unfold execAttemptTimeout at ho
  refine actCore_keeps ho ?_
  try dsimp only
  repeat' first
    | (with_reducible exact Keeps.refl)
    | (with_reducible refine Keeps.wr ?_ ?_)
    | (with_reducible refine Keeps.ite ?_ ?_)
    | (with_reducible refine State.setFailed_keeps ?_ ?_)
    | (with_reducible refine State.setLanes_keeps ?_ ?_)
    | (with_reducible refine State.startAttempt_keeps ?_ ?_)
    | exact (rfl : _ = true)
    | assumption
    | split

theorem execPortWaitExpiry_keeps (p : Nat) (s : State) {t' : State} (ho : execPortWaitExpiry p s = .next t') : Keeps
    512 s t' := by
  unfold execPortWaitExpiry at ho
  refine actCore_keeps ho ?_
  try dsimp only
  repeat' first
    | (with_reducible exact Keeps.refl)
    | (with_reducible refine Keeps.ite ?_ ?_)
    | (with_reducible refine State.startAttempt_keeps ?_ ?_)
    | exact (rfl : _ = true)

theorem execLaneFailure_keeps (p m : Nat) (s : State) {t' : State} (ho : execLaneFailure p m s = .next t') : Keeps
    7253554924718045609001883 s t' := by
  unfold execLaneFailure at ho
  refine actCore_keeps ho ?_
  try dsimp only
  repeat' first
    | (with_reducible exact Keeps.refl)
    | (with_reducible refine Keeps.ite ?_ ?_)
    | (with_reducible refine State.leaveUp_keeps ?_ ?_)
    | (with_reducible refine State.startAttempt_keeps ?_ ?_)
    | exact (rfl : _ = true)

theorem execFrameTransmit_keeps (p : Nat) (s : State) {t' : State} (ho : execFrameTransmit p s = .next t') : Keeps
    2251799822074368 s t' := by
  unfold execFrameTransmit at ho
  refine actCore_keeps ho ?_
  try dsimp only
  repeat' first
    | (with_reducible exact Keeps.refl)
    | (with_reducible refine Keeps.inc ?_ ?_)
    | (with_reducible refine Keeps.emit ?_ ?_)
    | (with_reducible refine Keeps.ite ?_ ?_)
    | exact (rfl : _ = true)
    | assumption
    | split
    | (with_reducible refine Keeps.set_portTx ?_ ?_)

theorem State.sendPtp_keeps {s : State} {p type len : Nat} {m₀ s₀} (k₀ : Keeps m₀ s₀ s) (hm : (2251799814210048 &&& m₀
    == 2251799814210048) = true) : Keeps m₀ s₀ (State.sendPtp s p type len) := by
  refine k₀.step (w' := 2251799814210048) ?_ hm
  unfold State.sendPtp
  try dsimp only
  repeat' first
    | (with_reducible exact Keeps.refl)
    | (with_reducible refine Keeps.spend ?_ ?_)
    | (with_reducible refine State.giveFrame_keeps ?_ ?_)
    | exact (rfl : _ = true)

theorem State.askDelay_keeps {s : State} {p : Nat} {m₀ s₀} (k₀ : Keeps m₀ s₀ s) (hm : (2251799814210048 &&& m₀ ==
    2251799814210048) = true) : Keeps m₀ s₀ (State.askDelay s p) := by
  refine k₀.step (w' := 2251799814210048) ?_ hm
  unfold State.askDelay
  try dsimp only
  repeat' first
    | (with_reducible exact Keeps.refl)
    | (with_reducible refine Keeps.ite ?_ ?_)
    | (with_reducible refine State.sendPtp_keeps ?_ ?_)
    | exact (rfl : _ = true)

theorem execPtpMessage_keeps (p type domain : Nat) (s : State) {t' : State} (ho : execPtpMessage p type s domain =
    .next t') : Keeps 2251799814210048 s t' := by
  unfold execPtpMessage at ho
  refine actCore_keeps ho ?_
  try dsimp only
  repeat' first
    | (with_reducible exact Keeps.refl)
    | (with_reducible refine Keeps.wr ?_ ?_)
    | (with_reducible refine Keeps.inc ?_ ?_)
    | (with_reducible refine Keeps.ite ?_ ?_)
    | (with_reducible refine State.askDelay_keeps ?_ ?_)
    | (with_reducible refine State.sendPtp_keeps ?_ ?_)
    | exact (rfl : _ = true)

theorem execPtpSyncInterval_keeps (p : Nat) (s : State) {t' : State} (ho : execPtpSyncInterval p s = .next t') : Keeps
    2251799814210048 s t' := by
  unfold execPtpSyncInterval at ho
  refine actCore_keeps ho ?_
  try dsimp only
  repeat' first
    | (with_reducible exact Keeps.refl)
    | (with_reducible refine Keeps.ite ?_ ?_)
    | (with_reducible refine State.askDelay_keeps ?_ ?_)
    | (with_reducible refine State.sendPtp_keeps ?_ ?_)
    | exact (rfl : _ = true)

theorem execSourceSyncLoss_keeps (p : Nat) (s : State) {t' : State} (ho : execSourceSyncLoss p s = .next t') : Keeps
    7253554924718045609001883 s t' := by
  unfold execSourceSyncLoss at ho
  refine actCore_keeps ho ?_
  try dsimp only
  repeat' first
    | (with_reducible exact Keeps.refl)
    | (with_reducible refine State.loseSource_keeps ?_ ?_)
    | exact (rfl : _ = true)

theorem State.laneLine_keeps {s : State} {u v : Nat} {m₀ s₀} (k₀ : Keeps m₀ s₀ s) (hm : (8388608 &&& m₀ == 8388608) =
    true) : Keeps m₀ s₀ (State.laneLine s u v) := by
  refine k₀.step (w' := 8388608) ?_ hm
  unfold State.laneLine
  try dsimp only
  repeat' first
    | (with_reducible exact Keeps.refl)
    | (with_reducible refine Keeps.emit ?_ ?_)
    | exact (rfl : _ = true)

theorem State.laneSend_keeps {s : State} {u : Nat} {m₀ s₀} (k₀ : Keeps m₀ s₀ s) (hm : (9007199263130112 &&& m₀ ==
    9007199263130112) = true) : Keeps m₀ s₀ (State.laneSend s u) := by
  refine k₀.step (w' := 9007199263130112) ?_ hm
  unfold State.laneSend
  try dsimp only
  repeat' first
    | (with_reducible exact Keeps.refl)
    | (with_reducible refine Keeps.wr ?_ ?_)
    | (with_reducible refine State.laneLine_keeps ?_ ?_)
    | exact (rfl : _ = true)
    | assumption
    | split
    | (with_reducible refine Keeps.set_laneBufs ?_ ?_)

theorem State.lanePattern_keeps {s : State} {u : Nat} {m₀ s₀} (k₀ : Keeps m₀ s₀ s) (hm : (8912896 &&& m₀ == 8912896) =
    true) : Keeps m₀ s₀ (State.lanePattern s u) := by
  refine k₀.step (w' := 8912896) ?_ hm
  unfold State.lanePattern
  try dsimp only
  repeat' first
    | (with_reducible exact Keeps.refl)
    | (with_reducible refine Keeps.spend ?_ ?_)
    | (with_reducible refine State.laneLine_keeps ?_ ?_)
    | exact (rfl : _ = true)

theorem State.lanePresent_keeps {s : State} {u : Nat} {m₀ s₀} (k₀ : Keeps m₀ s₀ s) (hm : (9007199263129600 &&& m₀ ==
    9007199263129600) = true) : Keeps m₀ s₀ (State.lanePresent s u) := by
  refine k₀.step (w' := 9007199263129600) ?_ hm
  unfold State.lanePresent
  try dsimp only
  repeat' first
    | (with_reducible exact Keeps.refl)
    | (with_reducible refine Keeps.emit ?_ ?_)
    | exact (rfl : _ = true)
    | assumption
    | split
    | (with_reducible refine Keeps.set_laneBufs ?_ ?_)

theorem execUserLaneTxWord_keeps (u w k : Nat) (idle : Bool) (s : State) {t' : State} (ho : execUserLaneTxWord u w k
    idle s = .next t') : Keeps 9007199263654400 s t' := by
  unfold execUserLaneTxWord at ho
  refine actCore_keeps ho ?_
  try dsimp only
  repeat' first
    | (with_reducible exact Keeps.refl)
    | (with_reducible refine Keeps.wr ?_ ?_)
    | (with_reducible refine Keeps.ite ?_ ?_)
    | (with_reducible refine Keeps.each (fun _ _ => ?_) ?_)
    | (with_reducible refine State.lanePattern_keeps ?_ ?_)
    | (with_reducible refine State.laneSend_keeps ?_ ?_)
    | exact (rfl : _ = true)
    | assumption
    | split
    | (with_reducible refine Keeps.set_laneBufs ?_ ?_)

theorem execUserLaneRxWord_keeps (u : Nat) (w : List Nat) (k : Nat) (s : State) {t' : State} (ho : execUserLaneRxWord
    u w k s = .next t') : Keeps 9007199263130112 s t' := by
  unfold execUserLaneRxWord at ho
  refine actCore_keeps ho ?_
  try dsimp only
  repeat' first
    | (with_reducible exact Keeps.refl)
    | (with_reducible refine Keeps.wr ?_ ?_)
    | (with_reducible refine Keeps.ite ?_ ?_)
    | (with_reducible refine Keeps.each (fun _ _ => ?_) ?_)
    | (with_reducible refine State.lanePresent_keeps ?_ ?_)
    | exact (rfl : _ = true)
    | assumption
    | split
    | (with_reducible refine Keeps.set_laneBufs ?_ ?_)

theorem execLanePllLock_keeps (u : Nat) (s : State) {t' : State} (ho : execLanePllLock u s = .next t') : Keeps 512 s
    t' := by
  unfold execLanePllLock at ho
  refine actCore_keeps ho ?_
  try dsimp only
  repeat' first
    | (with_reducible exact Keeps.refl)
    | (with_reducible refine Keeps.wr ?_ ?_)
    | (with_reducible refine Keeps.ite ?_ ?_)
    | exact (rfl : _ = true)

theorem State.writeTaps_keeps {s : State} {user : Bool} {j v : Nat} {m₀ s₀} (k₀ : Keeps m₀ s₀ s) (hm : (512 &&& m₀ ==
    512) = true) : Keeps m₀ s₀ (State.writeTaps s user j v) := by
  refine k₀.step (w' := 512) ?_ hm
  unfold State.writeTaps
  try dsimp only
  repeat' first
    | (with_reducible exact Keeps.refl)
    | (with_reducible refine Keeps.wr ?_ ?_)
    | (with_reducible refine Keeps.ite ?_ ?_)
    | (with_reducible refine State.putFields_keeps ?_ ?_)
    | exact (rfl : _ = true)
    | (simp only [Fld.area]; exact (rfl : _ = true))

theorem execPrbsCheckerLock_keeps (user : Bool) (j errs : Nat) (s : State) {t' : State} (ho : execPrbsCheckerLock user
    j errs s = .next t') : Keeps 512 s t' := by
  unfold execPrbsCheckerLock at ho
  refine actCore_keeps ho ?_
  try dsimp only
  repeat' first
    | (with_reducible exact Keeps.refl)
    | (with_reducible refine Keeps.wr ?_ ?_)
    | (with_reducible refine Keeps.add ?_ ?_)
    | (with_reducible refine Keeps.ite ?_ ?_)
    | exact (rfl : _ = true)

theorem execPpLprbsClr_keeps (user : Bool) (j : Nat) (s : State) {t' : State} (ho : execPpLprbsClr user j s = .next
    t') : Keeps 512 s t' := by
  unfold execPpLprbsClr at ho
  refine actCore_keeps ho ?_
  try dsimp only
  repeat' first
    | (with_reducible exact Keeps.refl)
    | (with_reducible refine Keeps.wr ?_ ?_)
    | (with_reducible refine Keeps.ite ?_ ?_)
    | exact (rfl : _ = true)

theorem execPpConfigWrite_keeps (reg p v : Nat) (s : State) {t' : State} (ho : execPpConfigWrite reg p v s = .next t')
    : Keeps 512 s t' := by
  unfold execPpConfigWrite at ho
  refine actCore_keeps ho ?_
  try dsimp only
  repeat' first
    | (with_reducible exact Keeps.refl)
    | (with_reducible refine State.writePortReg_keeps ?_ ?_)
    | exact (rfl : _ = true)

theorem State.defaultRoutes_keeps {s : State} {m₀ s₀} (k₀ : Keeps m₀ s₀ s) (hm : (16 &&& m₀ == 16) = true) : Keeps m₀
    s₀ (State.defaultRoutes s) := by
  refine k₀.step (w' := 16) ?_ hm
  unfold State.defaultRoutes
  try dsimp only
  repeat' first
    | (with_reducible exact Keeps.refl)
    | (with_reducible refine Keeps.wr ?_ ?_)
    | (with_reducible refine Keeps.each (fun _ _ => ?_) ?_)
    | ((with_reducible refine Keeps.resetKeys ?_ ?_); · (rintro ⟨f, u, j⟩ hk; cases f <;> first | (simp only [Fld.area]; rfl) | exact Bool.noConfusion (show false = true from hk)))
    | exact (rfl : _ = true)

theorem State.dropLane_keeps {s : State} {u : Nat} {m₀ s₀} (k₀ : Keeps m₀ s₀ s) (hm : (9007199254741504 &&& m₀ ==
    9007199254741504) = true) : Keeps m₀ s₀ (State.dropLane s u) := by
  refine k₀.step (w' := 9007199254741504) ?_ hm
  unfold State.dropLane
  try dsimp only
  repeat' first
    | (with_reducible exact Keeps.refl)
    | ((with_reducible refine Keeps.resetKeys ?_ ?_); · (rintro ⟨f, u, j⟩ hk; cases f <;> first | (simp only [Fld.area]; rfl) | exact Bool.noConfusion (show false = true from hk) | (simp [laneFields] at hk; done)))
    | exact (rfl : _ = true)
    | assumption
    | split
    | (with_reducible refine Keeps.set_laneBufs ?_ ?_)

theorem State.dropObjects_keeps {s : State} {d : Nat} {m₀ s₀} (k₀ : Keeps m₀ s₀ s) (hm : (9066943647109718810361856
    &&& m₀ == 9066943647109718810361856) = true) : Keeps m₀ s₀ (State.dropObjects s d) := by
  refine k₀.step (w' := 9066943647109718810361856) ?_ hm
  unfold State.dropObjects
  try dsimp only
  repeat' first
    | (with_reducible exact Keeps.refl)
    | (with_reducible refine Keeps.wr ?_ ?_)
    | (with_reducible refine Keeps.each (fun _ _ => ?_) ?_)
    | exact (rfl : _ = true)
    | (simp only [Fld.area]; exact (rfl : _ = true))
    | exact Or.inr rfl
    | exact Or.inl rfl
    | assumption
    | split
    | (with_reducible refine Keeps.set_fobjs ?_ ?_)
    | (with_reducible refine Keeps.set_fvals ?_ ?_)
    | (with_reducible refine Keeps.set_fstaged ?_ ?_)
    | (with_reducible refine Keeps.set_fwrites ?_ ?_)
    | (with_reducible refine Keeps.upd ?_ ?_ ?_ ?_ ?_ ?_ ?_ ?_ ?_ ?_ ?_ ?_ ?_ ?_ ?_ ?_ ?_ ?_ ?_ ?_ ?_ ?_ ?_ ?_ ?_ ?_ ?_ ?_ ?_ ?_ ?_ ?_ ?_ ?_ ?_ ?_ ?_ ?_ ?_ ?_ ?_ ?_ ?_ ?_ ?_ ?_ ?_ ?_ ?_ ?_ ?_ ?_ ?_ ?_ ?_ ?_ ?_ ?_ ?_ ?_ ?_ ?_ ?_ ?_ ?_ ?_ ?_)

theorem State.closeSides_keeps {s : State} {d : Nat} {m₀ s₀} (k₀ : Keeps m₀ s₀ s) (hm : (817654399128 &&& m₀ ==
    817654399128) = true) : Keeps m₀ s₀ (State.closeSides s d) := by
  refine k₀.step (w' := 817654399128) ?_ hm
  unfold State.closeSides
  try dsimp only
  repeat' first
    | (with_reducible exact Keeps.refl)
    | (with_reducible refine Keeps.ite ?_ ?_)
    | (with_reducible refine Keeps.each (fun _ _ => ?_) ?_)
    | (with_reducible refine State.closeGate_keeps ?_ ?_)
    | exact (rfl : _ = true)

theorem State.dropDieData_keeps {s : State} {d : Nat} {m₀ s₀} (k₀ : Keeps m₀ s₀ s) (hm : (142962267001668501504 &&& m₀
    == 142962267001668501504) = true) : Keeps m₀ s₀ (State.dropDieData s d) := by
  refine k₀.step (w' := 142962267001668501504) ?_ hm
  unfold State.dropDieData
  try dsimp only
  repeat' first
    | (with_reducible exact Keeps.refl)
    | exact (rfl : _ = true)
    | (simp only [Fld.area]; exact (rfl : _ = true))
    | exact Or.inr rfl
    | exact Or.inl rfl
    | assumption
    | split
    | (with_reducible refine Keeps.set_banks ?_ ?_)
    | (with_reducible refine Keeps.set_writeBacks ?_ ?_)
    | (with_reducible refine Keeps.set_heldOps ?_ ?_)
    | (with_reducible refine Keeps.set_scrubWaits ?_ ?_)
    | (with_reducible refine Keeps.set_cache ?_ ?_)
    | (with_reducible refine Keeps.set_niWaits ?_ ?_)
    | (with_reducible refine Keeps.set_delivered ?_ ?_)
    | (with_reducible refine Keeps.set_mailboxes ?_ ?_)
    | (with_reducible refine Keeps.set_plane ?_ ?_)
    | (with_reducible refine Keeps.set_ffs ?_ ?_)
    | (with_reducible refine Keeps.set_hops ?_ ?_)
    | (with_reducible refine Keeps.set_portOuts ?_ ?_)
    | (with_reducible refine Keeps.set_isoHeld ?_ ?_)
    | (with_reducible refine Keeps.upd ?_ ?_ ?_ ?_ ?_ ?_ ?_ ?_ ?_ ?_ ?_ ?_ ?_ ?_ ?_ ?_ ?_ ?_ ?_ ?_ ?_ ?_ ?_ ?_ ?_ ?_ ?_ ?_ ?_ ?_ ?_ ?_ ?_ ?_ ?_ ?_ ?_ ?_ ?_ ?_ ?_ ?_ ?_ ?_ ?_ ?_ ?_ ?_ ?_ ?_ ?_ ?_ ?_ ?_ ?_ ?_ ?_ ?_ ?_ ?_ ?_ ?_ ?_ ?_ ?_ ?_ ?_)

theorem State.clearDie_keeps {s : State} {d : Nat} {m₀ s₀} (k₀ : Keeps m₀ s₀ s) (hm : (9067086618384582239681247 &&&
    m₀ == 9067086618384582239681247) = true) : Keeps m₀ s₀ (State.clearDie s d) := by
  refine k₀.step (w' := 9067086618384582239681247) ?_ hm
  unfold State.clearDie
  try dsimp only
  repeat' first
    | (with_reducible exact Keeps.refl)
    | (with_reducible refine Keeps.wr ?_ ?_)
    | (with_reducible refine Keeps.each (fun _ _ => ?_) ?_)
    | ((with_reducible refine Keeps.resetKeys ?_ ?_); · (rintro ⟨f, u, j⟩ hk; cases f <;> first | (simp only [Fld.area]; rfl) | exact Bool.noConfusion (show false = true from hk) | (simp [isDieImageField, isTreeClock] at hk; done)))
    | (with_reducible refine State.closeSides_keeps ?_ ?_)
    | (with_reducible refine State.dropDieData_keeps ?_ ?_)
    | (with_reducible refine State.dropLane_keeps ?_ ?_)
    | (with_reducible refine State.dropObjects_keeps ?_ ?_)
    | (with_reducible refine State.endCond_keeps ?_ ?_)
    | exact (rfl : _ = true)

theorem State.setFab_keeps {s : State} {d v : Nat} {m₀ s₀} (k₀ : Keeps m₀ s₀ s) (hm : (2 &&& m₀ == 2) = true) : Keeps
    m₀ s₀ (State.setFab s d v) := by
  refine k₀.step (w' := 2) ?_ hm
  unfold State.setFab
  try dsimp only
  repeat' first
    | (with_reducible exact Keeps.refl)
    | (with_reducible refine Keeps.wr ?_ ?_)
    | exact (rfl : _ = true)

theorem State.clearQueues_keeps {s : State} {m₀ s₀} (k₀ : Keeps m₀ s₀ s) (hm : (1649274847360 &&& m₀ == 1649274847360)
    = true) : Keeps m₀ s₀ (State.clearQueues s) := by
  refine k₀.step (w' := 1649274847360) ?_ hm
  unfold State.clearQueues
  try dsimp only
  repeat' first
    | (with_reducible exact Keeps.refl)
    | ((with_reducible refine Keeps.resetKeys ?_ ?_); · (rintro ⟨f, u, j⟩ hk; cases f <;> first | (simp only [Fld.area]; rfl) | exact Bool.noConfusion (show false = true from hk)))
    | (with_reducible refine State.abandon_keeps ?_ ?_)
    | (with_reducible refine State.endConds_keeps ?_ ?_)
    | exact (rfl : _ = true)
    | (simp only [Fld.area]; exact (rfl : _ = true))
    | exact Or.inr rfl
    | exact Or.inl rfl
    | assumption
    | split
    | (with_reducible refine Keeps.set_queues ?_ ?_)
    | (with_reducible refine Keeps.set_queueSnaps ?_ ?_)
    | (with_reducible refine Keeps.upd ?_ ?_ ?_ ?_ ?_ ?_ ?_ ?_ ?_ ?_ ?_ ?_ ?_ ?_ ?_ ?_ ?_ ?_ ?_ ?_ ?_ ?_ ?_ ?_ ?_ ?_ ?_ ?_ ?_ ?_ ?_ ?_ ?_ ?_ ?_ ?_ ?_ ?_ ?_ ?_ ?_ ?_ ?_ ?_ ?_ ?_ ?_ ?_ ?_ ?_ ?_ ?_ ?_ ?_ ?_ ?_ ?_ ?_ ?_ ?_ ?_ ?_ ?_ ?_ ?_ ?_ ?_)

theorem State.clearContexts_keeps {s : State} {m₀ s₀} (k₀ : Keeps m₀ s₀ s) (hm : (279275953455360 &&& m₀ ==
    279275953455360) = true) : Keeps m₀ s₀ (State.clearContexts s) := by
  refine k₀.step (w' := 279275953455360) ?_ hm
  unfold State.clearContexts
  try dsimp only
  repeat' first
    | (with_reducible exact Keeps.refl)
    | (with_reducible refine State.caravanVoid_keeps ?_ ?_)
    | exact (rfl : _ = true)
    | (simp only [Fld.area]; exact (rfl : _ = true))
    | exact Or.inr rfl
    | exact Or.inl rfl
    | assumption
    | split
    | (with_reducible refine Keeps.set_ctx ?_ ?_)
    | (with_reducible refine Keeps.set_ctxImage ?_ ?_)
    | (with_reducible refine Keeps.set_ctxShadow ?_ ?_)
    | (with_reducible refine Keeps.set_ctxStaged ?_ ?_)
    | (with_reducible refine Keeps.set_built ?_ ?_)
    | (with_reducible refine Keeps.upd ?_ ?_ ?_ ?_ ?_ ?_ ?_ ?_ ?_ ?_ ?_ ?_ ?_ ?_ ?_ ?_ ?_ ?_ ?_ ?_ ?_ ?_ ?_ ?_ ?_ ?_ ?_ ?_ ?_ ?_ ?_ ?_ ?_ ?_ ?_ ?_ ?_ ?_ ?_ ?_ ?_ ?_ ?_ ?_ ?_ ?_ ?_ ?_ ?_ ?_ ?_ ?_ ?_ ?_ ?_ ?_ ?_ ?_ ?_ ?_ ?_ ?_ ?_ ?_ ?_ ?_ ?_)

theorem State.tickCleared_keeps {s : State} {m₀ s₀} (k₀ : Keeps m₀ s₀ s) (hm : (7536641 &&& m₀ == 7536641) = true) :
    Keeps m₀ s₀ (State.tickCleared s) := by
  refine k₀.step (w' := 7536641) ?_ hm
  unfold State.tickCleared
  try dsimp only
  repeat' first
    | (with_reducible exact Keeps.refl)
    | (with_reducible refine Keeps.wr ?_ ?_)
    | (with_reducible refine Keeps.each (fun _ _ => ?_) ?_)
    | (with_reducible refine State.setTick_keeps ?_ ?_)
    | exact (rfl : _ = true)
    | (simp only [Fld.area]; exact (rfl : _ = true))

theorem State.clearImage_keeps {s : State} {m₀ s₀} (k₀ : Keeps m₀ s₀ s) (hm : (9067086618664957704895455 &&& m₀ ==
    9067086618664957704895455) = true) : Keeps m₀ s₀ (State.clearImage s) := by
  refine k₀.step (w' := 9067086618664957704895455) ?_ hm
  unfold State.clearImage
  try dsimp only
  repeat' first
    | (with_reducible exact Keeps.refl)
    | (with_reducible refine Keeps.wr ?_ ?_)
    | (with_reducible refine Keeps.each (fun _ _ => ?_) ?_)
    | (with_reducible refine State.clearContexts_keeps ?_ ?_)
    | (with_reducible refine State.clearDie_keeps ?_ ?_)
    | (with_reducible refine State.clearQueues_keeps ?_ ?_)
    | (with_reducible refine State.defaultRoutes_keeps ?_ ?_)
    | (with_reducible refine State.setFab_keeps ?_ ?_)
    | (with_reducible refine State.tickCleared_keeps ?_ ?_)
    | exact (rfl : _ = true)
    | (simp only [Fld.area]; exact (rfl : _ = true))

theorem State.dropNicheData_keeps {s : State} {d x : Nat} {m₀ s₀} (k₀ : Keeps m₀ s₀ s) (hm : (69175290706024988672 &&&
    m₀ == 69175290706024988672) = true) : Keeps m₀ s₀ (State.dropNicheData s d x) := by
  refine k₀.step (w' := 69175290706024988672) ?_ hm
  unfold State.dropNicheData
  try dsimp only
  repeat' first
    | (with_reducible exact Keeps.refl)
    | exact (rfl : _ = true)
    | (simp only [Fld.area]; exact (rfl : _ = true))
    | exact Or.inr rfl
    | exact Or.inl rfl
    | assumption
    | split
    | (with_reducible refine Keeps.set_banks ?_ ?_)
    | (with_reducible refine Keeps.set_writeBacks ?_ ?_)
    | (with_reducible refine Keeps.set_heldOps ?_ ?_)
    | (with_reducible refine Keeps.set_niWaits ?_ ?_)
    | (with_reducible refine Keeps.set_delivered ?_ ?_)
    | (with_reducible refine Keeps.set_mailboxes ?_ ?_)
    | (with_reducible refine Keeps.set_plane ?_ ?_)
    | (with_reducible refine Keeps.set_ffs ?_ ?_)
    | (with_reducible refine Keeps.set_hops ?_ ?_)
    | (with_reducible refine Keeps.set_portOuts ?_ ?_)
    | (with_reducible refine Keeps.upd ?_ ?_ ?_ ?_ ?_ ?_ ?_ ?_ ?_ ?_ ?_ ?_ ?_ ?_ ?_ ?_ ?_ ?_ ?_ ?_ ?_ ?_ ?_ ?_ ?_ ?_ ?_ ?_ ?_ ?_ ?_ ?_ ?_ ?_ ?_ ?_ ?_ ?_ ?_ ?_ ?_ ?_ ?_ ?_ ?_ ?_ ?_ ?_ ?_ ?_ ?_ ?_ ?_ ?_ ?_ ?_ ?_ ?_ ?_ ?_ ?_ ?_ ?_ ?_ ?_ ?_ ?_)

theorem State.clearNiche_keeps {s : State} {d x : Nat} {m₀ s₀} (k₀ : Keeps m₀ s₀ s) (hm : (9067086618384581963874974
    &&& m₀ == 9067086618384581963874974) = true) : Keeps m₀ s₀ (State.clearNiche s d x) := by
  refine k₀.step (w' := 9067086618384581963874974) ?_ hm
  unfold State.clearNiche
  try dsimp only
  repeat' first
    | (with_reducible exact Keeps.refl)
    | (with_reducible refine Keeps.ite ?_ ?_)
    | (with_reducible refine Keeps.each (fun _ _ => ?_) ?_)
    | ((with_reducible refine Keeps.resetKeys ?_ ?_); · (rintro ⟨f, u, j⟩ hk; cases f <;> first | (simp only [Fld.area]; rfl) | exact Bool.noConfusion (show false = true from hk) | (simp [keyInNiche, isDieImageField] at hk; done)))
    | (with_reducible refine State.closeGate_keeps ?_ ?_)
    | (with_reducible refine State.dropLane_keeps ?_ ?_)
    | (with_reducible refine State.dropNicheData_keeps ?_ ?_)
    | (with_reducible refine State.dropObjects_keeps ?_ ?_)
    | (with_reducible refine State.engageCells_keeps ?_ ?_)
    | exact (rfl : _ = true)

theorem State.endLoad_keeps {s : State} {m₀ s₀} (k₀ : Keeps m₀ s₀ s) (hm : (2213609288845146198016 &&& m₀ ==
    2213609288845146198016) = true) : Keeps m₀ s₀ (State.endLoad s) := by
  refine k₀.step (w' := 2213609288845146198016) ?_ hm
  unfold State.endLoad
  try dsimp only
  repeat' first
    | (with_reducible exact Keeps.refl)
    | (with_reducible refine Keeps.wr ?_ ?_)
    | (with_reducible refine Keeps.each (fun _ _ => ?_) ?_)
    | exact (rfl : _ = true)
    | (simp only [Fld.area]; exact (rfl : _ = true))
    | exact Or.inr rfl
    | exact Or.inl rfl
    | assumption
    | split
    | (with_reducible refine Keeps.set_targets ?_ ?_)
    | (with_reducible refine Keeps.set_staged ?_ ?_)
    | (with_reducible refine Keeps.set_stream ?_ ?_)
    | (with_reducible refine Keeps.set_imageBytes ?_ ?_)
    | (with_reducible refine Keeps.upd ?_ ?_ ?_ ?_ ?_ ?_ ?_ ?_ ?_ ?_ ?_ ?_ ?_ ?_ ?_ ?_ ?_ ?_ ?_ ?_ ?_ ?_ ?_ ?_ ?_ ?_ ?_ ?_ ?_ ?_ ?_ ?_ ?_ ?_ ?_ ?_ ?_ ?_ ?_ ?_ ?_ ?_ ?_ ?_ ?_ ?_ ?_ ?_ ?_ ?_ ?_ ?_ ?_ ?_ ?_ ?_ ?_ ?_ ?_ ?_ ?_ ?_ ?_ ?_ ?_ ?_ ?_)

theorem State.failLoad_keeps {s : State} {status : Nat} {m₀ s₀} (k₀ : Keeps m₀ s₀ s) (hm : (9069300227953802851089375
    &&& m₀ == 9069300227953802851089375) = true) : Keeps m₀ s₀ (State.failLoad s status) := by
  refine k₀.step (w' := 9069300227953802851089375) ?_ hm
  unfold State.failLoad
  try dsimp only
  repeat' first
    | (with_reducible exact Keeps.refl)
    | (with_reducible refine Keeps.wr ?_ ?_)
    | (with_reducible refine Keeps.inc ?_ ?_)
    | (with_reducible refine Keeps.ite ?_ ?_)
    | (with_reducible refine State.clearImage_keeps ?_ ?_)
    | (with_reducible refine State.clearNiche_keeps ?_ ?_)
    | (with_reducible refine State.endLoad_keeps ?_ ?_)
    | (with_reducible refine State.raiseEvent_keeps ?_ ?_)
    | exact (rfl : _ = true)

theorem State.dieLostToLoad_keeps {s : State} {d : Nat} {m₀ s₀} (k₀ : Keeps m₀ s₀ s) (hm : (9069300227953802851089375
    &&& m₀ == 9069300227953802851089375) = true) : Keeps m₀ s₀ (State.dieLostToLoad s d) := by
  refine k₀.step (w' := 9069300227953802851089375) ?_ hm
  unfold State.dieLostToLoad
  try dsimp only
  repeat' first
    | (with_reducible exact Keeps.refl)
    | (with_reducible refine Keeps.ite ?_ ?_)
    | (with_reducible refine State.failLoad_keeps ?_ ?_)
    | exact (rfl : _ = true)

theorem State.putAll_keeps {s s₀ : State} {l : List Fld} {u j v m₀ : Nat} (h : Keeps m₀ s₀ s)
    (hl : (l.all fun f => m₀.testBit f.area.ctorIdx) = true) : Keeps m₀ s₀ (s.putAll l u j v) := by
  unfold State.putAll each
  induction l generalizing s with
  | nil => exact h
  | cons f l ih =>
    simp only [List.all_cons, Bool.and_eq_true] at hl
    exact ih (Keeps.wr hl.1 h) hl.2

theorem State.bankComesOn_keeps {s : State} {d b : Nat} {m₀ s₀} (k₀ : Keeps m₀ s₀ s) (hm : (50331656 &&& m₀ ==
    50331656) = true) : Keeps m₀ s₀ (State.bankComesOn s d b) := by
  refine k₀.step (w' := 50331656) ?_ hm
  unfold State.bankComesOn
  try dsimp only
  repeat' first
    | (with_reducible exact Keeps.refl)
    | (with_reducible refine Keeps.wr ?_ ?_)
    | (with_reducible refine Keeps.ite ?_ ?_)
    | (with_reducible refine State.blankBank_keeps ?_ ?_)
    | exact (rfl : _ = true)

theorem State.commitFrame_keeps {s : State} {d : Nat} {f : FrameRec} {m₀ s₀} (k₀ : Keeps m₀ s₀ s) (hm :
    (4611686018477719566 &&& m₀ == 4611686018477719566) = true) : Keeps m₀ s₀ (State.commitFrame s d f) := by
  refine k₀.step (w' := 4611686018477719566) ?_ hm
  unfold State.commitFrame
  try dsimp only
  repeat' first
    | (with_reducible exact Keeps.refl)
    | (with_reducible refine Keeps.each (fun _ _ => ?_) ?_)
    | (with_reducible refine State.bankComesOn_keeps ?_ ?_)
    | (with_reducible refine State.commitWords_keeps ?_ ?_)
    | (with_reducible refine State.putAll_keeps ?_ ?_)
    | (with_reducible refine State.storeRow_keeps ?_ ?_)
    | exact (rfl : _ = true)
    | assumption
    | split

theorem State.applyFrame_keeps {s : State} {f : FrameRec} {m₀ s₀} (k₀ : Keeps m₀ s₀ s) (hm : (447333543787506962446
    &&& m₀ == 447333543787506962446) = true) : Keeps m₀ s₀ (State.applyFrame s f).2 := by
  refine k₀.step (w' := 447333543787506962446) ?_ hm
  unfold State.applyFrame
  try dsimp only
  repeat' first
    | (with_reducible exact Keeps.refl)
    | (with_reducible refine Keeps.inc ?_ ?_)
    | (with_reducible refine Keeps.ite ?_ ?_)
    | (with_reducible refine Keeps.ite_snd ?_ ?_)
    | (with_reducible refine State.commitFrame_keeps ?_ ?_)
    | (with_reducible refine State.record_keeps ?_ ?_)
    | exact (rfl : _ = true)
    | (simp only [Fld.area]; exact (rfl : _ = true))
    | exact Or.inr rfl
    | exact Or.inl rfl
    | assumption
    | split
    | (with_reducible refine Keeps.set_targets ?_ ?_)
    | (with_reducible refine Keeps.set_staged ?_ ?_)
    | (with_reducible refine Keeps.upd ?_ ?_ ?_ ?_ ?_ ?_ ?_ ?_ ?_ ?_ ?_ ?_ ?_ ?_ ?_ ?_ ?_ ?_ ?_ ?_ ?_ ?_ ?_ ?_ ?_ ?_ ?_ ?_ ?_ ?_ ?_ ?_ ?_ ?_ ?_ ?_ ?_ ?_ ?_ ?_ ?_ ?_ ?_ ?_ ?_ ?_ ?_ ?_ ?_ ?_ ?_ ?_ ?_ ?_ ?_ ?_ ?_ ?_ ?_ ?_ ?_ ?_ ?_ ?_ ?_ ?_ ?_)

theorem State.applyFrame_keeps_eq {s : State} {f : FrameRec} {x} {s'' : State} (e : State.applyFrame s f = (x, s''))
    {m₀ s₀} (k₀ : Keeps m₀ s₀ s) (hm : (447333543787506962446 &&& m₀ == 447333543787506962446) = true) : Keeps m₀ s₀
    s'' := by
  have := State.applyFrame_keeps (s := s) (f := f) k₀ hm
  rwa [e] at this

theorem State.frameArrives_keeps {s : State} {f : FrameRec} {m₀ s₀} (k₀ : Keeps m₀ s₀ s) (hm : (447333543787506962446
    &&& m₀ == 447333543787506962446) = true) : Keeps m₀ s₀ (State.frameArrives s f).2 := by
  refine k₀.step (w' := 447333543787506962446) ?_ hm
  unfold State.frameArrives
  try dsimp only
  repeat' first
    | (with_reducible exact Keeps.refl)
    | (with_reducible refine Keeps.ite ?_ ?_)
    | (with_reducible refine Keeps.ite_snd ?_ ?_)
    | (with_reducible refine State.applyFrame_keeps ?_ ?_)
    | (refine State.applyFrame_keeps_eq (by assumption) ?_ ?_)
    | exact (rfl : _ = true)

theorem State.frameArrives_keeps_eq {s : State} {f : FrameRec} {x} {s'' : State} (e : State.frameArrives s f = (x,
    s'')) {m₀ s₀} (k₀ : Keeps m₀ s₀ s) (hm : (447333543787506962446 &&& m₀ == 447333543787506962446) = true) : Keeps
    m₀ s₀ s'' := by
  have := State.frameArrives_keeps (s := s) (f := f) k₀ hm
  rwa [e] at this

theorem State.noteLevel_keeps {s : State} {m₀ s₀} (k₀ : Keeps m₀ s₀ s) (hm : (32 &&& m₀ == 32) = true) : Keeps m₀ s₀
    (State.noteLevel s) := by
  refine k₀.step (w' := 32) ?_ hm
  unfold State.noteLevel
  try dsimp only
  repeat' first
    | (with_reducible exact Keeps.refl)
    | (with_reducible refine Keeps.wr ?_ ?_)
    | (with_reducible refine Keeps.ite ?_ ?_)
    | exact (rfl : _ = true)

theorem State.measureVcco_keeps {s : State} {d mv : Nat} {m₀ s₀} (k₀ : Keeps m₀ s₀ s) (hm : (2 &&& m₀ == 2) = true) :
    Keeps m₀ s₀ (State.measureVcco s d mv) := by
  refine k₀.step (w' := 2) ?_ hm
  unfold State.measureVcco
  try dsimp only
  repeat' first
    | (with_reducible exact Keeps.refl)
    | (with_reducible refine Keeps.wr ?_ ?_)
    | exact (rfl : _ = true)

theorem State.bankOff_keeps {s : State} {d : Nat} {m₀ s₀} (k₀ : Keeps m₀ s₀ s) (hm : (2 &&& m₀ == 2) = true) : Keeps
    m₀ s₀ (State.bankOff s d) := by
  refine k₀.step (w' := 2) ?_ hm
  unfold State.bankOff
  try dsimp only
  repeat' first
    | (with_reducible exact Keeps.refl)
    | (with_reducible refine Keeps.wr ?_ ?_)
    | ((with_reducible refine Keeps.resetKeys ?_ ?_); · (rintro ⟨f, u, j⟩ hk; cases f <;> first | (simp only [Fld.area]; rfl) | exact Bool.noConfusion (show false = true from hk) | (simp [] at hk; done)))
    | exact (rfl : _ = true)

theorem State.activateBank_keeps {s : State} {d mv : Nat} {m₀ s₀} (k₀ : Keeps m₀ s₀ s) (hm : (7405570 &&& m₀ ==
    7405570) = true) : Keeps m₀ s₀ (State.activateBank s d mv) := by
  refine k₀.step (w' := 7405570) ?_ hm
  unfold State.activateBank
  try dsimp only
  repeat' first
    | (with_reducible exact Keeps.refl)
    | (with_reducible refine Keeps.wr ?_ ?_)
    | (with_reducible refine Keeps.ite ?_ ?_)
    | (with_reducible refine State.bankOff_keeps ?_ ?_)
    | (with_reducible refine State.endCond_keeps ?_ ?_)
    | (with_reducible refine State.measureVcco_keeps ?_ ?_)
    | (with_reducible refine State.raiseCond_keeps ?_ ?_)
    | exact (rfl : _ = true)

theorem execVccoMeasurement_keeps (d mv : Nat) (s : State) {t' : State} (ho : execVccoMeasurement d mv s = .next t') :
    Keeps 7405570 s t' := by
  unfold execVccoMeasurement at ho
  refine actCore_keeps ho ?_
  try dsimp only
  repeat' first
    | (with_reducible exact Keeps.refl)
    | (with_reducible refine Keeps.wr ?_ ?_)
    | (with_reducible refine Keeps.ite ?_ ?_)
    | (with_reducible refine State.bankOff_keeps ?_ ?_)
    | (with_reducible refine State.measureVcco_keeps ?_ ?_)
    | (with_reducible refine State.raiseCond_keeps ?_ ?_)
    | exact (rfl : _ = true)

theorem State.applyDie_keeps {s : State} {d : Nat} {b : List Nat} {m₀ s₀} (k₀ : Keeps m₀ s₀ s) (hm :
    (4613656352935447635 &&& m₀ == 4613656352935447635) = true) : Keeps m₀ s₀ (State.applyDie s d b) := by
  refine k₀.step (w' := 4613656352935447635) ?_ hm
  unfold State.applyDie
  try dsimp only
  repeat' first
    | (with_reducible exact Keeps.refl)
    | (with_reducible refine Keeps.wr ?_ ?_)
    | (with_reducible refine Keeps.ite ?_ ?_)
    | (with_reducible refine Keeps.each (fun _ _ => ?_) ?_)
    | (with_reducible refine State.commitWords_keeps ?_ ?_)
    | (with_reducible refine State.setFnom_keeps ?_ ?_)
    | (with_reducible refine State.setInput_keeps ?_ ?_)
    | exact (rfl : _ = true)

theorem State.applyNi_keeps {s : State} {u k : Nat} {b : List Nat} {m₀ s₀} (k₀ : Keeps m₀ s₀ s) (hm : (16 &&& m₀ ==
    16) = true) : Keeps m₀ s₀ (State.applyNi s u k b) := by
  refine k₀.step (w' := 16) ?_ hm
  unfold State.applyNi
  try dsimp only
  repeat' first
    | (with_reducible exact Keeps.refl)
    | (with_reducible refine Keeps.wr ?_ ?_)
    | (with_reducible refine Keeps.ite ?_ ?_)
    | (with_reducible refine Keeps.each (fun _ _ => ?_) ?_)
    | (with_reducible refine State.putAll_keeps ?_ ?_)
    | exact (rfl : _ = true)

theorem State.applyRoute_keeps {s : State} {u k e : Nat} {b : List Nat} {m₀ s₀} (k₀ : Keeps m₀ s₀ s) (hm : (16 &&& m₀
    == 16) = true) : Keeps m₀ s₀ (State.applyRoute s u k e b) := by
  refine k₀.step (w' := 16) ?_ hm
  unfold State.applyRoute
  try dsimp only
  repeat' first
    | (with_reducible exact Keeps.refl)
    | (with_reducible refine Keeps.wr ?_ ?_)
    | (with_reducible refine Keeps.each (fun _ _ => ?_) ?_)
    | exact (rfl : _ = true)

theorem State.applyQueue_keeps {s : State} {q v : Nat} {m₀ s₀} (k₀ : Keeps m₀ s₀ s) (hm : (128 &&& m₀ == 128) = true)
    : Keeps m₀ s₀ (State.applyQueue s q v) := by
  refine k₀.step (w' := 128) ?_ hm
  unfold State.applyQueue
  try dsimp only
  repeat' first
    | (with_reducible exact Keeps.refl)
    | (with_reducible refine Keeps.wr ?_ ?_)
    | (with_reducible refine State.setQcfg_keeps ?_ ?_)
    | exact (rfl : _ = true)

theorem State.applyContext_keeps {s : State} {c : Nat} {b : List Nat} {m₀ s₀} (k₀ : Keeps m₀ s₀ s) (hm :
    (6597069766656 &&& m₀ == 6597069766656) = true) : Keeps m₀ s₀ (State.applyContext s c b) := by
  refine k₀.step (w' := 6597069766656) ?_ hm
  unfold State.applyContext
  try dsimp only
  repeat' first
    | (with_reducible exact Keeps.refl)
    | (with_reducible refine Keeps.ite ?_ ?_)
    | (with_reducible refine Keeps.each (fun _ _ => ?_) ?_)
    | (with_reducible refine State.setCtx_keeps ?_ ?_)
    | exact (rfl : _ = true)
    | assumption
    | split
    | (with_reducible refine Keeps.set_ctxImage ?_ ?_)

theorem State.activatePort_keeps {s : State} {p : Nat} {b : List Nat} {m₀ s₀} (k₀ : Keeps m₀ s₀ s) (hm :
    (7253554924718045609001883 &&& m₀ == 7253554924718045609001883) = true) : Keeps m₀ s₀ (State.activatePort s p b)
    := by
  refine k₀.step (w' := 7253554924718045609001883) ?_ hm
  unfold State.activatePort
  try dsimp only
  repeat' first
    | (with_reducible exact Keeps.refl)
    | (with_reducible refine Keeps.ite ?_ ?_)
    | (with_reducible refine Keeps.each (fun _ _ => ?_) ?_)
    | (with_reducible refine State.disablePort_keeps ?_ ?_)
    | (with_reducible refine State.putFields_keeps ?_ ?_)
    | (with_reducible refine State.startAttempt_keeps ?_ ?_)
    | exact (rfl : _ = true)

theorem State.applyLane_keeps {s : State} {j : Nat} {b : List Nat} {m₀ s₀} (k₀ : Keeps m₀ s₀ s) (hm : (512 &&& m₀ ==
    512) = true) : Keeps m₀ s₀ (State.applyLane s j b) := by
  refine k₀.step (w' := 512) ?_ hm
  unfold State.applyLane
  try dsimp only
  repeat' first
    | (with_reducible exact Keeps.refl)
    | (with_reducible refine State.putFields_keeps ?_ ?_)
    | (with_reducible refine State.writeTaps_keeps ?_ ?_)
    | exact (rfl : _ = true)

theorem State.applyUlane_keeps {s : State} {u : Nat} {b : List Nat} {m₀ s₀} (k₀ : Keeps m₀ s₀ s) (hm : (512 &&& m₀ ==
    512) = true) : Keeps m₀ s₀ (State.applyUlane s u b) := by
  refine k₀.step (w' := 512) ?_ hm
  unfold State.applyUlane
  try dsimp only
  repeat' first
    | (with_reducible exact Keeps.refl)
    | (with_reducible refine Keeps.wr ?_ ?_)
    | (with_reducible refine Keeps.ite ?_ ?_)
    | (with_reducible refine State.putFields_keeps ?_ ?_)
    | exact (rfl : _ = true)

theorem State.applyStaged_keeps {s : State} {f : SFrame} {m₀ s₀} (k₀ : Keeps m₀ s₀ s) (hm : (4613662950005214931 &&&
    m₀ == 4613662950005214931) = true) : Keeps m₀ s₀ (State.applyStaged s f) := by
  refine k₀.step (w' := 4613662950005214931) ?_ hm
  unfold State.applyStaged
  try dsimp only
  repeat' first
    | (with_reducible exact Keeps.refl)
    | (with_reducible refine Keeps.wr ?_ ?_)
    | (with_reducible refine Keeps.each (fun _ _ => ?_) ?_)
    | (with_reducible refine State.applyContext_keeps ?_ ?_)
    | (with_reducible refine State.applyDie_keeps ?_ ?_)
    | (with_reducible refine State.applyLane_keeps ?_ ?_)
    | (with_reducible refine State.applyNi_keeps ?_ ?_)
    | (with_reducible refine State.applyQueue_keeps ?_ ?_)
    | (with_reducible refine State.applyRoute_keeps ?_ ?_)
    | (with_reducible refine State.applyUlane_keeps ?_ ?_)
    | (with_reducible refine State.takeTopology_keeps ?_ ?_)
    | exact (rfl : _ = true)
    | assumption
    | split

theorem State.settleSide_keeps {s : State} {u k : Nat} {m₀ s₀} (k₀ : Keeps m₀ s₀ s) (hm : (16 &&& m₀ == 16) = true) :
    Keeps m₀ s₀ (State.settleSide s u k) := by
  refine k₀.step (w' := 16) ?_ hm
  unfold State.settleSide
  try dsimp only
  repeat' first
    | (with_reducible exact Keeps.refl)
    | (with_reducible refine Keeps.wr ?_ ?_)
    | (with_reducible refine Keeps.ite ?_ ?_)
    | (with_reducible refine State.setFabState_keeps ?_ ?_)
    | exact (rfl : _ = true)

theorem State.dropContexts_keeps {s : State} {m₀ s₀} (k₀ : Keeps m₀ s₀ s) (hm : (32985348833280 &&& m₀ ==
    32985348833280) = true) : Keeps m₀ s₀ (State.dropContexts s) := by
  refine k₀.step (w' := 32985348833280) ?_ hm
  unfold State.dropContexts
  try dsimp only
  repeat' first
    | (with_reducible exact Keeps.refl)
    | exact (rfl : _ = true)
    | (simp only [Fld.area]; exact (rfl : _ = true))
    | exact Or.inr rfl
    | exact Or.inl rfl
    | assumption
    | split
    | (with_reducible refine Keeps.set_ctx ?_ ?_)
    | (with_reducible refine Keeps.set_ctxImage ?_ ?_)
    | (with_reducible refine Keeps.set_ctxShadow ?_ ?_)
    | (with_reducible refine Keeps.set_ctxStaged ?_ ?_)
    | (with_reducible refine Keeps.upd ?_ ?_ ?_ ?_ ?_ ?_ ?_ ?_ ?_ ?_ ?_ ?_ ?_ ?_ ?_ ?_ ?_ ?_ ?_ ?_ ?_ ?_ ?_ ?_ ?_ ?_ ?_ ?_ ?_ ?_ ?_ ?_ ?_ ?_ ?_ ?_ ?_ ?_ ?_ ?_ ?_ ?_ ?_ ?_ ?_ ?_ ?_ ?_ ?_ ?_ ?_ ?_ ?_ ?_ ?_ ?_ ?_ ?_ ?_ ?_ ?_ ?_ ?_ ?_ ?_ ?_ ?_)

theorem State.applyImage_keeps {s : State} {m₀ s₀} (k₀ : Keeps m₀ s₀ s) (hm : (7253559538380985943138267 &&& m₀ ==
    7253559538380985943138267) = true) : Keeps m₀ s₀ (State.applyImage s) := by
  refine k₀.step (w' := 7253559538380985943138267) ?_ hm
  unfold State.applyImage
  try dsimp only
  repeat' first
    | (with_reducible exact Keeps.refl)
    | (with_reducible refine Keeps.wr ?_ ?_)
    | (with_reducible refine Keeps.each (fun _ _ => ?_) ?_)
    | ((with_reducible refine Keeps.resetKeys ?_ ?_); · (rintro ⟨f, u, j⟩ hk; cases f <;> first | (simp only [Fld.area]; rfl) | exact Bool.noConfusion (show false = true from hk) | (simp [isRouteField, isRouterField, isQueueCfg, isLaneCfg, isChannelCfg] at hk; done)))
    | (with_reducible refine State.activatePort_keeps ?_ ?_)
    | (with_reducible refine State.applyStaged_keeps ?_ ?_)
    | (with_reducible refine State.dropContexts_keeps ?_ ?_)
    | exact (rfl : _ = true)

theorem State.stepThree_keeps {s : State} {m₀ s₀} (k₀ : Keeps m₀ s₀ s) (hm : (7253559538380985943138303 &&& m₀ ==
    7253559538380985943138303) = true) : Keeps m₀ s₀ (State.stepThree s).2 := by
  refine k₀.step (w' := 7253559538380985943138303) ?_ hm
  unfold State.stepThree
  try dsimp only
  repeat' first
    | (with_reducible exact Keeps.refl)
    | (with_reducible refine Keeps.ite ?_ ?_)
    | (with_reducible refine Keeps.ite_snd ?_ ?_)
    | (with_reducible refine State.applyImage_keeps ?_ ?_)
    | (with_reducible refine State.noteLevel_keeps ?_ ?_)
    | (with_reducible refine State.record_keeps ?_ ?_)
    | exact (rfl : _ = true)
    | assumption
    | split

theorem State.stepThree_keeps_eq {s : State} {x} {s'' : State} (e : State.stepThree s = (x, s'')) {m₀ s₀} (k₀ : Keeps
    m₀ s₀ s) (hm : (7253559538380985943138303 &&& m₀ == 7253559538380985943138303) = true) : Keeps m₀ s₀ s'' := by
  have := State.stepThree_keeps (s := s) k₀ hm
  rwa [e] at this

theorem State.loadDone_keeps {s : State} {isPartial : Bool} {m₀ s₀} (k₀ : Keeps m₀ s₀ s) (hm : (2213609288845146198016
    &&& m₀ == 2213609288845146198016) = true) : Keeps m₀ s₀ (State.loadDone s isPartial) := by
  refine k₀.step (w' := 2213609288845146198016) ?_ hm
  unfold State.loadDone
  try dsimp only
  repeat' first
    | (with_reducible exact Keeps.refl)
    | (with_reducible refine Keeps.wr ?_ ?_)
    | (with_reducible refine Keeps.inc ?_ ?_)
    | (with_reducible refine State.endLoad_keeps ?_ ?_)
    | exact (rfl : _ = true)

theorem State.keepersStart_keeps {s : State} {d : Nat} {p : Nat → Bool} {m₀ s₀} (k₀ : Keeps m₀ s₀ s) (hm : (2 &&& m₀
    == 2) = true) : Keeps m₀ s₀ (State.keepersStart s d p) := by
  refine k₀.step (w' := 2) ?_ hm
  unfold State.keepersStart
  try dsimp only
  repeat' first
    | (with_reducible exact Keeps.refl)
    | (with_reducible refine Keeps.wr ?_ ?_)
    | (with_reducible refine Keeps.each (fun _ _ => ?_) ?_)
    | exact (rfl : _ = true)

theorem State.activateDie_keeps {s : State} {l d mv : Nat} {m₀ s₀} (k₀ : Keeps m₀ s₀ s) (hm : (57765914 &&& m₀ ==
    57765914) = true) : Keeps m₀ s₀ (State.activateDie s l d mv) := by
  refine k₀.step (w' := 57765914) ?_ hm
  unfold State.activateDie
  try dsimp only
  repeat' first
    | (with_reducible exact Keeps.refl)
    | (with_reducible refine Keeps.wr ?_ ?_)
    | (with_reducible refine Keeps.each (fun _ _ => ?_) ?_)
    | (with_reducible refine State.activateBank_keeps ?_ ?_)
    | (with_reducible refine State.bankToOn_keeps ?_ ?_)
    | (with_reducible refine State.keepersStart_keeps ?_ ?_)
    | (with_reducible refine State.setFab_keeps ?_ ?_)
    | (with_reducible refine State.settleSide_keeps ?_ ?_)
    | exact (rfl : _ = true)
    | (simp only [Fld.area]; exact (rfl : _ = true))

theorem State.activateFull_keeps {s : State} {vcco : List Nat} {m₀ s₀} (k₀ : Keeps m₀ s₀ s) (hm :
    (7255800817785941653684191 &&& m₀ == 7255800817785941653684191) = true) : Keeps m₀ s₀ (State.activateFull s vcco)
    := by
  refine k₀.step (w' := 7255800817785941653684191) ?_ hm
  unfold State.activateFull
  try dsimp only
  repeat' first
    | (with_reducible exact Keeps.refl)
    | (with_reducible refine Keeps.wr ?_ ?_)
    | (with_reducible refine Keeps.each (fun _ _ => ?_) ?_)
    | (with_reducible refine State.activateDie_keeps ?_ ?_)
    | (with_reducible refine State.applyImage_keeps ?_ ?_)
    | (with_reducible refine State.latchInit_keeps ?_ ?_)
    | (with_reducible refine State.loadDone_keeps ?_ ?_)
    | (with_reducible refine State.runReset_keeps ?_ ?_)
    | exact (rfl : _ = true)

theorem State.activateNiche_keeps {s : State} {m₀ s₀} (k₀ : Keeps m₀ s₀ s) (hm : (2245893067905715748567 &&& m₀ ==
    2245893067905715748567) = true) : Keeps m₀ s₀ (State.activateNiche s) := by
  refine k₀.step (w' := 2245893067905715748567) ?_ hm
  unfold State.activateNiche
  try dsimp only
  repeat' first
    | (with_reducible exact Keeps.refl)
    | (with_reducible refine Keeps.wr ?_ ?_)
    | (with_reducible refine Keeps.inc ?_ ?_)
    | (with_reducible refine Keeps.ite ?_ ?_)
    | (with_reducible refine Keeps.each (fun _ _ => ?_) ?_)
    | ((with_reducible refine Keeps.resetKeys ?_ ?_); · (rintro ⟨f, u, j⟩ hk; cases f <;> first | (simp only [Fld.area]; rfl) | exact Bool.noConfusion (show false = true from hk) | (simp [sliceRegInNiche, isSliceReg] at hk; done)))
    | (with_reducible refine State.applyStaged_keeps ?_ ?_)
    | (with_reducible refine State.keepersStart_keeps ?_ ?_)
    | (with_reducible refine State.latchInit_keeps ?_ ?_)
    | (with_reducible refine State.loadDone_keeps ?_ ?_)
    | (with_reducible refine State.loadInit_keeps ?_ ?_)
    | (with_reducible refine State.settleSide_keeps ?_ ?_)
    | exact (rfl : _ = true)

theorem State.activateLoad_keeps {s : State} {vcco : List Nat} {m₀ s₀} (k₀ : Keeps m₀ s₀ s) (hm :
    (9069300236679527263338495 &&& m₀ == 9069300236679527263338495) = true) : Keeps m₀ s₀ (State.activateLoad s vcco)
    := by
  refine k₀.step (w' := 9069300236679527263338495) ?_ hm
  unfold State.activateLoad
  try dsimp only
  repeat' first
    | (with_reducible exact Keeps.refl)
    | (with_reducible refine Keeps.wr ?_ ?_)
    | (with_reducible refine Keeps.ite ?_ ?_)
    | (with_reducible refine State.activateFull_keeps ?_ ?_)
    | (with_reducible refine State.activateNiche_keeps ?_ ?_)
    | (with_reducible refine State.failLoad_keeps ?_ ?_)
    | (with_reducible refine State.stepThree_keeps ?_ ?_)
    | (refine State.stepThree_keeps_eq (by assumption) ?_ ?_)
    | exact (rfl : _ = true)

theorem State.nicheReleased_keeps {s : State} {m₀ s₀} (k₀ : Keeps m₀ s₀ s) (hm : (2245893067905715748567 &&& m₀ ==
    2245893067905715748567) = true) : Keeps m₀ s₀ (State.nicheReleased s) := by
  refine k₀.step (w' := 2245893067905715748567) ?_ hm
  unfold State.nicheReleased
  try dsimp only
  repeat' first
    | (with_reducible exact Keeps.refl)
    | (with_reducible refine Keeps.ite ?_ ?_)
    | (with_reducible refine State.activateNiche_keeps ?_ ?_)
    | exact (rfl : _ = true)

theorem State.beginLoad_keeps {s : State} {kind : Nat} {m₀ s₀} (k₀ : Keeps m₀ s₀ s) (hm : (2213609288845146198016 &&&
    m₀ == 2213609288845146198016) = true) : Keeps m₀ s₀ (State.beginLoad s kind) := by
  refine k₀.step (w' := 2213609288845146198016) ?_ hm
  unfold State.beginLoad
  try dsimp only
  repeat' first
    | (with_reducible exact Keeps.refl)
    | (with_reducible refine Keeps.wr ?_ ?_)
    | (with_reducible refine Keeps.ite ?_ ?_)
    | (with_reducible refine Keeps.each (fun _ _ => ?_) ?_)
    | ((with_reducible refine Keeps.resetKeys ?_ ?_); · (rintro ⟨f, u, j⟩ hk; cases f <;> first | (simp only [Fld.area]; rfl) | exact Bool.noConfusion (show false = true from hk)))
    | exact (rfl : _ = true)
    | (simp only [Fld.area]; exact (rfl : _ = true))
    | exact Or.inr rfl
    | exact Or.inl rfl
    | assumption
    | split
    | (with_reducible refine Keeps.set_targets ?_ ?_)
    | (with_reducible refine Keeps.set_staged ?_ ?_)
    | (with_reducible refine Keeps.set_stream ?_ ?_)
    | (with_reducible refine Keeps.set_imageBytes ?_ ?_)
    | (with_reducible refine Keeps.upd ?_ ?_ ?_ ?_ ?_ ?_ ?_ ?_ ?_ ?_ ?_ ?_ ?_ ?_ ?_ ?_ ?_ ?_ ?_ ?_ ?_ ?_ ?_ ?_ ?_ ?_ ?_ ?_ ?_ ?_ ?_ ?_ ?_ ?_ ?_ ?_ ?_ ?_ ?_ ?_ ?_ ?_ ?_ ?_ ?_ ?_ ?_ ?_ ?_ ?_ ?_ ?_ ?_ ?_ ?_ ?_ ?_ ?_ ?_ ?_ ?_ ?_ ?_ ?_ ?_ ?_ ?_)

theorem State.startFull_keeps {s : State} {m₀ s₀} (k₀ : Keeps m₀ s₀ s) (hm : (9069300227953802851089375 &&& m₀ ==
    9069300227953802851089375) = true) : Keeps m₀ s₀ (State.startFull s).2 := by
  refine k₀.step (w' := 9069300227953802851089375) ?_ hm
  unfold State.startFull
  try dsimp only
  repeat' first
    | (with_reducible exact Keeps.refl)
    | (with_reducible refine Keeps.wr ?_ ?_)
    | (with_reducible refine Keeps.ite ?_ ?_)
    | (with_reducible refine Keeps.ite_snd ?_ ?_)
    | (with_reducible refine State.beginLoad_keeps ?_ ?_)
    | (with_reducible refine State.clearImage_keeps ?_ ?_)
    | exact (rfl : _ = true)

theorem State.startFull_keeps_eq {s : State} {x} {s'' : State} (e : State.startFull s = (x, s'')) {m₀ s₀} (k₀ : Keeps
    m₀ s₀ s) (hm : (9069300227953802851089375 &&& m₀ == 9069300227953802851089375) = true) : Keeps m₀ s₀ s'' := by
  have := State.startFull_keeps (s := s) k₀ hm
  rwa [e] at this

theorem execCfgStart_keeps (s : State) {t' : State} (ho : execCfgStart s = .next t') : Keeps 9069300227953802851089375
    s t' := by
  unfold execCfgStart at ho
  refine actFw_keeps ho ?_
  try dsimp only
  repeat' first
    | (with_reducible exact Keeps.refl)
    | (with_reducible refine State.startFull_keeps ?_ ?_)
    | (refine State.startFull_keeps_eq (by assumption) ?_ ?_)
    | exact (rfl : _ = true)

theorem State.csFalls_keeps {s : State} {m₀ s₀} (k₀ : Keeps m₀ s₀ s) (hm : (9069300227953802851089375 &&& m₀ ==
    9069300227953802851089375) = true) : Keeps m₀ s₀ (State.csFalls s) := by
  refine k₀.step (w' := 9069300227953802851089375) ?_ hm
  unfold State.csFalls
  try dsimp only
  repeat' first
    | (with_reducible exact Keeps.refl)
    | (with_reducible refine Keeps.wr ?_ ?_)
    | (with_reducible refine Keeps.ite ?_ ?_)
    | (with_reducible refine State.startFull_keeps ?_ ?_)
    | (refine State.startFull_keeps_eq (by assumption) ?_ ?_)
    | exact (rfl : _ = true)

theorem execSlavePortStart_keeps (wide : Bool) (s : State) {t' : State} (ho : execSlavePortStart wide s = .next t') :
    Keeps 9069300227953802851089375 s t' := by
  unfold execSlavePortStart at ho
  refine act_keeps ho ?_
  try dsimp only
  repeat' first
    | (with_reducible exact Keeps.refl)
    | (with_reducible refine Keeps.wr ?_ ?_)
    | (with_reducible refine Keeps.ite ?_ ?_)
    | (with_reducible refine State.csFalls_keeps ?_ ?_)
    | exact (rfl : _ = true)

theorem execCfgCsNRise_keeps (s : State) {t' : State} (ho : execCfgCsNRise s = .next t') : Keeps 4096 s t' := by
  unfold execCfgCsNRise at ho
  refine act_keeps ho ?_
  try dsimp only
  repeat' first
    | (with_reducible exact Keeps.refl)
    | (with_reducible refine Keeps.wr ?_ ?_)
    | exact (rfl : _ = true)

theorem execCfgAbort_keeps (s : State) {t' : State} (ho : execCfgAbort s = .next t') : Keeps 9069300227953802851089375
    s t' := by
  unfold execCfgAbort at ho
  refine actFw_keeps ho ?_
  try dsimp only
  repeat' first
    | (with_reducible exact Keeps.refl)
    | (with_reducible refine Keeps.wr ?_ ?_)
    | (with_reducible refine Keeps.ite ?_ ?_)
    | (with_reducible refine State.failLoad_keeps ?_ ?_)
    | exact (rfl : _ = true)

theorem execCfgClear_keeps (s : State) {t' : State} (ho : execCfgClear s = .next t') : Keeps 9067086618664957704895455
    s t' := by
  unfold execCfgClear at ho
  refine actFw_keeps ho ?_
  try dsimp only
  repeat' first
    | (with_reducible exact Keeps.refl)
    | (with_reducible refine Keeps.wr ?_ ?_)
    | (with_reducible refine Keeps.ite ?_ ?_)
    | (with_reducible refine State.clearImage_keeps ?_ ?_)
    | exact (rfl : _ = true)

theorem execLoadTimeout_keeps (s : State) {t' : State} (ho : execLoadTimeout s = .next t') : Keeps
    9069300227953802851089375 s t' := by
  unfold execLoadTimeout at ho
  refine actCore_keeps ho ?_
  try dsimp only
  repeat' first
    | (with_reducible exact Keeps.refl)
    | (with_reducible refine Keeps.ite ?_ ?_)
    | (with_reducible refine State.failLoad_keeps ?_ ?_)
    | exact (rfl : _ = true)

theorem State.takeBytes_keeps {s s₀ t : State} {given l : List Nat} {k m₀ : Nat} {cipher : Bool}
    (e : s.takeBytes given k cipher = some (l, t)) (h : Keeps m₀ s₀ s) (hm : (1770887431076116959232 &&& m₀ == 1770887431076116959232) = true) :
    Keeps m₀ s₀ t := by
  refine h.step (w' := 1770887431076116959232) ?_ hm
  unfold State.takeBytes at e
  extract_lets own l' u at e
  have k : ∀ x y, Keeps 1770887431076116959232 s { s with stream := x, imageBytes := y } := fun x y =>
    Keeps.set_imageBytes (t := { s with stream := x }) rfl (Keeps.set_stream rfl Keeps.refl)
  split at e
  · cases e
  · obtain ⟨-, rfl⟩ := Prod.mk.inj (Option.some.inj e)
    exact Keeps.ite (Keeps.wr rfl (k _ _)) (k _ _)

theorem State.imageData_keeps {s : State} {bytes : List Nat} {m₀ s₀} (k₀ : Keeps m₀ s₀ s) (hm : (590295810358705655808
    &&& m₀ == 590295810358705655808) = true) : Keeps m₀ s₀ (State.imageData s bytes).2 := by
  refine k₀.step (w' := 590295810358705655808) ?_ hm
  unfold State.imageData
  try dsimp only
  repeat' first
    | (with_reducible exact Keeps.refl)
    | (with_reducible refine Keeps.wr ?_ ?_)
    | (with_reducible refine Keeps.ite ?_ ?_)
    | (with_reducible refine Keeps.ite_snd ?_ ?_)
    | exact (rfl : _ = true)
    | (simp only [Fld.area]; exact (rfl : _ = true))
    | assumption
    | split
    | (with_reducible refine Keeps.set_stream ?_ ?_)

theorem State.imageData_keeps_eq {s : State} {bytes : List Nat} {x} {s'' : State} (e : State.imageData s bytes = (x,
    s'')) {m₀ s₀} (k₀ : Keeps m₀ s₀ s) (hm : (590295810358705655808 &&& m₀ == 590295810358705655808) = true) : Keeps
    m₀ s₀ s'' := by
  have := State.imageData_keeps (s := s) (bytes := bytes) k₀ hm
  rwa [e] at this

theorem execImageDataWrite_keeps (bytes : List Nat) (s : State) {t' : State} (ho : execImageDataWrite bytes s = .next
    t') : Keeps 590295810358714044416 s t' := by
  unfold execImageDataWrite at ho
  refine actFw_keeps ho ?_
  try dsimp only
  repeat' first
    | (with_reducible exact Keeps.refl)
    | (with_reducible refine Keeps.emit ?_ ?_)
    | (with_reducible refine State.imageData_keeps ?_ ?_)
    | (refine State.imageData_keeps_eq (by assumption) ?_ ?_)
    | exact (rfl : _ = true)

theorem State.takeHeader_keeps {s : State} {h : List Nat} {m₀ s₀} (k₀ : Keeps m₀ s₀ s) (hm : (4096 &&& m₀ == 4096) =
    true) : Keeps m₀ s₀ (State.takeHeader s h) := by
  refine k₀.step (w' := 4096) ?_ hm
  unfold State.takeHeader
  try dsimp only
  repeat' first
    | (with_reducible exact Keeps.refl)
    | (with_reducible refine Keeps.wr ?_ ?_)
    | (with_reducible refine Keeps.each (fun _ _ => ?_) ?_)
    | exact (rfl : _ = true)
    | (simp only [Fld.area]; exact (rfl : _ = true))

theorem State.checkHeader_keeps {s : State} {h : List Nat} {m₀ s₀} (k₀ : Keeps m₀ s₀ s) (hm :
    (9069300227953802851089407 &&& m₀ == 9069300227953802851089407) = true) : Keeps m₀ s₀ (State.checkHeader s h) :=
    by
  refine k₀.step (w' := 9069300227953802851089407) ?_ hm
  unfold State.checkHeader
  try dsimp only
  repeat' first
    | (with_reducible exact Keeps.refl)
    | (with_reducible refine Keeps.ite ?_ ?_)
    | (with_reducible refine State.failLoad_keeps ?_ ?_)
    | (with_reducible refine State.noteLevel_keeps ?_ ?_)
    | (with_reducible refine State.takeHeader_keeps ?_ ?_)
    | exact (rfl : _ = true)

theorem execLoadHeader_keeps (bytes : List Nat) (s : State) {t' : State} (ho : execLoadHeader bytes s = .next t') :
    Keeps 9069300227953802851089407 s t' := by
  unfold execLoadHeader at ho
  refine actCore_keeps ho ?_
  try dsimp only
  repeat' first
    | (with_reducible exact Keeps.refl)
    | (with_reducible refine Keeps.ite ?_ ?_)
    | (with_reducible refine State.checkHeader_keeps ?_ ?_)
    | (refine State.takeBytes_keeps (by assumption) ?_ ?_)
    | exact (rfl : _ = true)
    | assumption
    | split

theorem State.checkTable_keeps {s : State} {t : List Nat} {m₀ s₀} (k₀ : Keeps m₀ s₀ s) (hm :
    (9069300227953802851089375 &&& m₀ == 9069300227953802851089375) = true) : Keeps m₀ s₀ (State.checkTable s t) := by
  refine k₀.step (w' := 9069300227953802851089375) ?_ hm
  unfold State.checkTable
  try dsimp only
  repeat' first
    | (with_reducible exact Keeps.refl)
    | (with_reducible refine Keeps.wr ?_ ?_)
    | (with_reducible refine Keeps.ite ?_ ?_)
    | (with_reducible refine Keeps.each (fun _ _ => ?_) ?_)
    | (with_reducible refine State.failLoad_keeps ?_ ?_)
    | (with_reducible refine State.setFab_keeps ?_ ?_)
    | exact (rfl : _ = true)

theorem execPlacementTable_keeps (bytes : List Nat) (s : State) {t' : State} (ho : execPlacementTable bytes s = .next
    t') : Keeps 9069300227953802851089375 s t' := by
  unfold execPlacementTable at ho
  refine actCore_keeps ho ?_
  try dsimp only
  repeat' first
    | (with_reducible exact Keeps.refl)
    | (with_reducible refine Keeps.ite ?_ ?_)
    | (with_reducible refine State.checkTable_keeps ?_ ?_)
    | (refine State.takeBytes_keeps (by assumption) ?_ ?_)
    | exact (rfl : _ = true)
    | assumption
    | split

theorem State.recordFrame_keeps {s : State} {f : FrameRec} {m₀ s₀} (k₀ : Keeps m₀ s₀ s) (hm : (4096 &&& m₀ == 4096) =
    true) : Keeps m₀ s₀ (State.recordFrame s f) := by
  refine k₀.step (w' := 4096) ?_ hm
  unfold State.recordFrame
  try dsimp only
  repeat' first
    | (with_reducible exact Keeps.refl)
    | (with_reducible refine Keeps.wr ?_ ?_)
    | exact (rfl : _ = true)

theorem State.nextRecord_keeps {s : State} {bytes : List Nat} {m₀ s₀} (k₀ : Keeps m₀ s₀ s) (hm :
    (9069300227953802851089375 &&& m₀ == 9069300227953802851089375) = true) : Keeps m₀ s₀ (State.nextRecord s bytes)
    := by
  refine k₀.step (w' := 9069300227953802851089375) ?_ hm
  unfold State.nextRecord
  try dsimp only
  repeat' first
    | (with_reducible exact Keeps.refl)
    | (with_reducible refine Keeps.wr ?_ ?_)
    | (with_reducible refine Keeps.ite ?_ ?_)
    | (with_reducible refine State.failLoad_keeps ?_ ?_)
    | (with_reducible refine State.frameArrives_keeps ?_ ?_)
    | (refine State.frameArrives_keeps_eq (by assumption) ?_ ?_)
    | (with_reducible refine State.recordFrame_keeps ?_ ?_)
    | exact (rfl : _ = true)

theorem execFrameRecord_keeps (bytes : List Nat) (s : State) {t' : State} (ho : execFrameRecord bytes s = .next t') :
    Keeps 9069300227953802851089375 s t' := by
  unfold execFrameRecord at ho
  refine actCore_keeps ho ?_
  try dsimp only
  repeat' first
    | (with_reducible exact Keeps.refl)
    | (with_reducible refine Keeps.ite ?_ ?_)
    | (with_reducible refine State.failLoad_keeps ?_ ?_)
    | (with_reducible refine State.nextRecord_keeps ?_ ?_)
    | (refine State.takeBytes_keeps (by assumption) ?_ ?_)
    | exact (rfl : _ = true)
    | assumption
    | split

theorem State.verifying_keeps {s : State} {m₀ s₀} (k₀ : Keeps m₀ s₀ s) (hm : (12290 &&& m₀ == 12290) = true) : Keeps
    m₀ s₀ (State.verifying s) := by
  refine k₀.step (w' := 12290) ?_ hm
  unfold State.verifying
  try dsimp only
  repeat' first
    | (with_reducible exact Keeps.refl)
    | (with_reducible refine Keeps.wr ?_ ?_)
    | (with_reducible refine Keeps.ite ?_ ?_)
    | (with_reducible refine Keeps.each (fun _ _ => ?_) ?_)
    | (with_reducible refine State.setFab_keeps ?_ ?_)
    | exact (rfl : _ = true)

theorem State.verify_keeps {s : State} {tagOk ecdsaOk hssOk : Bool} {vcco : List Nat} {m₀ s₀} (k₀ : Keeps m₀ s₀ s) (hm
    : (9069300236679527263338495 &&& m₀ == 9069300236679527263338495) = true) : Keeps m₀ s₀ (State.verify s tagOk
    ecdsaOk hssOk vcco) := by
  refine k₀.step (w' := 9069300236679527263338495) ?_ hm
  unfold State.verify
  try dsimp only
  repeat' first
    | (with_reducible exact Keeps.refl)
    | (with_reducible refine Keeps.wr ?_ ?_)
    | (with_reducible refine Keeps.ite ?_ ?_)
    | (with_reducible refine State.activateLoad_keeps ?_ ?_)
    | (with_reducible refine State.failLoad_keeps ?_ ?_)
    | exact (rfl : _ = true)

theorem State.takeTrailer_keeps {s : State} {l : List Nat} {tagOk ecdsaOk hssOk : Bool} {vcco : List Nat} {m₀ s₀} (k₀
    : Keeps m₀ s₀ s) (hm : (9069300236679527263338495 &&& m₀ == 9069300236679527263338495) = true) : Keeps m₀ s₀
    (State.takeTrailer s l tagOk ecdsaOk hssOk vcco) := by
  refine k₀.step (w' := 9069300236679527263338495) ?_ hm
  unfold State.takeTrailer
  try dsimp only
  repeat' first
    | (with_reducible exact Keeps.refl)
    | (with_reducible refine Keeps.wr ?_ ?_)
    | (with_reducible refine Keeps.ite ?_ ?_)
    | (with_reducible refine State.failLoad_keeps ?_ ?_)
    | (with_reducible refine State.verify_keeps ?_ ?_)
    | (with_reducible refine State.verifying_keeps ?_ ?_)
    | exact (rfl : _ = true)

theorem execLoadTrailer_keeps (bytes : List Nat) (t : Nat) (tagOk ecdsaOk hssOk : Bool) (vcco : List Nat) (s : State)
    {t' : State} (ho : execLoadTrailer bytes t tagOk ecdsaOk hssOk vcco s = .next t') :
    Keeps 9069300236679527263600639 s t' := by
  unfold execLoadTrailer at ho
  refine actCore_keeps ho ?_
  try dsimp only
  repeat' first
    | (with_reducible exact Keeps.refl)
    | (with_reducible refine Keeps.at ?_ ?_)
    | (with_reducible refine Keeps.ite ?_ ?_)
    | (refine State.takeBytes_keeps (by assumption) ?_ ?_)
    | (with_reducible refine State.takeTrailer_keeps ?_ ?_)
    | exact (rfl : _ = true)
    | assumption
    | split

theorem execActivationDramWaitEnd_keeps (vcco : List Nat) (s : State) {t' : State} (ho : execActivationDramWaitEnd
    vcco s = .next t') : Keeps 9069300236679527263338495 s t' := by
  unfold execActivationDramWaitEnd at ho
  refine actCore_keeps ho ?_
  try dsimp only
  repeat' first
    | (with_reducible exact Keeps.refl)
    | (with_reducible refine Keeps.wr ?_ ?_)
    | (with_reducible refine Keeps.ite ?_ ?_)
    | (with_reducible refine State.activateLoad_keeps ?_ ?_)
    | exact (rfl : _ = true)

theorem State.nicheLoad_keeps {s : State} {d x : Nat} {m₀ s₀} (k₀ : Keeps m₀ s₀ s) (hm : (9069300227673427110081182
    &&& m₀ == 9069300227673427110081182) = true) : Keeps m₀ s₀ (State.nicheLoad s d x) := by
  refine k₀.step (w' := 9069300227673427110081182) ?_ hm
  unfold State.nicheLoad
  try dsimp only
  repeat' first
    | (with_reducible exact Keeps.refl)
    | (with_reducible refine Keeps.wr ?_ ?_)
    | (with_reducible refine Keeps.ite ?_ ?_)
    | (with_reducible refine State.beginLoad_keeps ?_ ?_)
    | (with_reducible refine State.clearNiche_keeps ?_ ?_)
    | exact (rfl : _ = true)

theorem State.nicheClear_keeps {s : State} {d x : Nat} {m₀ s₀} (k₀ : Keeps m₀ s₀ s) (hm : (9067086618384581963883166
    &&& m₀ == 9067086618384581963883166) = true) : Keeps m₀ s₀ (State.nicheClear s d x) := by
  refine k₀.step (w' := 9067086618384581963883166) ?_ hm
  unfold State.nicheClear
  try dsimp only
  repeat' first
    | (with_reducible exact Keeps.refl)
    | (with_reducible refine Keeps.wr ?_ ?_)
    | (with_reducible refine Keeps.ite ?_ ?_)
    | (with_reducible refine State.clearNiche_keeps ?_ ?_)
    | exact (rfl : _ = true)

theorem execNicheLoad_keeps (d x : Nat) (s : State) {t' : State} (ho : execNicheLoad d x s = .next t') : Keeps
    9069300227673427110081182 s t' := by
  unfold execNicheLoad at ho
  refine actCore_keeps ho ?_
  try dsimp only
  repeat' first
    | (with_reducible exact Keeps.refl)
    | (with_reducible refine State.nicheLoad_keeps ?_ ?_)
    | exact (rfl : _ = true)

theorem execNicheClear_keeps (d x : Nat) (s : State) {t' : State} (ho : execNicheClear d x s = .next t') : Keeps
    9067086618384581963883166 s t' := by
  unfold execNicheClear at ho
  refine actCore_keeps ho ?_
  try dsimp only
  repeat' first
    | (with_reducible exact Keeps.refl)
    | (with_reducible refine State.nicheClear_keeps ?_ ?_)
    | exact (rfl : _ = true)

end Sys2Proof.Machine
end

