-- ==== Sys2Proof/Laws/KeepsModule.lean ====
section
/-! SUPPORT. What each operation and each command leaves alone: scrubbing, links, power, security and the dictionary. -/

namespace Sys2Proof.Machine

theorem State.passEnds_keeps {s : State} {d : Nat} {m₀ s₀} (k₀ : Keeps m₀ s₀ s) (hm : (3227648 &&& m₀ == 3227648) =
    true) : Keeps m₀ s₀ (State.passEnds s d) := by
  refine k₀.step (w' := 3227648) ?_ hm
  unfold State.passEnds
  try dsimp only
  repeat' first
    | (with_reducible exact Keeps.refl)
    | (with_reducible refine Keeps.wr ?_ ?_)
    | (with_reducible refine Keeps.inc ?_ ?_)
    | (with_reducible refine Keeps.ite ?_ ?_)
    | (with_reducible refine State.sendEmcy_keeps ?_ ?_)
    | exact (rfl : _ = true)

theorem State.countCorrection_keeps {s : State} {d x : Nat} {m₀ s₀} (k₀ : Keeps m₀ s₀ s) (hm : (3235840 &&& m₀ ==
    3235840) = true) : Keeps m₀ s₀ (State.countCorrection s d x) := by
  refine k₀.step (w' := 3235840) ?_ hm
  unfold State.countCorrection
  try dsimp only
  repeat' first
    | (with_reducible exact Keeps.refl)
    | (with_reducible refine Keeps.wr ?_ ?_)
    | (with_reducible refine Keeps.inc ?_ ?_)
    | (with_reducible refine Keeps.ite ?_ ?_)
    | (with_reducible refine State.raiseEvent_keeps ?_ ?_)
    | exact (rfl : _ = true)

theorem State.noteBadWord_keeps {s : State} {d k x : Nat} {m₀ s₀} (k₀ : Keeps m₀ s₀ s) (hm : (3235840 &&& m₀ ==
    3235840) = true) : Keeps m₀ s₀ (State.noteBadWord s d k x) := by
  refine k₀.step (w' := 3235840) ?_ hm
  unfold State.noteBadWord
  try dsimp only
  repeat' first
    | (with_reducible exact Keeps.refl)
    | (with_reducible refine Keeps.wr ?_ ?_)
    | (with_reducible refine Keeps.inc ?_ ?_)
    | (with_reducible refine Keeps.ite ?_ ?_)
    | (with_reducible refine State.raiseEvent_keeps ?_ ?_)
    | exact (rfl : _ = true)

theorem State.readWord_keeps {s : State} {d k upset : Nat} {m₀ s₀} (k₀ : Keeps m₀ s₀ s) (hm :
    (7253559536404064036414363 &&& m₀ == 7253559536404064036414363) = true) : Keeps m₀ s₀ (State.readWord s d k upset)
    := by
  refine k₀.step (w' := 7253559536404064036414363) ?_ hm
  unfold State.readWord
  try dsimp only
  repeat' first
    | (with_reducible exact Keeps.refl)
    | (with_reducible refine Keeps.ite ?_ ?_)
    | (with_reducible refine State.consumePoison_keeps ?_ ?_)
    | (with_reducible refine State.countCorrection_keeps ?_ ?_)
    | (with_reducible refine State.noteBadWord_keeps ?_ ?_)
    | (with_reducible refine State.setPlane_keeps ?_ ?_)
    | exact (rfl : _ = true)

theorem execConfigScrubRead_keeps (d upset : Nat) (s : State) {t' : State} (ho : execConfigScrubRead d upset s = .next
    t') : Keeps 7253559536404064036414363 s t' := by
  unfold execConfigScrubRead at ho
  refine actCore_keeps ho ?_
  try dsimp only
  repeat' first
    | (with_reducible exact Keeps.refl)
    | (with_reducible refine Keeps.wr ?_ ?_)
    | (with_reducible refine Keeps.ite ?_ ?_)
    | (with_reducible refine State.passEnds_keeps ?_ ?_)
    | (with_reducible refine State.readWord_keeps ?_ ?_)
    | exact (rfl : _ = true)
    | assumption
    | split

theorem State.bankPassEnds_keeps {s : State} {d : Nat} {m₀ s₀} (k₀ : Keeps m₀ s₀ s) (hm : (3227648 &&& m₀ == 3227648)
    = true) : Keeps m₀ s₀ (State.bankPassEnds s d) := by
  refine k₀.step (w' := 3227648) ?_ hm
  unfold State.bankPassEnds
  try dsimp only
  repeat' first
    | (with_reducible exact Keeps.refl)
    | (with_reducible refine Keeps.wr ?_ ?_)
    | (with_reducible refine Keeps.inc ?_ ?_)
    | (with_reducible refine Keeps.ite ?_ ?_)
    | (with_reducible refine State.sendEmcy_keeps ?_ ?_)
    | exact (rfl : _ = true)

theorem execBankScrubRead_keeps (d : Nat) (s : State) {t' : State} (ho : execBankScrubRead d s = .next t') : Keeps
    280051712 s t' := by
  unfold execBankScrubRead at ho
  refine actCore_keeps ho ?_
  try dsimp only
  repeat' first
    | (with_reducible exact Keeps.refl)
    | (with_reducible refine Keeps.wr ?_ ?_)
    | (with_reducible refine Keeps.ite ?_ ?_)
    | (with_reducible refine State.bankPassEnds_keeps ?_ ?_)
    | exact (rfl : _ = true)
    | exact Or.inr rfl
    | exact Or.inl rfl
    | assumption
    | split
    | (with_reducible refine Keeps.set_out ?_ ?_)
    | (with_reducible refine Keeps.set_scrubWaits ?_ ?_)

theorem State.loadSettings_keeps {s : State} {d : Nat} {m₀ s₀} (k₀ : Keeps m₀ s₀ s) (hm : (16384 &&& m₀ == 16384) =
    true) : Keeps m₀ s₀ (State.loadSettings s d) := by
  refine k₀.step (w' := 16384) ?_ hm
  unfold State.loadSettings
  try dsimp only
  repeat' first
    | (with_reducible exact Keeps.refl)
    | (with_reducible refine Keeps.wr ?_ ?_)
    | exact (rfl : _ = true)

theorem State.scrubResumes_keeps {s : State} {d : Nat} {m₀ s₀} (k₀ : Keeps m₀ s₀ s) (hm : (16384 &&& m₀ == 16384) =
    true) : Keeps m₀ s₀ (State.scrubResumes s d) := by
  refine k₀.step (w' := 16384) ?_ hm
  unfold State.scrubResumes
  try dsimp only
  repeat' first
    | (with_reducible exact Keeps.refl)
    | (with_reducible refine Keeps.wr ?_ ?_)
    | (with_reducible refine Keeps.each (fun _ _ => ?_) ?_)
    | exact (rfl : _ = true)
    | (simp only [Fld.area]; exact (rfl : _ = true))

theorem State.noteReload_keeps {s : State} {d : Nat} {m₀ s₀} (k₀ : Keeps m₀ s₀ s) (hm : (16384 &&& m₀ == 16384) =
    true) : Keeps m₀ s₀ (State.noteReload s d) := by
  refine k₀.step (w' := 16384) ?_ hm
  unfold State.noteReload
  try dsimp only
  repeat' first
    | (with_reducible exact Keeps.refl)
    | (with_reducible refine Keeps.wr ?_ ?_)
    | (with_reducible refine Keeps.each (fun _ _ => ?_) ?_)
    | exact (rfl : _ = true)

theorem execScrubParityMismatch_keeps (d t : Nat) (s : State) {t' : State} (ho : execScrubParityMismatch d t s = .next
    t') : Keeps 7684096 s t' := by
  unfold execScrubParityMismatch at ho
  refine actCore_keeps ho ?_
  try dsimp only
  repeat' first
    | (with_reducible exact Keeps.refl)
    | (with_reducible refine Keeps.wr ?_ ?_)
    | (with_reducible refine Keeps.inc ?_ ?_)
    | (with_reducible refine Keeps.at ?_ ?_)
    | (with_reducible refine Keeps.ite ?_ ?_)
    | (with_reducible refine State.loadSettings_keeps ?_ ?_)
    | (with_reducible refine State.noteReload_keeps ?_ ?_)
    | (with_reducible refine State.raiseCond_keeps ?_ ?_)
    | (with_reducible refine State.raiseEvent_keeps ?_ ?_)
    | (with_reducible refine State.scrubResumes_keeps ?_ ?_)
    | exact (rfl : _ = true)

theorem State.scrubSettings_keeps {s : State} {d v : Nat} {m₀ s₀} (k₀ : Keeps m₀ s₀ s) (hm : (7421952 &&& m₀ ==
    7421952) = true) : Keeps m₀ s₀ (State.scrubSettings s d v).2 := by
  refine k₀.step (w' := 7421952) ?_ hm
  unfold State.scrubSettings
  try dsimp only
  repeat' first
    | (with_reducible exact Keeps.refl)
    | (with_reducible refine Keeps.wr ?_ ?_)
    | (with_reducible refine Keeps.ite ?_ ?_)
    | (with_reducible refine Keeps.ite_snd ?_ ?_)
    | (with_reducible refine State.endCond_keeps ?_ ?_)
    | (with_reducible refine State.loadSettings_keeps ?_ ?_)
    | (with_reducible refine State.scrubResumes_keeps ?_ ?_)
    | exact (rfl : _ = true)

theorem State.scrubSettings_keeps_eq {s : State} {d v : Nat} {x} {s'' : State} (e : State.scrubSettings s d v = (x,
    s'')) {m₀ s₀} (k₀ : Keeps m₀ s₀ s) (hm : (7421952 &&& m₀ == 7421952) = true) : Keeps m₀ s₀ s'' := by
  have := State.scrubSettings_keeps (s := s) (d := d) (v := v) k₀ hm
  rwa [e] at this

theorem execScrubSettingsWrite_keeps (d v : Nat) (s : State) {t' : State} (ho : execScrubSettingsWrite d v s = .next
    t') : Keeps 15810560 s t' := by
  unfold execScrubSettingsWrite at ho
  refine actFw_keeps ho ?_
  try dsimp only
  repeat' first
    | (with_reducible exact Keeps.refl)
    | (with_reducible refine Keeps.emit ?_ ?_)
    | (with_reducible refine State.scrubSettings_keeps ?_ ?_)
    | (refine State.scrubSettings_keeps_eq (by assumption) ?_ ?_)
    | exact (rfl : _ = true)

theorem State.clearScrubCounts_keeps {s : State} {d : Nat} {m₀ s₀} (k₀ : Keeps m₀ s₀ s) (hm : (24576 &&& m₀ == 24576)
    = true) : Keeps m₀ s₀ (State.clearScrubCounts s d) := by
  refine k₀.step (w' := 24576) ?_ hm
  unfold State.clearScrubCounts
  try dsimp only
  repeat' first
    | (with_reducible exact Keeps.refl)
    | (with_reducible refine Keeps.wr ?_ ?_)
    | (with_reducible refine Keeps.each (fun _ _ => ?_) ?_)
    | exact (rfl : _ = true)
    | (simp only [Fld.area]; exact (rfl : _ = true))

theorem execScrubCntClr_keeps (d v : Nat) (s : State) {t' : State} (ho : execScrubCntClr d v s = .next t') : Keeps
    24576 s t' := by
  unfold execScrubCntClr at ho
  refine actCore_keeps ho ?_
  try dsimp only
  repeat' first
    | (with_reducible exact Keeps.refl)
    | (with_reducible refine Keeps.ite ?_ ?_)
    | (with_reducible refine State.clearScrubCounts_keeps ?_ ?_)
    | exact (rfl : _ = true)

theorem State.both_keeps {s : State} {lk : Nat} {f : SeifF} {v : Nat} {m₀ s₀} (k₀ : Keeps m₀ s₀ s) (hm : (32 &&& m₀ ==
    32) = true) : Keeps m₀ s₀ (State.both s lk f v) := by
  refine k₀.step (w' := 32) ?_ hm
  unfold State.both
  try dsimp only
  repeat' first
    | (with_reducible exact Keeps.refl)
    | (with_reducible refine Keeps.wr ?_ ?_)
    | (with_reducible refine Keeps.each (fun _ _ => ?_) ?_)
    | exact (rfl : _ = true)
    | (simp only [Fld.area]; exact (rfl : _ = true))

theorem State.putFlit_keeps {s t : State} {u l : Nat} {f : LinkFlit} (e : State.putFlit u l s f = some t) : Keeps
    4294967328 s t := by
  unfold State.putFlit at e
  dsimp only at e
  repeat' split at e
  all_goals cases e
  all_goals exact Keeps.inc rfl (Keeps.set_crossing rfl Keeps.refl)

theorem State.putFlits_fold {s₀ t : State} {u l : Nat} (fs : List LinkFlit) {a : Option State}
    (e : fs.foldl (fun a f => a.bind fun s => State.putFlit u l s f) a = some t)
    (h : ∀ s, a = some s → Keeps 4294967328 s₀ s) : Keeps 4294967328 s₀ t := by
  induction fs generalizing a with
  | nil => exact h t e
  | cons f fs ih =>
    refine ih e fun s hs => ?_
    obtain ⟨x, hx, hy⟩ := Option.bind_eq_some_iff.mp hs
    exact (h x hx).step (State.putFlit_keeps hy) (by exact rfl)

theorem State.putFlits_keeps {s s₀ t : State} {u l : Nat} {fs : List LinkFlit} {m₀ : Nat} (e : s.putFlits u l fs =
    some t)
    (h : Keeps m₀ s₀ s) (hm : (4294967328 &&& m₀ == 4294967328) = true) : Keeps m₀ s₀ t := by
  refine h.step (w' := 4294967328) ?_ hm
  unfold State.putFlits at e
  dsimp only at e
  split at e
  · refine State.putFlits_fold fs e ?_
    rintro _ ⟨⟩
    exact Keeps.set_crossing rfl Keeps.refl
  · cases e

theorem State.nextBlock_keeps {s s₀ t : State} {u l b : Nat} {fs : List LinkFlit} {m₀ : Nat}
    (e : s.nextBlock u l fs = some (b, t)) (h : Keeps m₀ s₀ s) (hm : (6442450976 &&& m₀ == 6442450976) = true) :
    Keeps m₀ s₀ t := by
  refine h.step (w' := 6442450976) ?_ hm
  unfold State.nextBlock at e
  dsimp only at e
  split at e
  · obtain ⟨-, rfl⟩ := Prod.mk.inj (Option.some.inj e)
    exact Keeps.wr rfl (Keeps.inc rfl (Keeps.set_replay rfl Keeps.refl))
  · split at e
    · obtain ⟨-, rfl⟩ := Prod.mk.inj (Option.some.inj e)
      exact Keeps.wr rfl Keeps.refl
    · obtain ⟨x, hx, hy⟩ := Option.map_eq_some_iff.mp e
      have k := State.putFlits_keeps (m₀ := 6442450976) hx Keeps.refl (by exact rfl)
      obtain ⟨-, rfl⟩ := Prod.mk.inj hy
      refine Keeps.wr rfl (Keeps.wr rfl (Keeps.set_replay rfl ?_))
      split
      · exact k
      · exact Keeps.wr rfl k

theorem State.overWires_keeps {s : State} {u l b : Nat} {flips : List (Nat × Nat)} {m₀ s₀} (k₀ : Keeps m₀ s₀ s) (hm :
    (8388640 &&& m₀ == 8388640) = true) : Keeps m₀ s₀ (State.overWires s u l b flips).2 := by
  refine k₀.step (w' := 8388640) ?_ hm
  unfold State.overWires
  try dsimp only
  repeat' first
    | (with_reducible exact Keeps.refl)
    | (with_reducible refine Keeps.wr ?_ ?_)
    | (with_reducible refine Keeps.emit ?_ ?_)
    | (with_reducible refine Keeps.each (fun _ _ => ?_) ?_)
    | (with_reducible refine Keeps.foldl (fun _ _ => ?_) ?_)
    | exact (rfl : _ = true)

theorem State.overWires_keeps_eq {s : State} {u l b : Nat} {flips : List (Nat × Nat)} {x} {s'' : State} (e :
    State.overWires s u l b flips = (x, s'')) {m₀ s₀} (k₀ : Keeps m₀ s₀ s) (hm : (8388640 &&& m₀ == 8388640) = true) :
    Keeps m₀ s₀ s'' := by
  have := State.overWires_keeps (s := s) (u := u) (l := l) (b := b) (flips := flips) k₀ hm
  rwa [e] at this

theorem State.fileSlot_keeps {u l b : Nat} {s : State} {k : Nat} {m₀ s₀} (k₀ : Keeps m₀ s₀ s) (hm : (32 &&& m₀ == 32)
    = true) : Keeps m₀ s₀ (State.fileSlot u l b s k) := by
  refine k₀.step (w' := 32) ?_ hm
  unfold State.fileSlot
  try dsimp only
  repeat' first
    | (with_reducible exact Keeps.refl)
    | (with_reducible refine Keeps.wr ?_ ?_)
    | (with_reducible refine Keeps.inc ?_ ?_)
    | (with_reducible refine Keeps.ite ?_ ?_)
    | exact (rfl : _ = true)

theorem State.acceptBlock_keeps {s : State} {u l b : Nat} {m₀ s₀} (k₀ : Keeps m₀ s₀ s) (hm : (32 &&& m₀ == 32) = true)
    : Keeps m₀ s₀ (State.acceptBlock s u l b) := by
  refine k₀.step (w' := 32) ?_ hm
  unfold State.acceptBlock
  try dsimp only
  repeat' first
    | (with_reducible exact Keeps.refl)
    | (with_reducible refine Keeps.wr ?_ ?_)
    | (with_reducible refine Keeps.ite ?_ ?_)
    | (with_reducible refine Keeps.foldl (fun _ _ => ?_) ?_)
    | (with_reducible refine State.fileSlot_keeps ?_ ?_)
    | exact (rfl : _ = true)

theorem State.takeAck_keeps {s : State} {u l b : Nat} {m₀ s₀} (k₀ : Keeps m₀ s₀ s) (hm : (2147483648 &&& m₀ ==
    2147483648) = true) : Keeps m₀ s₀ (State.takeAck s u l b) := by
  refine k₀.step (w' := 2147483648) ?_ hm
  unfold State.takeAck
  try dsimp only
  repeat' first
    | (with_reducible exact Keeps.refl)
    | (with_reducible refine Keeps.ite ?_ ?_)
    | exact (rfl : _ = true)
    | assumption
    | split
    | (with_reducible refine Keeps.set_replay ?_ ?_)

theorem State.receiveBlock_keeps {s : State} {u l b : Nat} {m₀ s₀} (k₀ : Keeps m₀ s₀ s) (hm : (2147483680 &&& m₀ ==
    2147483680) = true) : Keeps m₀ s₀ (State.receiveBlock s u l b) := by
  refine k₀.step (w' := 2147483680) ?_ hm
  unfold State.receiveBlock
  try dsimp only
  repeat' first
    | (with_reducible exact Keeps.refl)
    | (with_reducible refine Keeps.wr ?_ ?_)
    | (with_reducible refine Keeps.inc ?_ ?_)
    | (with_reducible refine Keeps.ite ?_ ?_)
    | (with_reducible refine State.acceptBlock_keeps ?_ ?_)
    | (with_reducible refine State.takeAck_keeps ?_ ?_)
    | exact (rfl : _ = true)

theorem State.dropLink_keeps {s : State} {lk : Nat} {gone : List Pkt} {m₀ s₀} (k₀ : Keeps m₀ s₀ s) (hm : (1073741856
    &&& m₀ == 1073741856) = true) : Keeps m₀ s₀ (State.dropLink s lk gone) := by
  refine k₀.step (w' := 1073741856) ?_ hm
  unfold State.dropLink
  try dsimp only
  repeat' first
    | (with_reducible exact Keeps.refl)
    | (with_reducible refine Keeps.inc ?_ ?_)
    | (with_reducible refine Keeps.add ?_ ?_)
    | (with_reducible refine Keeps.each (fun _ _ => ?_) ?_)
    | (with_reducible refine Keeps.foldl (fun _ _ => ?_) ?_)
    | exact (rfl : _ = true)
    | assumption
    | split
    | (with_reducible refine Keeps.set_net ?_ ?_)

theorem State.dropReplay_keeps {s : State} {lk : Nat} {m₀ s₀} (k₀ : Keeps m₀ s₀ s) (hm : (6442450944 &&& m₀ ==
    6442450944) = true) : Keeps m₀ s₀ (State.dropReplay s lk) := by
  refine k₀.step (w' := 6442450944) ?_ hm
  unfold State.dropReplay
  try dsimp only
  repeat' first
    | (with_reducible exact Keeps.refl)
    | exact (rfl : _ = true)
    | (simp only [Fld.area]; exact (rfl : _ = true))
    | exact Or.inr rfl
    | exact Or.inl rfl
    | assumption
    | split
    | (with_reducible refine Keeps.set_replay ?_ ?_)
    | (with_reducible refine Keeps.set_crossing ?_ ?_)
    | (with_reducible refine Keeps.upd ?_ ?_ ?_ ?_ ?_ ?_ ?_ ?_ ?_ ?_ ?_ ?_ ?_ ?_ ?_ ?_ ?_ ?_ ?_ ?_ ?_ ?_ ?_ ?_ ?_ ?_ ?_ ?_ ?_ ?_ ?_ ?_ ?_ ?_ ?_ ?_ ?_ ?_ ?_ ?_ ?_ ?_ ?_ ?_ ?_ ?_ ?_ ?_ ?_ ?_ ?_ ?_ ?_ ?_ ?_ ?_ ?_ ?_ ?_ ?_ ?_ ?_ ?_ ?_ ?_ ?_ ?_)

theorem State.clearLink_keeps {s : State} {lk : Nat} {m₀ s₀} (k₀ : Keeps m₀ s₀ s) (hm : (6442450976 &&& m₀ ==
    6442450976) = true) : Keeps m₀ s₀ (State.clearLink s lk) := by
  refine k₀.step (w' := 6442450976) ?_ hm
  unfold State.clearLink
  try dsimp only
  repeat' first
    | (with_reducible exact Keeps.refl)
    | (with_reducible refine Keeps.wr ?_ ?_)
    | (with_reducible refine Keeps.each (fun _ _ => ?_) ?_)
    | (with_reducible refine Keeps.foldl (fun _ _ => ?_) ?_)
    | (with_reducible refine State.both_keeps ?_ ?_)
    | (with_reducible refine State.dropReplay_keeps ?_ ?_)
    | exact (rfl : _ = true)

theorem State.seedLink_keeps {s : State} {lk : Nat} {m₀ s₀} (k₀ : Keeps m₀ s₀ s) (hm : (32 &&& m₀ == 32) = true) :
    Keeps m₀ s₀ (State.seedLink s lk) := by
  refine k₀.step (w' := 32) ?_ hm
  unfold State.seedLink
  try dsimp only
  repeat' first
    | (with_reducible exact Keeps.refl)
    | (with_reducible refine Keeps.wr ?_ ?_)
    | (with_reducible refine Keeps.each (fun _ _ => ?_) ?_)
    | exact (rfl : _ = true)

theorem State.settleSeif_keeps {s : State} {m₀ s₀} (k₀ : Keeps m₀ s₀ s) (hm : (7405600 &&& m₀ == 7405600) = true) :
    Keeps m₀ s₀ (State.settleSeif s) := by
  refine k₀.step (w' := 7405600) ?_ hm
  unfold State.settleSeif
  try dsimp only
  repeat' first
    | (with_reducible exact Keeps.refl)
    | (with_reducible refine Keeps.wr ?_ ?_)
    | (with_reducible refine Keeps.ite ?_ ?_)
    | (with_reducible refine Keeps.each (fun _ _ => ?_) ?_)
    | (with_reducible refine State.endCond_keeps ?_ ?_)
    | (with_reducible refine State.raiseCond_keeps ?_ ?_)
    | exact (rfl : _ = true)

theorem State.linkDown_keeps {s : State} {lk : Nat} {m₀ s₀} (k₀ : Keeps m₀ s₀ s) (hm : (6442450976 &&& m₀ ==
    6442450976) = true) : Keeps m₀ s₀ (State.linkDown s lk) := by
  refine k₀.step (w' := 6442450976) ?_ hm
  unfold State.linkDown
  try dsimp only
  repeat' first
    | (with_reducible exact Keeps.refl)
    | (with_reducible refine State.both_keeps ?_ ?_)
    | (with_reducible refine State.clearLink_keeps ?_ ?_)
    | exact (rfl : _ = true)

theorem State.linkHeld_keeps {s : State} {lk cause : Nat} {m₀ s₀} (k₀ : Keeps m₀ s₀ s) (hm : (6442450976 &&& m₀ ==
    6442450976) = true) : Keeps m₀ s₀ (State.linkHeld s lk cause) := by
  refine k₀.step (w' := 6442450976) ?_ hm
  unfold State.linkHeld
  try dsimp only
  repeat' first
    | (with_reducible exact Keeps.refl)
    | (with_reducible refine State.both_keeps ?_ ?_)
    | (with_reducible refine State.linkDown_keeps ?_ ?_)
    | exact (rfl : _ = true)

theorem State.setCompat_keeps {s : State} {m₀ s₀} (k₀ : Keeps m₀ s₀ s) (hm : (6442450976 &&& m₀ == 6442450976) = true)
    : Keeps m₀ s₀ (State.setCompat s) := by
  refine k₀.step (w' := 6442450976) ?_ hm
  unfold State.setCompat
  try dsimp only
  repeat' first
    | (with_reducible exact Keeps.refl)
    | (with_reducible refine Keeps.wr ?_ ?_)
    | (with_reducible refine Keeps.ite ?_ ?_)
    | (with_reducible refine Keeps.each (fun _ _ => ?_) ?_)
    | (with_reducible refine Keeps.foldl (fun _ _ => ?_) ?_)
    | (with_reducible refine State.both_keeps ?_ ?_)
    | (with_reducible refine State.linkDown_keeps ?_ ?_)
    | exact (rfl : _ = true)
    | assumption
    | split

theorem State.tryCompat_keeps {s : State} {m₀ s₀} (k₀ : Keeps m₀ s₀ s) (hm : (6442450976 &&& m₀ == 6442450976) = true)
    : Keeps m₀ s₀ (State.tryCompat s) := by
  refine k₀.step (w' := 6442450976) ?_ hm
  unfold State.tryCompat
  try dsimp only
  repeat' first
    | (with_reducible exact Keeps.refl)
    | (with_reducible refine Keeps.ite ?_ ?_)
    | (with_reducible refine State.setCompat_keeps ?_ ?_)
    | exact (rfl : _ = true)

theorem State.trained_keeps {s : State} {m₀ s₀} (k₀ : Keeps m₀ s₀ s) (hm : (6442450976 &&& m₀ == 6442450976) = true) :
    Keeps m₀ s₀ (State.trained s) := by
  refine k₀.step (w' := 6442450976) ?_ hm
  unfold State.trained
  try dsimp only
  repeat' first
    | (with_reducible exact Keeps.refl)
    | (with_reducible refine Keeps.ite ?_ ?_)
    | (with_reducible refine State.tryCompat_keeps ?_ ?_)
    | exact (rfl : _ = true)

theorem State.dieRailOff_keeps {s : State} {d : Nat} {m₀ s₀} (k₀ : Keeps m₀ s₀ s) (hm : (262143 &&& m₀ == 262143) =
    true) : Keeps m₀ s₀ (State.dieRailOff s d) := by
  refine k₀.step (w' := 262143) ?_ hm
  unfold State.dieRailOff
  try dsimp only
  repeat' first
    | (with_reducible exact Keeps.refl)
    | (with_reducible refine Keeps.wr ?_ ?_)
    | ((with_reducible refine Keeps.resetKeys ?_ ?_); · (rintro ⟨f, u, j⟩ hk; cases f <;> first | (simp only [Fld.area]; rfl) | exact Bool.noConfusion (show false = true from hk)))
    | exact (rfl : _ = true)

theorem State.endJoin_keeps {s : State} {d : Nat} {m₀ s₀} (k₀ : Keeps m₀ s₀ s) (hm : (6450053119 &&& m₀ == 6450053119)
    = true) : Keeps m₀ s₀ (State.endJoin s d) := by
  refine k₀.step (w' := 6450053119) ?_ hm
  unfold State.endJoin
  try dsimp only
  repeat' first
    | (with_reducible exact Keeps.refl)
    | (with_reducible refine Keeps.wr ?_ ?_)
    | (with_reducible refine Keeps.ite ?_ ?_)
    | (with_reducible refine Keeps.each (fun _ _ => ?_) ?_)
    | (with_reducible refine State.dieRailOff_keeps ?_ ?_)
    | (with_reducible refine State.linkHeld_keeps ?_ ?_)
    | (with_reducible refine State.settleSeif_keeps ?_ ?_)
    | (with_reducible refine State.trained_keeps ?_ ?_)
    | exact (rfl : _ = true)

theorem State.isolateDie_keeps {s : State} {d cause : Nat} {m₀ s₀} (k₀ : Keeps m₀ s₀ s) (hm :
    (9069300234709208868847615 &&& m₀ == 9069300234709208868847615) = true) : Keeps m₀ s₀ (State.isolateDie s d cause)
    := by
  refine k₀.step (w' := 9069300234709208868847615) ?_ hm
  unfold State.isolateDie
  try dsimp only
  repeat' first
    | (with_reducible exact Keeps.refl)
    | (with_reducible refine Keeps.wr ?_ ?_)
    | (with_reducible refine Keeps.ite ?_ ?_)
    | (with_reducible refine Keeps.each (fun _ _ => ?_) ?_)
    | (with_reducible refine State.both_keeps ?_ ?_)
    | (with_reducible refine State.clearDie_keeps ?_ ?_)
    | (with_reducible refine State.clearImage_keeps ?_ ?_)
    | (with_reducible refine State.closeGate_keeps ?_ ?_)
    | (with_reducible refine State.dieLostToLoad_keeps ?_ ?_)
    | (with_reducible refine State.dieRailOff_keeps ?_ ?_)
    | (with_reducible refine State.dropLink_keeps ?_ ?_)
    | (with_reducible refine State.endJoin_keeps ?_ ?_)
    | (with_reducible refine State.linkHeld_keeps ?_ ?_)
    | (with_reducible refine State.raiseCond_keeps ?_ ?_)
    | (with_reducible refine State.setFab_keeps ?_ ?_)
    | (with_reducible refine State.settleSeif_keeps ?_ ?_)
    | (with_reducible refine State.voidTick_keeps ?_ ?_)
    | exact (rfl : _ = true)

theorem execIsolate_keeps (d : Nat) (s : State) {t' : State} (ho : execIsolate d s = .next t') : Keeps
    9069300234709208868847615 s t' := by
  unfold execIsolate at ho
  refine actFw_keeps ho ?_
  try dsimp only
  repeat' first
    | (with_reducible exact Keeps.refl)
    | (with_reducible refine Keeps.wr ?_ ?_)
    | (with_reducible refine Keeps.ite ?_ ?_)
    | (with_reducible refine State.isolateDie_keeps ?_ ?_)
    | exact (rfl : _ = true)

theorem execThermalTrip_keeps (d tj : Nat) (s : State) {t' : State} (ho : execThermalTrip d tj s = .next t') : Keeps
    9069300234709208868847615 s t' := by
  unfold execThermalTrip at ho
  refine actCore_keeps ho ?_
  try dsimp only
  repeat' first
    | (with_reducible exact Keeps.refl)
    | (with_reducible refine Keeps.wr ?_ ?_)
    | (with_reducible refine Keeps.ite ?_ ?_)
    | (with_reducible refine State.isolateDie_keeps ?_ ?_)
    | exact (rfl : _ = true)

theorem execDieSupplyFailure_keeps (d : Nat) (s : State) {t' : State} (ho : execDieSupplyFailure d s = .next t') :
    Keeps 9069300234709208868847615 s t' := by
  unfold execDieSupplyFailure at ho
  refine actCore_keeps ho ?_
  try dsimp only
  repeat' first
    | (with_reducible exact Keeps.refl)
    | (with_reducible refine State.isolateDie_keeps ?_ ?_)
    | exact (rfl : _ = true)

theorem State.loseLink_keeps {s : State} {lk : Nat} {gone : List Pkt} {m₀ s₀} (k₀ : Keeps m₀ s₀ s) (hm :
    (9069300234709208868813823 &&& m₀ == 9069300234709208868813823) = true) : Keeps m₀ s₀ (State.loseLink s lk gone)
    := by
  refine k₀.step (w' := 9069300234709208868813823) ?_ hm
  unfold State.loseLink
  try dsimp only
  repeat' first
    | (with_reducible exact Keeps.refl)
    | (with_reducible refine Keeps.ite ?_ ?_)
    | (with_reducible refine Keeps.each (fun _ _ => ?_) ?_)
    | (with_reducible refine State.dieLostToLoad_keeps ?_ ?_)
    | (with_reducible refine State.dropLink_keeps ?_ ?_)
    | (with_reducible refine State.linkDown_keeps ?_ ?_)
    | (with_reducible refine State.settleSeif_keeps ?_ ?_)
    | (with_reducible refine State.voidTick_keeps ?_ ?_)
    | exact (rfl : _ = true)

theorem execLinkCrcSilence_keeps (u l : Nat) (gone : List Pkt) (s : State) {t' : State} (ho : execLinkCrcSilence u l
    gone s = .next t') : Keeps 9069300234709208868813823 s t' := by
  unfold execLinkCrcSilence at ho
  refine actCore_keeps ho ?_
  try dsimp only
  repeat' first
    | (with_reducible exact Keeps.refl)
    | (with_reducible refine State.loseLink_keeps ?_ ?_)
    | exact (rfl : _ = true)

theorem State.partialReset_keeps {s : State} {lk : Nat} {gone : List Pkt} {m₀ s₀} (k₀ : Keeps m₀ s₀ s) (hm :
    (9069300234709208868813823 &&& m₀ == 9069300234709208868813823) = true) : Keeps m₀ s₀ (State.partialReset s lk
    gone) := by
  refine k₀.step (w' := 9069300234709208868813823) ?_ hm
  unfold State.partialReset
  try dsimp only
  repeat' first
    | (with_reducible exact Keeps.refl)
    | (with_reducible refine Keeps.ite ?_ ?_)
    | (with_reducible refine State.linkDown_keeps ?_ ?_)
    | (with_reducible refine State.loseLink_keeps ?_ ?_)
    | exact (rfl : _ = true)

theorem execDieSupplyRecovery_keeps (d : Nat) (gone : List Pkt) (s : State) {t' : State} (ho : execDieSupplyRecovery d
    gone s = .next t') : Keeps 9069300234709208868813823 s t' := by
  unfold execDieSupplyRecovery at ho
  refine actCore_keeps ho ?_
  try dsimp only
  repeat' first
    | (with_reducible exact Keeps.refl)
    | (with_reducible refine Keeps.ite ?_ ?_)
    | (with_reducible refine Keeps.each (fun _ _ => ?_) ?_)
    | (with_reducible refine State.partialReset_keeps ?_ ?_)
    | exact (rfl : _ = true)

theorem execSeifBlockReceived_keeps (u l : Nat) (flits : List LinkFlit) (flips : List (Nat × Nat)) (s : State) {t' :
    State} (ho : execSeifBlockReceived u l flits flips s = .next t') : Keeps 9069300234709208877202431 s t' := by
  unfold execSeifBlockReceived at ho
  refine actCore_keeps ho ?_
  try dsimp only
  repeat' first
    | (with_reducible exact Keeps.refl)
    | (with_reducible refine Keeps.ite ?_ ?_)
    | (with_reducible refine State.loseLink_keeps ?_ ?_)
    | (with_reducible refine State.nextBlock_keeps (by assumption) ?_ ?_)
    | (with_reducible refine State.overWires_keeps ?_ ?_)
    | (refine State.overWires_keeps_eq (by assumption) ?_ ?_)
    | (with_reducible refine State.receiveBlock_keeps ?_ ?_)
    | exact (rfl : _ = true)
    | assumption
    | split

theorem execTrainingRound_keeps (lk tx rx tx' rx' : Nat) (s : State) {t' : State} (ho : execTrainingRound lk tx rx tx'
    rx' s = .next t') : Keeps 32 s t' := by
  unfold execTrainingRound at ho
  refine actCore_keeps ho ?_
  try dsimp only
  repeat' first
    | (with_reducible exact Keeps.refl)
    | (with_reducible refine Keeps.wr ?_ ?_)
    | (with_reducible refine Keeps.inc ?_ ?_)
    | (with_reducible refine Keeps.ite ?_ ?_)
    | (with_reducible refine Keeps.each (fun _ _ => ?_) ?_)
    | (with_reducible refine State.both_keeps ?_ ?_)
    | exact (rfl : _ = true)

theorem execMapMessage_keeps (u l : Nat) (s : State) {t' : State} (ho : execMapMessage u l s = .next t') : Keeps 32 s
    t' := by
  unfold execMapMessage at ho
  refine actCore_keeps ho ?_
  try dsimp only
  repeat' first
    | (with_reducible exact Keeps.refl)
    | (with_reducible refine Keeps.wr ?_ ?_)
    | (with_reducible refine Keeps.ite ?_ ?_)
    | exact (rfl : _ = true)

theorem State.failRound_keeps {s : State} {lk reason : Nat} {m₀ s₀} (k₀ : Keeps m₀ s₀ s) (hm :
    (9069300234709208877236223 &&& m₀ == 9069300234709208877236223) = true) : Keeps m₀ s₀ (State.failRound s lk
    reason) := by
  refine k₀.step (w' := 9069300234709208877236223) ?_ hm
  unfold State.failRound
  try dsimp only
  repeat' first
    | (with_reducible exact Keeps.refl)
    | (with_reducible refine Keeps.ite ?_ ?_)
    | (with_reducible refine Keeps.each (fun _ _ => ?_) ?_)
    | (with_reducible refine State.both_keeps ?_ ?_)
    | (with_reducible refine State.endJoin_keeps ?_ ?_)
    | (with_reducible refine State.isolateDie_keeps ?_ ?_)
    | (with_reducible refine State.linkDown_keeps ?_ ?_)
    | (with_reducible refine State.linkHeld_keeps ?_ ?_)
    | (with_reducible refine State.settleSeif_keeps ?_ ?_)
    | (with_reducible refine State.trained_keeps ?_ ?_)
    | exact (rfl : _ = true)

theorem State.rejoined_keeps {s : State} {d : Nat} {m₀ s₀} (k₀ : Keeps m₀ s₀ s) (hm : (6449872954 &&& m₀ ==
    6449872954) = true) : Keeps m₀ s₀ (State.rejoined s d) := by
  refine k₀.step (w' := 6449872954) ?_ hm
  unfold State.rejoined
  try dsimp only
  repeat' first
    | (with_reducible exact Keeps.refl)
    | (with_reducible refine Keeps.wr ?_ ?_)
    | (with_reducible refine State.endCond_keeps ?_ ?_)
    | (with_reducible refine State.loadSettings_keeps ?_ ?_)
    | (with_reducible refine State.setCompat_keeps ?_ ?_)
    | (with_reducible refine State.setFab_keeps ?_ ?_)
    | exact (rfl : _ = true)

theorem State.linkUp_keeps {s : State} {lk a b w : Nat} {m₀ s₀} (k₀ : Keeps m₀ s₀ s) (hm : (6449872954 &&& m₀ ==
    6449872954) = true) : Keeps m₀ s₀ (State.linkUp s lk a b w) := by
  refine k₀.step (w' := 6449872954) ?_ hm
  unfold State.linkUp
  try dsimp only
  repeat' first
    | (with_reducible exact Keeps.refl)
    | (with_reducible refine Keeps.wr ?_ ?_)
    | (with_reducible refine Keeps.ite ?_ ?_)
    | (with_reducible refine State.both_keeps ?_ ?_)
    | (with_reducible refine State.raiseEvent_keeps ?_ ?_)
    | (with_reducible refine State.rejoined_keeps ?_ ?_)
    | (with_reducible refine State.seedLink_keeps ?_ ?_)
    | (with_reducible refine State.settleSeif_keeps ?_ ?_)
    | (with_reducible refine State.trained_keeps ?_ ?_)
    | exact (rfl : _ = true)

theorem execConfirmComplete_keeps (lk : Nat) (s : State) {t' : State} (ho : execConfirmComplete lk s = .next t') :
    Keeps 9069300234709208877236223 s t' := by
  unfold execConfirmComplete at ho
  refine actCore_keeps ho ?_
  try dsimp only
  repeat' first
    | (with_reducible exact Keeps.refl)
    | (with_reducible refine Keeps.ite ?_ ?_)
    | (with_reducible refine State.failRound_keeps ?_ ?_)
    | (with_reducible refine State.linkUp_keeps ?_ ?_)
    | exact (rfl : _ = true)

theorem execRoundTimeout_keeps (lk : Nat) (s : State) {t' : State} (ho : execRoundTimeout lk s = .next t') : Keeps
    9069300234709208877236223 s t' := by
  unfold execRoundTimeout at ho
  refine actCore_keeps ho ?_
  try dsimp only
  repeat' first
    | (with_reducible exact Keeps.refl)
    | (with_reducible refine Keeps.ite ?_ ?_)
    | (with_reducible refine State.failRound_keeps ?_ ?_)
    | exact (rfl : _ = true)

theorem State.sideCommand_keeps {s : State} {u l cmd : Nat} {m₀ s₀} (k₀ : Keeps m₀ s₀ s) (hm : (6449856544 &&& m₀ ==
    6449856544) = true) : Keeps m₀ s₀ (State.sideCommand s u l cmd) := by
  refine k₀.step (w' := 6449856544) ?_ hm
  unfold State.sideCommand
  try dsimp only
  repeat' first
    | (with_reducible exact Keeps.refl)
    | (with_reducible refine Keeps.wr ?_ ?_)
    | (with_reducible refine Keeps.ite ?_ ?_)
    | (with_reducible refine State.both_keeps ?_ ?_)
    | (with_reducible refine State.linkDown_keeps ?_ ?_)
    | (with_reducible refine State.linkHeld_keeps ?_ ?_)
    | (with_reducible refine State.settleSeif_keeps ?_ ?_)
    | exact (rfl : _ = true)

theorem execSeifRetrain_keeps (u l : Nat) (s : State) {t' : State} (ho : execSeifRetrain u l s = .next t') : Keeps
    6449856544 s t' := by
  unfold execSeifRetrain at ho
  refine actCore_keeps ho ?_
  try dsimp only
  repeat' first
    | (with_reducible exact Keeps.refl)
    | (with_reducible refine State.sideCommand_keeps ?_ ?_)
    | exact (rfl : _ = true)

theorem execSeifHold_keeps (u l : Nat) (s : State) {t' : State} (ho : execSeifHold u l s = .next t') : Keeps
    6449856544 s t' := by
  unfold execSeifHold at ho
  refine actCore_keeps ho ?_
  try dsimp only
  repeat' first
    | (with_reducible exact Keeps.refl)
    | (with_reducible refine State.sideCommand_keeps ?_ ?_)
    | exact (rfl : _ = true)

theorem execSeifRelease_keeps (u l : Nat) (s : State) {t' : State} (ho : execSeifRelease u l s = .next t') : Keeps
    6449856544 s t' := by
  unfold execSeifRelease at ho
  refine actCore_keeps ho ?_
  try dsimp only
  repeat' first
    | (with_reducible exact Keeps.refl)
    | (with_reducible refine State.sideCommand_keeps ?_ ?_)
    | exact (rfl : _ = true)

theorem execRejoin_keeps (d : Nat) (s : State) {t' : State} (ho : execRejoin d s = .next t') : Keeps 6442453088 s t'
    := by
  unfold execRejoin at ho
  refine actFw_keeps ho ?_
  try dsimp only
  repeat' first
    | (with_reducible exact Keeps.refl)
    | (with_reducible refine Keeps.wr ?_ ?_)
    | (with_reducible refine Keeps.ite ?_ ?_)
    | (with_reducible refine Keeps.each (fun _ _ => ?_) ?_)
    | (with_reducible refine State.both_keeps ?_ ?_)
    | (with_reducible refine State.enablePlls_keeps ?_ ?_)
    | (with_reducible refine State.linkDown_keeps ?_ ?_)
    | exact (rfl : _ = true)

theorem State.moveBudget_keeps {s : State} {m₀ s₀} (k₀ : Keeps m₀ s₀ s) (hm : (64 &&& m₀ == 64) = true) : Keeps m₀ s₀
    (State.moveBudget s) := by
  refine k₀.step (w' := 64) ?_ hm
  unfold State.moveBudget
  try dsimp only
  repeat' first
    | (with_reducible exact Keeps.refl)
    | (with_reducible refine Keeps.wr ?_ ?_)
    | (with_reducible refine Keeps.ite ?_ ?_)
    | exact (rfl : _ = true)

theorem execBudgetPeriod_keeps (s : State) {t' : State} (ho : execBudgetPeriod s = .next t') : Keeps 64 s t' := by
  unfold execBudgetPeriod at ho
  refine actCore_keeps ho ?_
  try dsimp only
  repeat' first
    | (with_reducible exact Keeps.refl)
    | (with_reducible refine Keeps.wr ?_ ?_)
    | (with_reducible refine Keeps.ite ?_ ?_)
    | (with_reducible refine Keeps.each (fun _ _ => ?_) ?_)
    | (with_reducible refine State.moveBudget_keeps ?_ ?_)
    | exact (rfl : _ = true)

theorem execDiePowerRequest_keeps (d avg : Nat) (s : State) {t' : State} (ho : execDiePowerRequest d avg s = .next t')
    : Keeps 524352 s t' := by
  unfold execDiePowerRequest at ho
  refine actCore_keeps ho ?_
  try dsimp only
  repeat' first
    | (with_reducible exact Keeps.refl)
    | (with_reducible refine Keeps.wr ?_ ?_)
    | (with_reducible refine Keeps.spend ?_ ?_)
    | (with_reducible refine Keeps.ite ?_ ?_)
    | exact (rfl : _ = true)

theorem State.moveThrottle_keeps {s : State} {d : Nat} {m₀ s₀} (k₀ : Keeps m₀ s₀ s) (hm : (3735616 &&& m₀ == 3735616)
    = true) : Keeps m₀ s₀ (State.moveThrottle s d) := by
  refine k₀.step (w' := 3735616) ?_ hm
  unfold State.moveThrottle
  try dsimp only
  repeat' first
    | (with_reducible exact Keeps.refl)
    | (with_reducible refine Keeps.wr ?_ ?_)
    | (with_reducible refine Keeps.spend ?_ ?_)
    | (with_reducible refine Keeps.ite ?_ ?_)
    | (with_reducible refine State.raiseEvent_keeps ?_ ?_)
    | exact (rfl : _ = true)

theorem execDieGrant_keeps (d : Nat) (s : State) {t' : State} (ho : execDieGrant d s = .next t') : Keeps 3735616 s t'
    := by
  unfold execDieGrant at ho
  refine actCore_keeps ho ?_
  try dsimp only
  repeat' first
    | (with_reducible exact Keeps.refl)
    | (with_reducible refine Keeps.wr ?_ ?_)
    | (with_reducible refine Keeps.ite ?_ ?_)
    | (with_reducible refine State.moveThrottle_keeps ?_ ?_)
    | exact (rfl : _ = true)

theorem execDiePowerMeasurement_keeps (d power tj : Nat) (s : State) {t' : State} (ho : execDiePowerMeasurement d
    power tj s = .next t') : Keeps 3735616 s t' := by
  unfold execDiePowerMeasurement at ho
  refine actCore_keeps ho ?_
  try dsimp only
  repeat' first
    | (with_reducible exact Keeps.refl)
    | (with_reducible refine Keeps.wr ?_ ?_)
    | (with_reducible refine Keeps.ite ?_ ?_)
    | (with_reducible refine State.moveThrottle_keeps ?_ ?_)
    | exact (rfl : _ = true)

theorem execGrantStale_keeps (d : Nat) (s : State) {t' : State} (ho : execGrantStale d s = .next t') : Keeps 3735616 s
    t' := by
  unfold execGrantStale at ho
  refine actCore_keeps ho ?_
  try dsimp only
  repeat' first
    | (with_reducible exact Keeps.refl)
    | (with_reducible refine Keeps.wr ?_ ?_)
    | (with_reducible refine Keeps.ite ?_ ?_)
    | (with_reducible refine State.moveThrottle_keeps ?_ ?_)
    | exact (rfl : _ = true)

theorem State.writeLife_keeps {s : State} {m₀ s₀} (k₀ : Keeps m₀ s₀ s) (hm : (64 &&& m₀ == 64) = true) : Keeps m₀ s₀
    (State.writeLife s) := by
  refine k₀.step (w' := 64) ?_ hm
  unfold State.writeLife
  try dsimp only
  repeat' first
    | (with_reducible exact Keeps.refl)
    | (with_reducible refine Keeps.wr ?_ ?_)
    | (with_reducible refine Keeps.each (fun _ _ => ?_) ?_)
    | exact (rfl : _ = true)

theorem State.readLife_keeps {s : State} {m₀ s₀} (k₀ : Keeps m₀ s₀ s) (hm : (64 &&& m₀ == 64) = true) : Keeps m₀ s₀
    (State.readLife s) := by
  refine k₀.step (w' := 64) ?_ hm
  unfold State.readLife
  try dsimp only
  repeat' first
    | (with_reducible exact Keeps.refl)
    | (with_reducible refine Keeps.wr ?_ ?_)
    | (with_reducible refine Keeps.each (fun _ _ => ?_) ?_)
    | exact (rfl : _ = true)
    | (simp only [Fld.area]; exact (rfl : _ = true))

theorem State.unpowered_keeps {s s₀ : State} {kept : Fld → Bool} {conds : Nat × Nat → Bool} {m₀ : Nat} (h : Keeps m₀
    s₀ s)
    (hm : (9671402269490188132024319 &&& m₀ == 9671402269490188132024319) = true) : Keeps m₀ s₀ (s.unpowered kept conds) := by
  refine h.step (w' := 9671402269490188132024319) ⟨fun a ha => ?_⟩ hm
  cases a <;> first | rfl | exact Bool.noConfusion ha

theorem State.coreOff_keeps {s : State} {m₀ s₀} (k₀ : Keeps m₀ s₀ s) (hm : (9671402269490188132024319 &&& m₀ ==
    9671402269490188132024319) = true) : Keeps m₀ s₀ (State.coreOff s) := by
  refine k₀.step (w' := 9671402269490188132024319) ?_ hm
  unfold State.coreOff
  try dsimp only
  repeat' first
    | (with_reducible exact Keeps.refl)
    | (with_reducible refine State.unpowered_keeps ?_ ?_)
    | exact (rfl : _ = true)

theorem State.standbyOff_keeps {s : State} {m₀ s₀} (k₀ : Keeps m₀ s₀ s) (hm : (9671402269490188132024319 &&& m₀ ==
    9671402269490188132024319) = true) : Keeps m₀ s₀ (State.standbyOff s) := by
  refine k₀.step (w' := 9671402269490188132024319) ?_ hm
  unfold State.standbyOff
  try dsimp only
  repeat' first
    | (with_reducible exact Keeps.refl)
    | (with_reducible refine Keeps.wr ?_ ?_)
    | (with_reducible refine State.unpowered_keeps ?_ ?_)
    | exact (rfl : _ = true)

theorem State.samplePins_keeps {s : State} {pins : Nat} {m₀ s₀} (k₀ : Keeps m₀ s₀ s) (hm : (65536 &&& m₀ == 65536) =
    true) : Keeps m₀ s₀ (State.samplePins s pins) := by
  refine k₀.step (w' := 65536) ?_ hm
  unfold State.samplePins
  try dsimp only
  repeat' first
    | (with_reducible exact Keeps.refl)
    | (with_reducible refine Keeps.wr ?_ ?_)
    | (with_reducible refine Keeps.ite ?_ ?_)
    | exact (rfl : _ = true)

theorem State.powerOn_keeps {s : State} {pins : Nat} {m₀ s₀} (k₀ : Keeps m₀ s₀ s) (hm : (9671402269490188132024319 &&&
    m₀ == 9671402269490188132024319) = true) : Keeps m₀ s₀ (State.powerOn s pins) := by
  refine k₀.step (w' := 9671402269490188132024319) ?_ hm
  unfold State.powerOn
  try dsimp only
  repeat' first
    | (with_reducible exact Keeps.refl)
    | (with_reducible refine Keeps.wr ?_ ?_)
    | (with_reducible refine Keeps.each (fun _ _ => ?_) ?_)
    | (with_reducible refine State.readLife_keeps ?_ ?_)
    | (with_reducible refine State.samplePins_keeps ?_ ?_)
    | (with_reducible refine State.unpowered_keeps ?_ ?_)
    | exact (rfl : _ = true)

theorem execInsertion_keeps (pins vin : Nat) (s : State) {t' : State} (ho : execInsertion pins vin s = .next t') :
    Keeps 9671402269490188132024319 s t' := by
  unfold execInsertion at ho
  refine act_keeps ho ?_
  try dsimp only
  repeat' first
    | (with_reducible exact Keeps.refl)
    | (with_reducible refine Keeps.wr ?_ ?_)
    | (with_reducible refine Keeps.inc ?_ ?_)
    | (with_reducible refine Keeps.ite ?_ ?_)
    | (with_reducible refine State.powerOn_keeps ?_ ?_)
    | (with_reducible refine State.readLife_keeps ?_ ?_)
    | (with_reducible refine State.standbyOff_keeps ?_ ?_)
    | (with_reducible refine State.writeLife_keeps ?_ ?_)
    | exact (rfl : _ = true)

theorem execInputTurnOn_keeps (pins vin : Nat) (fell : Bool) (s : State) {t' : State} (ho : execInputTurnOn pins vin
    fell s = .next t') : Keeps 9671402269490188132024319 s t' := by
  unfold execInputTurnOn at ho
  refine act_keeps ho ?_
  try dsimp only
  repeat' first
    | (with_reducible exact Keeps.refl)
    | (with_reducible refine Keeps.wr ?_ ?_)
    | (with_reducible refine Keeps.ite ?_ ?_)
    | (with_reducible refine State.powerOn_keeps ?_ ?_)
    | exact (rfl : _ = true)

theorem execTripRetry_keeps (pins : Nat) (s : State) {t' : State} (ho : execTripRetry pins s = .next t') : Keeps
    9671402269490188132024319 s t' := by
  unfold execTripRetry at ho
  refine act_keeps ho ?_
  try dsimp only
  repeat' first
    | (with_reducible exact Keeps.refl)
    | (with_reducible refine Keeps.ite ?_ ?_)
    | (with_reducible refine State.powerOn_keeps ?_ ?_)
    | exact (rfl : _ = true)

theorem State.odPins_keeps {s : State} {m₀ s₀} (k₀ : Keeps m₀ s₀ s) (hm : (65536 &&& m₀ == 65536) = true) : Keeps m₀
    s₀ (State.odPins s) := by
  refine k₀.step (w' := 65536) ?_ hm
  unfold State.odPins
  try dsimp only
  repeat' first
    | (with_reducible exact Keeps.refl)
    | (with_reducible refine Keeps.wr ?_ ?_)
    | (with_reducible refine Keeps.ite ?_ ?_)
    | (with_reducible refine Keeps.each (fun _ _ => ?_) ?_)
    | exact (rfl : _ = true)

theorem State.railsGood_keeps {s : State} {m₀ s₀} (k₀ : Keeps m₀ s₀ s) (hm : (329825 &&& m₀ == 329825) = true) : Keeps
    m₀ s₀ (State.railsGood s) := by
  refine k₀.step (w' := 329825) ?_ hm
  unfold State.railsGood
  try dsimp only
  repeat' first
    | (with_reducible exact Keeps.refl)
    | (with_reducible refine Keeps.wr ?_ ?_)
    | (with_reducible refine Keeps.at ?_ ?_)
    | (with_reducible refine Keeps.each (fun _ _ => ?_) ?_)
    | (with_reducible refine State.enablePlls_keeps ?_ ?_)
    | (with_reducible refine State.odPins_keeps ?_ ?_)
    | (with_reducible refine State.setLocked_keeps ?_ ?_)
    | exact (rfl : _ = true)

theorem State.readBankFuses_keeps {s : State} {l : List (Nat × Nat × Nat)} {m₀ s₀} (k₀ : Keeps m₀ s₀ s) (hm : (40 &&&
    m₀ == 40) = true) : Keeps m₀ s₀ (State.readBankFuses s l) := by
  refine k₀.step (w' := 40) ?_ hm
  unfold State.readBankFuses
  try dsimp only
  repeat' first
    | (with_reducible exact Keeps.refl)
    | (with_reducible refine Keeps.wr ?_ ?_)
    | (with_reducible refine Keeps.ite ?_ ?_)
    | (with_reducible refine Keeps.each (fun _ _ => ?_) ?_)
    | exact (rfl : _ = true)

theorem execGrant_keeps (good : Bool) (failed : Nat) (fuses : List (Nat × Nat × Nat)) (s : State) {t' : State} (ho :
    execGrant good failed fuses s = .next t') : Keeps 9069300234709208869109759 s t' := by
  unfold execGrant at ho
  refine act_keeps ho ?_
  try dsimp only
  repeat' first
    | (with_reducible exact Keeps.refl)
    | (with_reducible refine Keeps.wr ?_ ?_)
    | (with_reducible refine Keeps.ite ?_ ?_)
    | (with_reducible refine Keeps.each (fun _ _ => ?_) ?_)
    | (with_reducible refine State.isolateDie_keeps ?_ ?_)
    | (with_reducible refine State.railsGood_keeps ?_ ?_)
    | (with_reducible refine State.readBankFuses_keeps ?_ ?_)
    | exact (rfl : _ = true)

theorem State.beginEject_keeps {s : State} {src : Nat} {m₀ s₀} (k₀ : Keeps m₀ s₀ s) (hm : (9069300234709202426362847
    &&& m₀ == 9069300234709202426362847) = true) : Keeps m₀ s₀ (State.beginEject s src) := by
  refine k₀.step (w' := 9069300234709202426362847) ?_ hm
  unfold State.beginEject
  try dsimp only
  repeat' first
    | (with_reducible exact Keeps.refl)
    | (with_reducible refine Keeps.wr ?_ ?_)
    | (with_reducible refine Keeps.inc ?_ ?_)
    | (with_reducible refine Keeps.ite ?_ ?_)
    | (with_reducible refine State.failLoad_keeps ?_ ?_)
    | (with_reducible refine State.voidTick_keeps ?_ ?_)
    | (with_reducible refine State.writeLife_keeps ?_ ?_)
    | exact (rfl : _ = true)
    | (simp only [Fld.area]; exact (rfl : _ = true))

theorem State.sayEject_keeps {s : State} {event : Nat} {m₀ s₀} (k₀ : Keeps m₀ s₀ s) (hm : (11599872 &&& m₀ ==
    11599872) = true) : Keeps m₀ s₀ (State.sayEject s event) := by
  refine k₀.step (w' := 11599872) ?_ hm
  unfold State.sayEject
  try dsimp only
  repeat' first
    | (with_reducible exact Keeps.refl)
    | (with_reducible refine Keeps.ite ?_ ?_)
    | (with_reducible refine Keeps.each (fun _ _ => ?_) ?_)
    | (with_reducible refine State.raiseEvent_keeps ?_ ?_)
    | (with_reducible refine State.sendOut_keeps ?_ ?_)
    | exact (rfl : _ = true)

theorem State.noteDown_keeps {s : State} {pf trip : Bool} {m₀ s₀} (k₀ : Keeps m₀ s₀ s) (hm : (64 &&& m₀ == 64) = true)
    : Keeps m₀ s₀ (State.noteDown s pf trip) := by
  refine k₀.step (w' := 64) ?_ hm
  unfold State.noteDown
  try dsimp only
  repeat' first
    | (with_reducible exact Keeps.refl)
    | (with_reducible refine Keeps.wr ?_ ?_)
    | exact (rfl : _ = true)

theorem execEjectLever_keeps (s : State) {t' : State} (ho : execEjectLever s = .next t') : Keeps
    9671402269490188140412927 s t' := by
  unfold execEjectLever at ho
  refine act_keeps ho ?_
  try dsimp only
  repeat' first
    | (with_reducible exact Keeps.refl)
    | (with_reducible refine Keeps.wr ?_ ?_)
    | (with_reducible refine Keeps.ite ?_ ?_)
    | (with_reducible refine State.beginEject_keeps ?_ ?_)
    | (with_reducible refine State.noteDown_keeps ?_ ?_)
    | (with_reducible refine State.sayEject_keeps ?_ ?_)
    | (with_reducible refine State.standbyOff_keeps ?_ ?_)
    | exact (rfl : _ = true)

theorem execLeverReclosed_keeps (pins : Nat) (s : State) {t' : State} (ho : execLeverReclosed pins s = .next t') :
    Keeps 9671402269490188132024319 s t' := by
  unfold execLeverReclosed at ho
  refine act_keeps ho ?_
  try dsimp only
  repeat' first
    | (with_reducible exact Keeps.refl)
    | (with_reducible refine Keeps.wr ?_ ?_)
    | (with_reducible refine Keeps.ite ?_ ?_)
    | (with_reducible refine State.powerOn_keeps ?_ ?_)
    | exact (rfl : _ = true)

theorem execGrantWithdrawn_keeps (s : State) {t' : State} (ho : execGrantWithdrawn s = .next t') : Keeps
    9671402269490188140412927 s t' := by
  unfold execGrantWithdrawn at ho
  refine act_keeps ho ?_
  try dsimp only
  repeat' first
    | (with_reducible exact Keeps.refl)
    | (with_reducible refine Keeps.wr ?_ ?_)
    | (with_reducible refine Keeps.ite ?_ ?_)
    | (with_reducible refine State.beginEject_keeps ?_ ?_)
    | (with_reducible refine State.coreOff_keeps ?_ ?_)
    | (with_reducible refine State.noteDown_keeps ?_ ?_)
    | (with_reducible refine State.sayEject_keeps ?_ ?_)
    | exact (rfl : _ = true)

theorem State.failPower_keeps {s : State} {src : Nat} {trip : Bool} {m₀ s₀} (k₀ : Keeps m₀ s₀ s) (hm :
    (9671402269490188132024319 &&& m₀ == 9671402269490188132024319) = true) : Keeps m₀ s₀ (State.failPower s src trip)
    := by
  refine k₀.step (w' := 9671402269490188132024319) ?_ hm
  unfold State.failPower
  try dsimp only
  repeat' first
    | (with_reducible exact Keeps.refl)
    | (with_reducible refine State.beginEject_keeps ?_ ?_)
    | (with_reducible refine State.noteDown_keeps ?_ ?_)
    | (with_reducible refine State.standbyOff_keeps ?_ ?_)
    | exact (rfl : _ = true)

theorem execInputFailure_keeps (s : State) {t' : State} (ho : execInputFailure s = .next t') : Keeps
    9671402269490188132024319 s t' := by
  unfold execInputFailure at ho
  refine act_keeps ho ?_
  try dsimp only
  repeat' first
    | (with_reducible exact Keeps.refl)
    | (with_reducible refine Keeps.ite ?_ ?_)
    | (with_reducible refine State.failPower_keeps ?_ ?_)
    | exact (rfl : _ = true)

theorem execMateLost_keeps (s : State) {t' : State} (ho : execMateLost s = .next t') : Keeps 9671402269490188132024319
    s t' := by
  unfold execMateLost at ho
  refine act_keeps ho ?_
  try dsimp only
  repeat' first
    | (with_reducible exact Keeps.refl)
    | (with_reducible refine Keeps.wr ?_ ?_)
    | (with_reducible refine Keeps.ite ?_ ?_)
    | (with_reducible refine State.failPower_keeps ?_ ?_)
    | exact (rfl : _ = true)

theorem execHotSwapTrip_keeps (ms : Nat) (s : State) {t' : State} (ho : execHotSwapTrip ms s = .next t') : Keeps
    9671402269490188132024319 s t' := by
  unfold execHotSwapTrip at ho
  refine act_keeps ho ?_
  try dsimp only
  repeat' first
    | (with_reducible exact Keeps.refl)
    | (with_reducible refine Keeps.wr ?_ ?_)
    | (with_reducible refine Keeps.inc ?_ ?_)
    | (with_reducible refine Keeps.ite ?_ ?_)
    | (with_reducible refine State.failPower_keeps ?_ ?_)
    | exact (rfl : _ = true)

theorem execInputCurrentLimiting_keeps (vin iin pin : Nat) (s : State) {t' : State} (ho : execInputCurrentLimiting vin
    iin pin s = .next t') : Keeps 7405632 s t' := by
  unfold execInputCurrentLimiting at ho
  refine act_keeps ho ?_
  try dsimp only
  repeat' first
    | (with_reducible exact Keeps.refl)
    | (with_reducible refine Keeps.wr ?_ ?_)
    | (with_reducible refine Keeps.ite ?_ ?_)
    | (with_reducible refine State.endCond_keeps ?_ ?_)
    | (with_reducible refine State.raiseCond_keeps ?_ ?_)
    | exact (rfl : _ = true)

theorem State.setTemps_keeps {s : State} {tcp : Nat} {m₀ s₀} (k₀ : Keeps m₀ s₀ s) (hm : (64 &&& m₀ == 64) = true) :
    Keeps m₀ s₀ (State.setTemps s tcp) := by
  refine k₀.step (w' := 64) ?_ hm
  unfold State.setTemps
  try dsimp only
  repeat' first
    | (with_reducible exact Keeps.refl)
    | (with_reducible refine Keeps.wr ?_ ?_)
    | exact (rfl : _ = true)

theorem State.plateLimit_keeps {s : State} {passed : Bool} {f : ModF} {event arg : Nat} {m₀ s₀} (k₀ : Keeps m₀ s₀ s)
    (hm : (7405632 &&& m₀ == 7405632) = true) : Keeps m₀ s₀ (State.plateLimit s passed f event arg) := by
  refine k₀.step (w' := 7405632) ?_ hm
  unfold State.plateLimit
  try dsimp only
  repeat' first
    | (with_reducible exact Keeps.refl)
    | (with_reducible refine Keeps.wr ?_ ?_)
    | (with_reducible refine Keeps.ite ?_ ?_)
    | (with_reducible refine State.endCond_keeps ?_ ?_)
    | (with_reducible refine State.raiseCond_keeps ?_ ?_)
    | exact (rfl : _ = true)
    | (simp only [Fld.area]; exact (rfl : _ = true))

theorem execColdPlateLimit_keeps (tcp : Nat) (s : State) {t' : State} (ho : execColdPlateLimit tcp s = .next t') :
    Keeps 7405632 s t' := by
  unfold execColdPlateLimit at ho
  refine act_keeps ho ?_
  try dsimp only
  repeat' first
    | (with_reducible exact Keeps.refl)
    | (with_reducible refine Keeps.ite ?_ ?_)
    | (with_reducible refine State.plateLimit_keeps ?_ ?_)
    | (with_reducible refine State.setTemps_keeps ?_ ?_)
    | exact (rfl : _ = true)

theorem State.addLife_keeps {s : State} {t : Int} {m₀ s₀} (k₀ : Keeps m₀ s₀ s) (hm : (3211328 &&& m₀ == 3211328) =
    true) : Keeps m₀ s₀ (State.addLife s t) := by
  refine k₀.step (w' := 3211328) ?_ hm
  unfold State.addLife
  try dsimp only
  repeat' first
    | (with_reducible exact Keeps.refl)
    | (with_reducible refine Keeps.wr ?_ ?_)
    | (with_reducible refine Keeps.add ?_ ?_)
    | (with_reducible refine Keeps.ite ?_ ?_)
    | (with_reducible refine State.raiseEvent_keeps ?_ ?_)
    | exact (rfl : _ = true)

theorem State.followCycle_keeps {s : State} {t : Int} {m₀ s₀} (k₀ : Keeps m₀ s₀ s) (hm : (64 &&& m₀ == 64) = true) :
    Keeps m₀ s₀ (State.followCycle s t) := by
  refine k₀.step (w' := 64) ?_ hm
  unfold State.followCycle
  try dsimp only
  repeat' first
    | (with_reducible exact Keeps.refl)
    | (with_reducible refine Keeps.wr ?_ ?_)
    | (with_reducible refine Keeps.inc ?_ ?_)
    | (with_reducible refine Keeps.ite ?_ ?_)
    | exact (rfl : _ = true)

theorem State.countSecond_keeps {s : State} {m₀ s₀} (k₀ : Keeps m₀ s₀ s) (hm : (64 &&& m₀ == 64) = true) : Keeps m₀ s₀
    (State.countSecond s) := by
  refine k₀.step (w' := 64) ?_ hm
  unfold State.countSecond
  try dsimp only
  repeat' first
    | (with_reducible exact Keeps.refl)
    | (with_reducible refine Keeps.wr ?_ ?_)
    | (with_reducible refine Keeps.inc ?_ ?_)
    | (with_reducible refine Keeps.ite ?_ ?_)
    | exact (rfl : _ = true)

theorem execLifeAccounting_keeps (tcp : Nat) (s : State) {t' : State} (ho : execLifeAccounting tcp s = .next t') :
    Keeps 3211328 s t' := by
  unfold execLifeAccounting at ho
  refine act_keeps ho ?_
  try dsimp only
  repeat' first
    | (with_reducible exact Keeps.refl)
    | (with_reducible refine Keeps.ite ?_ ?_)
    | (with_reducible refine State.addLife_keeps ?_ ?_)
    | (with_reducible refine State.countSecond_keeps ?_ ?_)
    | (with_reducible refine State.followCycle_keeps ?_ ?_)
    | (with_reducible refine State.setTemps_keeps ?_ ?_)
    | exact (rfl : _ = true)

theorem execLifeRecordWrite_keeps (s : State) {t' : State} (ho : execLifeRecordWrite s = .next t') : Keeps 64 s t' := by
  unfold execLifeRecordWrite at ho
  refine act_keeps ho ?_
  try dsimp only
  repeat' first
    | (with_reducible exact Keeps.refl)
    | (with_reducible refine Keeps.ite ?_ ?_)
    | (with_reducible refine State.writeLife_keeps ?_ ?_)
    | exact (rfl : _ = true)

theorem State.odSet_keeps {s : State} {idx sub v : Nat} {m₀ s₀} (k₀ : Keeps m₀ s₀ s) (hm : (2361183241434822606848 &&&
    m₀ == 2361183241434822606848) = true) : Keeps m₀ s₀ (State.odSet s idx sub v) := by
  refine k₀.step (w' := 2361183241434822606848) ?_ hm
  unfold State.odSet
  try dsimp only
  repeat' first
    | (with_reducible exact Keeps.refl)
    | exact (rfl : _ = true)
    | assumption
    | split
    | (with_reducible refine Keeps.set_odVals ?_ ?_)

theorem State.applyHeld_keeps {s : State} {c : Nat} {m₀ s₀} (k₀ : Keeps m₀ s₀ s) (hm : (65536 &&& m₀ == 65536) = true)
    : Keeps m₀ s₀ (State.applyHeld s c) := by
  refine k₀.step (w' := 65536) ?_ hm
  unfold State.applyHeld
  try dsimp only
  repeat' first
    | (with_reducible exact Keeps.refl)
    | (with_reducible refine Keeps.wr ?_ ?_)
    | (with_reducible refine Keeps.ite ?_ ?_)
    | exact (rfl : _ = true)

theorem State.raiseAgain_keeps {s : State} {m₀ s₀} (k₀ : Keeps m₀ s₀ s) (hm : (3211328 &&& m₀ == 3211328) = true) :
    Keeps m₀ s₀ (State.raiseAgain s) := by
  refine k₀.step (w' := 3211328) ?_ hm
  unfold State.raiseAgain
  try dsimp only
  repeat' first
    | (with_reducible exact Keeps.refl)
    | (with_reducible refine Keeps.wr ?_ ?_)
    | (with_reducible refine Keeps.ite ?_ ?_)
    | (with_reducible refine Keeps.each (fun _ _ => ?_) ?_)
    | (with_reducible refine State.raiseEvent_keeps ?_ ?_)
    | (with_reducible refine State.sendEmcy_keeps ?_ ?_)
    | exact (rfl : _ = true)

theorem State.dropComm_keeps {s : State} {m₀ s₀} (k₀ : Keeps m₀ s₀ s) (hm : (16528282690043765587968 &&& m₀ ==
    16528282690043765587968) = true) : Keeps m₀ s₀ (State.dropComm s) := by
  refine k₀.step (w' := 16528282690043765587968) ?_ hm
  unfold State.dropComm
  try dsimp only
  repeat' first
    | (with_reducible exact Keeps.refl)
    | exact (rfl : _ = true)
    | (simp only [Fld.area]; exact (rfl : _ = true))
    | exact Or.inr rfl
    | exact Or.inl rfl
    | assumption
    | split
    | (with_reducible refine Keeps.set_emcyQueue ?_ ?_)
    | (with_reducible refine Keeps.set_emcyHistory ?_ ?_)
    | (with_reducible refine Keeps.set_conditions ?_ ?_)
    | (with_reducible refine Keeps.set_odVals ?_ ?_)
    | (with_reducible refine Keeps.set_sessions ?_ ?_)
    | (with_reducible refine Keeps.set_rpdoHeld ?_ ?_)
    | (with_reducible refine Keeps.upd ?_ ?_ ?_ ?_ ?_ ?_ ?_ ?_ ?_ ?_ ?_ ?_ ?_ ?_ ?_ ?_ ?_ ?_ ?_ ?_ ?_ ?_ ?_ ?_ ?_ ?_ ?_ ?_ ?_ ?_ ?_ ?_ ?_ ?_ ?_ ?_ ?_ ?_ ?_ ?_ ?_ ?_ ?_ ?_ ?_ ?_ ?_ ?_ ?_ ?_ ?_ ?_ ?_ ?_ ?_ ?_ ?_ ?_ ?_ ?_ ?_ ?_ ?_ ?_ ?_ ?_ ?_)

theorem State.initialise_keeps {s : State} {m₀ s₀} (k₀ : Keeps m₀ s₀ s) (hm : (16528282690043774042176 &&& m₀ ==
    16528282690043774042176) = true) : Keeps m₀ s₀ (State.initialise s) := by
  refine k₀.step (w' := 16528282690043774042176) ?_ hm
  unfold State.initialise
  try dsimp only
  repeat' first
    | (with_reducible exact Keeps.refl)
    | (with_reducible refine Keeps.wr ?_ ?_)
    | (with_reducible refine Keeps.each (fun _ _ => ?_) ?_)
    | ((with_reducible refine Keeps.resetKeys ?_ ?_); · (rintro ⟨f, u, j⟩ hk; cases f <;> first | (simp only [Fld.area]; rfl) | exact Bool.noConfusion (show false = true from hk) | (simp [isCommState] at hk; done)))
    | (with_reducible refine State.applyHeld_keeps ?_ ?_)
    | (with_reducible refine State.dropComm_keeps ?_ ?_)
    | (with_reducible refine State.odSet_keeps ?_ ?_)
    | (with_reducible refine State.raiseAgain_keeps ?_ ?_)
    | (with_reducible refine State.sendAll_keeps ?_ ?_)
    | exact (rfl : _ = true)

theorem State.disarm_keeps {s : State} {d c : Nat} {m₀ s₀} (k₀ : Keeps m₀ s₀ s) (hm : (131072 &&& m₀ == 131072) =
    true) : Keeps m₀ s₀ (State.disarm s d c) := by
  refine k₀.step (w' := 131072) ?_ hm
  unfold State.disarm
  try dsimp only
  repeat' first
    | (with_reducible exact Keeps.refl)
    | (with_reducible refine Keeps.wr ?_ ?_)
    | exact (rfl : _ = true)

theorem State.setLevel_keeps {s : State} {l : Nat} {m₀ s₀} (k₀ : Keeps m₀ s₀ s) (hm : (7558032272689598948163551 &&&
    m₀ == 7558032272689598948163551) = true) : Keeps m₀ s₀ (State.setLevel s l) := by
  refine k₀.step (w' := 7558032272689598948163551) ?_ hm
  unfold State.setLevel
  try dsimp only
  repeat' first
    | (with_reducible exact Keeps.refl)
    | (with_reducible refine Keeps.wr ?_ ?_)
    | (with_reducible refine Keeps.ite ?_ ?_)
    | (with_reducible refine Keeps.each (fun _ _ => ?_) ?_)
    | (with_reducible refine State.disarm_keeps ?_ ?_)
    | (with_reducible refine State.nicheReleased_keeps ?_ ?_)
    | (with_reducible refine State.release_keeps ?_ ?_)
    | exact (rfl : _ = true)

theorem execDropDebug_keeps (s : State) {t' : State} (ho : execDropDebug s = .next t') : Keeps
    7558032272689598948163551 s t' := by
  unfold execDropDebug at ho
  refine actFw_keeps ho ?_
  try dsimp only
  repeat' first
    | (with_reducible exact Keeps.refl)
    | (with_reducible refine State.setLevel_keeps ?_ ?_)
    | exact (rfl : _ = true)

theorem execDebugGrantTimeout_keeps (powered : Bool) (s : State) {t' : State} (ho : execDebugGrantTimeout powered s =
    .next t') : Keeps 7558032272689598948163551 s t' := by
  unfold execDebugGrantTimeout at ho
  refine actCore_keeps ho ?_
  try dsimp only
  repeat' first
    | (with_reducible exact Keeps.refl)
    | (with_reducible refine Keeps.ite ?_ ?_)
    | (with_reducible refine State.setLevel_keeps ?_ ?_)
    | exact (rfl : _ = true)

theorem State.wipeOasis_keeps {s : State} {m₀ s₀} (k₀ : Keeps m₀ s₀ s) (hm : (18014398509514752 &&& m₀ ==
    18014398509514752) = true) : Keeps m₀ s₀ (State.wipeOasis s) := by
  refine k₀.step (w' := 18014398509514752) ?_ hm
  unfold State.wipeOasis
  try dsimp only
  repeat' first
    | (with_reducible exact Keeps.refl)
    | (with_reducible refine Keeps.wr ?_ ?_)
    | exact (rfl : _ = true)
    | assumption
    | split
    | (with_reducible refine Keeps.set_oasis ?_ ?_)

theorem State.eraseSeal_keeps {s : State} {m₀ s₀} (k₀ : Keeps m₀ s₀ s) (hm : (36028797018996736 &&& m₀ ==
    36028797018996736) = true) : Keeps m₀ s₀ (State.eraseSeal s) := by
  refine k₀.step (w' := 36028797018996736) ?_ hm
  unfold State.eraseSeal
  try dsimp only
  repeat' first
    | (with_reducible exact Keeps.refl)
    | (with_reducible refine Keeps.wr ?_ ?_)
    | exact (rfl : _ = true)
    | assumption
    | split
    | (with_reducible refine Keeps.set_sealedOasis ?_ ?_)

theorem execWipeOasis_keeps (s : State) {t' : State} (ho : execWipeOasis s = .next t') : Keeps 18014398509514752 s t'
    := by
  unfold execWipeOasis at ho
  refine actFw_keeps ho ?_
  try dsimp only
  repeat' first
    | (with_reducible exact Keeps.refl)
    | (with_reducible refine State.wipeOasis_keeps ?_ ?_)
    | exact (rfl : _ = true)

theorem execOasisWipeDone_keeps (s : State) {t' : State} (ho : execOasisWipeDone s = .next t') : Keeps
    18014398509514752 s t' := by
  unfold execOasisWipeDone at ho
  refine actCore_keeps ho ?_
  try dsimp only
  repeat' first
    | (with_reducible exact Keeps.refl)
    | (with_reducible refine Keeps.wr ?_ ?_)
    | (with_reducible refine Keeps.ite ?_ ?_)
    | exact (rfl : _ = true)
    | assumption
    | split
    | (with_reducible refine Keeps.set_oasis ?_ ?_)

theorem State.seal_keeps {s : State} {m₀ s₀} (k₀ : Keeps m₀ s₀ s) (hm : (32768 &&& m₀ == 32768) = true) : Keeps m₀ s₀
    (State.seal s) := by
  refine k₀.step (w' := 32768) ?_ hm
  unfold State.seal
  try dsimp only
  repeat' first
    | (with_reducible exact Keeps.refl)
    | (with_reducible refine Keeps.wr ?_ ?_)
    | (with_reducible refine Keeps.ite ?_ ?_)
    | exact (rfl : _ = true)

theorem execSeal_keeps (s : State) {t' : State} (ho : execSeal s = .next t') : Keeps 32768 s t' := by
  unfold execSeal at ho
  refine actFw_keeps ho ?_
  try dsimp only
  repeat' first
    | (with_reducible exact Keeps.refl)
    | (with_reducible refine State.seal_keeps ?_ ?_)
    | exact (rfl : _ = true)

theorem execSealComplete_keeps (s : State) {t' : State} (ho : execSealComplete s = .next t') : Keeps 36028797018996736
    s t' := by
  unfold execSealComplete at ho
  refine actFw_keeps ho ?_
  try dsimp only
  repeat' first
    | (with_reducible exact Keeps.refl)
    | (with_reducible refine Keeps.wr ?_ ?_)
    | (with_reducible refine Keeps.ite ?_ ?_)
    | exact (rfl : _ = true)
    | assumption
    | split
    | (with_reducible refine Keeps.set_sealedOasis ?_ ?_)

theorem State.oasisStore_keeps {s : State} {w row : Nat} {m₀ s₀} (k₀ : Keeps m₀ s₀ s) (hm : (18014398509481984 &&& m₀
    == 18014398509481984) = true) : Keeps m₀ s₀ (State.oasisStore s w row) := by
  refine k₀.step (w' := 18014398509481984) ?_ hm
  unfold State.oasisStore
  try dsimp only
  repeat' first
    | (with_reducible exact Keeps.refl)
    | exact (rfl : _ = true)
    | assumption
    | split
    | (with_reducible refine Keeps.set_oasis ?_ ?_)

theorem State.secResult_keeps {s : State} {c : Nat} {m₀ s₀} (k₀ : Keeps m₀ s₀ s) (hm : (32768 &&& m₀ == 32768) = true)
    : Keeps m₀ s₀ (State.secResult s c) := by
  refine k₀.step (w' := 32768) ?_ hm
  unfold State.secResult
  try dsimp only
  repeat' first
    | (with_reducible exact Keeps.refl)
    | (with_reducible refine Keeps.wr ?_ ?_)
    | exact (rfl : _ = true)

theorem State.oasisPut_keeps {s : State} {l : List Nat} {v : Verdict} {m₀ s₀} (k₀ : Keeps m₀ s₀ s) (hm :
    (18014398509514752 &&& m₀ == 18014398509514752) = true) : Keeps m₀ s₀ (State.oasisPut s l v).2 := by
  refine k₀.step (w' := 18014398509514752) ?_ hm
  unfold State.oasisPut
  try dsimp only
  repeat' first
    | (with_reducible exact Keeps.refl)
    | (with_reducible refine Keeps.ite ?_ ?_)
    | (with_reducible refine Keeps.ite_snd ?_ ?_)
    | (with_reducible refine Keeps.each (fun _ _ => ?_) ?_)
    | (with_reducible refine State.oasisStore_keeps ?_ ?_)
    | (with_reducible refine State.secResult_keeps ?_ ?_)
    | exact (rfl : _ = true)

theorem State.oasisPut_keeps_eq {s : State} {l : List Nat} {v : Verdict} {x} {s'' : State} (e : State.oasisPut s l v =
    (x, s'')) {m₀ s₀} (k₀ : Keeps m₀ s₀ s) (hm : (18014398509514752 &&& m₀ == 18014398509514752) = true) : Keeps m₀ s₀
    s'' := by
  have := State.oasisPut_keeps (s := s) (l := l) (v := v) k₀ hm
  rwa [e] at this

theorem execOasisPut_keeps (bytes : List Nat) (v : Verdict) (s : State) {t' : State} (ho : execOasisPut bytes v s =
    .next t') : Keeps 18014398509514752 s t' := by
  unfold execOasisPut at ho
  refine actFw_keeps ho ?_
  try dsimp only
  repeat' first
    | (with_reducible exact Keeps.refl)
    | (with_reducible refine State.oasisPut_keeps ?_ ?_)
    | (refine State.oasisPut_keeps_eq (by assumption) ?_ ?_)
    | exact (rfl : _ = true)

theorem State.burn_keeps {s : State} {b : Option Nat} {m₀ s₀} (k₀ : Keeps m₀ s₀ s) (hm : (32768 &&& m₀ == 32768) =
    true) : Keeps m₀ s₀ (State.burn s b) := by
  refine k₀.step (w' := 32768) ?_ hm
  unfold State.burn
  try dsimp only
  repeat' first
    | (with_reducible exact Keeps.refl)
    | (with_reducible refine Keeps.wr ?_ ?_)
    | exact (rfl : _ = true)
    | assumption
    | split

theorem State.putSlot_keeps {s : State} {k v : Nat} {usable : Bool} {m₀ s₀} (k₀ : Keeps m₀ s₀ s) (hm :
    (72057594037960704 &&& m₀ == 72057594037960704) = true) : Keeps m₀ s₀ (State.putSlot s k v usable) := by
  refine k₀.step (w' := 72057594037960704) ?_ hm
  unfold State.putSlot
  try dsimp only
  repeat' first
    | (with_reducible exact Keeps.refl)
    | (with_reducible refine Keeps.wr ?_ ?_)
    | (with_reducible refine Keeps.ite ?_ ?_)
    | exact (rfl : _ = true)
    | assumption
    | split
    | (with_reducible refine Keeps.set_keySlots ?_ ?_)

theorem State.eraseSlots_keeps {s : State} {l : List Nat} {m₀ s₀} (k₀ : Keeps m₀ s₀ s) (hm : (72057594037960704 &&& m₀
    == 72057594037960704) = true) : Keeps m₀ s₀ (State.eraseSlots s l) := by
  refine k₀.step (w' := 72057594037960704) ?_ hm
  unfold State.eraseSlots
  try dsimp only
  repeat' first
    | (with_reducible exact Keeps.refl)
    | (with_reducible refine Keeps.each (fun _ _ => ?_) ?_)
    | (with_reducible refine State.putSlot_keeps ?_ ?_)
    | exact (rfl : _ = true)

theorem State.commandEffect_keeps {s : State} {code : Nat} {p : List Nat} {v : Verdict} {m₀ s₀} (k₀ : Keeps m₀ s₀ s)
    (hm : (216172782113816576 &&& m₀ == 216172782113816576) = true) : Keeps m₀ s₀ (State.commandEffect s code p v) :=
    by
  refine k₀.step (w' := 216172782113816576) ?_ hm
  unfold State.commandEffect
  try dsimp only
  repeat' first
    | (with_reducible exact Keeps.refl)
    | (with_reducible refine Keeps.wr ?_ ?_)
    | (with_reducible refine Keeps.ite ?_ ?_)
    | (with_reducible refine Keeps.each (fun _ _ => ?_) ?_)
    | (with_reducible refine State.eraseSlots_keeps ?_ ?_)
    | (with_reducible refine State.putSlot_keeps ?_ ?_)
    | exact (rfl : _ = true)
    | assumption
    | split
    | (with_reducible refine Keeps.set_certificate ?_ ?_)

theorem State.transition_keeps {s : State} {code : Nat} {m₀ s₀} (k₀ : Keeps m₀ s₀ s) (hm : (9371531745626380086280159
    &&& m₀ == 9371531745626380086280159) = true) : Keeps m₀ s₀ (State.transition s code) := by
  refine k₀.step (w' := 9371531745626380086280159) ?_ hm
  unfold State.transition
  try dsimp only
  repeat' first
    | (with_reducible exact Keeps.refl)
    | (with_reducible refine Keeps.wr ?_ ?_)
    | (with_reducible refine Keeps.ite ?_ ?_)
    | (with_reducible refine State.burn_keeps ?_ ?_)
    | (with_reducible refine State.clearImage_keeps ?_ ?_)
    | (with_reducible refine State.eraseSeal_keeps ?_ ?_)
    | (with_reducible refine State.setLevel_keeps ?_ ?_)
    | (with_reducible refine State.wipeOasis_keeps ?_ ?_)
    | exact (rfl : _ = true)

theorem State.signedCommand_keeps {s : State} {l : List Nat} {v : Verdict} {m₀ s₀} (k₀ : Keeps m₀ s₀ s) (hm :
    (9371531961799162200063967 &&& m₀ == 9371531961799162200063967) = true) : Keeps m₀ s₀ (State.signedCommand s l
    v).2 := by
  refine k₀.step (w' := 9371531961799162200063967) ?_ hm
  unfold State.signedCommand
  try dsimp only
  repeat' first
    | (with_reducible exact Keeps.refl)
    | (with_reducible refine Keeps.wr ?_ ?_)
    | (with_reducible refine Keeps.ite ?_ ?_)
    | (with_reducible refine Keeps.ite_snd ?_ ?_)
    | (with_reducible refine State.commandEffect_keeps ?_ ?_)
    | (with_reducible refine State.raiseEvent_keeps ?_ ?_)
    | (with_reducible refine State.secResult_keeps ?_ ?_)
    | (with_reducible refine State.transition_keeps ?_ ?_)
    | exact (rfl : _ = true)

theorem State.signedCommand_keeps_eq {s : State} {l : List Nat} {v : Verdict} {x} {s'' : State} (e :
    State.signedCommand s l v = (x, s'')) {m₀ s₀} (k₀ : Keeps m₀ s₀ s) (hm : (9371531961799162200063967 &&& m₀ ==
    9371531961799162200063967) = true) : Keeps m₀ s₀ s'' := by
  have := State.signedCommand_keeps (s := s) (l := l) (v := v) k₀ hm
  rwa [e] at this

theorem State.signedRow_keeps (s : State) (code : Nat) (bytes : List Nat) (v : Verdict) {t' : State} (ho :
    State.signedRow s code bytes v = .next t') : Keeps 9371531961799162200063967 s t' := by
  unfold State.signedRow at ho
  refine actFw_keeps ho ?_
  try dsimp only
  repeat' first
    | (with_reducible exact Keeps.refl)
    | (with_reducible refine State.signedCommand_keeps ?_ ?_)
    | (refine State.signedCommand_keeps_eq (by assumption) ?_ ?_)
    | exact (rfl : _ = true)

theorem execProvision_keeps (bytes : List Nat) (v : Verdict) (s : State) {t' : State} (h : execProvision bytes v s =
    .next t') : Keeps 9371531961799162200063967 s t' :=
  State.signedRow_keeps _ _ _ _ h

theorem execClaim_keeps (bytes : List Nat) (v : Verdict) (s : State) {t' : State} (h : execClaim bytes v s = .next t')
    : Keeps 9371531961799162200063967 s t' :=
  State.signedRow_keeps _ _ _ _ h

theorem execDeploy_keeps (bytes : List Nat) (v : Verdict) (s : State) {t' : State} (h : execDeploy bytes v s = .next
    t') : Keeps 9371531961799162200063967 s t' :=
  State.signedRow_keeps _ _ _ _ h

theorem execMaintain_keeps (bytes : List Nat) (v : Verdict) (s : State) {t' : State} (h : execMaintain bytes v s =
    .next t') : Keeps 9371531961799162200063967 s t' :=
  State.signedRow_keeps _ _ _ _ h

theorem execRma_keeps (bytes : List Nat) (v : Verdict) (s : State) {t' : State} (h : execRma bytes v s = .next t') :
    Keeps 9371531961799162200063967 s t' :=
  State.signedRow_keeps _ _ _ _ h

theorem execRefurbish_keeps (bytes : List Nat) (v : Verdict) (s : State) {t' : State} (h : execRefurbish bytes v s =
    .next t') : Keeps 9371531961799162200063967 s t' :=
  State.signedRow_keeps _ _ _ _ h

theorem execDecommission_keeps (bytes : List Nat) (v : Verdict) (s : State) {t' : State} (h : execDecommission bytes v
    s = .next t') : Keeps 9371531961799162200063967 s t' :=
  State.signedRow_keeps _ _ _ _ h

theorem execKeyset_keeps (bytes : List Nat) (v : Verdict) (s : State) {t' : State} (h : execKeyset bytes v s = .next
    t') : Keeps 9371531961799162200063967 s t' :=
  State.signedRow_keeps _ _ _ _ h

theorem execSvnSet_keeps (bytes : List Nat) (v : Verdict) (s : State) {t' : State} (h : execSvnSet bytes v s = .next
    t') : Keeps 9371531961799162200063967 s t' :=
  State.signedRow_keeps _ _ _ _ h

theorem execRevokeRoot_keeps (bytes : List Nat) (v : Verdict) (s : State) {t' : State} (h : execRevokeRoot bytes v s =
    .next t') : Keeps 9371531961799162200063967 s t' :=
  State.signedRow_keeps _ _ _ _ h

theorem State.commitSvn_keeps {s : State} {m₀ s₀} (k₀ : Keeps m₀ s₀ s) (hm : (32768 &&& m₀ == 32768) = true) : Keeps
    m₀ s₀ (State.commitSvn s) := by
  refine k₀.step (w' := 32768) ?_ hm
  unfold State.commitSvn
  try dsimp only
  repeat' first
    | (with_reducible exact Keeps.refl)
    | (with_reducible refine Keeps.wr ?_ ?_)
    | (with_reducible refine Keeps.ite ?_ ?_)
    | exact (rfl : _ = true)

theorem execCommit_keeps (s : State) {t' : State} (ho : execCommit s = .next t') : Keeps 32768 s t' := by
  unfold execCommit at ho
  refine actFw_keeps ho ?_
  try dsimp only
  repeat' first
    | (with_reducible exact Keeps.refl)
    | (with_reducible refine State.commitSvn_keeps ?_ ?_)
    | exact (rfl : _ = true)

theorem State.putCopy_keeps {s : State} {j : Nat} {l : List Nat} {m₀ s₀} (k₀ : Keeps m₀ s₀ s) (hm :
    (1729382256910270464 &&& m₀ == 1729382256910270464) = true) : Keeps m₀ s₀ (State.putCopy s j l) := by
  refine k₀.step (w' := 1729382256910270464) ?_ hm
  unfold State.putCopy
  try dsimp only
  repeat' first
    | (with_reducible exact Keeps.refl)
    | (with_reducible refine Keeps.ite ?_ ?_)
    | exact (rfl : _ = true)
    | exact Or.inr rfl
    | exact Or.inl rfl
    | assumption
    | split
    | (with_reducible refine Keeps.set_copyA ?_ ?_)
    | (with_reducible refine Keeps.set_copyB ?_ ?_)

theorem State.firmwarePackage_keeps {s : State} {l : List Nat} {v : Verdict} {m₀ s₀} (k₀ : Keeps m₀ s₀ s) (hm :
    (1729382256910303232 &&& m₀ == 1729382256910303232) = true) : Keeps m₀ s₀ (State.firmwarePackage s l v).2 := by
  refine k₀.step (w' := 1729382256910303232) ?_ hm
  unfold State.firmwarePackage
  try dsimp only
  repeat' first
    | (with_reducible exact Keeps.refl)
    | (with_reducible refine Keeps.wr ?_ ?_)
    | (with_reducible refine Keeps.ite ?_ ?_)
    | (with_reducible refine Keeps.ite_snd ?_ ?_)
    | (with_reducible refine State.putCopy_keeps ?_ ?_)
    | (with_reducible refine State.secResult_keeps ?_ ?_)
    | exact (rfl : _ = true)

theorem State.firmwarePackage_keeps_eq {s : State} {l : List Nat} {v : Verdict} {x} {s'' : State} (e :
    State.firmwarePackage s l v = (x, s'')) {m₀ s₀} (k₀ : Keeps m₀ s₀ s) (hm : (1729382256910303232 &&& m₀ ==
    1729382256910303232) = true) : Keeps m₀ s₀ s'' := by
  have := State.firmwarePackage_keeps (s := s) (l := l) (v := v) k₀ hm
  rwa [e] at this

theorem execFirmwarePackage_keeps (bytes : List Nat) (v : Verdict) (s : State) {t' : State} (ho : execFirmwarePackage
    bytes v s = .next t') : Keeps 1729382256910303232 s t' := by
  unfold execFirmwarePackage at ho
  refine actOd_keeps ho ?_
  try dsimp only
  repeat' first
    | (with_reducible exact Keeps.refl)
    | (with_reducible refine State.firmwarePackage_keeps ?_ ?_)
    | (refine State.firmwarePackage_keeps_eq (by assumption) ?_ ?_)
    | exact (rfl : _ = true)

theorem State.presentToken_keeps {s : State} {l : List Nat} {v : Verdict} {m₀ s₀} (k₀ : Keeps m₀ s₀ s) (hm :
    (7558032272689598948163551 &&& m₀ == 7558032272689598948163551) = true) : Keeps m₀ s₀ (State.presentToken s l v).2
    := by
  refine k₀.step (w' := 7558032272689598948163551) ?_ hm
  unfold State.presentToken
  try dsimp only
  repeat' first
    | (with_reducible exact Keeps.refl)
    | (with_reducible refine Keeps.wr ?_ ?_)
    | (with_reducible refine Keeps.ite ?_ ?_)
    | (with_reducible refine Keeps.ite_snd ?_ ?_)
    | (with_reducible refine State.setLevel_keeps ?_ ?_)
    | exact (rfl : _ = true)

theorem State.presentToken_keeps_eq {s : State} {l : List Nat} {v : Verdict} {x} {s'' : State} (e : State.presentToken
    s l v = (x, s'')) {m₀ s₀} (k₀ : Keeps m₀ s₀ s) (hm : (7558032272689598948163551 &&& m₀ ==
    7558032272689598948163551) = true) : Keeps m₀ s₀ s'' := by
  have := State.presentToken_keeps (s := s) (l := l) (v := v) k₀ hm
  rwa [e] at this

theorem execDebugToken_keeps (bytes : List Nat) (v : Verdict) (s : State) {t' : State} (ho : execDebugToken bytes v s
    = .next t') : Keeps 7558032272689598948163551 s t' := by
  unfold execDebugToken at ho
  refine actFw_keeps ho ?_
  try dsimp only
  repeat' first
    | (with_reducible exact Keeps.refl)
    | (with_reducible refine State.presentToken_keeps ?_ ?_)
    | (refine State.presentToken_keeps_eq (by assumption) ?_ ?_)
    | exact (rfl : _ = true)

theorem State.attest_keeps {s : State} {nonce : List Nat} {m₀ s₀} (k₀ : Keeps m₀ s₀ s) (hm : (288230376160133120 &&&
    m₀ == 288230376160133120) = true) : Keeps m₀ s₀ (State.attest s nonce).2 := by
  refine k₀.step (w' := 288230376160133120) ?_ hm
  unfold State.attest
  try dsimp only
  repeat' first
    | (with_reducible exact Keeps.refl)
    | (with_reducible refine Keeps.wr ?_ ?_)
    | (with_reducible refine Keeps.emit ?_ ?_)
    | (with_reducible refine Keeps.ite ?_ ?_)
    | (with_reducible refine Keeps.ite_snd ?_ ?_)
    | exact (rfl : _ = true)
    | assumption
    | split
    | (with_reducible refine Keeps.set_report ?_ ?_)

theorem State.attest_keeps_eq {s : State} {nonce : List Nat} {x} {s'' : State} (e : State.attest s nonce = (x, s''))
    {m₀ s₀} (k₀ : Keeps m₀ s₀ s) (hm : (288230376160133120 &&& m₀ == 288230376160133120) = true) : Keeps m₀ s₀ s'' :=
    by
  have := State.attest_keeps (s := s) (nonce := nonce) k₀ hm
  rwa [e] at this

theorem execAttestationNonce_keeps (nonce : List Nat) (s : State) {t' : State} (ho : execAttestationNonce nonce s =
    .next t') : Keeps 288230376160133120 s t' := by
  unfold execAttestationNonce at ho
  refine actFw_keeps ho ?_
  try dsimp only
  repeat' first
    | (with_reducible exact Keeps.refl)
    | (with_reducible refine State.attest_keeps ?_ ?_)
    | (refine State.attest_keeps_eq (by assumption) ?_ ?_)
    | exact (rfl : _ = true)

theorem execCreditAccrual_keeps (s : State) {t' : State} (ho : execCreditAccrual s = .next t') : Keeps 32768 s t' := by
  unfold execCreditAccrual at ho
  refine act_keeps ho ?_
  try dsimp only
  repeat' first
    | (with_reducible exact Keeps.refl)
    | (with_reducible refine Keeps.wr ?_ ?_)
    | (with_reducible refine Keeps.ite ?_ ?_)
    | exact (rfl : _ = true)

theorem State.setPresent_keeps {s : State} {present : Nat} {m₀ s₀} (k₀ : Keeps m₀ s₀ s) (hm : (7438336 &&& m₀ ==
    7438336) = true) : Keeps m₀ s₀ (State.setPresent s present) := by
  refine k₀.step (w' := 7438336) ?_ hm
  unfold State.setPresent
  try dsimp only
  repeat' first
    | (with_reducible exact Keeps.refl)
    | (with_reducible refine Keeps.wr ?_ ?_)
    | (with_reducible refine Keeps.each (fun _ _ => ?_) ?_)
    | (with_reducible refine State.endCond_keeps ?_ ?_)
    | exact (rfl : _ = true)

theorem State.logTamper_keeps {s : State} {k : Nat} {m₀ s₀} (k₀ : Keeps m₀ s₀ s) (hm : (2305843009213726721 &&& m₀ ==
    2305843009213726721) = true) : Keeps m₀ s₀ (State.logTamper s k) := by
  refine k₀.step (w' := 2305843009213726721) ?_ hm
  unfold State.logTamper
  try dsimp only
  repeat' first
    | (with_reducible exact Keeps.refl)
    | (with_reducible refine Keeps.wr ?_ ?_)
    | (with_reducible refine Keeps.inc ?_ ?_)
    | exact (rfl : _ = true)
    | assumption
    | split
    | (with_reducible refine Keeps.set_tamperLog ?_ ?_)

theorem State.loseSecrets_keeps {s : State} {m₀ s₀} (k₀ : Keeps m₀ s₀ s) (hm : (72057594037960704 &&& m₀ ==
    72057594037960704) = true) : Keeps m₀ s₀ (State.loseSecrets s) := by
  refine k₀.step (w' := 72057594037960704) ?_ hm
  unfold State.loseSecrets
  try dsimp only
  repeat' first
    | (with_reducible exact Keeps.refl)
    | (with_reducible refine Keeps.wr ?_ ?_)
    | (with_reducible refine Keeps.ite ?_ ?_)
    | (with_reducible refine State.burn_keeps ?_ ?_)
    | (with_reducible refine State.eraseSlots_keeps ?_ ?_)
    | exact (rfl : _ = true)

theorem State.tamperResponse_keeps {s : State} {k : Nat} {m₀ s₀} (k₀ : Keeps m₀ s₀ s) (hm : (9371534123526983337902047
    &&& m₀ == 9371534123526983337902047) = true) : Keeps m₀ s₀ (State.tamperResponse s k) := by
  refine k₀.step (w' := 9371534123526983337902047) ?_ hm
  unfold State.tamperResponse
  try dsimp only
  repeat' first
    | (with_reducible exact Keeps.refl)
    | (with_reducible refine Keeps.wr ?_ ?_)
    | (with_reducible refine Keeps.ite ?_ ?_)
    | (with_reducible refine State.clearImage_keeps ?_ ?_)
    | (with_reducible refine State.endCond_keeps ?_ ?_)
    | (with_reducible refine State.eraseSeal_keeps ?_ ?_)
    | (with_reducible refine State.failLoad_keeps ?_ ?_)
    | (with_reducible refine State.logTamper_keeps ?_ ?_)
    | (with_reducible refine State.loseSecrets_keeps ?_ ?_)
    | (with_reducible refine State.raiseCond_keeps ?_ ?_)
    | (with_reducible refine State.setLevel_keeps ?_ ?_)
    | (with_reducible refine State.voidTick_keeps ?_ ?_)
    | (with_reducible refine State.wipeOasis_keeps ?_ ?_)
    | exact (rfl : _ = true)

theorem execTamperEvent_keeps (k present : Nat) (s : State) {t' : State} (ho : execTamperEvent k present s = .next t')
    : Keeps 9371534123526983337902047 s t' := by
  unfold execTamperEvent at ho
  refine act_keeps ho ?_
  try dsimp only
  repeat' first
    | (with_reducible exact Keeps.refl)
    | (with_reducible refine Keeps.wr ?_ ?_)
    | (with_reducible refine Keeps.ite ?_ ?_)
    | (with_reducible refine State.setPresent_keeps ?_ ?_)
    | (with_reducible refine State.tamperResponse_keeps ?_ ?_)
    | exact (rfl : _ = true)

theorem CsrRead.ok_keeps {v : Nat} {s : State} {m₀ s₀} (k₀ : Keeps m₀ s₀ s) (hm : (0 &&& m₀ == 0) = true) : Keeps m₀
    s₀ (CsrRead.ok v s).st := by
  refine k₀.step (w' := 0) ?_ hm
  unfold CsrRead.ok
  try dsimp only
  repeat' first
    | (with_reducible exact Keeps.refl)

theorem State.popEvent_keeps {s : State} {m₀ s₀} (k₀ : Keeps m₀ s₀ s) (hm : (151115727451828646969344 &&& m₀ ==
    151115727451828646969344) = true) : Keeps m₀ s₀ (State.popEvent s) := by
  refine k₀.step (w' := 151115727451828646969344) ?_ hm
  unfold State.popEvent
  try dsimp only
  repeat' first
    | (with_reducible exact Keeps.refl)
    | (with_reducible refine Keeps.wr ?_ ?_)
    | exact (rfl : _ = true)
    | assumption
    | split
    | (with_reducible refine Keeps.set_dbgEvents ?_ ?_)

theorem took_keeps {s : State} {m₀ s₀} (k₀ : Keeps m₀ s₀ s) (hm : (0 &&& m₀ == 0) = true) : Keeps m₀ s₀ (took s).st :=
    by
  refine k₀.step (w' := 0) ?_ hm
  unfold took
  try dsimp only
  repeat' first
    | (with_reducible exact Keeps.refl)

theorem ignored_keeps {s : State} {m₀ s₀} (k₀ : Keeps m₀ s₀ s) (hm : (0 &&& m₀ == 0) = true) : Keeps m₀ s₀ (ignored
    s).st := by
  refine k₀.step (w' := 0) ?_ hm
  unfold ignored
  try dsimp only
  repeat' first
    | (with_reducible exact Keeps.refl)

theorem State.writeOdCan_keeps {s : State} {i v : Nat} {m₀ s₀} (k₀ : Keeps m₀ s₀ s) (hm : (65536 &&& m₀ == 65536) =
    true) : Keeps m₀ s₀ (State.writeOdCan s i v).st := by
  refine k₀.step (w' := 65536) ?_ hm
  unfold State.writeOdCan
  try dsimp only
  repeat' first
    | (with_reducible exact Keeps.refl)
    | (with_reducible refine Keeps.wr ?_ ?_)
    | (with_reducible refine Keeps.ite ?_ ?_)
    | (with_reducible refine ignored_keeps ?_ ?_)
    | (refine ignored_keeps_eq (by assumption) ?_ ?_)
    | (with_reducible refine took_keeps ?_ ?_)
    | (refine took_keeps_eq (by assumption) ?_ ?_)
    | exact (rfl : _ = true)
    | assumption
    | split

theorem State.closeSessions_keeps {s : State} {m₀ s₀} (k₀ : Keeps m₀ s₀ s) (hm : (4722366482869645213696 &&& m₀ ==
    4722366482869645213696) = true) : Keeps m₀ s₀ (State.closeSessions s) := by
  refine k₀.step (w' := 4722366482869645213696) ?_ hm
  unfold State.closeSessions
  try dsimp only
  repeat' first
    | (with_reducible exact Keeps.refl)
    | exact (rfl : _ = true)
    | assumption
    | split
    | (with_reducible refine Keeps.set_sessions ?_ ?_)

theorem State.writeOdEth_keeps {s : State} {v : Nat} {m₀ s₀} (k₀ : Keeps m₀ s₀ s) (hm : (4722366482869645279232 &&& m₀
    == 4722366482869645279232) = true) : Keeps m₀ s₀ (State.writeOdEth s v).st := by
  refine k₀.step (w' := 4722366482869645279232) ?_ hm
  unfold State.writeOdEth
  try dsimp only
  repeat' first
    | (with_reducible exact Keeps.refl)
    | (with_reducible refine Keeps.wr ?_ ?_)
    | (with_reducible refine Keeps.ite ?_ ?_)
    | (with_reducible refine State.closeSessions_keeps ?_ ?_)
    | (with_reducible refine ignored_keeps ?_ ?_)
    | (refine ignored_keeps_eq (by assumption) ?_ ?_)
    | (with_reducible refine took_keeps ?_ ?_)
    | (refine took_keeps_eq (by assumption) ?_ ?_)
    | exact (rfl : _ = true)
    | assumption
    | split

theorem State.bankReads_rec {s₀ s : State} {l : List Nat} (h : Keeps 36765704 s₀ s) : Keeps 36765704 s₀ (s.bankReads
    l).2 := by
  induction l generalizing s with
  | nil => unfold State.bankReads; exact h
  | cons a l ih =>
    unfold State.bankReads
    try dsimp only
    repeat' first
      | (with_reducible exact h)
      | (with_reducible refine ih ?_)
      | (with_reducible refine State.readPhys_keeps ?_ ?_)
      | exact (rfl : _ = true)
      | split

theorem State.bankReads_keeps {s s₀ : State} {l : List Nat} {m₀ : Nat} (h : Keeps m₀ s₀ s) (hm : (36765704 &&& m₀ ==
    36765704) = true) : Keeps m₀ s₀ (s.bankReads l).2 :=
  h.step (w' := 36765704) (State.bankReads_rec Keeps.refl) hm

theorem State.bankReads_keeps_eq {s s₀ s'' : State} {l : List Nat} {x} (e : s.bankReads l = (x, s'')) {m₀ : Nat} (h :
    Keeps m₀ s₀ s) (hm : (36765704 &&& m₀ == 36765704) = true) : Keeps m₀ s₀ s'' := by
  have := State.bankReads_keeps (l := l) h hm (s := s)
  rwa [e] at this

theorem State.bankWrite_keeps {s : State} {addr : Nat} {x : Nat × Bool} {m₀ s₀} (k₀ : Keeps m₀ s₀ s) (hm : (53542920
    &&& m₀ == 53542920) = true) : Keeps m₀ s₀ (State.bankWrite s addr x) := by
  refine k₀.step (w' := 53542920) ?_ hm
  unfold State.bankWrite
  try dsimp only
  repeat' first
    | (with_reducible exact Keeps.refl)
    | (with_reducible refine Keeps.ite ?_ ?_)
    | (with_reducible refine State.modifyRow_keeps ?_ ?_)
    | (refine State.modifyRow_keeps_eq (by assumption) ?_ ?_)
    | (with_reducible refine State.storePoison_keeps ?_ ?_)
    | (with_reducible refine State.storeRow_keeps ?_ ?_)
    | exact (rfl : _ = true)
    | assumption
    | split

theorem State.bankServe_keeps {s : State} {p : Pkt} {m₀ s₀} (k₀ : Keeps m₀ s₀ s) (hm : (9717219352 &&& m₀ ==
    9717219352) = true) : Keeps m₀ s₀ (State.bankServe s p) := by
  refine k₀.step (w' := 9717219352) ?_ hm
  unfold State.bankServe
  try dsimp only
  repeat' first
    | (with_reducible exact Keeps.refl)
    | (with_reducible refine Keeps.ite ?_ ?_)
    | (with_reducible refine Keeps.each (fun _ _ => ?_) ?_)
    | (with_reducible refine State.bankReads_keeps ?_ ?_)
    | (refine State.bankReads_keeps_eq (by assumption) ?_ ?_)
    | (with_reducible refine State.bankWrite_keeps ?_ ?_)
    | (with_reducible refine State.respond_keeps ?_ ?_)
    | exact (rfl : _ = true)

theorem execBankNetworkSlot_keeps (d b : Nat) (s : State) {t' : State} (ho : execBankNetworkSlot d b s = .next t') :
    Keeps 10119872536 s t' := by
  unfold execBankNetworkSlot at ho
  refine actCore_keeps ho ?_
  try dsimp only
  repeat' first
    | (with_reducible exact Keeps.refl)
    | (with_reducible refine Keeps.ite ?_ ?_)
    | (with_reducible refine State.bankServe_keeps ?_ ?_)
    | (with_reducible refine State.landWriteBack_keeps ?_ ?_)
    | (with_reducible refine State.readPhys_keeps ?_ ?_)
    | (refine State.readPhys_keeps_eq (by assumption) ?_ ?_)
    | exact (rfl : _ = true)
    | exact Or.inr rfl
    | exact Or.inl rfl
    | assumption
    | split
    | (with_reducible refine Keeps.set_bankWaits ?_ ?_)
    | (with_reducible refine Keeps.set_scrubWaits ?_ ?_)

theorem MonRes.ok_keeps {data : List Nat} {s : State} {m₀ s₀} (k₀ : Keeps m₀ s₀ s) (hm : (0 &&& m₀ == 0) = true) :
    Keeps m₀ s₀ (MonRes.ok data s).st := by
  refine k₀.step (w' := 0) ?_ hm
  unfold MonRes.ok
  try dsimp only
  repeat' first
    | (with_reducible exact Keeps.refl)

theorem execDbgEventRead_keeps (s : State) {t' : State} (ho : execDbgEventRead s = .next t') : Keeps
    151115727451828655357952 s t' := by
  unfold execDbgEventRead at ho
  refine actCore_keeps ho ?_
  try dsimp only
  repeat' first
    | (with_reducible exact Keeps.refl)
    | (with_reducible refine Keeps.emit ?_ ?_)
    | (with_reducible refine State.popEvent_keeps ?_ ?_)
    | exact (rfl : _ = true)

theorem State.setNmt_keeps {s : State} {v : Nat} {m₀ s₀} (k₀ : Keeps m₀ s₀ s) (hm : (65536 &&& m₀ == 65536) = true) :
    Keeps m₀ s₀ (State.setNmt s v) := by
  refine k₀.step (w' := 65536) ?_ hm
  unfold State.setNmt
  try dsimp only
  repeat' first
    | (with_reducible exact Keeps.refl)
    | (with_reducible refine Keeps.wr ?_ ?_)
    | exact (rfl : _ = true)

theorem execNmtStart_keeps (c node : Nat) (s : State) {t' : State} (ho : execNmtStart c node s = .next t') : Keeps
    65536 s t' := by
  unfold execNmtStart at ho
  refine actOd_keeps ho ?_
  try dsimp only
  repeat' first
    | (with_reducible exact Keeps.refl)
    | (with_reducible refine Keeps.ite ?_ ?_)
    | (with_reducible refine State.setNmt_keeps ?_ ?_)
    | exact (rfl : _ = true)

theorem execNmtStop_keeps (c node : Nat) (s : State) {t' : State} (ho : execNmtStop c node s = .next t') : Keeps 65536
    s t' := by
  unfold execNmtStop at ho
  refine actOd_keeps ho ?_
  try dsimp only
  repeat' first
    | (with_reducible exact Keeps.refl)
    | (with_reducible refine Keeps.ite ?_ ?_)
    | (with_reducible refine State.setNmt_keeps ?_ ?_)
    | exact (rfl : _ = true)

theorem execNmtEnterPreOperational_keeps (c node : Nat) (s : State) {t' : State} (ho : execNmtEnterPreOperational c
    node s = .next t') : Keeps 65536 s t' := by
  unfold execNmtEnterPreOperational at ho
  refine actOd_keeps ho ?_
  try dsimp only
  repeat' first
    | (with_reducible exact Keeps.refl)
    | (with_reducible refine Keeps.ite ?_ ?_)
    | (with_reducible refine State.setNmt_keeps ?_ ?_)
    | exact (rfl : _ = true)

theorem execNmtResetCommunication_keeps (c node : Nat) (s : State) {t' : State} (ho : execNmtResetCommunication c node
    s = .next t') : Keeps 16528282690043774042176 s t' := by
  unfold execNmtResetCommunication at ho
  refine actOd_keeps ho ?_
  try dsimp only
  repeat' first
    | (with_reducible exact Keeps.refl)
    | (with_reducible refine Keeps.ite ?_ ?_)
    | (with_reducible refine State.initialise_keeps ?_ ?_)
    | exact (rfl : _ = true)

theorem execSdoTimeout_keeps (c idx sub : Nat) (s : State) {t' : State} (ho : execSdoTimeout c idx sub s = .next t') :
    Keeps 8388608 s t' := by
  unfold execSdoTimeout at ho
  refine actOd_keeps ho ?_
  try dsimp only
  repeat' first
    | (with_reducible exact Keeps.refl)
    | (with_reducible refine Keeps.emit ?_ ?_)
    | (with_reducible refine Keeps.ite ?_ ?_)
    | exact (rfl : _ = true)

theorem execUdpSessionTimeout_keeps (addr port id : Nat) (s : State) {t' : State} (ho : execUdpSessionTimeout addr
    port id s = .next t') : Keeps 4722366482869645213696 s t' := by
  unfold execUdpSessionTimeout at ho
  refine actOd_keeps ho ?_
  try dsimp only
  repeat' first
    | (with_reducible exact Keeps.refl)
    | exact (rfl : _ = true)
    | assumption
    | split
    | (with_reducible refine Keeps.set_sessions ?_ ?_)

theorem execArpRequest_keeps (addr : Nat) (s : State) {t' : State} (ho : execArpRequest addr s = .next t') : Keeps
    8388608 s t' := by
  unfold execArpRequest at ho
  refine actOd_keeps ho ?_
  try dsimp only
  repeat' first
    | (with_reducible exact Keeps.refl)
    | (with_reducible refine Keeps.emit ?_ ?_)
    | (with_reducible refine Keeps.ite ?_ ?_)
    | exact (rfl : _ = true)

theorem execIcmpEcho_keeps (addr : Nat) (payload : List Nat) (s : State) {t' : State} (ho : execIcmpEcho addr payload
    s = .next t') : Keeps 8388608 s t' := by
  unfold execIcmpEcho at ho
  refine actOd_keeps ho ?_
  try dsimp only
  repeat' first
    | (with_reducible exact Keeps.refl)
    | (with_reducible refine Keeps.emit ?_ ?_)
    | (with_reducible refine Keeps.ite ?_ ?_)
    | exact (rfl : _ = true)

theorem State.commError_keeps {s : State} {m₀ s₀} (k₀ : Keeps m₀ s₀ s) (hm : (65536 &&& m₀ == 65536) = true) : Keeps
    m₀ s₀ (State.commError s) := by
  refine k₀.step (w' := 65536) ?_ hm
  unfold State.commError
  try dsimp only
  repeat' first
    | (with_reducible exact Keeps.refl)
    | (with_reducible refine State.setNmt_keeps ?_ ?_)
    | exact (rfl : _ = true)
    | assumption
    | split

theorem execHeartbeatProducer_keeps (s : State) {t' : State} (ho : execHeartbeatProducer s = .next t') : Keeps 8454144
    s t' := by
  unfold execHeartbeatProducer at ho
  refine actOd_keeps ho ?_
  try dsimp only
  repeat' first
    | (with_reducible exact Keeps.refl)
    | (with_reducible refine Keeps.ite ?_ ?_)
    | (with_reducible refine State.sendAll_keeps ?_ ?_)
    | exact (rfl : _ = true)

theorem execHeartbeatReceived_keeps (p node : Nat) (s : State) {t' : State} (ho : execHeartbeatReceived p node s =
    .next t') : Keeps 7405568 s t' := by
  unfold execHeartbeatReceived at ho
  refine actOd_keeps ho ?_
  try dsimp only
  repeat' first
    | (with_reducible exact Keeps.refl)
    | (with_reducible refine Keeps.wr ?_ ?_)
    | (with_reducible refine Keeps.ite ?_ ?_)
    | (with_reducible refine Keeps.each (fun _ _ => ?_) ?_)
    | (with_reducible refine State.endCond_keeps ?_ ?_)
    | exact (rfl : _ = true)

theorem State.lossAction_keeps {s : State} {m₀ s₀} (k₀ : Keeps m₀ s₀ s) (hm : (1 &&& m₀ == 1) = true) : Keeps m₀ s₀
    (State.lossAction s) := by
  refine k₀.step (w' := 1) ?_ hm
  unfold State.lossAction
  try dsimp only
  repeat' first
    | (with_reducible exact Keeps.refl)
    | (with_reducible refine Keeps.wr ?_ ?_)
    | (with_reducible refine Keeps.ite ?_ ?_)
    | (with_reducible refine State.setRefuse_keeps ?_ ?_)
    | exact (rfl : _ = true)
    | assumption
    | split

theorem execHeartbeatConsumerTimeout_keeps (j : Nat) (s : State) {t' : State} (ho : execHeartbeatConsumerTimeout j s =
    .next t') : Keeps 7405569 s t' := by
  unfold execHeartbeatConsumerTimeout at ho
  refine actOd_keeps ho ?_
  try dsimp only
  repeat' first
    | (with_reducible exact Keeps.refl)
    | (with_reducible refine Keeps.wr ?_ ?_)
    | (with_reducible refine Keeps.ite ?_ ?_)
    | (with_reducible refine State.commError_keeps ?_ ?_)
    | (with_reducible refine State.lossAction_keeps ?_ ?_)
    | (with_reducible refine State.raiseCond_keeps ?_ ?_)
    | exact (rfl : _ = true)

theorem execRpdoTimeout_keeps (n : Nat) (s : State) {t' : State} (ho : execRpdoTimeout n s = .next t') : Keeps 7405568
    s t' := by
  unfold execRpdoTimeout at ho
  refine actFw_keeps ho ?_
  try dsimp only
  repeat' first
    | (with_reducible exact Keeps.refl)
    | (with_reducible refine Keeps.ite ?_ ?_)
    | (with_reducible refine State.raiseCond_keeps ?_ ?_)
    | exact (rfl : _ = true)

theorem execEmcyTransmit_keeps (t : Nat) (s : State) {t' : State} (ho : execEmcyTransmit t s = .next t') : Keeps
    9764864 s t' := by
  unfold execEmcyTransmit at ho
  refine actOd_keeps ho ?_
  try dsimp only
  repeat' first
    | (with_reducible exact Keeps.refl)
    | (with_reducible refine Keeps.wr ?_ ?_)
    | (with_reducible refine Keeps.at ?_ ?_)
    | (with_reducible refine Keeps.ite ?_ ?_)
    | (with_reducible refine State.sendOut_keeps ?_ ?_)
    | exact (rfl : _ = true)
    | assumption
    | split
    | (with_reducible refine Keeps.set_emcyQueue ?_ ?_)

theorem State.setCounters_keeps {s : State} {c tec rec' : Nat} {m₀ s₀} (k₀ : Keeps m₀ s₀ s) (hm : (65536 &&& m₀ ==
    65536) = true) : Keeps m₀ s₀ (State.setCounters s c tec rec') := by
  refine k₀.step (w' := 65536) ?_ hm
  unfold State.setCounters
  try dsimp only
  repeat' first
    | (with_reducible exact Keeps.refl)
    | (with_reducible refine Keeps.wr ?_ ?_)
    | exact (rfl : _ = true)

theorem execCanBusOff_keeps (c tec rec' : Nat) (s : State) {t' : State} (ho : execCanBusOff c tec rec' s = .next t') :
    Keeps 7405568 s t' := by
  unfold execCanBusOff at ho
  refine actOd_keeps ho ?_
  try dsimp only
  repeat' first
    | (with_reducible exact Keeps.refl)
    | (with_reducible refine Keeps.wr ?_ ?_)
    | (with_reducible refine Keeps.inc ?_ ?_)
    | (with_reducible refine Keeps.ite ?_ ?_)
    | (with_reducible refine State.commError_keeps ?_ ?_)
    | (with_reducible refine State.endCond_keeps ?_ ?_)
    | (with_reducible refine State.setCounters_keeps ?_ ?_)
    | exact (rfl : _ = true)

theorem execBusOffRecovery_keeps (c : Nat) (s : State) {t' : State} (ho : execBusOffRecovery c s = .next t') : Keeps
    3211264 s t' := by
  unfold execBusOffRecovery at ho
  refine actOd_keeps ho ?_
  try dsimp only
  repeat' first
    | (with_reducible exact Keeps.refl)
    | (with_reducible refine Keeps.wr ?_ ?_)
    | (with_reducible refine Keeps.ite ?_ ?_)
    | (with_reducible refine State.raiseEvent_keeps ?_ ?_)
    | (with_reducible refine State.setCounters_keeps ?_ ?_)
    | exact (rfl : _ = true)

theorem execCanErrorPassive_keeps (c : Nat) (on : Bool) (tec rec' : Nat) (s : State) {t' : State} (ho :
    execCanErrorPassive c on tec rec' s = .next t') : Keeps 7405568 s t' := by
  unfold execCanErrorPassive at ho
  refine actOd_keeps ho ?_
  try dsimp only
  repeat' first
    | (with_reducible exact Keeps.refl)
    | (with_reducible refine Keeps.wr ?_ ?_)
    | (with_reducible refine Keeps.ite ?_ ?_)
    | (with_reducible refine State.endCond_keeps ?_ ?_)
    | (with_reducible refine State.raiseCond_keeps ?_ ?_)
    | (with_reducible refine State.setCounters_keeps ?_ ?_)
    | exact (rfl : _ = true)

theorem execCanReceiveOverrun_keeps (c k : Nat) (s : State) {t' : State} (ho : execCanReceiveOverrun c k s = .next t')
    : Keeps 3211264 s t' := by
  unfold execCanReceiveOverrun at ho
  refine actOd_keeps ho ?_
  try dsimp only
  repeat' first
    | (with_reducible exact Keeps.refl)
    | (with_reducible refine Keeps.add ?_ ?_)
    | (with_reducible refine Keeps.ite ?_ ?_)
    | (with_reducible refine State.raiseEvent_keeps ?_ ?_)
    | exact (rfl : _ = true)

theorem execOdCanWrite_keeps (c v : Nat) (s : State) {t' : State} (ho : execOdCanWrite c v s = .next t') : Keeps 65536
    s t' := by
  unfold execOdCanWrite at ho
  refine actOd_keeps ho ?_
  try dsimp only
  repeat' first
    | (with_reducible exact Keeps.refl)
    | (with_reducible refine State.writeOdCan_keeps ?_ ?_)
    | (refine State.writeOdCan_keeps_eq (by assumption) ?_ ?_)
    | exact (rfl : _ = true)

theorem execOdEthAddrWrite_keeps (addr : Nat) (s : State) {t' : State} (ho : execOdEthAddrWrite addr s = .next t') :
    Keeps 4722366482869645279232 s t' := by
  unfold execOdEthAddrWrite at ho
  refine actOd_keeps ho ?_
  try dsimp only
  repeat' first
    | (with_reducible exact Keeps.refl)
    | (with_reducible refine State.writeOdEth_keeps ?_ ?_)
    | (refine State.writeOdEth_keeps_eq (by assumption) ?_ ?_)
    | exact (rfl : _ = true)

theorem State.badUpdate_keeps {s : State} {d : Nat} {m₀ s₀} (k₀ : Keeps m₀ s₀ s) (hm : (65536 &&& m₀ == 65536) = true)
    : Keeps m₀ s₀ (State.badUpdate s d) := by
  refine k₀.step (w' := 65536) ?_ hm
  unfold State.badUpdate
  try dsimp only
  repeat' first
    | (with_reducible exact Keeps.refl)
    | (with_reducible refine Keeps.inc ?_ ?_)
    | exact (rfl : _ = true)

theorem State.dropObject_keeps {s : State} {idx : Nat} {m₀ s₀} (k₀ : Keeps m₀ s₀ s) (hm : (9066943647109718810296320
    &&& m₀ == 9066943647109718810296320) = true) : Keeps m₀ s₀ (State.dropObject s idx) := by
  refine k₀.step (w' := 9066943647109718810296320) ?_ hm
  unfold State.dropObject
  try dsimp only
  repeat' first
    | (with_reducible exact Keeps.refl)
    | exact (rfl : _ = true)
    | (simp only [Fld.area]; exact (rfl : _ = true))
    | exact Or.inr rfl
    | exact Or.inl rfl
    | assumption
    | split
    | (with_reducible refine Keeps.set_fobjs ?_ ?_)
    | (with_reducible refine Keeps.set_fvals ?_ ?_)
    | (with_reducible refine Keeps.set_fstaged ?_ ?_)
    | (with_reducible refine Keeps.set_fwrites ?_ ?_)
    | (with_reducible refine Keeps.upd ?_ ?_ ?_ ?_ ?_ ?_ ?_ ?_ ?_ ?_ ?_ ?_ ?_ ?_ ?_ ?_ ?_ ?_ ?_ ?_ ?_ ?_ ?_ ?_ ?_ ?_ ?_ ?_ ?_ ?_ ?_ ?_ ?_ ?_ ?_ ?_ ?_ ?_ ?_ ?_ ?_ ?_ ?_ ?_ ?_ ?_ ?_ ?_ ?_ ?_ ?_ ?_ ?_ ?_ ?_ ?_ ?_ ?_ ?_ ?_ ?_ ?_ ?_ ?_ ?_ ?_ ?_)

theorem State.addObject_keeps {s : State} {o : FObj} {m₀ s₀} (k₀ : Keeps m₀ s₀ s) (hm : (604462909807314587418624 &&&
    m₀ == 604462909807314587418624) = true) : Keeps m₀ s₀ (State.addObject s o) := by
  refine k₀.step (w' := 604462909807314587418624) ?_ hm
  unfold State.addObject
  try dsimp only
  repeat' first
    | (with_reducible exact Keeps.refl)
    | (with_reducible refine Keeps.ite ?_ ?_)
    | (with_reducible refine State.badUpdate_keeps ?_ ?_)
    | exact (rfl : _ = true)
    | assumption
    | split
    | (with_reducible refine Keeps.set_fobjs ?_ ?_)

theorem execOdDeclaration_keeps (d vidx vsub v : Nat) (s : State) {t' : State} (ho : execOdDeclaration d vidx vsub v s
    = .next t') : Keeps 9066943647109718810361856 s t' := by
  unfold execOdDeclaration at ho
  refine actFw_keeps ho ?_
  try dsimp only
  repeat' first
    | (with_reducible exact Keeps.refl)
    | (with_reducible refine Keeps.inc ?_ ?_)
    | (with_reducible refine Keeps.ite ?_ ?_)
    | (with_reducible refine State.addObject_keeps ?_ ?_)
    | (with_reducible refine State.badUpdate_keeps ?_ ?_)
    | (with_reducible refine State.dropObject_keeps ?_ ?_)
    | exact (rfl : _ = true)
    | assumption
    | split

theorem execOdUpdate_keeps (d vidx vsub v : Nat) (s : State) {t' : State} (ho : execOdUpdate d vidx vsub v s = .next
    t') : Keeps 3626777458843887524184064 s t' := by
  unfold execOdUpdate at ho
  refine actFw_keeps ho ?_
  try dsimp only
  repeat' first
    | (with_reducible exact Keeps.refl)
    | (with_reducible refine Keeps.ite ?_ ?_)
    | (with_reducible refine State.badUpdate_keeps ?_ ?_)
    | exact (rfl : _ = true)
    | exact Or.inr rfl
    | exact Or.inl rfl
    | assumption
    | split
    | (with_reducible refine Keeps.set_fvals ?_ ?_)
    | (with_reducible refine Keeps.set_fstaged ?_ ?_)

theorem execOdHostWriteTake_keeps (d : Nat) (s : State) {t' : State} (ho : execOdHostWriteTake d s = .next t') : Keeps
    4835703278458516707213312 s t' := by
  unfold execOdHostWriteTake at ho
  refine actFw_keeps ho ?_
  try dsimp only
  repeat' first
    | (with_reducible exact Keeps.refl)
    | (with_reducible refine Keeps.emit ?_ ?_)
    | (with_reducible refine Keeps.ite ?_ ?_)
    | exact (rfl : _ = true)
    | assumption
    | split
    | (with_reducible refine Keeps.set_fwrites ?_ ?_)

end Sys2Proof.Machine
end

