-- ==== Sys2Proof/Tests/Slice0.lean ====
section
/-! SUPPORT. The model's own tests: an ill-formed term for every check of WellFormed.lean, the spec's worked examples, a few
single commands, and for every clause with hypotheses of every obligation a concrete state and operands that meet them. -/

namespace Sys2Proof.Tests

set_option Elab.async false
set_option maxRecDepth 4000
set_option linter.all false

open Sys2Proof.Machine

/-! ### Small states -/

/-- The state after reset with the given (field, unit, index, value) written. -/
def w (l : List (Fld × Nat × Nat × Nat)) : State := l.foldl (fun s x => s.wr x.1 x.2.1 x.2.2.1 x.2.2.2) State.reset
/-- The module in its slot with its core rails up. -/
def upl : List (Fld × Nat × Nat × Nat) := [(.mod .stby, 0,0,1), (.mod .mated,0,0,1), (.mod .STAT_STATE,0,0,2), (.mod
  .coreOn,0,0,1)]
/-- The module booted, with node 9 operational on both buses and the UDP transport. -/
def bootl : List (Fld × Nat × Nat × Nat) := upl ++ [(.od .up,0,0,1), (.od .NODE_NMT,0,0,5), (.od .NODE_VALID,0,0,1),
  (.od .NODE_NODE_ID,0,0,9), (.od .CAN_EN,0,0,1), (.od .CAN_PROTO,0,0,1), (.od .CAN_EN,0,1,1), (.od
  .CAN_PROTO,0,1,1),(.od .ETH_EN,0,0,1),(.od .ETH_LINK,0,0,1)]
/-- Die `d` powered and ACTIVE. -/
def die1 (d : Nat) : List (Fld × Nat × Nat × Nat) :=
  [(.fab .clocksRun, 1 + d, 0, 1), (.fab .STATE_STATE, 1 + d, 0, 3), (.mod .dieOn, 0, d, 1), (.seif .DIE_STATE, 0, d, 3)]
/-- The booted module with die 7 ACTIVE. -/
def fab7l : List (Fld × Nat × Nat × Nat) := bootl ++ die1 7
/-- The booted module with dies 7 and 0 ACTIVE. -/
def fab07l : List (Fld × Nat × Nat × Nat) := fab7l ++ die1 0

/-- More fields after a list of them. -/
def more (a b : List (Fld × Nat × Nat × Nat)) : List (Fld × Nat × Nat × Nat) := a ++ b

/-! ### Small messages -/

/-- The fields of an image header (R372). -/
def hdr0 : List Nat := [0x4C,0x4D,0x53,0x54, 1, 1, 1, 1, 1, 0, 0, 4] ++ beBytes 8 (2 ^ 64 - 1) ++ beBytes 4 5 ++ beBytes 4 2000 ++ beBytes 2 400 ++ [0,0] ++
  beBytes 8 0 ++ beBytes 8 5332 ++ List.replicate 76 0
/-- An image header with its CRC. -/
def header128 : List Nat := hdr0 ++ beBytes 4 (crc32c hdr0)
/-- A frame record of one word (R375). -/
def frame16 : List Nat := let h := [0x04, 1, 0xFF, 0] ++ beBytes 4 4607 ++ beBytes 4 1; h ++ beBytes 4 (crc32c (h ++ beBytes 6 0)) ++ beBytes 6 0
/-- A trailer (R380). -/
def trailer : List Nat := beBytes 4 0x4C454E44 ++ List.replicate 5188 0
/-- A signed command (R430). -/
def command (code signer : Nat) (p : List Nat) : List Nat :=
  beBytes 4 0x47434D44 ++ [1, code, signer, 0] ++ beBytes 16 0 ++ beBytes 8 1 ++ beBytes 4 p.length ++ p ++ List.replicate 5172 1
/-- A firmware package (R441). -/
def firmware (svn : Nat) : List Nat :=
  beBytes 4 0x47465750 ++ [1, 0, 7, 0] ++ beBytes 4 svn ++ beBytes 4 1 ++ beBytes 2 5 ++ List.replicate 46 0 ++ [9] ++ beBytes 4 0x4746454E ++ List.replicate 16 0 ++ List.replicate 5172 1
/-- A debug token (R436). -/
def token (level signer flags : Nat) : List Nat :=
  beBytes 4 0x47444254 ++ [1, level, signer, flags] ++ beBytes 16 0 ++ beBytes 8 0 ++ beBytes 8 (2 ^ 64 - 1) ++ beBytes 4 0 ++ List.replicate 4 0 ++ List.replicate 5172 1
/-- Object 0x1000. -/
def row1000 : ObjRow := ⟨0x07, .const, false, .val (Config.n * 65536)⟩
/-- The value of object 0x1000. -/
def val1000 : Nat := Config.n * 65536
/-- Object 0x1017. -/
def row1017 : ObjRow := ⟨0x06, .rw, false, .held⟩
/-- The `k` bytes of `v`, least significant first. -/
def leB (k v : Nat) : List Nat := (beBytes k v).reverse
/-- The header of a Caravan payload. -/
def cvnHead (ty n : Nat) : List Nat := [ty, 0] ++ beBytes 2 n ++ beBytes 8 9
/-- A Caravan payload with its CRC. -/
def cvnBody (ty n : Nat) (es : List Nat) : List Nat := cvnHead ty n ++ beBytes 4 (crc32c (cvnHead ty n ++ [0,0,0,0] ++ es)) ++ es
/-- An Ethernet frame with its FCS. -/
def ethFrame (dst src ety : Nat) (pl : List Nat) : List Nat := let b := beBytes 6 dst ++ beBytes 6 src ++ beBytes 2 ety ++ pl; b ++ leB 4 (crc32 b)
/-- A destination address. -/
def macD : Nat := 0x0200_0000_0001
/-- A source address. -/
def macS : Nat := 0x0200_0000_0002
/-- A packet of a queue with items of those data, the last with END. -/
def qp (q prio src : Nat) (stage : QStage) (l : List Nat) : QPkt :=
  ⟨q, prio, src, 0, stage, (List.range l.length).map fun i => itemSlot i prio (i + 1 == l.length) ⟨l.getD i 0, false⟩⟩
/-- The state after the stream has given bytes. -/
def s1of (s : State) (b : List Nat) (k : Nat) (c : Bool) : State :=
  match s.takeBytes b k c with
  | some x => x.2
  | none => s
/-- What the partner of a side sends. -/
def sent (s : State) (u l : Nat) : Nat × State := (s.nextBlock (partnerOf u l).1 (partnerOf u l).2 []).getD (0, s)
/-- What a side receives, without errors on the wires. -/
def blk (s : State) (u l : Nat) : Nat × State := (sent s u l).2.overWires (partnerOf u l).1 (partnerOf u l).2 (sent s u l).1 []
/-- A packet with every field 0. -/
def packet : Pkt := ⟨0, false, 0, 0, 0, 0, 0, 0, 0, 0, 0, 0, 0, 0, 0, 0, 0, 0, []⟩
/-- A verdict on the signatures of an item. -/
def verdict : Verdict := ⟨true, true, [], [], 0⟩

/-! ### An ill-formed term for every check -/

theorem test_ill_formed_1 : ([
  .tickArm (2 ^ 80), .tickResume (2 ^ 80), .deadlinePulse [(8, 0, 0, 0)] [], .deadlinePulse [(0, 24, 0, 0)] [],
    .deadlinePulse [(0, 0, 2, 0)] [], .deadlinePulse [(0, 0, 0, 2)] [], .deadlinePulse [] [9], .boundaryPulse [(8, 0,
    0)], .boundaryPulse [(0, 24, 0)], .boundaryPulse [(0, 0, 2)], .tickSlackClr 8 0, .pairLoWrite 3 0, .pairLoRead 5,
    .unitDone 0 0 0, .unitDone 9 0 0, .unitDone 1 16 0, .unitDone 1 0 (2 ^ 80), .groupStart 6 0 0 0 0 0,
    .memberDecision 6 0 0 false 0, .memberDecision 0 16 0 false 0, .memberDecision 0 0 0 false 256, .groupDecision 6 0
    false 0, .groupDecision 0 0 false 256, .sourceUpdate (2 ^ 80) 0 0, .sourceUpdate 0 (2 ^ 80) 0, .canSyncEdge 2 0,
    .canSyncEdge 0 (2 ^ 80), .timeMessage 2 0 0, .timeMessage 0 65536 0, .timeMessage 0 0 (2 ^ 28), .vccoMeasurement 8
    0, .vccoMeasurement 0 65536, .sliceOperandSet 8 0 0 0 0 false false false, .sliceOperandSet 0 4608 0 0 0 false
    false false, .asStickyClr 8, .bankRead 8 0 0 0, .bankRead 0 512 0 0, .bankRead 0 0 2 0, .bankRead 0 0 0 16384,
    .bankWrite 8 0 0 0 0, .bankWrite 0 512 0 0 0, .bankWrite 0 0 2 0 0, .bankWrite 0 0 0 16384 0, .bankSet 8 0 0 0 0,
    .bankSet 0 512 0 0 0, .bankSet 0 0 2 0 0, .bankSet 0 0 0 16384 0, .bankClear 8 0 0 0 0, .bankClear 0 512 0 0 0,
    .bankClear 0 0 2 0 0, .bankClear 0 0 0 16384 0, .bankLockRead 8 0 0 0, .bankLockRead 0 512 0 0, .bankLockRead 0 0
    2 0, .bankLockRead 0 0 0 16384, .bankWriteUnlock 8 0 0 0 0, .bankWriteUnlock 0 512 0 0 0, .bankWriteUnlock 0 0 2 0
    0, .bankWriteUnlock 0 0 0 16384 0, .bankUnlock 8 0 0 0] : List Instr).all (fun i => !i.wellFormed) = true := by decide +kernel

theorem test_ill_formed_2 : ([
  .bankUnlock 0 512 0 0, .bankUnlock 0 0 2 0, .bankUnlock 0 0 0 16384, .bankInvalidOp 8 0 0 0, .bankInvalidOp 0 512 0 0,
    .bankInvalidOp 0 0 2 0, .bankInvalidOp 0 0 0 16384, .correctionWriteBack 8 0 0, .correctionWriteBack 0 512 0,
    .correctionWriteBack 0 0 16384, .bankNetworkSlot 8 0, .bankNetworkSlot 0 512, .setAliasWrite ({ packet with dst :=
    9 * 16 }), .clearAliasWrite ({ packet with dst := 9 * 16 }), .bankBlankingDone 8 0, .bankBlankingDone 0 512,
    .bankOn 8 0, .bankOn 0 512, .bankRetention 8 0, .bankRetention 0 512, .bankOff 8 0, .bankOff 0 512, .bankTest 8 0
    false, .bankTest 0 512 false, .bankLeaveTest 8 0, .bankLeaveTest 0 512, .bankBlank 8 0, .bankBlank 0 512,
    .bankTransitionDone 8 0, .bankTransitionDone 0 512, .bankTestWriteRaw 8 false, .bankTestReadRaw 8 false,
    .bankEccClr 8 0, .fabricRequestIssue 8 0 0 0 false 0 0 0 0 0 0 0 [] 0 [], .fabricRequestIssue 0 16 0 0 false 0 0 0
    0 0 0 0 [] 0 [], .fabricRequestIssue 0 0 4 0 false 0 0 0 0 0 0 0 [] 0 [], .fabricRequestIssue 0 0 0 1024 false 0 0
    0 0 0 0 0 [] 0 [], .fabricRequestIssue 0 0 0 0 false 16 0 0 0 0 0 0 [] 0 [], .fabricRequestIssue 0 0 0 0 false 0
    128 0 0 0 0 0 [] 0 [], .fabricRequestIssue 0 0 0 0 false 0 0 4 0 0 0 0 [] 0 [], .fabricRequestIssue 0 0 0 0 false
    0 0 0 (2 ^ 48) 0 0 0 [] 0 [], .fabricRequestIssue 0 0 0 0 false 0 0 0 0 (2 ^ 16) 0 0 [] 0 [], .fabricRequestIssue
    0 0 0 0 false 0 0 0 0 0 4 0 [] 0 [], .fabricRequestIssue 0 0 0 0 false 0 0 0 0 0 0 0 [] (2 ^ 80) [], .mread 8 0 0
    0 0 0 0, .mread 0 16 0 0 0 0 0, .mread 0 0 4 0 0 0 0, .mread 0 0 0 4 0 0 0, .mread 0 0 0 0 1024 0 0, .mread 0 0 0
    0 0 64 0, .mread 0 0 0 0 0 0 (2 ^ 80), .mcount 8 0 0 0 0, .mcount 0 16 0 0 0, .mcount 0 0 4 0 0, .mcount 0 0 0 4
    0, .mcount 0 0 0 0 (2 ^ 80), .readRequest ({ packet with dst := 9 * 16 }), .writeRequest ({ packet with dst := 9 *
    16 }), .mboxRequest ({ packet with dst := 9 * 16 }), .postRequest ({ packet with dst := 9 * 16 })] : List Instr).all (fun i => !i.wellFormed) = true := by decide +kernel

theorem test_ill_formed_3 : ([
  .responseArrival ({ packet with dst := 9 * 16 }) 0, .responseArrival packet (2 ^ 80), .requestTimeout 9 0 0,
    .requestTimeout 0 16 0, .requestTimeout 0 0 256, .tidQuarantineExpiry 9 0 0, .tidQuarantineExpiry 0 16 0,
    .tidQuarantineExpiry 0 0 256, .routerClose 9 0, .routerClose 0 16, .routerClosed 9 0, .routerClosed 0 16,
    .routerCloseTimeout 9 0, .routerCloseTimeout 0 16, .routerOpen 9 0, .routerOpen 0 16, .routerCfgWrite 9 0 0 0,
    .routerCfgWrite 0 16 0 0, .routerCfgWrite 0 0 1025 0, .domainDrain 8 0, .domainDrain 0 17, .drainGateClose 8 0,
    .drainGateClose 0 17, .seifBlockReceived 0 8 [] [], .seifBlockReceived 9 0 [] [], .seifBlockReceived 1 3 [] [],
    .seifBlockReceived 0 0 [] [(68, 0)], .seifBlockReceived 0 0 [] [(0, 160)], .linkCrcSilence 0 8 [], .linkCrcSilence
    9 0 [], .linkCrcSilence 1 3 [], .trainingRound linkCount 0 0 0 0, .trainingRound 0 (2 ^ 68) 0 0 0, .trainingRound
    0 0 (2 ^ 68) 0 0, .trainingRound 0 0 0 (2 ^ 68) 0, .trainingRound 0 0 0 0 (2 ^ 68), .mapMessage 0 8, .mapMessage 9
    0, .mapMessage 1 3, .confirmComplete linkCount, .roundTimeout linkCount, .seifRetrain 0 8, .seifRetrain 9 0,
    .seifRetrain 1 3, .seifHold 0 8, .seifHold 9 0, .seifHold 1 3, .seifRelease 0 8, .seifRelease 9 0, .seifRelease 1
    3, .isolate 8, .rejoin 8, .thermalTrip 8 110, .thermalTrip 0 109, .thermalTrip 0 128, .dieSupplyFailure 8,
    .dieSupplyRecovery 8 [], .dieGrant 8, .diePowerRequest 8 0, .diePowerRequest 0 65536] : List Instr).all (fun i => !i.wellFormed) = true := by decide +kernel

theorem test_ill_formed_4 : ([
  .diePowerMeasurement 8 0 0, .diePowerMeasurement 0 65536 0, .diePowerMeasurement 0 0 256, .grantStale 8, .qmPopRead
    65536 0 ⟨[], []⟩, .qmPopRead 0 1024 ⟨[], []⟩, .qmPeekRead 65536 0 ⟨[], []⟩, .qmPeekRead 0 1024 ⟨[], []⟩,
    .qmPushWrite 65536 0 0, .qmPushWrite 0 1024 0, .qmPushendWrite 65536 0 0, .qmPushendWrite 0 1024 0, .qmEnable
    65536, .qmDisable 65536, .qmHoldPush 65536, .qmHoldPop 65536, .qmRelease 65536, .qmFlush 65536, .qmFlushDone
    65536, .qmQcfgWrite 65536 0, .openPacketTimeout 65536 0 0, .openPacketTimeout 0 1024 0, .openPacketTimeout 0 0 4,
    .contextWrite 1024 0 [], .contextWrite 0 (64 * contextCount) [0], .contextWrite 0 0 [2 ^ 48], .frameHandover 6 0,
    .frameHandover 0 (2 ^ 80), .caravanFrameReceived 6 0 [], .caravanFrameReceived 0 (2 ^ 80) [],
    .caravanFrameReceived 0 0 [256], .ppEnable 6, .ppDisable 6, .ppRestart 6, .portUp 6 2, .portUp 0 1, .portUp 0 5,
    .attemptTimeout 6, .portWaitExpiry 6, .laneFailure 6 0, .laneFailure 0 16, .frameTransmit 6, .ptpMessage 6 0 0,
    .ptpMessage 0 16 0, .ptpMessage 0 0 256, .ptpSyncInterval 6, .sourceSyncLoss 6, .userLaneTxWord 32 0 0 false,
    .userLaneTxWord 0 0 256 false, .userLaneRxWord 32 [] 0, .userLaneRxWord 0 [] 256, .lanePllLock 32,
    .prbsCheckerLock false 24 0, .prbsCheckerLock true 32 0, .prbsCheckerLock false 0 (2 ^ 32), .ppLprbsClr false 24,
    .ppLprbsClr true 32, .ppConfigWrite 0 6 0, .ppConfigWrite 5 0 0, .dramColumnCommand 8 0 []] : List Instr).all (fun i => !i.wellFormed) = true := by decide +kernel

theorem test_ill_formed_5 : ([
  .dramColumnCommand 0 (2 ^ 80) [], .dramColumnCommand 0 0 [(16, 0, 0)], .dramColumnCommand 0 0 [(0, 5, 0)],
    .dramColumnCommand 0 0 [(0, 0, 256)], .dramWriteBack 8, .writeCrcFailure 8, .refresh 8, .mr4Read 8 0, .mr4Read 0
    256, .zqCalibration 8, .dqsOscillator 8, .ecsRead 8 0, .patrolRead 8 [], .patrolRead 0 [(16, 0, 0)], .patrolRead 0
    [(0, 5, 0)], .patrolRead 0 [(0, 0, 256)], .rowClose 8 0, .rowClose 0 32, .dramInit 8 1 false, .dramInit 0 0 false,
    .dramInit 0 9 false, .dramRetrain 8, .xinLost 2, .referenceReturn 9 0, .referenceReturn 0 2, .srefLostAtDie 8,
    .forceSwitch 9 0, .forceSwitch 0 5, .forceSwitch 1 18, .pllUnlock 9 0, .pllUnlock 0 5, .pllUnlock 1 7, .autoReturn
    9 0, .autoReturn 0 5, .autoReturn 1 18, .clkRestore 9 0, .clkRestore 0 5, .clkRestore 1 18, .clkFallback 9 0,
    .clkFallback 0 5, .clkFallback 1 18, .pllRewrite 8 false 0 0, .pllRewrite 0 false 18 0, .pllLock 9 0, .pllLock 0
    5, .pllLock 1 7, .fioReady 9, .fioFailure 9, .sioFailure 9, .fioTrim 9 0 0, .fioTrim 0 65536 0, .fioTrim 0 0 3,
    .imageDataWrite [256], .loadHeader [256], .placementTable [256], .frameRecord [256], .frameRecord [0],
    .loadTrailer [256] 0 false false false [], .loadTrailer [] (2 ^ 80) false false false [], .loadTrailer [] 0 false
    false false [65536]] : List Instr).all (fun i => !i.wellFormed) = true := by decide +kernel

theorem test_ill_formed_6 : ([
  .activationDramWaitEnd [65536], .nicheLoad 8 0, .nicheLoad 0 12, .nicheClear 8 0, .nicheClear 0 12, .configScrubRead 8
    0, .configScrubRead 0 (2 ^ 55), .bankScrubRead 8, .scrubParityMismatch 8 0, .scrubParityMismatch 0 (2 ^ 80),
    .scrubSettingsWrite 8 0, .scrubSettingsWrite 0 65536, .scrubCntClr 8 0, .secureBoot false 4 false false 0 false
    false, .secureBoot false 0 false false 256 false false, .provision [256] verdict, .provision [0] verdict, .claim
    [256] verdict, .claim [0] verdict, .deploy [256] verdict, .deploy [0] verdict, .maintain [256] verdict, .maintain
    [0] verdict, .rma [256] verdict, .rma [0] verdict, .refurbish [256] verdict, .refurbish [0] verdict, .decommission
    [256] verdict, .decommission [0] verdict, .keyset [256] verdict, .keyset [0] verdict, .svnSet [256] verdict,
    .svnSet [0] verdict, .revokeRoot [256] verdict, .revokeRoot [0] verdict, .firmwarePackage [256] verdict,
    .attestationNonce [256], .attestationNonce [0], .debugToken [256] verdict, .oasisPut [256] verdict, .tamperEvent 0
    0, .tamperEvent 9 0, .tamperEvent 1 256, .nmtStart 2 0, .nmtStart 0 128, .nmtStop 2 0, .nmtStop 0 128,
    .nmtEnterPreOperational 2 0, .nmtEnterPreOperational 0 128, .nmtResetCommunication 2 0, .nmtResetCommunication 0
    128, .nmtResetNode 2 0, .nmtResetNode 0 128, .sdoUpload 2 0 0, .sdoUpload 0 (2 ^ 16) 0, .sdoUpload 0 0 256,
    .sdoDownload 2 0 0 [] verdict [], .sdoDownload 0 (2 ^ 16) 0 [] verdict [], .sdoDownload 0 0 256 [] verdict [],
    .sdoDownload 0 0 0 [256] verdict []] : List Instr).all (fun i => !i.wellFormed) = true := by decide +kernel

theorem test_ill_formed_7 : ([
  .sdoDownload 0 0 0 [] verdict [(8, 0, 0)], .sdoDownload 0 0 0 [] verdict [(0, 24, 0)], .sdoDownload 0 0 0 [] verdict
    [(0, 0, 2)], .sdoTimeout 2 0 0, .sdoTimeout 0 (2 ^ 16) 0, .sdoTimeout 0 0 256, .udpRead (2 ^ 32) 0 0 0 none 0 0 0,
    .udpRead 0 (2 ^ 16) 0 0 none 0 0 0, .udpRead 0 0 (2 ^ 16) 0 none 0 0 0, .udpRead 0 0 0 (2 ^ 16) none 0 0 0,
    .udpRead 0 0 0 0 none (2 ^ 16) 0 0, .udpRead 0 0 0 0 none 0 256 0, .udpWrite (2 ^ 32) 0 0 0 none 0 0 0 false [0]
    verdict [], .udpWrite 0 (2 ^ 16) 0 0 none 0 0 0 false [0] verdict [], .udpWrite 0 0 (2 ^ 16) 0 none 0 0 0 false
    [0] verdict [], .udpWrite 0 0 0 (2 ^ 16) none 0 0 0 false [0] verdict [], .udpWrite 0 0 0 0 none (2 ^ 16) 0 0
    false [0] verdict [], .udpWrite 0 0 0 0 none 0 256 0 false [0] verdict [], .udpWrite 0 0 0 0 none 0 0 0 false
    [256] verdict [], .udpWrite 0 0 0 0 none 0 0 0 false [] verdict [], .udpWrite 0 0 0 0 none 0 0 0 false
    (List.replicate 1441 0) verdict [], .udpWrite 0 0 0 0 none 0 0 0 false [0] verdict [(8, 0, 0)], .udpWrite 0 0 0 0
    none 0 0 0 false [0] verdict [(0, 24, 0)], .udpWrite 0 0 0 0 none 0 0 0 false [0] verdict [(0, 0, 2)], .udpNmt 256
    0, .udpNmt 0 128, .udpSessionTimeout (2 ^ 32) 0 0, .udpSessionTimeout 0 (2 ^ 16) 0, .udpSessionTimeout 0 0 (2 ^
    16), .arpRequest (2 ^ 32), .icmpEcho (2 ^ 32) [], .icmpEcho 0 [256], .heartbeatReceived 3 0, .heartbeatReceived 0
    256, .heartbeatConsumerTimeout 4, .syncMessage 2 0 0, .syncMessage 0 256 0, .syncMessage 0 0 (2 ^ 80),
    .tpdoEventTimer 8 0, .tpdoEventTimer 0 (2 ^ 80), .rpdoReceived 3 0 [], .rpdoReceived 0 8 [], .rpdoReceived 0 0
    [256], .rpdoTimeout 8, .emcyTransmit (2 ^ 80), .busOffRecovery 2, .odCanWrite 2 0, .odCanWrite 0 (2 ^ 48),
    .odEthAddrWrite (2 ^ 32), .odDeclaration 8 0 0 0, .odDeclaration 0 (2 ^ 12) 0 0, .odDeclaration 0 0 256 0,
    .odDeclaration 0 0 0 (2 ^ 64), .odUpdate 8 0 0 0, .odUpdate 0 (2 ^ 12) 0 0, .odUpdate 0 0 256 0, .odUpdate 0 0 0
    (2 ^ 64), .fabricObjectWrite 2 0x5000 0 [], .fabricObjectWrite 0 20479 0 [], .fabricObjectWrite 0 0x6000 0 []] : List Instr).all (fun i => !i.wellFormed) = true := by decide +kernel

theorem test_ill_formed_8 : ([
  .fabricObjectWrite 0 0x5000 256 [], .fabricObjectWrite 0 0x5000 0 [256], .odHostWriteTake 8, .monitorToken (.object)
    256 0 [] verdict, .monitorToken (.object) 0 (2 ^ 16) [] verdict, .monitorToken (.object) 0 0 [256] verdict,
    .monitorStatus (.object) 256 0 [], .monitorStatus (.object) 0 (2 ^ 16) [], .monitorStatus (.object) 0 0 [256],
    .monitorHalt (.object) 256 0 [], .monitorHalt (.object) 0 (2 ^ 16) [], .monitorHalt (.object) 0 0 [256],
    .monitorRelease (.object) 256 0 [] [] 0, .monitorRelease (.object) 0 (2 ^ 16) [] [] 0, .monitorRelease (.object) 0
    0 [256] [] 0, .monitorRelease (.object) 0 0 [] [(8, 0, 0)] 0, .monitorRelease (.object) 0 0 [] [(0, 24, 0)] 0,
    .monitorRelease (.object) 0 0 [] [(0, 0, 2)] 0, .monitorRelease (.object) 0 0 [] [] (2 ^ 80), .monitorStep
    (.object) 256 0 [] [] 0, .monitorStep (.object) 0 (2 ^ 16) [] [] 0, .monitorStep (.object) 0 0 [256] [] 0,
    .monitorStep (.object) 0 0 [] [(8, 0, 0)] 0, .monitorStep (.object) 0 0 [] [(0, 24, 0)] 0, .monitorStep (.object)
    0 0 [] [(0, 0, 2)] 0, .monitorStep (.object) 0 0 [] [] (2 ^ 80), .monitorRead (.object) 256 0 [], .monitorRead
    (.object) 0 (2 ^ 16) [], .monitorRead (.object) 0 0 [256], .monitorWrite (.object) 256 0 [], .monitorWrite
    (.object) 0 (2 ^ 16) [], .monitorWrite (.object) 0 0 [256], .monitorObject (.object) 256 0 [] verdict,
    .monitorObject (.object) 0 (2 ^ 16) [] verdict, .monitorObject (.object) 0 0 [256] verdict, .monitorReadback
    (.object) 256 0 [], .monitorReadback (.object) 0 (2 ^ 16) [], .monitorReadback (.object) 0 0 [256],
    .monitorCompare (.object) 256 0 [], .monitorCompare (.object) 0 (2 ^ 16) [], .monitorCompare (.object) 0 0 [256],
    .comparatorMatch 8 0 0 0, .comparatorMatch 0 8 0 0, .comparatorMatch 0 0 (2 ^ 48) 0, .insertion (2 ^ 11) 0,
    .insertion 0 (2 ^ 16), .grant false (2 ^ Config.n) [], .grant false 0 [(8, 0, 0)], .grant false 0 [(0, 513, 0)],
    .grant false 0 [(0, 0, 4)], .hotSwapTrip (2 ^ 80), .tripRetry (2 ^ 11), .inputCurrentLimiting (2 ^ 16) 0 0,
    .inputCurrentLimiting 0 (2 ^ 16) 0, .inputCurrentLimiting 0 0 (2 ^ 16), .leverReclosed (2 ^ 11), .coldPlateLimit
    (2 ^ 32), .lifeAccounting (2 ^ 32), .registerWrite 0 9 0 0 0, .registerWrite 0 0 0 0x3FFFF 0] : List Instr).all (fun i => !i.wellFormed) = true := by decide +kernel

theorem test_ill_formed_9 : ([
  .registerWrite 0 0 0 0 (2 ^ 48), .inputTurnOn (2 ^ 11) 3501 false, .inputTurnOn 0 3500 false, .inputTurnOn 0 (2 ^ 16)
    false, .canBusOff 2 0 0, .canBusOff 0 256 0, .canBusOff 0 0 256, .canErrorPassive 2 false 0 0, .canErrorPassive 0
    false 256 0, .canErrorPassive 0 false 0 256, .canReceiveOverrun 2 1, .canReceiveOverrun 0 0] : List Instr).all (fun i => !i.wellFormed) = true := by decide +kernel

/-! ### The spec's worked examples -/

/-- A row of a bank with data 5 (05_memory_banks.md): check bits 0b000_0101 and valid 0b111. -/
theorem test_bank_row_code : encodeRow 5 = 5 + 0b0000101 * 2 ^ 48 + 0b111 * 2 ^ 55 := by decide +kernel

/-- The same row with d[2] inverted is corrected; with d[0] and d[2] inverted it is uncorrectable. -/
theorem test_bank_row_upsets :
    readRow (1 + 0b0000101 * 2 ^ 48 + 0b111 * 2 ^ 55) = ⟨5, false, true, false, false⟩ ∧
    readRow (0 + 0b0000101 * 2 ^ 48 + 0b111 * 2 ^ 55) = ⟨0, false, false, true, false⟩ := by decide +kernel

/-- The slice that filters the edge-guide position (04_arithmetic_slices.md). -/
def edgeSlice : SliceCfg := ⟨0, true, false, 2, 0, 24, 2, true, true⟩
/-- Its accumulator after the ticks of the list of positions, each presented with D at the Y0 before it. -/
def edgeRun (acc : Nat) : List Nat → Nat
  | [] => acc
  | x :: l => edgeRun (nextAcc edgeSlice ⟨x, 786432, outY0 edgeSlice acc, true, false, false⟩ acc 0) l
/-- Its accumulator after tick 0. -/
def edgeSeed : Nat := nextAcc edgeSlice ⟨6553600, 2 ^ 24, 0, true, true, false⟩ 0 0

theorem test_slice_edge_filter :
    outY0 edgeSlice edgeSeed = 6553600 ∧ outY0 edgeSlice (edgeRun edgeSeed [6586368]) = 6555136 ∧
    outY0 edgeSlice (edgeRun edgeSeed [6586368, 6586368]) = 6556600 ∧
    outY0 edgeSlice (edgeRun edgeSeed [6586368, 6586368, 6586371]) = 6557996 := by decide +kernel

/-- TRUNC in place of HALF_EVEN gives 6,557,995 in tick 3. -/
theorem test_slice_trunc :
    outY0 { edgeSlice with rnd := 0 } (edgeRun edgeSeed [6586368, 6586368, 6586371]) = 6557995 := by decide +kernel

/-- Four pixels, or four lanes of a word, lane 0 in the low bits. -/
def lanes (a b c d : Nat) : Nat := a + b * 2 ^ 12 + c * 2 ^ 24 + d * 2 ^ 36

/-- The defect filter of three cascaded slices on pixels 18 to 25 (04_arithmetic_slices.md). -/
theorem test_slice_defect_filter :
    let s0 : SliceCfg := ⟨2, false, true, 1, 0, 0, 0, false, false⟩
    let s1 : SliceCfg := ⟨2, false, true, 1, 1, 0, 0, false, false⟩
    let s2 : SliceCfg := ⟨2, false, true, 0, 1, 4, 1, true, true⟩
    let a0 := nextAcc s0 ⟨lanes 1798 1806 1800 1810, 0xFFFFFFFFFFFF, lanes 1790 2600 1805 1795, true, true, false⟩ 0 0
    let a1 := nextAcc s1 ⟨lanes 1806 1800 1810 1790, 0xFFEFFEFFEFFE, lanes 1810 1790 2600 1805, true, true, false⟩ 0 a0
    let a2 := nextAcc s2 ⟨lanes 1800 1810 1790 2600, 0x006006006006, 0, true, true, false⟩ 0 a1
    outY0 s2 a2 = 0x12CF97FD3FFF := by decide +kernel

/-- Every ring link and spoke ACTIVE, every die present, and the power-on router configuration. -/
def ringl : List (Fld × Nat × Nat × Nat) :=
  (List.range 8).flatMap fun d => (.seif .DIE_STATE, 0, d, 3) :: (.seif .STAT_STATE, 0, d, 4) ::
    (List.range 3).map fun l => (.seif .STAT_STATE, 1 + d, l, 4)

/-- The two routes from NI 0x026 to NI 0x049 (06_erg_network.md). -/
theorem test_ring_route : (w ringl).pathOf 0x026 0xFFFFFFFC18E1 =
    some [(2, 6), (2, 7), (3, 4), (3, 7), (4, 4), (4, 5), (4, 9)] := by decide +kernel

theorem test_plinth_route : (w ringl).pathOf 0x026 0xFFFFFF01C02A =
    some [(2, 6), (2, 2), (0, 6), (0, 10), (0, 14), (4, 2), (4, 1), (4, 5), (4, 9)] := by decide +kernel

/-- The notices of the defect log (08_queue_manager.md). -/
theorem test_notice_words : noticeWord 0x200 1 3 0x2A7E = 0x0A9F800D0200 ∧ noticeWord 0x200 3 3 0x2A7E = 0x0A9F800F0200 ∧
    noticeWord 0x200 1 1 0x2A7E = 0x0A9F80050200 := by decide +kernel

/-- The pattern read of the loom (11_dram.md): subchannels 4 and 5, bank group 7 with bank 3, row 0x91A. -/
theorem test_dram_address :
    subOf 0x12345600 = 4 ∧ subOf 0x12345680 = 5 ∧ State.reset.dramBank 0x12345600 = 31 ∧
    State.reset.dramBank 0x12345680 = 31 ∧ dramRow 0x12345600 = 0x91A := by decide +kernel

/-- The life table (18_module_hardware.md): AF at 35 and 58 °C to four decimals, and CONSUMED of 106,162 hours. -/
theorem test_life_table :
    (acceleration 35 * 10000 + 2 ^ 39) / 2 ^ 40 = 2006 ∧
    (acceleration 58 * 10000 + 2 ^ 39) / 2 ^ 40 = 12514 ∧ consumedOf 106162 = 404 := by decide +kernel

/-- The setpoint of 4,150.5 mm (16_object_dictionary.md): 272,007,168 in six bytes, least significant first. -/
theorem test_setpoint_bytes : leBytes 6 272007168 = [0x00, 0x80, 0x36, 0x10, 0x00, 0x00] := by decide +kernel

/-! ### Single commands -/

/-- What a command leaves of one field, where it answers a next state. -/
def after (o : Host.Outcome State Fault Refusal) (f : State → Nat) : Option Nat :=
  match o with
  | .next s => some (f s)
  | _ => none

/-- ARM for a boundary less than 20 µs away is refused with code 1 (R42). -/
theorem test_arm_refused : after (exec (.tickArm 5) (w bootl)) (fun s => s.rd (.tick .STATE_REFUSE)) = some 1 := by
  decide +kernel

/-- A write and a read of row 3 on the two ports of a dual-port bank of the running die 7 (R135). -/
theorem test_bank_write : after
    (exec (.bankWrite 7 0 0 3 77) (w (more fab7l [(.bank .CFG_USED, 8, 0, 1), (.bank .STAT_PWR, 8, 0, 1)])))
    (fun s => s.row 7 0 3) = some (encodeRow 77) := by decide +kernel

/-- A slice of the running die 7 adds a product (R109). -/
theorem test_slice_set : after
    (exec (.sliceOperandSet 7 4 3 5 0 true true false) (w (more fab7l [(.slc .CFG_USED, 8, 4, 1), (.nch .STAT_STATE, 8, nicheOfSlice 4, 3)])))
    (fun s => s.rd (.slc .acc) 8 4) = some 15 := by decide +kernel

/-- ISOLATE of die 7 leaves it isolated (R224). -/
theorem test_isolate : after (exec (.isolate 7) (w fab7l)) (fun s => s.rd (.seif .DIE_STATE) 0 7) = some 4 := by
  decide +kernel

/-- ENABLE takes queue 5 from OFF to ACTIVE (R257). -/
theorem test_queue_enable : after (exec (.qmEnable 5) (w bootl)) (fun s => s.qState 5) = some 1 := by decide +kernel

/-- A command with a die that the part does not have stops by name. -/
theorem test_no_such_die :
    (match exec (.isolate 8) (w fab7l) with | .fault f => decide (f = .noSuchUnit) | _ => false) = true := by decide +kernel

/-- Step takes the command at the front of the queue and leaves the rest. -/
theorem test_step_takes_front : after (step { w bootl with pending := [.qmEnable 5, .qmEnable 6] })
    (fun s => 10 * s.qState 5 + s.pending.length) = some 11 := by decide +kernel

/-- Step idles on an empty queue. -/
theorem test_step_idles : after (step State.reset) (fun s => s.pending.length) = some 0 := by decide +kernel

/-- No word spells a command. -/
theorem test_no_words : decodeTableWord 32 0xFFFFFFFF = none := by decide


/-! ### The hypotheses of the obligations can be met -/

/-- What the clauses of Obligations.RunCommandsAccepted ask can be met. -/
theorem witness_RunCommandsAccepted :
    (∃ s : State, ∃ t : Nat, s.coreUp = true ∧ t < 2 ^ 80 ∧ (s.tick = 0 ∨ s.tick = 4) ∧ s.nicheBlocks = false ∧ (s.at
      t).startRefusal false = 0) ∧
    (∃ s : State, ∃ t : Nat, s.coreUp = true ∧ t < 2 ^ 80 ∧ (s.tick = 3 ∨ s.tick = 4) ∧ s.nicheBlocks = false ∧ (s.at
      t).startRefusal true = 0) ∧
    (∃ s : State, s.coreUp = true ∧ s.tick = 2) ∧
    (∃ s : State, s.coreUp = true ∧ s.tick = 2) ∧
    (∃ s : State, s.coreUp = true ∧ (s.tick = 1 ∨ s.tick = 3 ∨ s.tick = 4)) :=
  ⟨⟨(w (more upl [(.tick .STATE_STATE, 0, 0, 4), (.cfg .STAT_ACTIVE, 0, 0, 1), (.tick .START_INDEX, 0, 0, 1), (.tick
      .GUARD_G, 0, 0, 400), (.tick .GMIN_GMIN, 0, 0, 400), (.tick .SRC_LOCKED, 0, 0, 1), (.tick .PERIOD_P, 0, 0,
      1000000)]) : State), 0, by decide +kernel⟩,
   ⟨(w (more upl [(.tick .STATE_STATE, 0, 0, 3), (.cfg .STAT_ACTIVE, 0, 0, 1), (.tick .START_INDEX, 0, 0, 1), (.tick
      .GUARD_G, 0, 0, 400), (.tick .GMIN_GMIN, 0, 0, 400), (.tick .SRC_LOCKED, 0, 0, 1), (.tick .PERIOD_P, 0, 0,
      1000000), (.tick .STATE_RESUMABLE, 0, 0, 1)]) : State), 0, by decide +kernel⟩,
   ⟨(w (more upl [(.tick .STATE_STATE, 0, 0, 2)]) : State), by decide +kernel⟩,
   ⟨(w (more upl [(.tick .STATE_STATE, 0, 0, 2)]) : State), by decide +kernel⟩,
   ⟨(w (more upl [(.tick .STATE_STATE, 0, 0, 1)]) : State), by decide +kernel⟩⟩

/-- What the clauses of Obligations.RunCommandsRefused ask can be met. -/
theorem witness_RunCommandsRefused :
    (∃ s : State, ∃ t : Nat, s.coreUp = true ∧ t < 2 ^ 80 ∧ s.tick ≠ 0 ∧ s.tick ≠ 4) ∧
    (∃ s : State, ∃ t : Nat, s.coreUp = true ∧ t < 2 ^ 80 ∧ s.tick ≠ 3 ∧ s.tick ≠ 4) ∧
    (∃ s : State, s.coreUp = true ∧ s.tick ≠ 2) ∧
    (∃ s : State, s.coreUp = true ∧ (s.tick = 0 ∨ s.tick = 5)) ∧
    (∃ s : State, ∃ t : Nat, ∃ r : Bool, s.coreUp = true ∧ t < 2 ^ 80 ∧ s.tick = 4 ∧ s.nicheBlocks = false ∧ (s.at
      t).startRefusal r ≠ 0) :=
  ⟨⟨(w (more upl [(.tick .STATE_STATE, 0, 0, 1)]) : State), (2 ^ 80 - 1), by decide +kernel⟩,
   ⟨(w upl : State), (2 ^ 80 - 1), by decide +kernel⟩,
   ⟨(w upl : State), by decide +kernel⟩,
   ⟨(w upl : State), by decide +kernel⟩,
   ⟨(w (more upl [(.tick .STATE_STATE, 0, 0, 4)]) : State), (2 ^ 80 - 1), false, by decide +kernel⟩⟩

/-- What the clauses of Obligations.TickRegisterCommands ask can be met. -/
theorem witness_TickRegisterCommands :
    (∃ s : State, ∃ v : Nat, s.coreUp = true ∧ v % 2 = 1) ∧
    (∃ s : State, ∃ v : Nat, s.coreUp = true ∧ v % 2 = 0) ∧
    (∃ s : State, s.coreUp = true) ∧
    (∃ s : State, ∃ d v : Nat, s.coreUp = true ∧ d < Config.n ∧ v % 2 = 1) ∧
    (∃ s : State, ∃ v : Nat, s.coreUp = true ∧ (s.tick = 0 ∨ s.tick = 3 ∨ s.tick = 4) ∧ v < 2 ^ 48) ∧
    (∃ s : State, ∃ v : Nat, s.coreUp = true ∧ v < 2 ^ 48) ∧
    (∃ s : State, ∃ v : Nat, s.coreUp = true ∧ (s.tick = 0 ∨ s.tick = 4) ∧ v < 2 ^ 48) ∧
    (∃ s : State, ∃ p : Nat, s.coreUp = true ∧ p < 5) :=
  ⟨⟨(w upl : State), 1, by decide +kernel⟩,
   ⟨(w upl : State), 0, by decide +kernel⟩,
   ⟨(w upl : State), by decide +kernel⟩,
   ⟨(w upl : State), 0, 1, by decide +kernel⟩,
   ⟨(w upl : State), (2 ^ 48 - 1), by decide +kernel⟩,
   ⟨(w upl : State), (2 ^ 48 - 1), by decide +kernel⟩,
   ⟨(w upl : State), (2 ^ 48 - 1), by decide +kernel⟩,
   ⟨(w upl : State), (5 - 1), by decide +kernel⟩⟩

/-- What the clauses of Obligations.TickDecision ask can be met. -/
theorem witness_TickDecision :
    (∃ s : State, ∃ u k t : Nat, s.coreUp = true ∧ 1 ≤ u ∧ u ≤ Config.n ∧ k < 16 ∧ t < 2 ^ 80 ∧ s.tick = 2 ∧ t <
      s.deadline ∧ s.rd (.tick .ended) = 0 ∧ s.rd (.tick .UNIT_PRESENT) u k = 1 ∧ s.rd (.tick .done) u k = 0 ∧ s.rd
      (.nch .STAT_STATE) u 8 = 3 ∧ s.doneWire (u - 1) k = false) ∧
    (∃ s : State, ∃ u k t : Nat, s.coreUp = true ∧ 1 ≤ u ∧ u ≤ Config.n ∧ k < 16 ∧ t < 2 ^ 80 ∧ (s.tick ≠ 2 ∨ s.deadline ≤
      t ∨ s.rd (.tick .UNIT_PRESENT) u k = 0 ∨ s.rd (.tick .done) u k = 1)) ∧
    (∃ s : State, ∃ outs : List (Nat × Nat × Nat × Nat), s.coreUp = true ∧ (outs.all fun o => okDie o.1 && decide (o.2.1 <
      24) && decide (o.2.2.1 < 2) && decide (o.2.2.2 < 2)) = true ∧ s.tick = 2 ∧ s.rd (.tick .ended) = 0 ∧ s.lateUnits
      = [] ∧ s.waitingPlaces = [] ∧ s.gapPlaces = [] ∧ s.rd (.tick .GROUP_EN) = 0) ∧
    (∃ s : State, ∃ outs : List (Nat × Nat × Nat × Nat), ∃ missing : List Nat, ∃ u k : Nat, ∃ l : List (Nat × Nat),
      s.coreUp = true ∧ (outs.all fun o => okDie o.1 && decide (o.2.1 < 24) && decide (o.2.2.1 < 2) && decide (o.2.2.2
      < 2)) = true ∧ (∀ x ∈ missing, x ≤ Config.n) ∧ s.tick = 2 ∧ s.rd (.tick .ended) = 0 ∧ s.lateUnits = (u, k) :: l) ∧
    (∃ s : State, ∃ outs : List (Nat × Nat × Nat × Nat), ∃ u : Nat, ∃ missing : List Nat, s.coreUp = true ∧ (outs.all fun
      o => okDie o.1 && decide (o.2.1 < 24) && decide (o.2.2.1 < 2) && decide (o.2.2.2 < 2)) = true ∧ (∀ x ∈ u ::
      missing, x ≤ Config.n) ∧ s.tick = 2 ∧ s.rd (.tick .ended) = 0 ∧ s.lateUnits = [] ∧ s.waitingPlaces = [] ∧
      s.gapPlaces = []) ∧
    (∃ s : State, ∃ outs : List (Nat × Nat × Nat × Nat), s.coreUp = true ∧ (outs.all fun o => okDie o.1 && decide (o.2.1 <
      24) && decide (o.2.2.1 < 2) && decide (o.2.2.2 < 2)) = true ∧ s.tick = 2 ∧ s.rd (.tick .ended) = 0 ∧ s.lateUnits
      = [] ∧ s.waitingPlaces = [] ∧ s.gapPlaces = []) ∧
    (∃ s : State, ∃ outs : List (Nat × Nat × Nat × Nat), ∃ missing : List Nat, s.coreUp = true ∧ (outs.all fun o => okDie
      o.1 && decide (o.2.1 < 24) && decide (o.2.2.1 < 2) && decide (o.2.2.2 < 2)) = true ∧ (∀ x ∈ missing, x ≤
      Config.n) ∧ s.tick = 2 ∧ s.rd (.tick .ended) = 0 ∧ s.lateUnits = []) ∧
    (∃ s : State, ∃ outs : List (Nat × Nat × Nat × Nat), ∃ missing : List Nat, s.coreUp = true ∧ (outs.all fun o => okDie
      o.1 && decide (o.2.1 < 24) && decide (o.2.2.1 < 2) && decide (o.2.2.2 < 2)) = true ∧ (∀ x ∈ missing, x ≤
      Config.n) ∧ (s.tick ≠ 2 ∨ s.rd (.tick .ended) ≠ 0)) ∧
    (∃ s : State, ∃ pins : List (Nat × Nat × Nat), s.coreUp = true ∧ okLevels pins = true ∧ s.tick = 2 ∧ s.rd (.tick
      .decided) = 1 ∧ s.groupAllows = true ∧ (s.rd (.tick .WDOG_PERIOD) = 0 ∨ s.rd (.tick .WDOG_REMAIN) ≠ 0)) ∧
    (∃ s : State, ∃ pins : List (Nat × Nat × Nat), s.coreUp = true ∧ okLevels pins = true ∧ s.tick = 1) ∧
    (∃ s : State, ∃ pins : List (Nat × Nat × Nat), s.coreUp = true ∧ okLevels pins = true ∧ s.tick = 2 ∧ s.rd (.tick
      .decided) = 1) ∧
    (∃ s : State, ∃ pins : List (Nat × Nat × Nat), s.coreUp = true ∧ okLevels pins = true ∧ (s.tick ≠ 1 ∧ (s.tick ≠ 2 ∨
      s.rd (.tick .decided) ≠ 1))) :=
  ⟨⟨(w (more upl [(.tick .STATE_STATE, 0, 0, 2), (.tick .kNext, 0, 0, 1), (.tick .UNIT_PRESENT, 8, 15, 1), (.nch
      .STAT_STATE, 8, 8, 3)]) : State), 8, 15, 7, by decide +kernel⟩,
   ⟨(w (more upl [(.tick .STATE_STATE, 0, 0, 0)]) : State), 8, 15, 7, by decide +kernel⟩,
   ⟨(w (more upl [(.tick .STATE_STATE, 0, 0, 2)]) : State), [], by decide +kernel⟩,
   ⟨(w (more upl [(.tick .STATE_STATE, 0, 0, 2), (.tick .UNIT_PRESENT, 8, 15, 1)]) : State), [], [], 8, 15, [],
      by decide +kernel⟩,
   ⟨(w (more upl [(.tick .STATE_STATE, 0, 0, 2)]) : State), [], 8, [], by decide +kernel⟩,
   ⟨(w (more upl [(.tick .STATE_STATE, 0, 0, 2)]) : State), [], by decide +kernel⟩,
   ⟨(w (more upl [(.tick .STATE_STATE, 0, 0, 2)]) : State), [], [], by decide +kernel⟩,
   ⟨(w bootl : State), [], [], by decide +kernel⟩,
   ⟨(w (more upl [(.tick .STATE_STATE, 0, 0, 2), (.tick .decided, 0, 0, 1)]) : State), [], by decide +kernel⟩,
   ⟨(w (more upl [(.tick .STATE_STATE, 0, 0, 1)]) : State), [], by decide +kernel⟩,
   ⟨(w (more upl [(.tick .STATE_STATE, 0, 0, 2), (.tick .decided, 0, 0, 1)]) : State), [], by decide +kernel⟩,
   ⟨(w bootl : State), [], by decide +kernel⟩⟩

/-- What the clauses of Obligations.VoidsAndGroups ask can be met. -/
theorem witness_VoidsAndGroups :
    (∃ s : State, s.coreUp = true ∧ s.tick = 2 ∧ s.rd (.tick .WDOG_PERIOD) ≠ 0 ∧ s.rd (.tick .WDOG_REMAIN) = 0) ∧
    (∃ s : State, s.coreUp = true ∧ s.tick = 2 ∧ s.rd (.tick .GROUP_EN) = 1 ∧ s.groupAllows = false) ∧
    (∃ s : State, ∃ p id cause : Nat, s.coreUp = true ∧ p < 6 ∧ id < 16 ∧ cause < 256 ∧ s.tick = 2 ∧ s.rd (.tick
      .GROUP_EN) = 1 ∧ s.rd (.tick .GROUP_MASTER) = 1 ∧ s.rd (.tick .GROUP_PORT) = p) ∧
    (∃ s : State, ∃ p cause : Nat, s.coreUp = true ∧ p < 6 ∧ cause < 256 ∧ s.tick = 2 ∧ s.rd (.tick .GROUP_EN) = 1 ∧ s.rd
      (.tick .GROUP_MASTER) = 0 ∧ s.rd (.tick .GROUP_PORT) = p) ∧
    (∃ s : State, ∃ p : Nat, s.coreUp = true ∧ p < 6 ∧ s.rd (.tick .GROUP_EN) = 1 ∧ s.rd (.tick .GROUP_MASTER) = 0 ∧ s.rd
      (.tick .GROUP_PORT) = p ∧ (s.tick = 0 ∨ s.tick = 4)) ∧
    (∃ s : State, ∃ p cause : Nat, s.coreUp = true ∧ p < 6 ∧ cause < 256 ∧ s.rd (.tick .GROUP_EN) = 1 ∧ s.rd (.tick
      .GROUP_MASTER) = 0 ∧ s.rd (.tick .GROUP_PORT) = p) ∧
    (∃ s : State, ∃ p id cause : Nat, s.coreUp = true ∧ p < 6 ∧ id < 16 ∧ cause < 256 ∧ s.tick = 2 ∧ s.rd (.tick
      .GROUP_EN) = 1 ∧ s.rd (.tick .GROUP_MASTER) = 1 ∧ s.rd (.tick .GROUP_PORT) = p) :=
  ⟨⟨(w (more upl [(.tick .STATE_STATE, 0, 0, 2), (.tick .WDOG_PERIOD, 0, 0, 5), (.tick .WDOG_REMAIN, 0, 0, 0)]) : State),
      by decide +kernel⟩,
   ⟨(w (more upl [(.tick .STATE_STATE, 0, 0, 2), (.tick .GROUP_EN, 0, 0, 1), (.tick .GROUP_PORT, 0, 0, 5)]) : State),
      by decide +kernel⟩,
   ⟨(w (more upl [(.tick .STATE_STATE, 0, 0, 2), (.tick .GROUP_EN, 0, 0, 1), (.tick .GROUP_PORT, 0, 0, 5), (.tick
      .GROUP_MASTER, 0, 0, 1)]) : State), 5, 15, 255, by decide +kernel⟩,
   ⟨(w (more upl [(.tick .STATE_STATE, 0, 0, 2), (.tick .GROUP_EN, 0, 0, 1), (.tick .GROUP_PORT, 0, 0, 5)]) : State), 5,
      255, by decide +kernel⟩,
   ⟨(w (more upl [(.tick .STATE_STATE, 0, 0, 4), (.tick .GROUP_EN, 0, 0, 1), (.tick .GROUP_PORT, 0, 0, 5)]) : State), 5,
      by decide +kernel⟩,
   ⟨(w (more upl [(.tick .STATE_STATE, 0, 0, 2), (.tick .GROUP_EN, 0, 0, 1), (.tick .GROUP_PORT, 0, 0, 5)]) : State), 5, 0,
      by decide +kernel⟩,
   ⟨(w (more upl [(.tick .STATE_STATE, 0, 0, 2), (.tick .GROUP_EN, 0, 0, 1), (.tick .GROUP_PORT, 0, 0, 5), (.tick
      .GROUP_MASTER, 0, 0, 1)]) : State), 5, 15, 0, by decide +kernel⟩⟩

/-- What the clauses of Obligations.BankPortOperations ask can be met. -/
theorem witness_BankPortOperations :
    (∃ s : State, ∃ d b p a : Nat, s.coreUp = true ∧ okPort d b p = true ∧ a < 16384 ∧ PortReady s ⟨d, b, p, 0, a, 0⟩ ∧
      (portSees s ⟨d, b, p, 0, a, 0⟩).poison = false) ∧
    (∃ s : State, ∃ d b p a : Nat, s.coreUp = true ∧ okPort d b p = true ∧ a < 16384 ∧ PortReady s ⟨d, b, p, 0, a, 0⟩ ∧
      (portSees s ⟨d, b, p, 0, a, 0⟩).poison = true) ∧
    (∃ s : State, ∃ d b p a v : Nat, s.coreUp = true ∧ okPort d b p = true ∧ a < 16384 ∧ PortReady s ⟨d, b, p, 1, a, v⟩) ∧
    (∃ s : State, ∃ d b p a v : Nat, s.coreUp = true ∧ okPort d b p = true ∧ a < 16384 ∧ PortReady s ⟨d, b, p, 2, a, v⟩ ∧
      (portSees s ⟨d, b, p, 2, a, v⟩).poison = false) ∧
    (∃ s : State, ∃ d b p a v : Nat, s.coreUp = true ∧ okPort d b p = true ∧ a < 16384 ∧ PortReady s ⟨d, b, p, 3, a, v⟩ ∧
      (portSees s ⟨d, b, p, 3, a, v⟩).poison = false) ∧
    (∃ s : State, ∃ d b p a : Nat, s.coreUp = true ∧ okPort d b p = true ∧ a < 16384 ∧ PortReady s ⟨d, b, p, 4, a, 0⟩ ∧
      (portSees s ⟨d, b, p, 4, a, 0⟩).poison = false ∧ s.portLocks d b p = false) ∧
    (∃ s : State, ∃ d b p a v : Nat, s.coreUp = true ∧ okPort d b p = true ∧ a < 16384 ∧ PortReady s ⟨d, b, p, 5, a, v⟩) ∧
    (∃ s : State, ∃ d b p a : Nat, s.coreUp = true ∧ okPort d b p = true ∧ a < 16384 ∧ PortReady s ⟨d, b, p, 6, a, 0⟩) ∧
    (∃ s : State, ∃ d b p a : Nat, s.coreUp = true ∧ okPort d b p = true ∧ a < 16384 ∧ s.portAttached d b p = true ∧
      s.fabricRuns d = true ∧ s.portHolds ⟨d, b, p, 7, a, 0⟩ = false ∧ s.bankPwr d b = 1) :=
  ⟨⟨({ w (more fab7l [(.bank .CFG_USED, 8, 496, 1), (.bank .CFG_PORTB, 8, 496, 1), (.bank .STAT_PWR, 8, 496, 1)]) with banks := [((7 * 512 + 496) * 16384 + 16383, encodeRow 5)] } : State), 7, 496, 1, 16383, by unfold PortReady; decide +kernel⟩,
   ⟨({ w (more fab7l [(.bank .CFG_USED, 8, 496, 1), (.bank .CFG_PORTB, 8, 496, 1), (.bank .STAT_PWR, 8, 496, 1)]) with banks := [((7 * 512 + 496) * 16384 + 16383, rowOf 3 (checkBits 0) 7)] } : State), 7, 496, 1, 16383, by unfold PortReady; decide +kernel⟩,
   ⟨({ w (more fab7l [(.bank .CFG_USED, 8, 496, 1), (.bank .CFG_PORTB, 8, 496, 1), (.bank .STAT_PWR, 8, 496, 1)]) with banks := [((7 * 512 + 496) * 16384 + 16383, encodeRow 5)] } : State), 7, 496, 1, 16383, (2 ^ 48 - 1), by unfold PortReady; decide +kernel⟩,
   ⟨({ w (more fab7l [(.bank .CFG_USED, 8, 496, 1), (.bank .CFG_PORTB, 8, 496, 1), (.bank .STAT_PWR, 8, 496, 1)]) with banks := [((7 * 512 + 496) * 16384 + 16383, encodeRow 5)] } : State), 7, 496, 1, 16383, (2 ^ 48 - 1), by unfold PortReady; decide +kernel⟩,
   ⟨({ w (more fab7l [(.bank .CFG_USED, 8, 496, 1), (.bank .CFG_PORTB, 8, 496, 1), (.bank .STAT_PWR, 8, 496, 1)]) with banks := [((7 * 512 + 496) * 16384 + 16383, encodeRow 5)] } : State), 7, 496, 1, 16383, (2 ^ 48 - 1), by unfold PortReady; decide +kernel⟩,
   ⟨({ w (more fab7l [(.bank .CFG_USED, 8, 496, 1), (.bank .CFG_PORTB, 8, 496, 1), (.bank .STAT_PWR, 8, 496, 1)]) with banks := [((7 * 512 + 496) * 16384 + 16383, encodeRow 5)] } : State), 7, 496, 1, 16383, by unfold PortReady; decide +kernel⟩,
   ⟨(w (more fab7l [(.bank .CFG_USED, 8, 496, 1), (.bank .CFG_PORTB, 8, 496, 1), (.bank .STAT_PWR, 8, 496, 1), (.bank
      .STAT_LOCK_B, 8, 496, 1), (.bank .lockRowB, 8, 496, 16383)]) : State), 7, 496, 1, 16383, (2 ^ 48 - 1),
      by unfold PortReady; decide +kernel⟩,
   ⟨(w (more fab7l [(.bank .CFG_USED, 8, 496, 1), (.bank .CFG_PORTB, 8, 496, 1), (.bank .STAT_PWR, 8, 496, 1), (.bank
      .STAT_LOCK_B, 8, 496, 1), (.bank .lockRowB, 8, 496, 16383)]) : State), 7, 496, 1, 16383,
      by unfold PortReady; decide +kernel⟩,
   ⟨(w (more fab7l [(.bank .CFG_USED, 8, 496, 1), (.bank .CFG_PORTB, 8, 496, 1), (.bank .STAT_PWR, 8, 496, 1)]) : State),
      7, 496, 1, 16383, by decide +kernel⟩⟩

/-- What the clauses of Obligations.BankPowerStates ask can be met. -/
theorem witness_BankPowerStates_1 :
    (∃ s : State, ∃ d b : Nat, s.coreUp = true ∧ d < Config.n ∧ b < 512 ∧ s.powerRefusal d b 1 false = 0) ∧
    (∃ s : State, ∃ d b : Nat, s.coreUp = true ∧ d < Config.n ∧ b < 512 ∧ s.powerRefusal d b 2 false = 0) ∧
    (∃ s : State, ∃ d b : Nat, s.coreUp = true ∧ d < Config.n ∧ b < 512 ∧ s.powerRefusal d b 3 false = 0) ∧
    (∃ s : State, ∃ d b : Nat, s.coreUp = true ∧ d < Config.n ∧ b < 512 ∧ s.powerRefusal d b 4 true = 0) ∧
    (∃ s : State, ∃ d b : Nat, s.coreUp = true ∧ d < Config.n ∧ b < 512 ∧ s.powerRefusal d b 5 false = 0) ∧
    (∃ s : State, ∃ d b : Nat, s.coreUp = true ∧ d < Config.n ∧ b < 512 ∧ zeroWf s.banks = true ∧ s.powerRefusal d b 6
      false = 0) ∧
    (∃ s : State, ∃ d b : Nat, s.coreUp = true ∧ d < Config.n ∧ b < 512 ∧ s.powerRefusal d b 3 false ≠ 0) ∧
    (∃ s : State, ∃ d b : Nat, s.coreUp = true ∧ d < Config.n ∧ b < 512 ∧ s.powerRefusal d b 1 false ≠ 0) ∧
    (∃ s : State, ∃ d b : Nat, s.coreUp = true ∧ d < Config.n ∧ b < 512 ∧ s.powerRefusal d b 2 false ≠ 0) ∧
    (∃ s : State, ∃ d b : Nat, ∃ l2 : Bool, s.coreUp = true ∧ d < Config.n ∧ b < 512 ∧ s.powerRefusal d b 4 l2 ≠ 0) ∧
    (∃ s : State, ∃ d b : Nat, s.coreUp = true ∧ d < Config.n ∧ b < 512 ∧ s.powerRefusal d b 5 false ≠ 0) ∧
    (∃ s : State, ∃ d b : Nat, s.coreUp = true ∧ d < Config.n ∧ b < 512 ∧ s.powerRefusal d b 6 false ≠ 0) :=
  ⟨⟨(w (more upl [(.bank .CFG_USED, 8, 511, 1), (.bank .STAT_PWR, 8, 511, 0)]) : State), 7, 511, by decide +kernel⟩,
   ⟨(w (more upl [(.bank .CFG_USED, 8, 511, 1), (.bank .STAT_PWR, 8, 511, 1)]) : State), 7, 511, by decide +kernel⟩,
   ⟨(w (more upl [(.bank .CFG_USED, 8, 511, 1), (.bank .STAT_PWR, 8, 511, 1)]) : State), 7, 511, by decide +kernel⟩,
   ⟨(w (more upl [(.bank .CFG_USED, 8, 511, 1), (.bank .STAT_PWR, 8, 511, 1)]) : State), 7, 511, by decide +kernel⟩,
   ⟨(w (more upl [(.bank .CFG_USED, 8, 511, 1), (.bank .STAT_PWR, 8, 511, 3)]) : State), 7, 511, by decide +kernel⟩,
   ⟨(w (more upl [(.bank .CFG_USED, 8, 511, 1), (.bank .STAT_PWR, 8, 511, 1)]) : State), 7, 511, by decide +kernel⟩,
   ⟨(w upl : State), (Config.n - 1), (512 - 1), by decide +kernel⟩,
   ⟨(w upl : State), (Config.n - 1), (512 - 1), by decide +kernel⟩,
   ⟨(w upl : State), (Config.n - 1), (512 - 1), by decide +kernel⟩,
   ⟨(w upl : State), (Config.n - 1), (512 - 1), true, by decide +kernel⟩,
   ⟨(w upl : State), (Config.n - 1), (512 - 1), by decide +kernel⟩,
   ⟨(w upl : State), (Config.n - 1), (512 - 1), by decide +kernel⟩⟩

/-- What the clauses of Obligations.BankPowerStates ask can be met. -/
theorem witness_BankPowerStates_2 :
    (∃ s : State, ∃ d b : Nat, s.coreUp = true ∧ d < Config.n ∧ b < 512 ∧ s.rd (.bank .STAT_BUSY) (1 + d) b = 1) ∧
    (∃ s : State, ∃ d b : Nat, s.coreUp = true ∧ d < Config.n ∧ b < 512 ∧ s.rd (.bank .STAT_BUSY) (1 + d) b ≠ 1) :=
  ⟨⟨(w (more upl [(.bank .STAT_BUSY, 8, 511, 1), (.bank .goal, 8, 511, 5)]) : State), 7, 511, by decide +kernel⟩,
   ⟨(w (more upl [(.bank .CFG_USED, 8, 511, 1), (.bank .STAT_PWR, 8, 511, 0)]) : State), 7, 511, by decide +kernel⟩⟩

/-- What the clauses of Obligations.BankUpkeepCommands ask can be met. -/
theorem witness_BankUpkeepCommands :
    (∃ s : State, ∃ d b row : Nat, ∃ w : WriteBack, s.coreUp = true ∧ d < Config.n ∧ b < 512 ∧ row < 16384 ∧
      (s.writeBacks.find? fun w => w.die == d && w.bank == b && w.row == row) = some w) ∧
    (∃ s : State, ∃ d b : Nat, s.coreUp = true ∧ d < Config.n ∧ b < 512 ∧ s.rd (.bank .blanking) (1 + d) b ≠ 0 ∧ (∀ o ∈
      s.heldOps, ¬(o.die = d ∧ o.bank = b))) ∧
    (∃ s : State, ∃ d b : Nat, s.coreUp = true ∧ d < Config.n ∧ b < 512 ∧ s.rd (.bank .blanking) (1 + d) b ≠ 0) ∧
    (∃ s : State, ∃ d : Nat, s.coreUp = true ∧ d < Config.n ∧ s.testReaches d true = true) ∧
    (∃ s : State, ∃ d : Nat, ∃ l2 : Bool, s.coreUp = true ∧ d < Config.n ∧ s.testReaches d l2 = false) ∧
    (∃ s : State, ∃ d : Nat, s.coreUp = true ∧ d < Config.n ∧ s.testReaches d true = true) ∧
    (∃ s : State, ∃ d v : Nat, s.coreUp = true ∧ d < Config.n ∧ v % 2 = 1) ∧
    (∃ s : State, ∃ d v : Nat, s.coreUp = true ∧ d < Config.n ∧ v % 2 = 0) ∧
    (∃ s : State, s.coreUp = true) :=
  ⟨⟨({ w upl with writeBacks := [⟨7, 511, 16383, false, false, true, false⟩], banks := [((7 * 512 + 511) * 16384 + 16383, encodeRow 5 ^^^ 1)] } : State), 7, 511, 16383, ⟨7, 511, 16383, false, false, true, false⟩, by decide +kernel⟩,
   ⟨(w (more upl [(.bank .blanking, 8, 511, 1)]) : State), 7, 511, by decide +kernel⟩,
   ⟨(w (more upl [(.bank .blanking, 8, 511, 1)]) : State), 7, 511, by decide +kernel⟩,
   ⟨(w (more upl [(.bank .TEST_ADDR_BANK, 8, 0, 511), (.bank .STAT_PWR, 8, 511, 3)]) : State), 7, by decide +kernel⟩,
   ⟨(w bootl : State), (Config.n - 1), false, by decide +kernel⟩,
   ⟨(w (more upl [(.bank .TEST_ADDR_BANK, 8, 0, 511), (.bank .STAT_PWR, 8, 511, 3)]) : State), 7, by decide +kernel⟩,
   ⟨(w (more upl [(.bank .ECC_SUM_CE, 8, 0, 9)]) : State), 7, 1, by decide +kernel⟩,
   ⟨(w bootl : State), (Config.n - 1), 0, by decide +kernel⟩,
   ⟨(w upl : State), by decide +kernel⟩⟩

/-- What the clauses of Obligations.BankRowReadsBack ask can be met. -/
theorem witness_BankRowReadsBack :
    (∃ v : Nat, v < 2 ^ 48) ∧
    (∃ v : Nat, v < 2 ^ 48) :=
  ⟨⟨(2 ^ 48 - 1), by decide +kernel⟩,
   ⟨(2 ^ 48 - 1), by decide +kernel⟩⟩

/-- What the clauses of Obligations.BankRowCorrectsOneBit ask can be met. -/
theorem witness_BankRowCorrectsOneBit :
    (∃ row : Nat, rowVote row = false) ∧
    (∃ row syn : Nat, ∃ e : Bool, rowVote row = true ∧ syn = (checkBits (low 48 row) % 64) ^^^ (slice row 48 6) ∧ e =
      parity 55 row) ∧
    (∃ v i : Nat, v < 2 ^ 48 ∧ i < 55) ∧
    (∃ v i : Nat, v < 2 ^ 48 ∧ 55 ≤ i ∧ i < 58) :=
  ⟨⟨(2 ^ 57), by decide +kernel⟩,
   ⟨(6 * 2 ^ 55 + 1 + 5 * 2 ^ 48), 6, true, by decide +kernel⟩,
   ⟨(2 ^ 48 - 1), 54, by decide +kernel⟩,
   ⟨(2 ^ 48 - 1), 57, by decide +kernel⟩⟩

/-- What the clauses of Obligations.ChannelCommands ask can be met. -/
theorem witness_ChannelCommands :
    (∃ s : State, ∃ d k c entry : Nat, ∃ auto : Bool, ∃ type count mbox addr seq prio aux : Nat, ∃ words : List Nat, ∃ t
      dest e a tid : Nat, ChannelTakes s d k c t ∧ entry < 1024 ∧ type < 16 ∧ type ≠ 5 ∧ type ≠ 6 ∧ count < 128 ∧ mbox
      < 4 ∧ addr < 2 ^ 48 ∧ seq < 2 ^ 16 ∧ prio < 4 ∧ (∀ w ∈ s.niWaits, ¬(w.ni = 16 * (1 + d) + k ∧ w.ch = c)) ∧
      s.issueCheck (16 * (1 + d) + k) (s.chClass (16 * (1 + d) + k) c) (quadOf' s d k c entry auto type count mbox
      addr seq prio aux words) = .go dest e a ∧ (cacheable (16 * (1 + d) + k) (s.chClass (16 * (1 + d) + k) c) type
      (regionOf a) = false ∨ s.rd (.bank .RC_CTRL_EN) (1 + d) = 0) ∧ s.mustWait (16 * (1 + d) + k) c (s.chClass (16 *
      (1 + d) + k) c) dest e a (quadOf' s d k c entry auto type count mbox addr seq prio aux words) = false ∧
      s.freeTid (16 * (1 + d) + k) = some tid) ∧
    (∃ s : State, ∃ d k c entry : Nat, ∃ auto : Bool, ∃ type count mbox addr seq prio aux : Nat, ∃ words : List Nat, ∃ t
      status peer : Nat, ChannelTakes s d k c t ∧ entry < 1024 ∧ type < 16 ∧ type ≠ 5 ∧ type ≠ 6 ∧ count < 128 ∧ mbox
      < 4 ∧ addr < 2 ^ 48 ∧ seq < 2 ^ 16 ∧ prio < 4 ∧ ChannelFree s (16 * (1 + d) + k) c ∧ s.issueCheck (16 * (1 + d)
      + k) (s.chClass (16 * (1 + d) + k) c) (quadOf' s d k c entry auto type count mbox addr seq prio aux words) =
      .refused status peer) ∧
    (∃ s : State, ∃ d k c m i q t : Nat, ∃ p : MPkt, ∃ x : Quad, ChannelTakes s d k c t ∧ m < 4 ∧ i < 1024 ∧ q < 64 ∧
      ChannelFree s (16 * (1 + d) + k) c ∧ s.mboxEnabled (16 * (1 + d) + k) m = true ∧ s.mboxPacket (16 * (1 + d) + k)
      m i = some p ∧ p.body[q]? = some x) ∧
    (∃ s : State, ∃ d k c m i q t : Nat, ChannelTakes s d k c t ∧ m < 4 ∧ i < 1024 ∧ q < 64 ∧ ChannelFree s (16 * (1 + d)
      + k) c ∧ (s.mboxEnabled (16 * (1 + d) + k) m = false ∨ s.mboxPacket (16 * (1 + d) + k) m i = none)) ∧
    (∃ s : State, ∃ d k c m t : Nat, ChannelTakes s d k c t ∧ m < 4 ∧ ChannelFree s (16 * (1 + d) + k) c ∧ s.mboxEnabled
      (16 * (1 + d) + k) m = true) ∧
    (∃ s : State, ∃ d k c m i q t : Nat, ∃ p : MPkt, ∃ x : Quad, s.coreUp = true ∧ d < Config.n ∧ k < 16 ∧ c < 4 ∧ m < 4 ∧
      i < 1024 ∧ q < 64 ∧ t < 2 ^ 80 ∧ s.fabricRuns d = true ∧ s.rd (.erg .CH_CFG_EN) (1 + d) (4 * k + c) = 1 ∧
      s.chClass (16 * (1 + d) + k) c ≠ 0 ∧ s.txns = [] ∧ s.mboxEnabled (16 * (1 + d) + k) m = true ∧ s.mboxPacket (16
      * (1 + d) + k) m i = some p ∧ p.body[q]? = some x ∧ tagMask x.tag 0 = some 0) ∧
    (∃ s : State, ∃ d k c m t : Nat, s.coreUp = true ∧ d < Config.n ∧ k < 16 ∧ c < 4 ∧ m < 4 ∧ t < 2 ^ 80 ∧ s.fabricRuns d
      = true ∧ s.rd (.erg .CH_CFG_EN) (1 + d) (4 * k + c) = 1 ∧ s.chClass (16 * (1 + d) + k) c ≠ 0 ∧ s.txns = [] ∧
      s.mboxEnabled (16 * (1 + d) + k) m = true) :=
  ⟨⟨(w (more fab7l [(.erg .CH_CFG_EN, 8, 63, 1), (.erg .CH_CFG_CLASS, 8, 63, 1), (.erg .mboxOn, 8, 63, 1), (.erg
      .MODE_DAXAT, 0, 0, 1), (.erg .RT_DEST_DEST, 8, 15 * 1024 + 5, 17), (.erg .RT_DEST_VALID, 8, 15 * 1024 + 5, 1)])
      : State), 7, 15, 3, 5, false, 4, 1, 0, 0, 9, 0, 0, [7], 0, 17, 5, 0, 0, by unfold ChannelTakes; decide +kernel⟩,
   ⟨(w (more fab7l [(.erg .CH_CFG_EN, 8, 63, 1), (.erg .CH_CFG_CLASS, 8, 63, 1), (.erg .mboxOn, 8, 63, 1), (.erg
      .MODE_DAXAT, 0, 0, 1), (.erg .RT_DEST_DEST, 8, 15 * 1024 + 5, 17), (.erg .RT_DEST_VALID, 8, 15 * 1024 + 5, 1)])
      : State), 7, 15, 3, 5, false, 0, 1, 0, (2 ^ 47), 9, 0, 0, [7], 0, 1, 0,
      by unfold ChannelFree ChannelTakes; decide +kernel⟩,
   ⟨({ w (more fab7l [(.erg .CH_CFG_EN, 8, 63, 1), (.erg .CH_CFG_CLASS, 8, 63, 1), (.erg .mboxOn, 8, 63, 1)]) with mailboxes := [⟨143, 3, true, 17, 0, [⟨1, 2, 3, 4, 0⟩]⟩] } : State), 7, 15, 3, 3, 0, 0, 0, ⟨143, 3, true, 17, 0, [⟨1, 2, 3, 4, 0⟩]⟩, ⟨1, 2, 3, 4, 0⟩, by unfold ChannelFree ChannelTakes; decide +kernel⟩,
   ⟨(w (more fab7l [(.erg .CH_CFG_EN, 8, 63, 1), (.erg .CH_CFG_CLASS, 8, 63, 1), (.erg .mboxOn, 8, 63, 1)]) : State), 7,
      15, 3, 3, 0, 0, 0, by unfold ChannelFree ChannelTakes; decide +kernel⟩,
   ⟨(w (more fab7l [(.erg .CH_CFG_EN, 8, 63, 1), (.erg .CH_CFG_CLASS, 8, 63, 1), (.erg .mboxOn, 8, 63, 1)]) : State), 7,
      15, 3, 3, 0, by unfold ChannelFree ChannelTakes; decide +kernel⟩,
   ⟨({ w (more fab7l [(.erg .CH_CFG_EN, 8, 63, 1), (.erg .CH_CFG_CLASS, 8, 63, 1), (.erg .mboxOn, 8, 63, 1)]) with mailboxes := [⟨143, 3, true, 17, 0, [⟨1, 2, 3, 4, 0⟩]⟩] } : State), 7, 15, 3, 3, 0, 0, 0, ⟨143, 3, true, 17, 0, [⟨1, 2, 3, 4, 0⟩]⟩, ⟨1, 2, 3, 4, 0⟩, by decide +kernel⟩,
   ⟨(w (more fab7l [(.erg .CH_CFG_EN, 8, 63, 1), (.erg .CH_CFG_CLASS, 8, 63, 1), (.erg .mboxOn, 8, 63, 1)]) : State), 7,
      15, 3, 3, 0, by decide +kernel⟩⟩

/-- What the clauses of Obligations.PacketArrivals ask can be met. -/
theorem witness_PacketArrivals :
    (∃ s : State, ∃ p : Pkt, s.coreUp = true ∧ okNi (p.dst / 16) (p.dst % 16) = true ∧ s.net.contains p = true ∧ p.rsp =
      false ∧ p.type = 2 ∧ s.overtakes p = false ∧ s.flitsOk p = true ∧ 16 ≤ p.dst ∧ s.mboxEnabled p.dst (p.mbox % 4)
      = true ∧ s.mboxRoom p.dst (p.mbox % 4) p.body.length = true) ∧
    (∃ s : State, ∃ p : Pkt, s.coreUp = true ∧ okNi (p.dst / 16) (p.dst % 16) = true ∧ s.net.contains p = true ∧ p.rsp =
      false ∧ p.type = 4 ∧ s.overtakes p = false ∧ s.flitsOk p = true ∧ 16 ≤ p.dst ∧ s.fabricSideOpen p.dst = true) ∧
    (∃ s : State, ∃ p : Pkt, ∃ t : Txn, ∃ time : Nat, s.coreUp = true ∧ okNi (p.dst / 16) (p.dst % 16) = true ∧ time < 2 ^
      80 ∧ s.net.contains p = true ∧ p.rsp = true ∧ s.flitsOk p = true ∧ p.cls ≠ 0 ∧ s.boundaryDrops p = false ∧
      s.txns = [t] ∧ s.matching p = some t ∧ s.niWaits = []) ∧
    (∃ s : State, ∃ p : Pkt, ∃ t : Txn, ∃ time : Nat, s.coreUp = true ∧ okNi (p.dst / 16) (p.dst % 16) = true ∧ time < 2 ^
      80 ∧ s.net.contains p = true ∧ p.rsp = true ∧ s.flitsOk p = true ∧ s.boundaryDrops p = false ∧ s.matching p =
      some t) ∧
    (∃ s : State, ∃ p : Pkt, ∃ time : Nat, s.coreUp = true ∧ okNi (p.dst / 16) (p.dst % 16) = true ∧ time < 2 ^ 80 ∧
      s.net.contains p = true ∧ p.rsp = true ∧ s.flitsOk p = true ∧ s.boundaryDrops p = false ∧ s.matching p = none ∧
      s.niWaits = [] ∧ s.netHeld = []) ∧
    (∃ s : State, ∃ u k tid : Nat, ∃ t : Txn, s.coreUp = true ∧ okNi u k = true ∧ tid < 256 ∧ s.txns = [t] ∧ t.ni = 16 * u
      + k ∧ t.hasTid = true ∧ t.tid = tid ∧ t.resp = none ∧ t.cls ≠ 0 ∧ s.routersBusy = false ∧ s.waitsAtLock t =
      false ∧ s.niWaits = []) ∧
    (∃ s : State, ∃ u k tid : Nat, ∃ t : Txn, s.coreUp = true ∧ okNi u k = true ∧ tid < 256 ∧ (s.txns.find? fun t => t.ni
      == 16 * u + k && t.hasTid && t.tid == tid && t.resp.isNone && t.cls != 0) = some t ∧ s.routersBusy = false ∧
      s.waitsAtLock t = false) ∧
    (∃ s : State, ∃ u k tid : Nat, s.coreUp = true ∧ okNi u k = true ∧ tid < 256) ∧
    (∃ s : State, ∃ u k tid : Nat, s.coreUp = true ∧ okNi u k = true ∧ tid < 256 ∧ s.niWaits = [] ∧ s.netHeld = []) :=
  ⟨⟨({ w (more upl [(.erg .mboxOn, 8, 63, 1)]) with net := [⟨1, false, 2, 17, 143, 0, 0, 0, 0, 0, 0, 1, 3, 0, 0, 0, 0, 0, [⟨1, 2, 3, 4, 0⟩]⟩] } : State), ⟨1, false, 2, 17, 143, 0, 0, 0, 0, 0, 0, 1, 3, 0, 0, 0, 0, 0, [⟨1, 2, 3, 4, 0⟩]⟩, by decide +kernel⟩,
   ⟨({ w upl with net := [⟨1, false, 4, 17, 143, 0, 0, 0, 0, 0, 0, 1, 0, 0, 0, 0, 0, 0, [⟨1, 2, 3, 4, 0⟩]⟩] } : State), ⟨1, false, 4, 17, 143, 0, 0, 0, 0, 0, 0, 1, 0, 0, 0, 0, 0, 0, [⟨1, 2, 3, 4, 0⟩]⟩, by decide +kernel⟩,
   ⟨({ w upl with net := [⟨1, true, 0, 17, 143, 255, 0, 0, 0, 0, 0, 1, 0, 0, 0, 0, 0, 0, []⟩], txns := [⟨143, 3, 255, 0, true, 5, 17, 1, 0, 0, 1, 9, none⟩] } : State), ⟨1, true, 0, 17, 143, 255, 0, 0, 0, 0, 0, 1, 0, 0, 0, 0, 0, 0, []⟩, ⟨143, 3, 255, 0, true, 5, 17, 1, 0, 0, 1, 9, none⟩, (2 ^ 80 - 1), by decide +kernel⟩,
   ⟨({ w upl with net := [⟨1, true, 0, 17, 143, 255, 0, 0, 0, 0, 0, 1, 0, 0, 0, 0, 0, 0, []⟩], txns := [⟨143, 3, 255, 0, true, 5, 17, 1, 0, 0, 1, 9, none⟩] } : State), ⟨1, true, 0, 17, 143, 255, 0, 0, 0, 0, 0, 1, 0, 0, 0, 0, 0, 0, []⟩, ⟨143, 3, 255, 0, true, 5, 17, 1, 0, 0, 1, 9, none⟩, (2 ^ 80 - 1), by decide +kernel⟩,
   ⟨({ w upl with net := [⟨1, true, 0, 17, 143, 255, 0, 0, 0, 0, 0, 1, 0, 0, 0, 0, 0, 0, []⟩] } : State), ⟨1, true, 0, 17, 143, 255, 0, 0, 0, 0, 0, 1, 0, 0, 0, 0, 0, 0, []⟩, (2 ^ 80 - 1), by decide +kernel⟩,
   ⟨({ w upl with txns := [⟨143, 3, 255, 0, true, 5, 17, 1, 0, 0, 1, 9, none⟩] } : State), 8, 15, 255, ⟨143, 3, 255, 0, true, 5, 17, 1, 0, 0, 1, 9, none⟩, by decide +kernel⟩,
   ⟨({ w upl with txns := [⟨143, 3, 255, 0, true, 5, 17, 1, 0, 0, 1, 9, none⟩] } : State), 8, 15, 255, ⟨143, 3, 255, 0, true, 5, 17, 1, 0, 0, 1, 9, none⟩, by decide +kernel⟩,
   ⟨(w upl : State), 0, 0, (256 - 1), by decide +kernel⟩,
   ⟨(w upl : State), 0, 0, (256 - 1), by decide +kernel⟩⟩

/-- What the clauses of Obligations.BankRequests ask can be met. -/
theorem witness_BankRequests :
    (∃ s : State, ∃ p : Pkt, ∃ d b a : Nat, s.coreUp = true ∧ okNi (p.dst / 16) (p.dst % 16) = true ∧ s.net.contains p =
      true ∧ p.rsp = false ∧ p.type = 0 ∧ s.overtakes p = false ∧ s.flitsOk p = true ∧ p.count = 1 ∧ regionOf p.addr =
      .bank d b a 0 ∧ s.bankPktRefusal p = 0 ∧ s.bankPktWaits p = false ∧ s.slotWriteBack d b = none ∧
      (s.bankWaits.any fun x => pktAtBank x d b) = false ∧ ((readRow (s.row d b (s.physRow d b a))).poison || (readRow
      (s.row d b (s.physRow d b a))).corr || (readRow (s.row d b (s.physRow d b a))).splitVote) = false) ∧
    (∃ s : State, ∃ p : Pkt, ∃ d b a w : Nat, s.coreUp = true ∧ okNi (p.dst / 16) (p.dst % 16) = true ∧ s.net.contains p =
      true ∧ p.rsp = false ∧ p.type = 1 ∧ s.overtakes p = false ∧ s.flitsOk p = true ∧ p.count = 1 ∧ regionOf p.addr =
      .bank d b a 0 ∧ s.bankPktRefusal p = 0 ∧ s.bankPktWaits p = false ∧ s.slotWriteBack d b = none ∧
      (s.bankWaits.any fun x => pktAtBank x d b) = false ∧ s.wordsOf p = [(w, false)]) ∧
    (∃ s : State, ∃ p : Pkt, ∃ d b a w : Nat, s.coreUp = true ∧ okNi (p.dst / 16) (p.dst % 16) = true ∧ s.net.contains p =
      true ∧ p.rsp = false ∧ p.type = 1 ∧ s.overtakes p = false ∧ s.flitsOk p = true ∧ p.count = 1 ∧ regionOf p.addr =
      .bank d b a 1 ∧ s.bankPktRefusal p = 0 ∧ s.bankPktWaits p = false ∧ s.slotWriteBack d b = none ∧
      (s.bankWaits.any fun x => pktAtBank x d b) = false ∧ s.wordsOf p = [(w, false)] ∧ (readRow (s.row d b (s.physRow
      d b a))).poison = false) ∧
    (∃ s : State, ∃ p : Pkt, ∃ d b a w : Nat, s.coreUp = true ∧ okNi (p.dst / 16) (p.dst % 16) = true ∧ s.net.contains p =
      true ∧ p.rsp = false ∧ p.type = 1 ∧ s.overtakes p = false ∧ s.flitsOk p = true ∧ p.count = 1 ∧ regionOf p.addr =
      .bank d b a 2 ∧ s.bankPktRefusal p = 0 ∧ s.bankPktWaits p = false ∧ s.slotWriteBack d b = none ∧
      (s.bankWaits.any fun x => pktAtBank x d b) = false ∧ s.wordsOf p = [(w, false)] ∧ (readRow (s.row d b (s.physRow
      d b a))).poison = false) ∧
    (∃ s : State, ∃ p : Pkt, BankServes s p ∧ p.type = 0) ∧
    (∃ s : State, ∃ p : Pkt, BankServes s p ∧ p.type = 1) ∧
    (∃ s : State, ∃ p : Pkt, BankServes s p ∧ aliasWrite p 1 = true) ∧
    (∃ s : State, ∃ p : Pkt, BankServes s p ∧ aliasWrite p 2 = true) ∧
    (∃ s : State, ∃ d b : Nat, ∃ p : Pkt, s.coreUp = true ∧ d < Config.n ∧ b < 512 ∧ s.slotWriteBack d b = none ∧
      s.slotRequest d b = some p ∧ p.type = 0) ∧
    (∃ s : State, ∃ d b k : Nat, s.coreUp = true ∧ d < Config.n ∧ b < 512 ∧ s.slotWriteBack d b = none ∧ s.slotRequest d b
      = none ∧ s.slotScrub d b = some k) ∧
    (∃ s : State, ∃ d b : Nat, ∃ w : WriteBack, s.coreUp = true ∧ d < Config.n ∧ b < 512 ∧ s.slotWriteBack d b = some w) :=
  ⟨⟨({ w (more upl [(.bank .CFG_USED, 8, 511, 1), (.bank .STAT_PWR, 8, 511, 1)]) with net := [⟨1, false, 0, 17, 128, 0, 0, 0, 0, 0, (2 ^ 32 + 0 * 2 ^ 30 + 7 * 2 ^ 24 + 511 * 16384 + 16383), 1, 0, 0, 0, 0, 0, 0, []⟩], banks := [((7 * 512 + 511) * 16384 + 16383, encodeRow 5)] } : State), ⟨1, false, 0, 17, 128, 0, 0, 0, 0, 0, (2 ^ 32 + 0 * 2 ^ 30 + 7 * 2 ^ 24 + 511 * 16384 + 16383), 1, 0, 0, 0, 0, 0, 0, []⟩, 7, 511, 16383, by decide +kernel⟩,
   ⟨({ w (more upl [(.bank .CFG_USED, 8, 511, 1), (.bank .STAT_PWR, 8, 511, 1)]) with net := [⟨1, false, 1, 17, 128, 0, 0, 0, 0, 0, (2 ^ 32 + 0 * 2 ^ 30 + 7 * 2 ^ 24 + 511 * 16384 + 16383), 1, 0, 0, 0, 0, 0, 0, [⟨6, 0, 0, 0, 0⟩]⟩], banks := [((7 * 512 + 511) * 16384 + 16383, encodeRow 5)] } : State), ⟨1, false, 1, 17, 128, 0, 0, 0, 0, 0, (2 ^ 32 + 0 * 2 ^ 30 + 7 * 2 ^ 24 + 511 * 16384 + 16383), 1, 0, 0, 0, 0, 0, 0, [⟨6, 0, 0, 0, 0⟩]⟩, 7, 511, 16383, 6, by decide +kernel⟩,
   ⟨({ w (more upl [(.bank .CFG_USED, 8, 511, 1), (.bank .STAT_PWR, 8, 511, 1)]) with net := [⟨1, false, 1, 17, 128, 0, 0, 0, 0, 0, (2 ^ 32 + 1 * 2 ^ 30 + 7 * 2 ^ 24 + 511 * 16384 + 16383), 1, 0, 0, 0, 0, 0, 0, [⟨6, 0, 0, 0, 0⟩]⟩], banks := [((7 * 512 + 511) * 16384 + 16383, encodeRow 5)] } : State), ⟨1, false, 1, 17, 128, 0, 0, 0, 0, 0, (2 ^ 32 + 1 * 2 ^ 30 + 7 * 2 ^ 24 + 511 * 16384 + 16383), 1, 0, 0, 0, 0, 0, 0, [⟨6, 0, 0, 0, 0⟩]⟩, 7, 511, 16383, 6, by decide +kernel⟩,
   ⟨({ w (more upl [(.bank .CFG_USED, 8, 511, 1), (.bank .STAT_PWR, 8, 511, 1)]) with net := [⟨1, false, 1, 17, 128, 0, 0, 0, 0, 0, (2 ^ 32 + 2 * 2 ^ 30 + 7 * 2 ^ 24 + 511 * 16384 + 16383), 1, 0, 0, 0, 0, 0, 0, [⟨6, 0, 0, 0, 0⟩]⟩], banks := [((7 * 512 + 511) * 16384 + 16383, encodeRow 5)] } : State), ⟨1, false, 1, 17, 128, 0, 0, 0, 0, 0, (2 ^ 32 + 2 * 2 ^ 30 + 7 * 2 ^ 24 + 511 * 16384 + 16383), 1, 0, 0, 0, 0, 0, 0, [⟨6, 0, 0, 0, 0⟩]⟩, 7, 511, 16383, 6, by decide +kernel⟩,
   ⟨({ w (more upl [(.bank .CFG_USED, 8, 511, 1), (.bank .STAT_PWR, 8, 511, 1)]) with net := [⟨1, false, 0, 17, 128, 0, 0, 0, 0, 0, (2 ^ 32 + 0 * 2 ^ 30 + 7 * 2 ^ 24 + 511 * 16384 + 16383), 1, 0, 0, 0, 0, 0, 0, []⟩], banks := [((7 * 512 + 511) * 16384 + 16383, encodeRow 5)] } : State), ⟨1, false, 0, 17, 128, 0, 0, 0, 0, 0, (2 ^ 32 + 0 * 2 ^ 30 + 7 * 2 ^ 24 + 511 * 16384 + 16383), 1, 0, 0, 0, 0, 0, 0, []⟩, ⟨by decide +kernel, by decide +kernel, by decide +kernel, by decide +kernel, by decide +kernel, by decide +kernel, by decide +kernel, by decide +kernel, 7, 511, 16383, 0, by decide +kernel, by decide +kernel, by decide +kernel⟩, by decide +kernel⟩,
   ⟨({ w (more upl [(.bank .CFG_USED, 8, 511, 1), (.bank .STAT_PWR, 8, 511, 1)]) with net := [⟨1, false, 1, 17, 128, 0, 0, 0, 0, 0, (2 ^ 32 + 0 * 2 ^ 30 + 7 * 2 ^ 24 + 511 * 16384 + 16383), 1, 0, 0, 0, 0, 0, 0, [⟨6, 0, 0, 0, 0⟩]⟩], banks := [((7 * 512 + 511) * 16384 + 16383, encodeRow 5)] } : State), ⟨1, false, 1, 17, 128, 0, 0, 0, 0, 0, (2 ^ 32 + 0 * 2 ^ 30 + 7 * 2 ^ 24 + 511 * 16384 + 16383), 1, 0, 0, 0, 0, 0, 0, [⟨6, 0, 0, 0, 0⟩]⟩, ⟨by decide +kernel, by decide +kernel, by decide +kernel, by decide +kernel, by decide +kernel, by decide +kernel, by decide +kernel, by decide +kernel, 7, 511, 16383, 0, by decide +kernel, by decide +kernel, by decide +kernel⟩, by decide +kernel⟩,
   ⟨({ w (more upl [(.bank .CFG_USED, 8, 511, 1), (.bank .STAT_PWR, 8, 511, 1)]) with net := [⟨1, false, 1, 17, 128, 0, 0, 0, 0, 0, (2 ^ 32 + 1 * 2 ^ 30 + 7 * 2 ^ 24 + 511 * 16384 + 16383), 1, 0, 0, 0, 0, 0, 0, [⟨6, 0, 0, 0, 0⟩]⟩], banks := [((7 * 512 + 511) * 16384 + 16383, encodeRow 5)] } : State), ⟨1, false, 1, 17, 128, 0, 0, 0, 0, 0, (2 ^ 32 + 1 * 2 ^ 30 + 7 * 2 ^ 24 + 511 * 16384 + 16383), 1, 0, 0, 0, 0, 0, 0, [⟨6, 0, 0, 0, 0⟩]⟩, ⟨by decide +kernel, by decide +kernel, by decide +kernel, by decide +kernel, by decide +kernel, by decide +kernel, by decide +kernel, by decide +kernel, 7, 511, 16383, 1, by decide +kernel, by decide +kernel, by decide +kernel⟩, by decide +kernel⟩,
   ⟨({ w (more upl [(.bank .CFG_USED, 8, 511, 1), (.bank .STAT_PWR, 8, 511, 1)]) with net := [⟨1, false, 1, 17, 128, 0, 0, 0, 0, 0, (2 ^ 32 + 2 * 2 ^ 30 + 7 * 2 ^ 24 + 511 * 16384 + 16383), 1, 0, 0, 0, 0, 0, 0, [⟨6, 0, 0, 0, 0⟩]⟩], banks := [((7 * 512 + 511) * 16384 + 16383, encodeRow 5)] } : State), ⟨1, false, 1, 17, 128, 0, 0, 0, 0, 0, (2 ^ 32 + 2 * 2 ^ 30 + 7 * 2 ^ 24 + 511 * 16384 + 16383), 1, 0, 0, 0, 0, 0, 0, [⟨6, 0, 0, 0, 0⟩]⟩, ⟨by decide +kernel, by decide +kernel, by decide +kernel, by decide +kernel, by decide +kernel, by decide +kernel, by decide +kernel, by decide +kernel, 7, 511, 16383, 2, by decide +kernel, by decide +kernel, by decide +kernel⟩, by decide +kernel⟩,
   ⟨({ w (more upl [(.bank .CFG_USED, 8, 511, 1), (.bank .STAT_PWR, 8, 511, 1)]) with banks := [((7 * 512 + 511) * 16384 + 16383, encodeRow 5)], bankWaits := [⟨1, false, 0, 17, 128, 0, 0, 0, 0, 0, (2 ^ 32 + 0 * 2 ^ 30 + 7 * 2 ^ 24 + 511 * 16384 + 16383), 1, 0, 0, 0, 0, 0, 0, []⟩] } : State), 7, 511, ⟨1, false, 0, 17, 128, 0, 0, 0, 0, 0, (2 ^ 32 + 0 * 2 ^ 30 + 7 * 2 ^ 24 + 511 * 16384 + 16383), 1, 0, 0, 0, 0, 0, 0, []⟩, by decide +kernel⟩,
   ⟨({ w (more upl [(.bank .CFG_USED, 8, 511, 1), (.bank .STAT_PWR, 8, 511, 1)]) with banks := [((7 * 512 + 511) * 16384 + 16383, encodeRow 5)], scrubWaits := [(7 * 512 + 511) * 16384 + 16383] } : State), 7, 511, (7 * 512 + 511) * 16384 + 16383, by decide +kernel⟩,
   ⟨({ w (more upl [(.bank .CFG_USED, 8, 511, 1), (.bank .STAT_PWR, 8, 511, 1)]) with banks := [((7 * 512 + 511) * 16384 + 16383, encodeRow 5)], writeBacks := [⟨7, 511, 16383, false, false, true, true⟩] } : State), 7, 511, ⟨7, 511, 16383, false, false, true, true⟩, by decide +kernel⟩⟩

/-- What the clauses of Obligations.RoutersAndDomains ask can be met. -/
theorem witness_RoutersAndDomains_1 :
    (∃ s : State, ∃ u r : Nat, s.coreUp = true ∧ okNi u r = true ∧ s.rd (.erg .RTR_STAT_STATE) u r = 0 ∧ (s.tickLive =
      false ∨ s.noT u r = true) ∧ s.busyRouters < 4) ∧
    (∃ s : State, ∃ u r : Nat, s.coreUp = true ∧ okNi u r = true ∧ s.rd (.erg .RTR_STAT_STATE) u r = 0 ∧ s.tickLive = true
      ∧ s.noT u r = false) ∧
    (∃ s : State, ∃ u r : Nat, s.coreUp = true ∧ okNi u r = true ∧ s.rd (.erg .RTR_STAT_STATE) u r = 0 ∧ (s.tickLive =
      false ∨ s.noT u r = true) ∧ 4 ≤ s.busyRouters) ∧
    (∃ s : State, ∃ u r : Nat, s.coreUp = true ∧ okNi u r = true ∧ s.rd (.erg .RTR_STAT_STATE) u r = 1) ∧
    (∃ s : State, ∃ u r : Nat, s.coreUp = true ∧ okNi u r = true ∧ s.rd (.erg .RTR_STAT_STATE) u r = 1) ∧
    (∃ s : State, ∃ u r : Nat, s.coreUp = true ∧ okNi u r = true ∧ s.rd (.erg .RTR_STAT_STATE) u r = 2) ∧
    (∃ s : State, ∃ u r : Nat, s.coreUp = true ∧ okNi u r = true ∧ s.rd (.erg .RTR_STAT_STATE) u r = 1 ∧ s.netHeld = [] ∧
      s.niWaits = []) ∧
    (∃ s : State, ∃ u r : Nat, s.coreUp = true ∧ okNi u r = true ∧ s.rd (.erg .RTR_STAT_STATE) u r = 2 ∧ s.netHeld = [] ∧
      s.niWaits = []) ∧
    (∃ s : State, ∃ u r v : Nat, s.coreUp = true ∧ okNi u r = true ∧ s.rd (.erg .RTR_STAT_STATE) u r = 2 ∧ isPermutation
      (slice v 2 18) = true ∧ s.imageActive = true) ∧
    (∃ s : State, ∃ u r reg : Nat, s.coreUp = true ∧ okNi u r = true ∧ reg < 1024 ∧ s.rd (.erg .RTR_STAT_STATE) u r = 2) ∧
    (∃ s : State, ∃ u r v : Nat, s.coreUp = true ∧ okNi u r = true ∧ s.rd (.erg .RTR_STAT_STATE) u r = 2 ∧ isPermutation
      (slice v 2 18) = true ∧ s.imageActive = false) ∧
    (∃ s : State, ∃ u r v : Nat, s.coreUp = true ∧ okNi u r = true ∧ s.rd (.erg .RTR_STAT_STATE) u r = 2 ∧ isPermutation
      (slice v 2 18) = false) :=
  ⟨⟨(w upl : State), 0, 0, by decide +kernel⟩,
   ⟨(w (more upl [(.tick .STATE_STATE, 0, 0, 1)]) : State), 0, 0, by decide +kernel⟩,
   ⟨(w (more upl [(.erg .RTR_STAT_STATE, 8, 1, 1), (.erg .RTR_STAT_STATE, 8, 2, 1), (.erg .RTR_STAT_STATE, 8, 3, 2), (.erg
      .RTR_STAT_STATE, 8, 4, 2)]) : State), 8, 15, by decide +kernel⟩,
   ⟨(w (more upl [(.erg .RTR_STAT_STATE, 8, 15, 1)]) : State), 8, 15, by decide +kernel⟩,
   ⟨(w (more upl [(.erg .RTR_STAT_STATE, 8, 15, 1)]) : State), 8, 15, by decide +kernel⟩,
   ⟨(w (more upl [(.erg .RTR_STAT_STATE, 8, 15, 2)]) : State), 8, 15, by decide +kernel⟩,
   ⟨(w (more upl [(.erg .RTR_STAT_STATE, 8, 15, 1)]) : State), 8, 15, by decide +kernel⟩,
   ⟨(w (more upl [(.erg .RTR_STAT_STATE, 8, 15, 2)]) : State), 8, 15, by decide +kernel⟩,
   ⟨(w (more bootl [(.erg .RTR_STAT_STATE, 8, 15, 2), (.cfg .STAT_ACTIVE, 0, 0, 1)]) : State), 8, 15, (4 * 181896),
      by decide +kernel⟩,
   ⟨(w (more upl [(.erg .RTR_STAT_STATE, 8, 15, 2)]) : State), 8, 15, 1023, by decide +kernel⟩,
   ⟨(w (more upl [(.erg .RTR_STAT_STATE, 8, 15, 2)]) : State), 8, 15, (4 * 181896), by decide +kernel⟩,
   ⟨(w (more upl [(.erg .RTR_STAT_STATE, 8, 15, 2)]) : State), 8, 15, 0, by decide +kernel⟩⟩

/-- What the clauses of Obligations.RoutersAndDomains ask can be met. -/
theorem witness_RoutersAndDomains_2 :
    (∃ s : State, ∃ u r reg : Nat, s.coreUp = true ∧ okNi u r = true ∧ reg ≤ 1024 ∧ s.rd (.erg .RTR_STAT_STATE) u r ≠ 2) ∧
    (∃ s : State, ∃ d k : Nat, s.coreUp = true ∧ d < Config.n ∧ k ≤ 16 ∧ s.tick = 2) ∧
    (∃ s : State, ∃ d k : Nat, s.coreUp = true ∧ d < Config.n ∧ k < 16 ∧ s.tick ≠ 2 ∧ s.rd (.erg .fabState) (1 + d) k = 0) ∧
    (∃ s : State, ∃ d : Nat, s.coreUp = true ∧ d < Config.n ∧ s.tick ≠ 2 ∧ s.domainOf (1 + d) = 0) ∧
    (∃ s : State, ∃ d k : Nat, s.coreUp = true ∧ d < Config.n ∧ k < 16 ∧ s.rd (.erg .fabState) (1 + d) k = 1) ∧
    (∃ s : State, ∃ d : Nat, s.coreUp = true ∧ d < Config.n ∧ s.domainOf (1 + d) = 1) :=
  ⟨⟨(w upl : State), 0, 0, (1024 - 1), by decide +kernel⟩,
   ⟨(w (more upl [(.erg .fabState, 8, 15, 1), (.tick .STATE_STATE, 0, 0, 2)]) : State), 7, 15, by decide +kernel⟩,
   ⟨(w upl : State), 0, 0, by decide +kernel⟩,
   ⟨(w upl : State), 0, by decide +kernel⟩,
   ⟨(w (more upl [(.erg .fabState, 8, 15, 1)]) : State), 7, 15, by decide +kernel⟩,
   ⟨(w (more upl [(.erg .DOM_STAT_STATE, 8, 0, 1)]) : State), 7, by decide +kernel⟩⟩

/-- What the clauses of Obligations.QueueRequests ask can be met. -/
theorem witness_QueueRequests :
    (∃ s : State, ∃ p : Pkt, ∃ u : QUpset, Reaches s p ∧ QueueRequest p 0 ∧ Trusted (s.strike u) (p.addr % 65536) ∧
      (s.strike u).pushCheck (p.addr % 65536) p.cls (s.logicalNi p.src) p.prio (endBit p) (s.pushedItems p).length =
      .stored) ∧
    (∃ s : State, ∃ p : Pkt, ∃ u : QUpset, Reaches s p ∧ QueueRequest p 0 ∧ Trusted (s.strike u) (p.addr % 65536) ∧ p.cls
      = 0 ∧ (s.strike u).pushCheck (p.addr % 65536) 0 (s.logicalNi p.src) p.prio (endBit p) (s.pushedItems p).length =
      .stored) ∧
    (∃ s : State, ∃ p : Pkt, ∃ u : QUpset, ∃ c : Nat, Reaches s p ∧ QueueRequest p 0 ∧ Trusted (s.strike u) (p.addr %
      65536) ∧ (s.strike u).pushCheck (p.addr % 65536) p.cls (s.logicalNi p.src) p.prio (endBit p) (s.pushedItems
      p).length = .refused c) ∧
    (∃ s : State, ∃ p : Pkt, ∃ u : QUpset, Reaches s p ∧ QueueRequest p 0 ∧ Trusted (s.strike u) (p.addr % 65536) ∧
      (s.tick = 1 ∨ s.tick = 2) ∧ (s.strike u).pushCheck (p.addr % 65536) p.cls (s.logicalNi p.src) p.prio (endBit p)
      (s.pushedItems p).length = .voids) ∧
    (∃ s : State, ∃ p : Pkt, ∃ u : QUpset, Reaches s p ∧ QueueRequest p 1 ∧ Trusted (s.strike u) (p.addr % 65536) ∧
      s.popCheck (p.addr % 65536) p.cls (s.logicalNi p.src) = 0 ∧ s.qState (p.addr % 65536) ≠ 3) ∧
    (∃ s : State, ∃ p : Pkt, ∃ u : QUpset, Reaches s p ∧ QueueRequest p 1 ∧ Trusted (s.strike u) (p.addr % 65536) ∧
      s.popCheck (p.addr % 65536) p.cls (s.logicalNi p.src) = 0 ∧ s.qState (p.addr % 65536) = 3) ∧
    (∃ s : State, ∃ p : Pkt, ∃ u : QUpset, Reaches s p ∧ QueueRequest p 1 ∧ Trusted (s.strike u) (p.addr % 65536) ∧
      s.popCheck (p.addr % 65536) p.cls (s.logicalNi p.src) ≠ 0) ∧
    (∃ s : State, ∃ p : Pkt, ∃ u : QUpset, Reaches s p ∧ QueueRequest p 2 ∧ Trusted (s.strike u) (p.addr % 65536) ∧
      s.peekCheck (p.addr % 65536) p.cls = 0 ∧ s.qState (p.addr % 65536) ≠ 3) ∧
    (∃ s : State, ∃ p : Pkt, ∃ u : QUpset, Reaches s p ∧ QueueRequest p 2 ∧ Trusted (s.strike u) (p.addr % 65536) ∧
      s.peekCheck (p.addr % 65536) p.cls = 0 ∧ s.qState (p.addr % 65536) = 3) ∧
    (∃ s : State, ∃ p : Pkt, ∃ u : QUpset, Reaches s p ∧ QueueRequest p 2 ∧ Trusted (s.strike u) (p.addr % 65536) ∧
      s.peekCheck (p.addr % 65536) p.cls ≠ 0) ∧
    (∃ s : State, ∃ p : Pkt, ∃ u : QUpset, ∃ op : Nat, ∃ c : Instr, Reaches s p ∧ QueueRequest p op ∧ ¬Trusted (s.strike
      u) (p.addr % 65536) ∧ (op, c) ∈ [(0, Instr.queuePush p u), (1, .queuePop p u), (2, .queuePeek p u)]) ∧
    (∃ s : State, ∃ p : Pkt, Reaches s p ∧ QueueRequest p 3) :=
  ⟨⟨({ w (more upl [(.qm .QSTAT_STATE, 0, 65535, 1), (.qm .QCFG_QUOTA, 0, 65535, 100), (.qm .QCFG_MODE, 0, 65535, 1)]) with net := [⟨0, false, 3, 3, 4, 0, 0, 0, 0, 0, 65535, 1, 0, 0, 0, 0, 4, 0, [⟨6, 0, 0, 0, 0⟩]⟩] } : State), ⟨0, false, 3, 3, 4, 0, 0, 0, 0, 0, 65535, 1, 0, 0, 0, 0, 4, 0, [⟨6, 0, 0, 0, 0⟩]⟩, ⟨[], []⟩, by unfold QueueRequest Reaches Trusted; decide +kernel⟩,
   ⟨({ w (more upl [(.qm .QSTAT_STATE, 0, 65535, 1), (.qm .QCFG_QUOTA, 0, 65535, 100), (.qm .QCFG_MODE, 0, 65535, 1)]) with net := [⟨0, false, 3, 3, 4, 0, 0, 0, 0, 0, 65535, 1, 0, 0, 0, 0, 4, 0, [⟨6, 0, 0, 0, 0⟩]⟩] } : State), ⟨0, false, 3, 3, 4, 0, 0, 0, 0, 0, 65535, 1, 0, 0, 0, 0, 4, 0, [⟨6, 0, 0, 0, 0⟩]⟩, ⟨[], []⟩, by unfold QueueRequest Reaches Trusted; decide +kernel⟩,
   ⟨({ w upl with net := [⟨1, false, 3, 3, 4, 0, 0, 0, 0, 0, 65535, 1, 0, 0, 0, 0, 0, 0, [⟨6, 0, 0, 0, 0⟩]⟩] } : State), ⟨1, false, 3, 3, 4, 0, 0, 0, 0, 0, 65535, 1, 0, 0, 0, 0, 0, 0, [⟨6, 0, 0, 0, 0⟩]⟩, ⟨[], []⟩, 1, by unfold QueueRequest Reaches Trusted; decide +kernel⟩,
   ⟨({ w (more upl [(.tick .STATE_STATE, 0, 0, 2), (.qm .QSTAT_STATE, 0, 65535, 1), (.qm .QCFG_QUOTA, 0, 65535, 1), (.qm .QCFG_MODE, 0, 65535, 1)]) with net := [⟨0, false, 3, 3, 4, 0, 0, 0, 0, 0, 65535, 1, 0, 0, 0, 0, 4, 0, [⟨6, 0, 0, 0, 0⟩]⟩], queues := [qp 65535 3 9 .staged (List.replicate 64 1)] } : State), ⟨0, false, 3, 3, 4, 0, 0, 0, 0, 0, 65535, 1, 0, 0, 0, 0, 4, 0, [⟨6, 0, 0, 0, 0⟩]⟩, ⟨[], []⟩, by unfold QueueRequest Reaches Trusted; decide +kernel⟩,
   ⟨({ w (more upl [(.qm .QSTAT_STATE, 0, 65535, 1), (.qm .QCFG_QUOTA, 0, 65535, 100), (.qm .QCFG_MODE, 0, 65535, 1), (.qm .QCFG_CONSUMER, 0, 65535, 16), (.cfg .DIE_LOGICAL, 1, 0, 0)]) with net := [⟨0, false, 3, 16, 4, 0, 0, 0, 0, 0, 65535, 1, 0, 0, 0, 0, 1, 0, []⟩], queues := [(qp 65535 3 9 .visible [7, 8])] } : State), ⟨0, false, 3, 16, 4, 0, 0, 0, 0, 0, 65535, 1, 0, 0, 0, 0, 1, 0, []⟩, ⟨[], []⟩, by unfold QueueRequest Reaches Trusted; decide +kernel⟩,
   ⟨({ w (more upl [(.qm .QSTAT_STATE, 0, 65535, 3)]) with net := [⟨1, false, 3, 3, 4, 0, 0, 0, 0, 0, 65535, 1, 0, 0, 0, 0, 1, 0, []⟩] } : State), ⟨1, false, 3, 3, 4, 0, 0, 0, 0, 0, 65535, 1, 0, 0, 0, 0, 1, 0, []⟩, ⟨[], []⟩, by unfold QueueRequest Reaches Trusted; decide +kernel⟩,
   ⟨({ w upl with net := [⟨1, false, 3, 3, 4, 0, 0, 0, 0, 0, 65535, 1, 0, 0, 0, 0, 1, 0, []⟩] } : State), ⟨1, false, 3, 3, 4, 0, 0, 0, 0, 0, 65535, 1, 0, 0, 0, 0, 1, 0, []⟩, ⟨[], []⟩, by unfold QueueRequest Reaches Trusted; decide +kernel⟩,
   ⟨({ w (more upl [(.qm .QSTAT_STATE, 0, 65535, 1), (.qm .QCFG_QUOTA, 0, 65535, 100)]) with net := [⟨1, false, 3, 3, 4, 0, 0, 0, 0, 0, 65535, 1, 0, 0, 0, 0, 2, 0, []⟩], queues := [(qp 65535 3 9 .visible [7, 8])] } : State), ⟨1, false, 3, 3, 4, 0, 0, 0, 0, 0, 65535, 1, 0, 0, 0, 0, 2, 0, []⟩, ⟨[], []⟩, by unfold QueueRequest Reaches Trusted; decide +kernel⟩,
   ⟨({ w (more upl [(.qm .QSTAT_STATE, 0, 65535, 3)]) with net := [⟨1, false, 3, 3, 4, 0, 0, 0, 0, 0, 65535, 1, 0, 0, 0, 0, 2, 0, []⟩], queues := [(qp 65535 3 9 .visible [7, 8])] } : State), ⟨1, false, 3, 3, 4, 0, 0, 0, 0, 0, 65535, 1, 0, 0, 0, 0, 2, 0, []⟩, ⟨[], []⟩, by unfold QueueRequest Reaches Trusted; decide +kernel⟩,
   ⟨({ w upl with net := [⟨1, false, 3, 3, 4, 0, 0, 0, 0, 0, 65535, 1, 0, 0, 0, 0, 2, 0, []⟩] } : State), ⟨1, false, 3, 3, 4, 0, 0, 0, 0, 0, 65535, 1, 0, 0, 0, 0, 2, 0, []⟩, ⟨[], []⟩, by unfold QueueRequest Reaches Trusted; decide +kernel⟩,
   ⟨({ w upl with net := [⟨1, false, 3, 3, 4, 0, 0, 0, 0, 0, 65535, 1, 0, 0, 0, 0, 2, 0, []⟩] } : State), ⟨1, false, 3, 3, 4, 0, 0, 0, 0, 0, 65535, 1, 0, 0, 0, 0, 2, 0, []⟩, ⟨[], [65535]⟩, 2, (.queuePeek ⟨1, false, 3, 3, 4, 0, 0, 0, 0, 0, 65535, 1, 0, 0, 0, 0, 2, 0, []⟩ ⟨[], [65535]⟩), by unfold QueueRequest Reaches Trusted; decide +kernel⟩,
   ⟨({ w (more upl [(.qm .QSTAT_STATE, 0, 65535, 1), (.qm .QCFG_QUOTA, 0, 65535, 100)]) with net := [⟨1, false, 3, 3, 4, 0, 0, 0, 0, 0, 65535, 1, 0, 0, 0, 0, 3, 0, []⟩] } : State), ⟨1, false, 3, 3, 4, 0, 0, 0, 0, 0, 65535, 1, 0, 0, 0, 0, 3, 0, []⟩, by unfold QueueRequest Reaches; decide +kernel⟩⟩

/-- What the clauses of Obligations.QueueRegisterPaths ask can be met. -/
theorem witness_QueueRegisterPaths :
    (∃ s : State, ∃ q src : Nat, ∃ u : QUpset, ∃ h : QPkt, s.coreUp = true ∧ q < 65536 ∧ src < 1024 ∧ Trusted (s.strike u)
      q ∧ s.popCheck q 2 src = 0 ∧ s.qState q ≠ 3 ∧ (s.strike u).qHead q = some h ∧ h.items ≠ []) ∧
    (∃ s : State, ∃ q src : Nat, ∃ u : QUpset, s.coreUp = true ∧ q < 65536 ∧ src < 1024 ∧ Trusted (s.strike u) q ∧
      s.popCheck q 2 src = 0 ∧ (s.qState q = 3 ∨ (s.strike u).qHead q = none)) ∧
    (∃ s : State, ∃ q src : Nat, ∃ u : QUpset, s.coreUp = true ∧ q < 65536 ∧ src < 1024 ∧ Trusted (s.strike u) q ∧
      s.popCheck q 2 src ≠ 0) ∧
    (∃ s : State, ∃ q src : Nat, ∃ u : QUpset, ∃ h : QPkt, s.coreUp = true ∧ q < 65536 ∧ src < 1024 ∧ Trusted (s.strike u)
      q ∧ s.peekCheck q 2 = 0 ∧ s.qState q ≠ 3 ∧ (s.strike u).qHead q = some h ∧ h.items ≠ []) ∧
    (∃ s : State, ∃ q src : Nat, ∃ u : QUpset, s.coreUp = true ∧ q < 65536 ∧ src < 1024 ∧ Trusted (s.strike u) q ∧
      s.peekCheck q 2 ≠ 0) ∧
    (∃ s : State, ∃ q src : Nat, s.coreUp = true ∧ q < 65536 ∧ src < 1024 ∧ Trusted s q ∧ s.pushCheck q 2 src (s.rd (.qm
      .QCFG_HOSTPRIO) 0 q) false 1 = .stored) ∧
    (∃ s : State, ∃ q src : Nat, s.coreUp = true ∧ q < 65536 ∧ src < 1024 ∧ Trusted s q ∧ s.pushCheck q 2 src (s.rd (.qm
      .QCFG_HOSTPRIO) 0 q) true 1 = .stored) ∧
    (∃ s : State, ∃ q src : Nat, s.coreUp = true ∧ q < 65536 ∧ src < 1024 ∧ Trusted s q) ∧
    (∃ s : State, ∃ q src prio : Nat, s.coreUp = true ∧ q < 65536 ∧ src < 1024 ∧ prio < 4) :=
  ⟨⟨({ w (more upl [(.qm .QSTAT_STATE, 0, 65535, 1), (.qm .QCFG_QUOTA, 0, 65535, 100)]) with queues := [(qp 65535 3 9 .visible [7, 8])] } : State), 65535, 1023, ⟨[], []⟩, (qp 65535 3 9 .visible [7, 8]), by unfold Trusted; decide +kernel⟩,
   ⟨(w (more upl [(.qm .QSTAT_STATE, 0, 65535, 1), (.qm .QCFG_QUOTA, 0, 65535, 100)]) : State), 65535, 1023, ⟨[], []⟩,
      by unfold Trusted; decide +kernel⟩,
   ⟨(w upl : State), (65536 - 1), (1024 - 1), ⟨[], []⟩, by unfold Trusted; decide +kernel⟩,
   ⟨({ w (more upl [(.qm .QSTAT_STATE, 0, 65535, 1), (.qm .QCFG_QUOTA, 0, 65535, 100)]) with queues := [(qp 65535 3 9 .visible [7, 8])] } : State), 65535, 1023, ⟨[], []⟩, (qp 65535 3 9 .visible [7, 8]), by unfold Trusted; decide +kernel⟩,
   ⟨({ w upl with queues := [(qp 65535 3 9 .visible [7, 8])] } : State), 65535, 1023, ⟨[], []⟩, by unfold Trusted; decide +kernel⟩,
   ⟨(w (more upl [(.qm .QSTAT_STATE, 0, 65535, 1), (.qm .QCFG_QUOTA, 0, 65535, 100)]) : State), 65535, 1023,
      by unfold Trusted; decide +kernel⟩,
   ⟨({ w (more upl [(.qm .QSTAT_STATE, 0, 65535, 1), (.qm .QCFG_QUOTA, 0, 65535, 100)]) with queues := [(qp 65535 0 1023 .opened [7])] } : State), 65535, 1023, by unfold Trusted; decide +kernel⟩,
   ⟨(w (more upl [(.qm .QSTAT_STATE, 0, 65535, 1), (.qm .QCFG_QUOTA, 0, 65535, 100)]) : State), 65535, 1023,
      by unfold Trusted; decide +kernel⟩,
   ⟨({ w (more upl [(.qm .QSTAT_STATE, 0, 65535, 1), (.qm .QCFG_QUOTA, 0, 65535, 100)]) with queues := [(qp 65535 3 1023 .opened [7])] } : State), 65535, 1023, 3, by decide +kernel⟩⟩

/-- What the clauses of Obligations.QueueStateCommands ask can be met. -/
theorem witness_QueueStateCommands :
    (∃ s : State, ∃ q : Nat, s.coreUp = true ∧ q < 65536 ∧ (s.qTick q && s.tickLive) = false) ∧
    (∃ s : State, ∃ q : Nat, s.coreUp = true ∧ q < 65536 ∧ (s.qTick q && s.tickLive) = true) ∧
    (∃ s : State, ∃ q : Nat, s.coreUp = true ∧ q < 65536 ∧ s.qState q = 4) ∧
    (∃ s : State, ∃ q v : Nat, s.coreUp = true ∧ q < 65536 ∧ v < 2 ^ 48 ∧ s.qState q = 0 ∧ s.noticeRules q v = true) ∧
    (∃ s : State, ∃ q v : Nat, s.coreUp = true ∧ q < 65536 ∧ v < 2 ^ 48 ∧ (s.qState q ≠ 0 ∨ s.noticeRules q v = false)) ∧
    (∃ s : State, ∃ v : Nat, s.coreUp = true ∧ v % 2 = 0) ∧
    (∃ s : State, ∃ v : Nat, s.coreUp = true ∧ v % 2 = 1) :=
  ⟨⟨(w (more upl [(.qm .QSTAT_STATE, 0, 65535, 1)]) : State), 65535, by decide +kernel⟩,
   ⟨(w (more upl [(.tick .STATE_STATE, 0, 0, 2), (.qm .QCFG_MODE, 0, 65535, 1)]) : State), 65535, by decide +kernel⟩,
   ⟨(w (more upl [(.qm .QSTAT_STATE, 0, 65535, 4)]) : State), 65535, by decide +kernel⟩,
   ⟨(w upl : State), 0, 0, by decide +kernel⟩,
   ⟨(w (more upl [(.qm .QSTAT_STATE, 0, 65535, 2)]) : State), 65535, 5, by decide +kernel⟩,
   ⟨(w (more upl [(.qm .QSTAT_STATE, 0, 65535, 2)]) : State), 4, by decide +kernel⟩,
   ⟨(w upl : State), 1, by decide +kernel⟩⟩

/-- What the clauses of Obligations.EnginesAndFrames ask can be met. -/
theorem witness_EnginesAndFrames_1 :
    (∃ s : State, ∃ p t : Nat, ∃ l : List Nat, s.coreUp = true ∧ FrameBytes p t l ∧ s.portUp p = false) ∧
    (∃ s : State, ∃ p t : Nat, ∃ l : List Nat, s.coreUp = true ∧ FrameBytes p t l ∧ s.portUp p = true ∧ (l.length < 18 ∨
      fromLe (l.drop (l.length - 4)) ≠ crc32 (l.take (l.length - 4)))) ∧
    (∃ s : State, ∃ p t : Nat, ∃ l : List Nat, s.coreUp = true ∧ FrameBytes p t l ∧ s.portUp p = true ∧ 18 ≤ l.length ∧
      fromLe (l.drop (l.length - 4)) = crc32 (l.take (l.length - 4)) ∧ ¬AddressedTo s p l) ∧
    (∃ s : State, ∃ p t : Nat, ∃ l : List Nat, s.coreUp = true ∧ FrameBytes p t l ∧ AddressedTo s p l ∧ ((parseFrame
      l).payload.length < 16 ∨ (parseFrame l).payload.getD 0 0 / 16 ≠ 1 ∨ ((parseFrame l).payload.getD 0 0 % 16 ≠ 2 ∧
      ((parseFrame l).payload.getD 0 0 % 16 ≠ 3 ∨ s.groupPort p = false)) ∨ (parseFrame l).payload.getD 0 0 % 16 = 2 ∧
      statusParse p l = none)) ∧
    (∃ s : State, ∃ p t : Nat, ∃ l : List Nat, ∃ es : List RxEntry, ∃ rest : List Nat, s.coreUp = true ∧ FrameBytes p t l
      ∧ AddressedTo s p l ∧ 16 ≤ (parseFrame l).payload.length ∧ (parseFrame l).payload.getD 0 0 = 0x12 ∧ statusParse
      p l = some (es, rest) ∧ ¬PayloadCheck (parseFrame l).payload rest.length) ∧
    (∃ s : State, ∃ p t : Nat, ∃ l r rest : List Nat, s.coreUp = true ∧ FrameBytes p t l ∧ AddressedTo s p l ∧ 16 ≤
      (parseFrame l).payload.length ∧ (parseFrame l).payload.getD 0 0 = 0x13 ∧ s.groupPort p = true ∧ parseRecord
      ((parseFrame l).payload.drop 16) = some (r, rest) ∧ PayloadCheck (parseFrame l).payload rest.length ∧ (∀ b ∈
      rest, b = 0)) ∧
    (∃ s : State, ∃ p t : Nat, ∃ l : List Nat, ∃ es : List RxEntry, s.coreUp = true ∧ FrameBytes p t l ∧ AcceptsStatus s p
      l es ∧ s.tick ≠ 2 ∧ s.tick ≠ 5) ∧
    (∃ s : State, ∃ p t : Nat, ∃ l : List Nat, ∃ es : List RxEntry, s.coreUp = true ∧ FrameBytes p t l ∧ AcceptsStatus s p
      l es ∧ (s.tick = 2 ∧ s.boundaryAt (s.rd (.tick .kNext)) ≤ s.stamp p t ∨ s.haltHolds = true)) ∧
    (∃ s : State, ∃ p t : Nat, ∃ l : List Nat, ∃ e : RxEntry, s.coreUp = true ∧ FrameBytes p t l ∧ AcceptsStatus s p l [e]
      ∧ TakesStatus s (s.stamp p t) ∧ s.classify e.ctx p e.mac e.seq e.words.length = .onTime) ∧
    (∃ s : State, ∃ p t : Nat, ∃ l : List Nat, ∃ e : RxEntry, s.coreUp = true ∧ FrameBytes p t l ∧ AcceptsStatus s p l [e]
      ∧ TakesStatus s (s.stamp p t) ∧ s.classify e.ctx p e.mac e.seq e.words.length = .late) ∧
    (∃ s : State, ∃ p t : Nat, ∃ l : List Nat, ∃ e : RxEntry, ∃ c : StatusClass, ∃ lo : Nat, s.coreUp = true ∧ FrameBytes
      p t l ∧ AcceptsStatus s p l [e] ∧ TakesStatus s (s.stamp p t) ∧ s.classify e.ctx p e.mac e.seq e.words.length =
      c ∧ (c, lo) ∈ [(StatusClass.bad, 0), (.duplicate, 16)]) ∧
    (∃ s : State, ∃ p t : Nat, ∃ l : List Nat, ∃ e : RxEntry, s.coreUp = true ∧ FrameBytes p t l ∧ AcceptsStatus s p l [e]
      ∧ TakesStatus s (s.stamp p t) ∧ s.classify e.ctx p e.mac e.seq e.words.length = .unmatched) :=
  ⟨⟨(w upl : State), 0, 0, [], by unfold FrameBytes; decide +kernel⟩,
   ⟨(w (more upl [(.pp .STAT_STATE, 0, 5, 4)]) : State), 5, 0, (List.replicate 18 1), by unfold FrameBytes; decide +kernel⟩,
   ⟨(w (more upl [(.pp .STAT_STATE, 0, 5, 4), (.pp .MAC_ADDR, 0, 5, macD), (.pp .CVN_ETYPE, 0, 5, 0x88B5)]) : State), 5, 0,
      (ethFrame 5 macS 0x88B5 (List.replicate 46 0)), by unfold AddressedTo FrameBytes; decide +kernel⟩,
   ⟨(w (more upl [(.pp .STAT_STATE, 0, 5, 4), (.pp .MAC_ADDR, 0, 5, macD), (.pp .CVN_ETYPE, 0, 5, 0x88B5)]) : State), 5, 7,
      (ethFrame macD macS 0x88B5 (List.replicate 46 0)), by unfold AddressedTo FrameBytes; decide +kernel⟩,
   ⟨(w (more upl [(.pp .STAT_STATE, 0, 5, 4), (.pp .MAC_ADDR, 0, 5, macD), (.pp .CVN_ETYPE, 0, 5, 0x88B5)]) : State), 5, 7,
      (ethFrame macD macS 0x88B5 (cvnHead 0x12 1 ++ [0, 0, 0, 0] ++ [0, 5, 0, 0, 0, 9, 1, 0] ++ beBytes 6 77)), [⟨5,
      macS, 5, 9, 0, [77]⟩], [], by unfold AddressedTo PayloadCheck FrameBytes; decide +kernel⟩,
   ⟨(w (more upl [(.pp .STAT_STATE, 0, 5, 4), (.pp .MAC_ADDR, 0, 5, macD), (.pp .CVN_ETYPE, 0, 5, 0x88B5), (.tick
      .GROUP_EN, 0, 0, 1), (.tick .GROUP_PORT, 0, 0, 5)]) : State), 5, 7, (ethFrame macD macS 0x88B5 (cvnBody 0x13 1
      (beBytes 6 2 ++ beBytes 6 0 ++ beBytes 6 0))), [2, 0, 0], [],
      by unfold AddressedTo PayloadCheck FrameBytes; decide +kernel⟩,
   ⟨(w (more upl [(.pp .STAT_STATE, 0, 5, 4), (.pp .MAC_ADDR, 0, 5, macD), (.pp .CVN_ETYPE, 0, 5, 0x88B5)]) : State), 5, 7,
      (ethFrame macD macS 0x88B5 (cvnBody 0x12 1 ([0, 5, 0, 0, 0, 9, 1, 0] ++ beBytes 6 77))), [⟨5, macS, 5, 9, 0,
      [77]⟩], by decide +kernel, by unfold FrameBytes; decide +kernel, ⟨by unfold AddressedTo; decide +kernel,
      by decide +kernel, by decide +kernel, [], by decide +kernel, by decide +kernel,
      by unfold PayloadCheck; decide +kernel⟩, by decide +kernel, by decide +kernel⟩,
   ⟨(w (more upl [(.pp .STAT_STATE, 0, 5, 4), (.pp .MAC_ADDR, 0, 5, macD), (.pp .CVN_ETYPE, 0, 5, 0x88B5), (.tick
      .STATE_STATE, 0, 0, 2)]) : State), 5, (2 ^ 79), (ethFrame macD macS 0x88B5 (cvnBody 0x12 1 ([0, 5, 0, 0, 0, 9,
      1, 0] ++ beBytes 6 77))), [⟨5, macS, 5, 9, 0, [77]⟩], by decide +kernel, by unfold FrameBytes; decide +kernel,
      ⟨by unfold AddressedTo; decide +kernel, by decide +kernel, by decide +kernel, [], by decide +kernel,
      by decide +kernel, by unfold PayloadCheck; decide +kernel⟩, by decide +kernel⟩,
   ⟨({ w (more upl [(.pp .STAT_STATE, 0, 5, 4), (.pp .MAC_ADDR, 0, 5, macD), (.pp .CVN_ETYPE, 0, 5, 0x88B5), (.tick .STATE_STATE, 0, 0, 2), (.tick .kNext, 0, 0, 5), (.tick .PERIOD_P, 0, 0, 1000000)]) with ctx := [(320, 1 + 5 * 2 + 2 ^ 23), (321, macS), (325, 9)], exchanges := [⟨5, 9, false, 0, 0⟩] } : State), 5, 7, (ethFrame macD macS 0x88B5 (cvnBody 0x12 1 ([0, 5, 0, 0, 0, 9, 1, 0] ++ beBytes 6 77))), ⟨5, macS, 5, 9, 0, [77]⟩, by decide +kernel, by unfold FrameBytes; decide +kernel, ⟨by unfold AddressedTo; decide +kernel, by decide +kernel, by decide +kernel, [], by decide +kernel, by decide +kernel, by unfold PayloadCheck; decide +kernel⟩, by unfold TakesStatus; decide +kernel, by decide +kernel⟩,
   ⟨({ w (more upl [(.pp .STAT_STATE, 0, 5, 4), (.pp .MAC_ADDR, 0, 5, macD), (.pp .CVN_ETYPE, 0, 5, 0x88B5), (.tick .STATE_STATE, 0, 0, 2), (.tick .kNext, 0, 0, 5), (.tick .PERIOD_P, 0, 0, 1000000)]) with ctx := [(320, 1 + 5 * 2 + 2 ^ 23), (321, macS), (325, 9)] } : State), 5, 7, (ethFrame macD macS 0x88B5 (cvnBody 0x12 1 ([0, 5, 0, 0, 0, 9, 1, 0] ++ beBytes 6 77))), ⟨5, macS, 5, 9, 0, [77]⟩, by decide +kernel, by unfold FrameBytes; decide +kernel, ⟨by unfold AddressedTo; decide +kernel, by decide +kernel, by decide +kernel, [], by decide +kernel, by decide +kernel, by unfold PayloadCheck; decide +kernel⟩, by unfold TakesStatus; decide +kernel, by decide +kernel⟩,
   ⟨({ w (more upl [(.pp .STAT_STATE, 0, 5, 4), (.pp .MAC_ADDR, 0, 5, macD), (.pp .CVN_ETYPE, 0, 5, 0x88B5), (.tick .STATE_STATE, 0, 0, 2), (.tick .kNext, 0, 0, 5), (.tick .PERIOD_P, 0, 0, 1000000)]) with ctx := [(320, 1 + 5 * 2 + 2 ^ 23), (321, macS), (325, 9)] } : State), 5, 7, (ethFrame macD macS 0x88B5 (cvnBody 0x12 1 ([0, 5, 0, 0, 0, 7, 1, 0] ++ beBytes 6 77))), ⟨5, macS, 5, 7, 0, [77]⟩, .bad, 0, by decide +kernel, by unfold FrameBytes; decide +kernel, ⟨by unfold AddressedTo; decide +kernel, by decide +kernel, by decide +kernel, [], by decide +kernel, by decide +kernel, by unfold PayloadCheck; decide +kernel⟩, by unfold TakesStatus; decide +kernel, by decide +kernel, by decide +kernel⟩,
   ⟨(w (more upl [(.pp .STAT_STATE, 0, 5, 4), (.pp .MAC_ADDR, 0, 5, macD), (.pp .CVN_ETYPE, 0, 5, 0x88B5), (.tick
      .STATE_STATE, 0, 0, 2), (.tick .kNext, 0, 0, 5), (.tick .PERIOD_P, 0, 0, 1000000)]) : State), 5, 7, (ethFrame
      macD macS 0x88B5 (cvnBody 0x12 1 ([0, 5, 0, 0, 0, 9, 1, 0] ++ beBytes 6 77))), ⟨5, macS, 5, 9, 0, [77]⟩,
      by decide +kernel, by unfold FrameBytes; decide +kernel, ⟨by unfold AddressedTo; decide +kernel,
      by decide +kernel, by decide +kernel, [], by decide +kernel, by decide +kernel,
      by unfold PayloadCheck; decide +kernel⟩, by unfold TakesStatus; decide +kernel, by decide +kernel⟩⟩

/-- What the clauses of Obligations.EnginesAndFrames ask can be met. -/
theorem witness_EnginesAndFrames_2 :
    (∃ s : State, ∃ src k : Nat, ∃ l : List Nat, s.coreUp = true ∧ src < 1024 ∧ k + l.length ≤ 64 * contextCount ∧ (∀ v ∈
      l, v < 2 ^ 48) ∧ s.ctxRefusals src (numbered k l) = 0 ∧ s.tickIdle = true) ∧
    (∃ s : State, ∃ src k : Nat, ∃ l : List Nat, s.coreUp = true ∧ src < 1024 ∧ k + l.length ≤ 64 * contextCount ∧ (∀ v ∈
      l, v < 2 ^ 48) ∧ s.ctxRefusals src (numbered k l) = 0 ∧ s.tickIdle = false) ∧
    (∃ s : State, ∃ src k : Nat, ∃ l : List Nat, s.coreUp = true ∧ src < 1024 ∧ k + l.length ≤ 64 * contextCount ∧ (∀ v ∈
      l, v < 2 ^ 48) ∧ s.ctxRefusals src (numbered k l) ≠ 0) ∧
    (∃ s : State, ∃ p t : Nat, s.coreUp = true ∧ p < 6 ∧ t < 2 ^ 80 ∧ (s.built.find? fun f => f.port == p) = none) ∧
    (∃ s : State, ∃ p t : Nat, ∃ f : Frame, ∃ b : List Nat, s.coreUp = true ∧ t < 2 ^ 80 ∧ BuiltFor s p f b ∧ s.portUp p =
      true ∧ s.portRoom p b.length = true) ∧
    (∃ s : State, ∃ p t : Nat, ∃ f : Frame, ∃ b : List Nat, s.coreUp = true ∧ t < 2 ^ 80 ∧ BuiltFor s p f b ∧ s.portUp p =
      true ∧ s.portRoom p b.length = false) ∧
    (∃ s : State, ∃ p t : Nat, ∃ f : Frame, ∃ b : List Nat, s.coreUp = true ∧ t < 2 ^ 80 ∧ BuiltFor s p f b ∧ s.portUp p =
      false) ∧
    (∃ s : State, ∃ p t : Nat, ∃ f : Frame, ∃ b : List Nat, s.coreUp = true ∧ t < 2 ^ 80 ∧ BuiltFor s p f b ∧ (s.portUp p
      = false ∨ s.portRoom p b.length = true) ∧ s.rd (.tick .UNIT_PRESENT) 0 0 = 1 ∧ max t (s.rd (.cvn .walkEnd)) ≤
      s.deadline ∧ removeFirst f s.built = []) ∧
    (∃ s : State, ∃ v : Nat, s.coreUp = true ∧ v % 2 = 0) ∧
    (∃ s : State, ∃ v : Nat, s.coreUp = true ∧ v % 2 = 1) :=
  ⟨⟨(w upl : State), (1024 - 1), 0, [], by decide +kernel⟩,
   ⟨(w (more upl [(.tick .STATE_STATE, 0, 0, 1)]) : State), (1024 - 1), 0, [], by decide +kernel⟩,
   ⟨(w upl : State), 1023, 6, [1], by decide +kernel⟩,
   ⟨(w upl : State), 5, 7, by decide +kernel⟩,
   ⟨({ w (more upl [(.pp .STAT_STATE, 0, 5, 4), (.pp .MAC_ADDR, 0, 5, macD), (.pp .CVN_ETYPE, 0, 5, 0x88B5)]) with built := [⟨5, macS, false, 0, 0, []⟩] } : State), 5, 7, ⟨5, macS, false, 0, 0, []⟩, (({ w (more upl [(.pp .STAT_STATE, 0, 5, 4), (.pp .MAC_ADDR, 0, 5, macD), (.pp .CVN_ETYPE, 0, 5, 0x88B5)]) with built := [⟨5, macS, false, 0, 0, []⟩] } : State).commandImage ⟨5, macS, false, 0, 0, []⟩ true), by unfold BuiltFor; decide +kernel⟩,
   ⟨({ w (more upl [(.pp .STAT_STATE, 0, 5, 4), (.pp .MAC_ADDR, 0, 5, macD), (.pp .CVN_ETYPE, 0, 5, 0x88B5)]) with built := [⟨5, macS, false, 0, 0, []⟩], portTx := List.replicate 256 ⟨5, 2, []⟩ } : State), 5, 7, ⟨5, macS, false, 0, 0, []⟩, (({ w (more upl [(.pp .STAT_STATE, 0, 5, 4), (.pp .MAC_ADDR, 0, 5, macD), (.pp .CVN_ETYPE, 0, 5, 0x88B5)]) with built := [⟨5, macS, false, 0, 0, []⟩], portTx := List.replicate 256 ⟨5, 2, []⟩ } : State).commandImage ⟨5, macS, false, 0, 0, []⟩ true), by unfold BuiltFor; decide +kernel⟩,
   ⟨({ w upl with built := [⟨5, macS, false, 0, 0, []⟩] } : State), 5, 7, ⟨5, macS, false, 0, 0, []⟩, (({ w upl with built := [⟨5, macS, false, 0, 0, []⟩] } : State).commandImage ⟨5, macS, false, 0, 0, []⟩ true), by unfold BuiltFor; decide +kernel⟩,
   ⟨({ w (more upl [(.pp .STAT_STATE, 0, 5, 4), (.pp .MAC_ADDR, 0, 5, macD), (.pp .CVN_ETYPE, 0, 5, 0x88B5), (.tick .UNIT_PRESENT, 0, 0, 1), (.tick .STATE_STATE, 0, 0, 2), (.tick .kNext, 0, 0, 5), (.tick .PERIOD_P, 0, 0, 1000000)]) with built := [⟨5, macS, false, 0, 0, []⟩] } : State), 5, 7, ⟨5, macS, false, 0, 0, []⟩, (({ w (more upl [(.pp .STAT_STATE, 0, 5, 4), (.pp .MAC_ADDR, 0, 5, macD), (.pp .CVN_ETYPE, 0, 5, 0x88B5), (.tick .UNIT_PRESENT, 0, 0, 1), (.tick .STATE_STATE, 0, 0, 2), (.tick .kNext, 0, 0, 5), (.tick .PERIOD_P, 0, 0, 1000000)]) with built := [⟨5, macS, false, 0, 0, []⟩] } : State).commandImage ⟨5, macS, false, 0, 0, []⟩ true), by unfold BuiltFor; decide +kernel⟩,
   ⟨(w upl : State), 0, by decide +kernel⟩,
   ⟨(w upl : State), 1, by decide +kernel⟩⟩

/-- What the clauses of Obligations.SliceCommands ask can be met. -/
theorem witness_SliceCommands :
    (∃ s : State, ∃ d m : Nat, s.coreUp = true ∧ d < Config.n ∧ m < 4608 ∧ s.sliceAlive d m = true) ∧
    (∃ s : State, ∃ d m : Nat, s.coreUp = true ∧ d < Config.n ∧ m < 4608 ∧ s.sliceAlive d m = false) ∧
    (∃ s : State, ∃ d : Nat, s.coreUp = true ∧ d < Config.n) :=
  ⟨⟨(w (more fab7l [(.slc .CFG_USED, 8, 4607, 1), (.nch .STAT_STATE, 8, 11, 3)]) : State), 7, 4607, by decide +kernel⟩,
   ⟨(w upl : State), (Config.n - 1), (4608 - 1), by decide +kernel⟩,
   ⟨(w (more upl [(.slc .STAT_WRAP, 8, 4607, 3)]) : State), 7, by decide +kernel⟩⟩

/-- What the clauses of Obligations.SliceArithmetic ask can be met. -/
theorem witness_SliceArithmetic :
    (∃ c : SliceCfg, ∃ k : Nat, c.split < 3 ∧ k < laneCount c.split) ∧
    (∃ c : SliceCfg, ∃ o : OperandSet, ∃ acc : Nat, c.split < 3 ∧ acc < 2 ^ 120 ∧ o.ce = false) ∧
    (∃ c : SliceCfg, ∃ o : OperandSet, ∃ k : Nat, c.split < 3 ∧ k < laneCount c.split ∧ o.ce = true) ∧
    (∃ n : Nat, ∃ v : Int, 2 * (v - quotient 2 n v * ((2 ^ n : Nat) : Int)) = ((2 ^ n : Nat) : Int) ∨ 2 * (quotient 2 n v
      * ((2 ^ n : Nat) : Int) - v) = ((2 ^ n : Nat) : Int)) ∧
    (∃ w : Nat, 0 < w) ∧
    (∃ w : Nat, 0 < w) ∧
    (∃ c : SliceCfg, ∃ k : Nat, c.split < 3 ∧ k < laneCount c.split) ∧
    (∃ w : Nat, 0 < w) :=
  ⟨⟨⟨2, true, true, 0, 0, 0, 0, false, true⟩, 0, by decide +kernel⟩,
   ⟨⟨2, true, true, 0, 0, 0, 0, false, true⟩, ⟨3, 4, 5, false, false, false⟩, 7, by decide +kernel⟩,
   ⟨⟨2, true, true, 0, 0, 0, 0, false, true⟩, ⟨3, 4, 5, true, false, false⟩, 0, by decide +kernel⟩,
   ⟨2, 10, by decide +kernel⟩,
   ⟨1, by decide +kernel⟩,
   ⟨48, by decide +kernel⟩,
   ⟨⟨2, true, true, 0, 0, 0, 0, false, true⟩, 3, by decide +kernel⟩,
   ⟨48, by decide +kernel⟩⟩

/-- What the clauses of Obligations.FabricClocks ask can be met. -/
theorem witness_FabricClocks :
    (∃ s : State, s.pending = [] ∧ s.trees ≠ [] ∧ zeroWf s.hops = true ∧ (∀ e ∈ s.isoHeld, hopInside (e.1 / 288 % 49152 %
      256) (e.1 / 288 % 49152 / 256) (e.1 % 288 / 72) (e.1 % 288 % 72) = true)) ∧
    (∃ s : State, s.pending = [] ∧ s.trees = []) ∧
    (∃ s : State, ∃ d x y q : Nat, q < 64 ∧ (∀ k, k < 5 → 0x40 ≤ s.tileSel d x y (6 * q + k)) ∧ slice (s.tileCell d x y q)
      18 2 ≠ 0) ∧
    (∃ q : Nat, q < 64) ∧
    (∃ s : State, ∃ d x y x' y' i : Nat, moved x y (i / 72) (hopReach (i % 72)) = (x', y') ∧ s.tileTree d x' y' ≠
      s.tileTree d x y) ∧
    (∃ s : State, ∃ d x y x' y' i : Nat, moved x y (i / 72) (hopReach (i % 72)) = (x', y') ∧ s.tileTree d x' y' =
      s.tileTree d x y) :=
  ⟨⟨(w (more fab7l [(.fab .TREE_DEPTH, 8, 5, 3)]) : State), by decide +kernel⟩,
   ⟨(w bootl : State), by decide +kernel⟩,
   ⟨({ w fab7l with plane := [(7 * 2 ^ 24 + 135, 2 ^ 18)] } : State), 7, 0, 0, 0, by decide +kernel⟩,
   ⟨(64 - 1), by decide +kernel⟩,
   ⟨({ w fab7l with plane := [(7 * 2 ^ 24 + 199, 5)] } : State), 7, 0, 0, 0, 1, 0, by decide +kernel⟩,
   ⟨(w fab7l : State), 7, 0, 0, 0, 1, 0, by decide +kernel⟩⟩

/-- What the clauses of Obligations.ClockDomains ask can be met. -/
theorem witness_ClockDomains :
    (∃ s : State, ∃ u x : Nat, s.coreUp = true ∧ okDom u x = true ∧ s.rd (.clk .OSC_BOTH) u = 0) ∧
    (∃ s : State, ∃ u x : Nat, s.coreUp = true ∧ okDom u x = true ∧ s.rd (.clk .OSC_BOTH) u = 1) ∧
    (∃ s : State, ∃ u x : Nat, s.coreUp = true ∧ okDom u x = true ∧ s.rd (.clk .DOM_AUTORET) u x = 1 ∧ s.rd (.clk
      .PLL_LOCK) u (s.primaryPll u x) = 1) ∧
    (∃ s : State, ∃ u x : Nat, s.coreUp = true ∧ okDom u x = true ∧ (s.rd (.clk .DOM_AUTORET) u x ≠ 1 ∨ s.rd (.clk
      .PLL_LOCK) u (s.primaryPll u x) ≠ 1)) ∧
    (∃ s : State, ∃ u x : Nat, s.coreUp = true ∧ okDom u x = true ∧ s.domainHeld u x = false ∧ s.rd (.clk .PLL_LOCK) u
      (s.primaryPll u x) ≠ 0) ∧
    (∃ s : State, ∃ u x : Nat, s.coreUp = true ∧ okDom u x = true ∧ s.domainHeld u x = true) ∧
    (∃ s : State, ∃ u x : Nat, s.coreUp = true ∧ okDom u x = true ∧ s.domainHeld u x = false ∧ s.rd (.clk .PLL_LOCK) u
      (s.primaryPll u x) = 0) ∧
    (∃ s : State, ∃ u x : Nat, s.coreUp = true ∧ okDom u x = true ∧ s.domainHeld u x = false ∧ s.fioGood u = true) ∧
    (∃ s : State, ∃ u x : Nat, s.coreUp = true ∧ okDom u x = true ∧ s.domainHeld u x = false ∧ s.fioGood u = false) :=
  ⟨⟨(w upl : State), 0, 0, by decide +kernel⟩,
   ⟨(w (more upl [(.clk .OSC_BOTH, 8, 0, 1)]) : State), 8, 15, by decide +kernel⟩,
   ⟨(w (more upl [(.clk .DOM_AUTORET, 8, 15, 1), (.clk .DOM_PLLSEL, 8, 15, 5), (.clk .PLL_LOCK, 8, 5, 1)]) : State), 8, 15,
      by decide +kernel⟩,
   ⟨(w (more upl [(.clk .OSC_BOTH, 8, 0, 1)]) : State), 8, 15, by decide +kernel⟩,
   ⟨(w (more upl [(.clk .DOM_PLLSEL, 8, 15, 5), (.clk .PLL_LOCK, 8, 5, 1)]) : State), 8, 15, by decide +kernel⟩,
   ⟨(w (more upl [(.tick .STATE_STATE, 0, 0, 1)]) : State), 0, 3, by decide +kernel⟩,
   ⟨(w upl : State), 0, 0, by decide +kernel⟩,
   ⟨(w (more upl [(.clk .OSC_FIO_RDY, 8, 0, 1)]) : State), 8, 15, by decide +kernel⟩,
   ⟨(w upl : State), 0, 0, by decide +kernel⟩⟩

/-- What the clauses of Obligations.PllCommands ask can be met. -/
theorem witness_PllCommands :
    (∃ s : State, ∃ u k : Nat, s.coreUp = true ∧ okPll u k = true ∧ s.rd (.clk .PLL_LOCK) u k = 1) ∧
    (∃ s : State, ∃ u k : Nat, s.coreUp = true ∧ okPll u k = true ∧ s.rd (.clk .PLL_LOCK) u k = 0) ∧
    (∃ s : State, ∃ u k : Nat, s.coreUp = true ∧ okPll u k = true ∧ s.rd (.clk .PLL_EN) u k = 0) ∧
    (∃ s : State, ∃ u k : Nat, s.coreUp = true ∧ okPll u k = true ∧ s.rd (.clk .PLL_EN) u k ≠ 0) ∧
    (∃ s : State, ∃ d j v : Nat, s.coreUp = true ∧ d < Config.n ∧ j < 6 ∧ s.tickIdle = true ∧ pllValid ⟨slice v 0 7, slice
      v 7 24, slice v 31 7⟩ = true ∧ (∀ x ∈ s.treesOn (1 + d) j, s.treeTakes (1 + d) x (s.rd (.clk .DOM_TDIV) (1 + d)
      x) ⟨slice v 0 7, slice v 7 24, slice v 31 7⟩ = true)) ∧
    (∃ s : State, ∃ d j v : Nat, s.coreUp = true ∧ d < Config.n ∧ j < 6 ∧ (s.tickIdle = false ∨ pllValid ⟨slice v 0 7,
      slice v 7 24, slice v 31 7⟩ = false ∨ ∃ x ∈ s.treesOn (1 + d) j, s.treeTakes (1 + d) x (s.rd (.clk .DOM_TDIV) (1
      + d) x) ⟨slice v 0 7, slice v 7 24, slice v 31 7⟩ = false)) ∧
    (∃ s : State, ∃ d x v : Nat, s.coreUp = true ∧ d < Config.n ∧ x < 16 ∧ s.tickIdle = true ∧ slice v 2 3 < 6 ∧ ¬(slice v
      2 3 = s.rd (.clk .DOM_PLLSEL) (1 + d) x ∧ slice v 5 2 = s.rd (.clk .DOM_TDIV) (1 + d) x) ∧ s.treeTakes (1 + d) x
      (slice v 5 2) (s.pllSet (1 + d) (slice v 2 3)) = true) ∧
    (∃ s : State, ∃ d x v : Nat, s.coreUp = true ∧ d < Config.n ∧ x < 16 ∧ ¬(slice v 2 3 = s.rd (.clk .DOM_PLLSEL) (1 + d)
      x ∧ slice v 5 2 = s.rd (.clk .DOM_TDIV) (1 + d) x) ∧ (s.tickIdle = false ∨ 5 < slice v 2 3 ∨ s.treeTakes (1 + d)
      x (slice v 5 2) (s.pllSet (1 + d) (slice v 2 3)) = false)) ∧
    (∃ s : State, ∃ d : Nat, ∃ tree : Bool, ∃ j v : Nat, s.coreUp = true ∧ d < Config.n ∧ j < 18 ∧ (tree = true ∧ (16 ≤ j
      ∨ slice v 2 3 = s.rd (.clk .DOM_PLLSEL) (1 + d) j ∧ slice v 5 2 = s.rd (.clk .DOM_TDIV) (1 + d) j) ∨ tree =
      false ∧ 6 ≤ j)) :=
  ⟨⟨(w (more upl [(.clk .PLL_LOCK, 8, 6, 1)]) : State), 8, 6, by decide +kernel⟩,
   ⟨(w bootl : State), 0, 0, by decide +kernel⟩,
   ⟨(w bootl : State), 0, 0, by decide +kernel⟩,
   ⟨(w (more upl [(.clk .PLL_EN, 8, 6, 1)]) : State), 8, 6, by decide +kernel⟩,
   ⟨(w upl : State), 7, 5, (40 + 2 * 2 ^ 31), by decide +kernel⟩,
   ⟨(w upl : State), (Config.n - 1), (6 - 1), 0, by decide +kernel⟩,
   ⟨(w (more upl [(.clk .PLL_LOCK, 8, 5, 1)]) : State), 7, 15, (5 * 4 + 32), by decide +kernel⟩,
   ⟨(w (more upl [(.clk .PLL_LOCK, 8, 5, 1), (.tick .STATE_STATE, 0, 0, 2)]) : State), 7, 15, (5 * 4 + 32),
      by decide +kernel⟩,
   ⟨(w bootl : State), (Config.n - 1), false, (18 - 1), 0, by decide +kernel⟩⟩

/-- What the clauses of Obligations.ReferencesAndSources ask can be met. -/
theorem witness_ReferencesAndSources_1 :
    (∃ s : State, ∃ t src : Nat, s.coreUp = true ∧ t < 2 ^ 80 ∧ src < 2 ^ 80 ∧ s.rd (.tick .SRC_SRC) = 0) ∧
    (∃ s : State, ∃ t src : Nat, Updates s t src ∧ Steps s ((t : Int) - updateTime s src)) ∧
    (∃ s : State, ∃ t src dt : Nat, Updates s t src ∧ ¬Steps s ((t : Int) - updateTime s src) ∧ 0 < dt ∧ ((t : Int) -
      updateTime s src).natAbs ≤ nsec (s.rd (.tick .SRC_LOCK_LIMIT)) ∧ s.rd (.tick .lockCount) < 15) ∧
    (∃ s : State, ∃ t src : Nat, Updates s t src ∧ ¬Steps s ((t : Int) - updateTime s src)) ∧
    (∃ s : State, ∃ t src : Nat, Updates s t src ∧ ((t : Int) - updateTime s src).natAbs ≤ nsec (s.rd (.tick
      .SRC_LOCK_LIMIT)) ∧ 15 ≤ s.rd (.tick .lockCount)) ∧
    (∃ s : State, ∃ t src : Nat, Updates s t src ∧ nsec (s.rd (.tick .SRC_LOCK_LIMIT)) < ((t : Int) - updateTime s
      src).natAbs) ∧
    (∃ s : State, ∃ c t : Nat, s.coreUp = true ∧ c < 2 ∧ t < 2 ^ 80 ∧ CanSource s c ∧ (s.rd (.clk .canNext) = 1 ∨ s.rd
      (.clk .canKnown) = 1)) ∧
    (∃ s : State, ∃ c t : Nat, s.coreUp = true ∧ c < 2 ∧ t < 2 ^ 80 ∧ CanSource s c ∧ s.rd (.clk .canNext) ≠ 1 ∧ s.rd
      (.clk .canKnown) ≠ 1) ∧
    (∃ s : State, ∃ c t : Nat, s.coreUp = true ∧ c < 2 ∧ t < 2 ^ 80 ∧ ¬CanSource s c) ∧
    (∃ s : State, ∃ c days ms : Nat, s.coreUp = true ∧ c < 2 ∧ days < 65536 ∧ ms < 2 ^ 28 ∧ CanSource s c ∧ (s.rd (.od
      .timeCob)).testBit 31 = true) ∧
    (∃ s : State, ∃ c days ms : Nat, s.coreUp = true ∧ c < 2 ∧ days < 65536 ∧ ms < 2 ^ 28 ∧ (¬CanSource s c ∨ (s.rd (.od
      .timeCob)).testBit 31 = false)) ∧
    (∃ s : State, ∃ u : Nat, s.coreUp = true ∧ u ≤ Config.n ∧ s.rd (.clk .OSC_FIO_FAIL) u = 0) :=
  ⟨⟨(w upl : State), (2 ^ 80 - 1), (2 ^ 80 - 1), by decide +kernel⟩,
   ⟨(w (more upl [(.tick .SRC_SRC, 0, 0, 2)]) : State), 0, (2 ^ 79), by unfold Steps Updates; decide +kernel⟩,
   ⟨(w (more upl [(.tick .SRC_SRC, 0, 0, 2), (.tick .STATE_STATE, 0, 0, 2)]) : State), 5, 4, 1,
      by unfold Steps Updates; decide +kernel⟩,
   ⟨(w (more upl [(.tick .SRC_SRC, 0, 0, 2), (.tick .STATE_STATE, 0, 0, 2)]) : State), 0, (2 ^ 79),
      by unfold Steps Updates; decide +kernel⟩,
   ⟨(w (more upl [(.tick .SRC_SRC, 0, 0, 2), (.tick .STATE_STATE, 0, 0, 2), (.tick .lockCount, 0, 0, 15)]) : State), 5, 4,
      by unfold Updates; decide +kernel⟩,
   ⟨(w (more upl [(.tick .SRC_SRC, 0, 0, 2), (.tick .STATE_STATE, 0, 0, 2)]) : State), 0, (2 ^ 79),
      by unfold Updates; decide +kernel⟩,
   ⟨(w (more upl [(.tick .SRC_SRC, 0, 0, 3), (.tick .SRC_CAN, 0, 0, 1), (.clk .canKnown, 0, 0, 1)]) : State), 1, 7,
      by unfold CanSource; decide +kernel⟩,
   ⟨(w (more upl [(.tick .SRC_SRC, 0, 0, 3), (.tick .SRC_CAN, 0, 0, 1)]) : State), 1, 7,
      by unfold CanSource; decide +kernel⟩,
   ⟨(w upl : State), (2 - 1), (2 ^ 80 - 1), by unfold CanSource; decide +kernel⟩,
   ⟨(w (more upl [(.tick .SRC_SRC, 0, 0, 3), (.tick .SRC_CAN, 0, 0, 1), (.od .timeCob, 0, 0, 2 ^ 31)]) : State), 1, 65535,
      1, by unfold CanSource; decide +kernel⟩,
   ⟨(w bootl : State), (2 - 1), (65536 - 1), (2 ^ 28 - 1), by unfold CanSource; decide +kernel⟩,
   ⟨(w upl : State), Config.n, by decide +kernel⟩⟩

/-- What the clauses of Obligations.ReferencesAndSources ask can be met. -/
theorem witness_ReferencesAndSources_2 :
    (∃ s : State, ∃ u : Nat, s.coreUp = true ∧ u ≤ Config.n ∧ s.rd (.clk .OSC_FIO_FAIL) u = 1) ∧
    (∃ s : State, ∃ u : Nat, s.coreUp = true ∧ u ≤ Config.n ∧ s.rd (.clk .OSC_SIO_FAIL) u = 1) ∧
    (∃ s : State, ∃ u : Nat, s.coreUp = true ∧ u ≤ Config.n ∧ s.rd (.clk .OSC_FIO_FAIL) u = 0 ∧ s.rd (.clk .OSC_SIO_FAIL)
      u = 0) ∧
    (∃ s : State, ∃ u : Nat, s.coreUp = true ∧ u ≤ Config.n ∧ s.rd (.clk .OSC_FIO_FAIL) u = 0 ∧ s.rd (.clk .OSC_SIO_FAIL)
      u = 0) ∧
    (∃ s : State, ∃ u : Nat, s.coreUp = true ∧ u ≤ Config.n ∧ s.rd (.clk .OSC_FIO_FAIL) u = 1 ∧ s.rd (.clk .OSC_SIO_FAIL)
      u = 0) ∧
    (∃ s : State, ∃ u ppm move src : Nat, s.coreUp = true ∧ u ≤ Config.n ∧ ppm < 65536 ∧ move < 3 ∧ s.rd (.clk
      .FIOTRIM_SRC) u ≠ 0 ∧ s.trimReference u src = true ∧ (src = s.rd (.clk .FIOTRIM_SRC) u ∨ src = 3 - s.rd (.clk
      .FIOTRIM_SRC) u ∧ s.trimReference u (s.rd (.clk .FIOTRIM_SRC) u) = false)) ∧
    (∃ s : State, ∃ u ppm move : Nat, s.coreUp = true ∧ u ≤ Config.n ∧ ppm < 65536 ∧ move < 3 ∧ (s.rd (.clk .FIOTRIM_SRC)
      u = 0 ∨ s.trimReference u (s.rd (.clk .FIOTRIM_SRC) u) = false ∧ s.trimReference u (3 - s.rd (.clk .FIOTRIM_SRC)
      u) = false)) ∧
    (∃ s : State, ∃ i : Nat, s.coreUp = true ∧ i < 2 ∧ s.rd (.clk .XIN_GOOD) 0 i = 0) ∧
    (∃ s : State, ∃ i : Nat, s.coreUp = true ∧ i < 2 ∧ s.rd (.clk .XIN_GOOD) 0 i ≠ 0) ∧
    (∃ s : State, ∃ i : Nat, s.coreUp = true ∧ i < 2 ∧ s.rd (.clk .XIN_FREQ) 0 i ≠ 0) ∧
    (∃ s : State, ∃ i : Nat, s.coreUp = true ∧ i < 2 ∧ s.rd (.clk .XIN_FREQ) 0 i = 0) ∧
    (∃ s : State, ∃ d i : Nat, s.coreUp = true ∧ d < Config.n ∧ i < 2 ∧ s.rd (.clk .ownRef) (1 + d) ≠ 1) :=
  ⟨⟨(w (more upl [(.clk .OSC_FIO_FAIL, 8, 0, 1)]) : State), 8, by decide +kernel⟩,
   ⟨(w (more upl [(.clk .OSC_SIO_FAIL, 8, 0, 1)]) : State), 8, by decide +kernel⟩,
   ⟨(w upl : State), Config.n, by decide +kernel⟩,
   ⟨(w upl : State), Config.n, by decide +kernel⟩,
   ⟨(w (more upl [(.clk .OSC_FIO_FAIL, 8, 0, 1)]) : State), 8, by decide +kernel⟩,
   ⟨(w (more upl [(.clk .FIOTRIM_SRC, 8, 0, 2), (.tick .SRC_SRC, 0, 0, 2), (.tick .SRC_LOCKED, 0, 0, 1)]) : State), 8,
      65535, 2, 2, by decide +kernel⟩,
   ⟨(w (more upl [(.clk .FIOTRIM_SRC, 0, 0, 0)]) : State), 0, 65535, 2, by decide +kernel⟩,
   ⟨(w upl : State), (2 - 1), by decide +kernel⟩,
   ⟨(w (more upl [(.clk .XIN_GOOD, 0, 1, 1)]) : State), 1, by decide +kernel⟩,
   ⟨(w (more upl [(.clk .XIN_FREQ, 0, 1, 10000)]) : State), 1, by decide +kernel⟩,
   ⟨(w upl : State), (2 - 1), by decide +kernel⟩,
   ⟨(w upl : State), 7, 1, by decide +kernel⟩⟩

/-- What the clauses of Obligations.ReferencesAndSources ask can be met. -/
theorem witness_ReferencesAndSources_3 :
    (∃ s : State, ∃ d : Nat, s.coreUp = true ∧ d < Config.n ∧ s.rd (.clk .ownRef) (1 + d) = 1) ∧
    (∃ s : State, ∃ d i : Nat, s.coreUp = true ∧ d < Config.n ∧ i < 2 ∧ s.rd (.clk .ownRef) (1 + d) = 1) ∧
    (∃ s : State, ∃ d : Nat, s.coreUp = true ∧ d < Config.n ∧ s.rd (.clk .ownRef) (1 + d) ≠ 1) :=
  ⟨⟨(w (more upl [(.clk .ownRef, 8, 0, 1)]) : State), (Config.n - 1), by decide +kernel⟩,
   ⟨(w (more upl [(.clk .ownRef, 8, 0, 1)]) : State), 7, 1, by decide +kernel⟩,
   ⟨(w upl : State), (Config.n - 1), by decide +kernel⟩⟩

/-- What the clauses of Obligations.DramSlotCorrectsOneSymbol ask can be met. -/
theorem witness_DramSlotCorrectsOneSymbol :
    (∃ i v : Nat, i < 2 ^ 33 ∧ v < 2 ^ 48) ∧
    (∃ i v k e : Nat, i < 2 ^ 33 ∧ v < 2 ^ 48 ∧ k < 10 ∧ 0 < e ∧ e < 256) :=
  ⟨⟨(2 ^ 33 - 1), (2 ^ 48 - 1), by decide +kernel⟩,
   ⟨(2 ^ 33 - 1), (2 ^ 48 - 1), (10 - 1), (256 - 1), by decide +kernel⟩⟩

/-- What the clauses of Obligations.DramColumns ask can be met. -/
theorem witness_DramColumns :
    (∃ s : State, ∃ q t : Nat, ∃ flips : List (Nat × Nat × Nat), ∃ w : DramWrite, ColumnAt s q t flips ∧ s.subState q = 3
      ∧ ((s.writesOf q).find? fun w => w.back) = some w ∧ (w.slots.map fun x => x.1).Nodup) ∧
    (∃ s : State, ∃ q t : Nat, ∃ flips : List (Nat × Nat × Nat), ∃ w : DramWrite, ∃ l : List DramWrite, ColumnAt s q t
      flips ∧ s.subState q = 3 ∧ WritesNext s q t ∧ s.writesOf q = w :: l ∧ (w.slots.map fun x => x.1).Nodup) ∧
    (∃ s : State, ∃ q t : Nat, ∃ flips : List (Nat × Nat × Nat), ∃ r : DramReq, ColumnAt s q t flips ∧ s.subState q = 3 ∧
      ((s.writesOf q).find? fun w => w.back) = none ∧ (s.writesOf q = [] ∨ ¬WritesNext s q t) ∧ (s.at t).nextRead q =
      some r ∧ (∀ r ∈ s.dramReqs, r.q = q → r.pkt.type ≠ 1)) ∧
    (∃ s : State, ∃ q t : Nat, ∃ flips : List (Nat × Nat × Nat), ColumnAt s q t flips ∧ s.subState q = 3 ∧ ((s.writesOf
      q).find? fun w => w.back) = none ∧ (s.writesOf q = [] ∨ ¬WritesNext s q t) ∧ (s.at t).nextRead q = none) ∧
    (∃ s : State, ∃ q t : Nat, ∃ flips : List (Nat × Nat × Nat), ColumnAt s q t flips ∧ s.subState q ≠ 3) ∧
    (∃ s : State, ∃ q : Nat, ∃ w : DramWrite, s.coreUp = true ∧ q < 8 ∧ s.subState q = 3 ∧ ((s.writesOf q).find? fun w =>
      w.back) = some w ∧ (w.slots.map fun x => x.1).Nodup) ∧
    (∃ s : State, ∃ q : Nat, s.coreUp = true ∧ q < 8 ∧ (s.subState q ≠ 3 ∨ ((s.writesOf q).find? fun w => w.back) = none)) ∧
    (∃ s : State, ∃ q : Nat, s.coreUp = true ∧ q < 8 ∧ (s.subState q ≠ 3 ∨ s.writesOf q = [])) ∧
    (∃ s : State, ∃ q : Nat, ∃ w : DramWrite, ∃ l : List DramWrite, s.coreUp = true ∧ q < 8 ∧ s.subState q = 3 ∧
      s.writesOf q = w :: l ∧ w.tries < 3) ∧
    (∃ s : State, ∃ q : Nat, ∃ w : DramWrite, ∃ l : List DramWrite, s.coreUp = true ∧ q < 8 ∧ s.subState q = 3 ∧
      s.writesOf q = w :: l ∧ 3 ≤ w.tries) :=
  ⟨⟨({ w (more upl [(.ddr .STAT_STATE, 0, 7, 3)]) with dramWrites := [⟨7, [(8 * 7, 5)], true, 0⟩] } : State), 7, 0, [], ⟨7, [(8 * 7, 5)], true, 0⟩, by unfold ColumnAt; decide +kernel⟩,
   ⟨({ w (more upl [(.ddr .STAT_STATE, 0, 7, 3)]) with dramWrites := [⟨7, [(8 * 7, 5)], false, 0⟩] } : State), 7, 0, [], ⟨7, [(8 * 7, 5)], false, 0⟩, [], by unfold ColumnAt WritesNext; decide +kernel⟩,
   ⟨({ w (more upl [(.ddr .STAT_STATE, 0, 7, 3)]) with dramReqs := [⟨7, ⟨1, false, 0, 17, 5, 0, 0, 0, 0, 0, (2 ^ 34 + 8 * 7), 1, 0, 0, 0, 0, 0, 0, []⟩, 0, 0, []⟩] } : State), 7, 7, [], ⟨7, ⟨1, false, 0, 17, 5, 0, 0, 0, 0, 0, (2 ^ 34 + 8 * 7), 1, 0, 0, 0, 0, 0, 0, []⟩, 0, 0, []⟩, by unfold ColumnAt WritesNext; decide +kernel⟩,
   ⟨(w (more upl [(.ddr .STAT_STATE, 0, 7, 3)]) : State), 7, 7, [], by unfold ColumnAt WritesNext; decide +kernel⟩,
   ⟨(w upl : State), (8 - 1), (2 ^ 80 - 1), [], by unfold ColumnAt; decide +kernel⟩,
   ⟨({ w (more upl [(.ddr .STAT_STATE, 0, 7, 3)]) with dramWrites := [⟨7, [(8 * 7, 5)], true, 0⟩] } : State), 7, ⟨7, [(8 * 7, 5)], true, 0⟩, by decide +kernel⟩,
   ⟨(w upl : State), (8 - 1), by decide +kernel⟩,
   ⟨(w upl : State), (8 - 1), by decide +kernel⟩,
   ⟨({ w (more upl [(.ddr .STAT_STATE, 0, 7, 3)]) with dramWrites := [⟨7, [(8 * 7, 5)], false, 0⟩] } : State), 7, ⟨7, [(8 * 7, 5)], false, 0⟩, [], by decide +kernel⟩,
   ⟨({ w (more upl [(.ddr .STAT_STATE, 0, 7, 3)]) with dramWrites := [⟨7, [(8 * 7, 5)], false, 3⟩] } : State), 7, ⟨7, [(8 * 7, 5)], false, 3⟩, [], by decide +kernel⟩⟩

/-- What the clauses of Obligations.DramService ask can be met. -/
theorem witness_DramService_1 :
    (∃ s : State, ∃ q : Nat, s.coreUp = true ∧ q < 8 ∧ s.rd (.clk .DOM_ACT) 0 3 = 0 ∧ s.subState q = 0) ∧
    (∃ s : State, ∃ q step : Nat, s.coreUp = true ∧ q < 8 ∧ 2 ≤ step) ∧
    (∃ s : State, ∃ q : Nat, s.coreUp = true ∧ q < 8 ∧ s.rd (.clk .DOM_ACT) 0 3 = 0 ∧ s.subState q = 1) ∧
    (∃ s : State, ∃ q : Nat, s.coreUp = true ∧ q < 8 ∧ s.rd (.clk .DOM_ACT) 0 3 = 0 ∧ s.subState q = 2) ∧
    (∃ s : State, ∃ q step : Nat, s.coreUp = true ∧ q < 8 ∧ s.rd (.clk .DOM_ACT) 0 3 = 0 ∧ 2 ≤ step) ∧
    (∃ s : State, ∃ q step : Nat, s.coreUp = true ∧ q < 8 ∧ s.rd (.clk .DOM_ACT) 0 3 = 0 ∧ 2 ≤ step) ∧
    (∃ s : State, ∃ q step : Nat, s.coreUp = true ∧ q < 8 ∧ 1 ≤ step) ∧
    (∃ s : State, s.coreUp = true ∧ s.ddrRefusal 1 = 0) ∧
    (∃ s : State, ∃ q : Nat, s.coreUp = true ∧ q < 8 ∧ s.ddrRefusal 2 = 0) ∧
    (∃ s : State, s.coreUp = true ∧ s.ddrRefusal 1 ≠ 0) ∧
    (∃ s : State, ∃ q : Nat, s.coreUp = true ∧ q < 8 ∧ s.ddrRefusal 2 ≠ 0) ∧
    (∃ s : State, ∃ q : Nat, s.coreUp = true ∧ q < 8 ∧ s.subState q = 3) :=
  ⟨⟨(w (more upl [(.clk .DOM_ACT, 0, 3, 0)]) : State), (8 - 1), by decide +kernel⟩,
   ⟨(w upl : State), 1, 2, by decide +kernel⟩,
   ⟨(w (more upl [(.ddr .STAT_STATE, 0, 7, 1), (.clk .DOM_ACT, 0, 3, 0)]) : State), 7, by decide +kernel⟩,
   ⟨(w (more upl [(.ddr .STAT_STATE, 0, 7, 2), (.clk .DOM_ACT, 0, 3, 0)]) : State), 7, by decide +kernel⟩,
   ⟨(w (more upl [(.clk .DOM_ACT, 0, 3, 0)]) : State), 1, 2, by decide +kernel⟩,
   ⟨(w (more upl [(.clk .DOM_ACT, 0, 3, 0)]) : State), 1, 2, by decide +kernel⟩,
   ⟨(w upl : State), 1, 2, by decide +kernel⟩,
   ⟨(w upl : State), by decide +kernel⟩,
   ⟨(w upl : State), (8 - 1), by decide +kernel⟩,
   ⟨(w (more upl [(.tick .STATE_STATE, 0, 0, 1)]) : State), by decide +kernel⟩,
   ⟨(w (more upl [(.tick .STATE_STATE, 0, 0, 1)]) : State), (8 - 1), by decide +kernel⟩,
   ⟨(w (more upl [(.ddr .STAT_STATE, 0, 7, 3)]) : State), 7, by decide +kernel⟩⟩

/-- What the clauses of Obligations.DramService ask can be met. -/
theorem witness_DramService_2 :
    (∃ s : State, ∃ q temp : Nat, s.coreUp = true ∧ q < 8 ∧ temp < 256 ∧ s.subState q = 3) ∧
    (∃ s : State, ∃ q : Nat, s.coreUp = true ∧ q < 8) ∧
    (∃ s : State, ∃ q : Nat, s.coreUp = true ∧ q < 8 ∧ s.subState q = 3) ∧
    (∃ s : State, ∃ q : Nat, ∃ flips : List (Nat × Nat × Nat), s.coreUp = true ∧ q < 8 ∧ okFlips flips = true ∧ s.subState
      q = 3 ∧ s.rd (.ddr .SCRUB_INTERVAL) ≠ 0) ∧
    (∃ s : State, ∃ q : Nat, ∃ flips : List (Nat × Nat × Nat), s.coreUp = true ∧ q < 8 ∧ okFlips flips = true ∧
      (s.subState q ≠ 3 ∨ s.rd (.ddr .SCRUB_INTERVAL) = 0)) ∧
    (∃ s : State, ∃ q temp : Nat, s.coreUp = true ∧ q < 8 ∧ temp < 256 ∧ s.subState q ≠ 3) ∧
    (∃ s : State, ∃ q b : Nat, s.coreUp = true ∧ q < 8 ∧ b < 32) ∧
    (∃ s : State, ∃ v : Nat, s.coreUp = true ∧ v % 2 = 0) ∧
    (∃ s : State, ∃ v : Nat, s.coreUp = true ∧ v % 2 = 1) :=
  ⟨⟨(w (more upl [(.ddr .STAT_STATE, 0, 7, 3)]) : State), 7, 255, by decide +kernel⟩,
   ⟨(w upl : State), (8 - 1), by decide +kernel⟩,
   ⟨(w (more upl [(.ddr .STAT_STATE, 0, 7, 3)]) : State), 7, by decide +kernel⟩,
   ⟨(w (more upl [(.ddr .STAT_STATE, 0, 7, 3), (.ddr .SCRUB_INTERVAL, 0, 0, 9)]) : State), 7, [], by decide +kernel⟩,
   ⟨(w (more upl [(.ddr .STAT_STATE, 0, 7, 1)]) : State), 7, [], by decide +kernel⟩,
   ⟨(w upl : State), (8 - 1), (256 - 1), by decide +kernel⟩,
   ⟨(w upl : State), (8 - 1), (32 - 1), by decide +kernel⟩,
   ⟨(w upl : State), 0, by decide +kernel⟩,
   ⟨(w (more upl [(.ddr .ECC_CE, 0, 7, 9)]) : State), 1, by decide +kernel⟩⟩

/-- What the clauses of Obligations.PortBringUp ask can be met. -/
theorem witness_PortBringUp_1 :
    (∃ s : State, ∃ p : Nat, s.coreUp = true ∧ p < 6 ∧ s.rd (.pp .STAT_STATE) 0 p = 0 ∧ s.rd (.pp .CFG_MODE) 0 p ≠ 0 ∧
      s.portPattern p = false) ∧
    (∃ s : State, ∃ p : Nat, s.coreUp = true ∧ p < 6 ∧ (s.rd (.pp .STAT_STATE) 0 p ≠ 0 ∨ s.rd (.pp .CFG_MODE) 0 p = 0)) ∧
    (∃ s : State, ∃ p : Nat, s.coreUp = true ∧ p < 6 ∧ s.rd (.pp .STAT_STATE) 0 p = 0 ∧ s.rd (.pp .CFG_MODE) 0 p ≠ 0 ∧
      s.portPattern p = true) ∧
    (∃ s : State, ∃ p : Nat, s.coreUp = true ∧ p < 6 ∧ s.rd (.pp .STAT_STATE) 0 p = 0) ∧
    (∃ s : State, ∃ p : Nat, s.coreUp = true ∧ p < 6 ∧ s.rd (.pp .STAT_STATE) 0 p ≠ 0 ∧ s.portHeld p = false) ∧
    (∃ s : State, ∃ p : Nat, s.coreUp = true ∧ p < 6 ∧ s.rd (.pp .STAT_STATE) 0 p ≠ 0 ∧ s.portHeld p = true) ∧
    (∃ s : State, ∃ p : Nat, s.coreUp = true ∧ p < 6 ∧ s.rd (.pp .STAT_STATE) 0 p ≠ 0 ∧ s.portHeld p = false) ∧
    (∃ s : State, ∃ p : Nat, s.coreUp = true ∧ p < 6 ∧ 1 ≤ s.rd (.pp .STAT_STATE) 0 p ∧ s.rd (.pp .STAT_STATE) 0 p ≤ 3) ∧
    (∃ s : State, ∃ p : Nat, s.coreUp = true ∧ p < 6) ∧
    (∃ s : State, ∃ p : Nat, s.coreUp = true ∧ p < 6) ∧
    (∃ s : State, ∃ p : Nat, s.coreUp = true ∧ p < 6 ∧ (s.rd (.pp .STAT_STATE) 0 p = 0 ∨ 3 < s.rd (.pp .STAT_STATE) 0 p)) ∧
    (∃ s : State, ∃ p e : Nat, s.coreUp = true ∧ p < 6 ∧ 1 ≤ s.rd (.pp .STAT_STATE) 0 p ∧ s.rd (.pp .STAT_STATE) 0 p ≤ 3 ∧
      ((s.attempts p).find? fun e => decide (s.rd (.pp .STAT_ENTRY) 0 p < e)) = some e) :=
  ⟨⟨(w (more upl [(.pp .CFG_MODE, 0, 5, 1)]) : State), 5, by decide +kernel⟩,
   ⟨(w (more upl [(.pp .STAT_STATE, 0, 5, 1)]) : State), 5, by decide +kernel⟩,
   ⟨(w (more upl [(.pp .CFG_MODE, 0, 5, 1), (.pp .LPRBS_GEN, 0, 20, 1)]) : State), 5, by decide +kernel⟩,
   ⟨(w upl : State), 5, by decide +kernel⟩,
   ⟨(w (more upl [(.pp .STAT_STATE, 0, 5, 4)]) : State), 5, by decide +kernel⟩,
   ⟨(w (more upl [(.pp .STAT_STATE, 0, 5, 4), (.tick .STATE_STATE, 0, 0, 2), (.tick .SRC_SRC, 0, 0, 2), (.tick .SRC_PORT,
      0, 0, 5)]) : State), 5, by decide +kernel⟩,
   ⟨(w (more upl [(.pp .STAT_STATE, 0, 5, 4)]) : State), 5, by decide +kernel⟩,
   ⟨(w (more upl [(.pp .STAT_STATE, 0, 5, 3)]) : State), 5, by decide +kernel⟩,
   ⟨(w (more upl [(.pp .STAT_STATE, 0, 5, 1)]) : State), 5, by decide +kernel⟩,
   ⟨(w (more upl [(.pp .STAT_STATE, 0, 5, 1)]) : State), 5, by decide +kernel⟩,
   ⟨(w upl : State), 5, by decide +kernel⟩,
   ⟨(w (more upl [(.pp .STAT_STATE, 0, 5, 1), (.pp .CFG_ALT_EN, 0, 5, 1), (.pp .ALT_ALT1, 0, 5, 1)]) : State), 5, 1,
      by decide +kernel⟩⟩

/-- What the clauses of Obligations.PortBringUp ask can be met. -/
theorem witness_PortBringUp_2 :
    (∃ s : State, ∃ p : Nat, s.coreUp = true ∧ p < 6 ∧ 1 ≤ s.rd (.pp .STAT_STATE) 0 p ∧ s.rd (.pp .STAT_STATE) 0 p ≤ 3 ∧
      ((s.attempts p).find? fun e => decide (s.rd (.pp .STAT_ENTRY) 0 p < e)) = none) ∧
    (∃ s : State, ∃ p : Nat, s.coreUp = true ∧ p < 6 ∧ s.rd (.pp .STAT_STATE) 0 p = 5) ∧
    (∃ s : State, ∃ p : Nat, s.coreUp = true ∧ p < 6 ∧ s.rd (.pp .STAT_STATE) 0 p ≠ 5) ∧
    (∃ s : State, ∃ p m : Nat, s.coreUp = true ∧ p < 6 ∧ m < 16 ∧ s.portUp p = false) ∧
    (∃ s : State, ∃ p m : Nat, s.coreUp = true ∧ p < 6 ∧ m < 16 ∧ s.portUp p = true) :=
  ⟨⟨(w (more upl [(.pp .STAT_STATE, 0, 5, 1)]) : State), 5, by decide +kernel⟩,
   ⟨(w (more upl [(.pp .STAT_STATE, 0, 5, 5)]) : State), 5, by decide +kernel⟩,
   ⟨(w (more upl [(.pp .STAT_STATE, 0, 5, 1)]) : State), 5, by decide +kernel⟩,
   ⟨(w (more upl [(.pp .STAT_STATE, 0, 5, 1)]) : State), 5, (16 - 1), by decide +kernel⟩,
   ⟨(w (more upl [(.pp .STAT_STATE, 0, 5, 4)]) : State), 5, 15, by decide +kernel⟩⟩

/-- What the clauses of Obligations.PortTraffic ask can be met. -/
theorem witness_PortTraffic_1 :
    (∃ s : State, ∃ p : Nat, ∃ f : TxFrame, s.coreUp = true ∧ p < 6 ∧ s.portUp p = true ∧ s.nextFrame p = some f) ∧
    (∃ s : State, ∃ p : Nat, s.coreUp = true ∧ p < 6 ∧ (s.portUp p = false ∨ s.nextFrame p = none)) ∧
    (∃ s : State, ∃ p : Nat, ∃ f : TxFrame, s.nextFrame p = some f) ∧
    (∃ s : State, ∃ p type domain : Nat, s.coreUp = true ∧ p < 6 ∧ type < 16 ∧ domain < 256 ∧ s.portUp p = true ∧ s.rd
      (.pp .PTP_ROLE) 0 p ≠ 0 ∧ s.rd (.pp .PTP_DOMAIN) 0 p = domain) ∧
    (∃ s : State, ∃ p type domain : Nat, s.coreUp = true ∧ p < 6 ∧ type < 16 ∧ domain < 256 ∧ (s.portUp p = false ∨ s.rd
      (.pp .PTP_ROLE) 0 p = 0 ∨ s.rd (.pp .PTP_DOMAIN) 0 p ≠ domain)) ∧
    (∃ s : State, ∃ p : Nat, s.coreUp = true ∧ p < 6 ∧ s.portUp p = true ∧ s.rd (.pp .PTP_ROLE) 0 p = 1) ∧
    (∃ s : State, ∃ p : Nat, s.coreUp = true ∧ p < 6 ∧ (s.portUp p = false ∨ s.rd (.pp .PTP_ROLE) 0 p ≠ 1)) ∧
    (∃ s : State, ∃ p : Nat, s.coreUp = true ∧ p < 6 ∧ s.sourcePort p = true) ∧
    (∃ s : State, ∃ p : Nat, s.coreUp = true ∧ p < 6 ∧ s.sourcePort p = false) ∧
    (∃ s : State, ∃ u k : Nat, s.coreUp = true ∧ u < 4 * Config.n ∧ k < 256 ∧ s.laneOn u = true ∧ s.rd (.pp .UPRBS_GEN) 0
      u = 0) ∧
    (∃ s : State, ∃ u k : Nat, s.coreUp = true ∧ u < 4 * Config.n ∧ k < 256 ∧ s.laneOn u = true ∧ s.rd (.pp .UPRBS_GEN) 0
      u = 0) ∧
    (∃ s : State, ∃ u k : Nat, s.coreUp = true ∧ u < 4 * Config.n ∧ k < 256 ∧ s.laneOn u = true ∧ s.rd (.pp .UPRBS_GEN) 0
      u ≠ 0) :=
  ⟨⟨({ w (more upl [(.pp .STAT_STATE, 0, 5, 4)]) with portTx := [⟨5, 2, [1, 2, 3]⟩] } : State), 5, ⟨5, 2, [1, 2, 3]⟩, by decide +kernel⟩,
   ⟨(w (more upl [(.pp .STAT_STATE, 0, 5, 4)]) : State), 5, by decide +kernel⟩,
   ⟨({ w [(.pp .STAT_STATE, 0, 5, 4)] with portTx := [⟨5, 2, [1, 2, 3]⟩] } : State), 5, ⟨5, 2, [1, 2, 3]⟩, by decide +kernel⟩,
   ⟨(w (more upl [(.pp .STAT_STATE, 0, 5, 4), (.pp .PTP_ROLE, 0, 5, 2), (.pp .PTP_DOMAIN, 0, 5, 0)]) : State), 5, 2, 0,
      by decide +kernel⟩,
   ⟨(w upl : State), (6 - 1), (16 - 1), (256 - 1), by decide +kernel⟩,
   ⟨(w (more upl [(.pp .STAT_STATE, 0, 5, 4), (.pp .PTP_ROLE, 0, 5, 1)]) : State), 5, by decide +kernel⟩,
   ⟨(w upl : State), (6 - 1), by decide +kernel⟩,
   ⟨(w (more upl [(.tick .SRC_SRC, 0, 0, 2), (.tick .SRC_PORT, 0, 0, 5)]) : State), 5, by decide +kernel⟩,
   ⟨(w upl : State), (6 - 1), by decide +kernel⟩,
   ⟨(w (more fab7l [(.pp .UCFG_USED, 0, 31, 1)]) : State), 31, (256 - 1), by decide +kernel⟩,
   ⟨(w (more fab7l [(.pp .UCFG_USED, 0, 31, 1)]) : State), 31, (256 - 1), by decide +kernel⟩,
   ⟨(w (more fab7l [(.pp .UCFG_USED, 0, 31, 1), (.pp .UPRBS_GEN, 0, 31, 1)]) : State), 31, (256 - 1), by decide +kernel⟩⟩

/-- What the clauses of Obligations.PortTraffic ask can be met. -/
theorem witness_PortTraffic_2 :
    (∃ s : State, ∃ u k : Nat, s.coreUp = true ∧ u < 4 * Config.n ∧ k < 256 ∧ s.laneOn u = true) ∧
    (∃ s : State, ∃ u k : Nat, s.coreUp = true ∧ u < 4 * Config.n ∧ k < 256 ∧ s.laneOn u = false) ∧
    (∃ s : State, ∃ u : Nat, s.coreUp = true ∧ u < 4 * Config.n ∧ s.laneOn u = true ∧ (s.rd (.pp .UCFG_REF) 0 u = 0 ∨ s.rd
      (.clk .XIN_GOOD) 0 (s.rd (.pp .UCFG_REF) 0 u - 1) = 1)) ∧
    (∃ s : State, ∃ u : Nat, s.coreUp = true ∧ u < 4 * Config.n ∧ s.rd (.pp .UCFG_REF) 0 u ≠ 0 ∧ s.rd (.clk .XIN_GOOD) 0
      (s.rd (.pp .UCFG_REF) 0 u - 1) ≠ 1) ∧
    (∃ s : State, ∃ j errs : Nat, s.coreUp = true ∧ j < 24 ∧ errs < 2 ^ 32 ∧ s.rd (.pp .LPRBS_CHK) 0 j ≠ 0) ∧
    (∃ s : State, ∃ j errs : Nat, s.coreUp = true ∧ j < 4 * Config.n ∧ errs < 2 ^ 32 ∧ s.rd (.pp .UPRBS_CHK) 0 j ≠ 0) ∧
    (∃ s : State, ∃ errs : Nat, s.coreUp = true ∧ errs < 2 ^ 32) ∧
    (∃ s : State, s.coreUp = true) ∧
    (∃ s : State, ∃ reg p v : Nat, s.coreUp = true ∧ p < 6 ∧ reg < 5 ∧ s.rd (.pp .STAT_STATE) 0 p = 0 ∧ portRegValid reg v
      = true) ∧
    (∃ s : State, ∃ p : Nat, s.coreUp = true ∧ p < 6 ∧ s.rd (.pp .STAT_STATE) 0 p ≠ 0) ∧
    (∃ s : State, ∃ reg p v : Nat, s.coreUp = true ∧ p < 6 ∧ reg < 5 ∧ (s.rd (.pp .STAT_STATE) 0 p ≠ 0 ∧ reg ≠ 4 ∨ s.rd
      (.pp .STAT_STATE) 0 p = 0 ∧ portRegValid reg v = false)) :=
  ⟨⟨(w (more fab7l [(.pp .UCFG_USED, 0, 31, 1)]) : State), 31, (256 - 1), by decide +kernel⟩,
   ⟨({ w upl with laneBufs := List.replicate 32 ⟨31, true, 7⟩ } : State), 31, (256 - 1), by decide +kernel⟩,
   ⟨(w (more fab7l [(.pp .UCFG_USED, 0, 31, 1), (.clk .XIN_GOOD, 0, 0, 1)]) : State), 31, by decide +kernel⟩,
   ⟨(w (more fab7l [(.pp .UCFG_USED, 0, 31, 1), (.pp .UCFG_REF, 0, 31, 1), (.clk .XIN_GOOD, 0, 0, 0)]) : State), 31,
      by decide +kernel⟩,
   ⟨(w (more upl [(.pp .LPRBS_CHK, 0, 23, 1)]) : State), 23, 9, by decide +kernel⟩,
   ⟨(w (more upl [(.pp .UPRBS_CHK, 0, 31, 1)]) : State), 31, 9, by decide +kernel⟩,
   ⟨(w upl : State), (2 ^ 32 - 1), by decide +kernel⟩,
   ⟨(w upl : State), by decide +kernel⟩,
   ⟨(w upl : State), (5 - 1), (6 - 1), 0, by decide +kernel⟩,
   ⟨(w (more upl [(.pp .STAT_STATE, 0, 5, 4), (.pp .PTP_ROLE, 0, 5, 2)]) : State), 5, by decide +kernel⟩,
   ⟨(w upl : State), (4 - 1), (6 - 1), 0, by decide +kernel⟩⟩

/-- What the clauses of Obligations.LoadStartsAndEnds ask can be met. -/
theorem witness_LoadStartsAndEnds_1 :
    (∃ s : State, s.booted = true ∧ s.startCode = 0) ∧
    (∃ s : State, s.booted = true ∧ s.startCode ≠ 0) ∧
    (∃ s : State, s.booted = true ∧ s.rd (.cfg .csLow) = 0 ∧ s.rd (.cfg .CTRL_SRC) = 0 ∧ s.rd (.cfg .CTRL_AUTO) = 1 ∧
      s.startCode = 0) ∧
    (∃ s : State, s.booted = true ∧ s.rd (.cfg .csLow) = 0 ∧ s.rd (.cfg .CTRL_SRC) = 0 ∧ s.rd (.cfg .CTRL_AUTO) = 1 ∧
      s.startCode ≠ 0 ∧ (s.loading = false ∨ s.rd (.cfg .STAT_SRC) ≠ 0)) ∧
    (∃ s : State, (s.booted = false ∨ s.rd (.cfg .csLow) = 1 ∨ (s.loading = true ∧ s.rd (.cfg .STAT_SRC) = 0) ∨ s.rd (.cfg
      .CTRL_SRC) ≠ 0 ∨ s.rd (.cfg .CTRL_AUTO) ≠ 1)) ∧
    (∃ s : State, s.booted = true ∧ s.loading = true) ∧
    (∃ s : State, s.booted = true ∧ s.loading = false) ∧
    (∃ s : State, s.booted = true ∧ s.tickLive = false ∧ s.loading = false) ∧
    (∃ s : State, s.booted = true ∧ s.tickLive = true) ∧
    (∃ s : State, s.booted = true ∧ s.tickLive = false ∧ s.loading = true) ∧
    (∃ s : State, s.coreUp = true ∧ (s.loading = false ∨ s.rd (.cfg .STAT_STATE) = 0 ∨ 3 < s.rd (.cfg .STAT_STATE))) ∧
    (∃ s : State, s.coreUp = true ∧ s.loading = true ∧ 1 ≤ s.rd (.cfg .STAT_STATE) ∧ s.rd (.cfg .STAT_STATE) ≤ 3) :=
  ⟨⟨(w (more bootl [(.sec .STAT_LC, 0, 0, 2)]) : State), by decide +kernel⟩,
   ⟨(w bootl : State), by decide +kernel⟩,
   ⟨(w (more bootl [(.sec .STAT_LC, 0, 0, 2), (.cfg .CTRL_SRC, 0, 0, 0), (.cfg .CTRL_AUTO, 0, 0, 1)]) : State),
      by decide +kernel⟩,
   ⟨(w (more bootl [(.sec .STAT_LC, 0, 0, 2), (.cfg .CTRL_SRC, 0, 0, 0), (.cfg .CTRL_AUTO, 0, 0, 1), (.tick .STATE_STATE,
      0, 0, 2)]) : State), by decide +kernel⟩,
   ⟨(w [] : State), by decide +kernel⟩,
   ⟨(w (more bootl [(.cfg .loadKind, 0, 0, 1), (.cfg .STAT_STATE, 0, 0, 1), (.cfg .STAT_SRC, 0, 0, 0)]) : State),
      by decide +kernel⟩,
   ⟨(w bootl : State), by decide +kernel⟩,
   ⟨(w bootl : State), by decide +kernel⟩,
   ⟨(w (more bootl [(.tick .STATE_STATE, 0, 0, 1)]) : State), by decide +kernel⟩,
   ⟨(w (more bootl [(.cfg .loadKind, 0, 0, 1)]) : State), by decide +kernel⟩,
   ⟨(w upl : State), by decide +kernel⟩,
   ⟨(w (more upl [(.cfg .loadKind, 0, 0, 1), (.cfg .STAT_STATE, 0, 0, 3), (.cfg .STAT_SRC, 0, 0, 0)]) : State),
      by decide +kernel⟩⟩

/-- What the clauses of Obligations.LoadStartsAndEnds ask can be met. -/
theorem witness_LoadStartsAndEnds_2 :
    (∃ s : State, ∃ l : List Nat, s.booted = true ∧ areBytes l = true ∧ s.loading = true ∧ s.rd (.cfg .STAT_SRC) = 1 ∧ 1 ≤
      s.rd (.cfg .STAT_STATE) ∧ s.rd (.cfg .STAT_STATE) ≤ 3 ∧ (s.rd (.cfg .ldLength) = 0 ∨ s.rd (.cfg .PROGRESS_BYTES)
      + l.length ≤ s.rd (.cfg .ldLength))) ∧
    (∃ s : State, ∃ l : List Nat, s.booted = true ∧ areBytes l = true ∧ (s.loading = false ∨ s.rd (.cfg .STAT_SRC) = 0 ∨
      s.rd (.cfg .STAT_STATE) = 0 ∨ 3 < s.rd (.cfg .STAT_STATE) ∨ (s.rd (.cfg .ldLength) ≠ 0 ∧ s.rd (.cfg .ldLength) <
      s.rd (.cfg .PROGRESS_BYTES) + l.length))) :=
  ⟨⟨(w (more bootl [(.cfg .loadKind, 0, 0, 1), (.cfg .STAT_STATE, 0, 0, 3), (.cfg .STAT_SRC, 0, 0, 1)]) : State), [255, 0],
      by decide +kernel⟩,
   ⟨(w bootl : State), [], by decide +kernel⟩⟩

/-- What the clauses of Obligations.LoadStream ask can be met. -/
theorem witness_LoadStream_1 :
    (∃ s : State, ∃ bytes l : List Nat, ∃ s1 : State, Arrives s bytes 128 false l s1 ∧ s.rd (.cfg .STAT_STATE) = 1 ∧ s.rd
      (.cfg .ldM) = 0 ∧ headerForm l (s.rd (.cfg .loadKind)) = 0 ∧ (s1.takeHeader l).noteLevel.headerStatus = 0 ∧
      (s.rd (.cfg .loadKind) = 2 → (s1.takeHeader l).noteLevel.headerNiche l = true)) ∧
    (∃ s : State, ∃ bytes l : List Nat, ∃ s1 : State, Arrives s bytes 128 false l s1 ∧ s.rd (.cfg .STAT_STATE) = 1 ∧ s.rd
      (.cfg .ldM) = 0 ∧ s.loading = true ∧ headerForm l (s.rd (.cfg .loadKind)) ≠ 0) ∧
    (∃ s : State, ∃ bytes l : List Nat, ∃ s1 : State, ∃ c : Nat, Arrives s bytes 128 false l s1 ∧ s.rd (.cfg .STAT_STATE)
      = 1 ∧ s.rd (.cfg .ldM) = 0 ∧ s.loading = true ∧ headerForm l (s.rd (.cfg .loadKind)) = 0 ∧ ((s1.takeHeader
      l).noteLevel.headerStatus = c ∧ c ≠ 0 ∧ c ≠ 0x19 ∨ (s1.takeHeader l).noteLevel.headerStatus = c ∧ c = 0x19 ∧
      (s.rd (.cfg .loadKind) ≠ 2 ∨ hfield l 5 1 = 2) ∨ (s1.takeHeader l).noteLevel.headerStatus = 0x19 ∧ c = 0x24 ∧
      s.rd (.cfg .loadKind) = 2 ∧ hfield l 5 1 = 1 ∨ (s1.takeHeader l).noteLevel.headerStatus = 0 ∧ c = 0x24 ∧ s.rd
      (.cfg .loadKind) = 2 ∧ (s1.takeHeader l).noteLevel.headerNiche l = false)) ∧
    (∃ s : State, ∃ bytes : List Nat, s.coreUp = true ∧ areBytes bytes = true ∧ (s.takeBytes bytes 128 false = none ∨ s.rd
      (.cfg .STAT_STATE) ≠ 1 ∨ s.rd (.cfg .ldM) ≠ 0)) ∧
    (∃ s : State, ∃ bytes l : List Nat, ∃ s1 : State, Arrives s bytes (8 * s.rd (.cfg .ldPlaces) + 4) false l s1 ∧
      WaitsForTable s ∧ fromBe ((l.drop (8 * s.rd (.cfg .ldPlaces))).take 4) = crc32c (l.take (8 * s.rd (.cfg
      .ldPlaces))) ∧ s.rd (.cfg .CTRL_PLACE) < s.rd (.cfg .ldPlaces) ∧ (∀ i, i < s.rd (.cfg .ldPlaces) → entryOk
      ((l.drop (8 * i)).take 8) (s.rd (.cfg .ldM)) = true) ∧ (s.wr (.cfg .ldPlace) 0 0 (placeIn s l)).placementOk =
      true ∧ (s.rd (.cfg .loadKind) = 2 → placeIn s l = s.rd (.cfg .actPlace))) ∧
    (∃ s : State, ∃ bytes l : List Nat, ∃ s1 : State, Arrives s bytes (8 * s.rd (.cfg .ldPlaces) + 4) false l s1 ∧
      WaitsForTable s ∧ fromBe ((l.drop (8 * s.rd (.cfg .ldPlaces))).take 4) ≠ crc32c (l.take (8 * s.rd (.cfg
      .ldPlaces)))) ∧
    (∃ s : State, ∃ bytes l : List Nat, ∃ s1 : State, Arrives s bytes (8 * s.rd (.cfg .ldPlaces) + 4) false l s1 ∧
      WaitsForTable s ∧ fromBe ((l.drop (8 * s.rd (.cfg .ldPlaces))).take 4) = crc32c (l.take (8 * s.rd (.cfg
      .ldPlaces)))) ∧
    (∃ s : State, ∃ bytes : List Nat, s.coreUp = true ∧ areBytes bytes = true ∧ (s.takeBytes bytes (8 * s.rd (.cfg
      .ldPlaces) + 4) false = none ∨ s.rd (.cfg .STAT_STATE) ≠ 1 ∨ s.rd (.cfg .ldM) = 0)) ∧
    (∃ s : State, ∃ bytes head l : List Nat, ∃ s1 u : State, TakesRecord s bytes head ∧ Arrives s bytes (recordSize head)
      ((s.rd (.cfg .ldFlags)).testBit 3) l s1 ∧ s1.frameArrives (frameOf l) = (0, u)) ∧
    (∃ s : State, ∃ bytes head l : List Nat, ∃ s1 : State, ∃ c : Nat, ∃ u : State, TakesRecord s bytes head ∧ Arrives s
      bytes (recordSize head) ((s.rd (.cfg .ldFlags)).testBit 3) l s1 ∧ s1.frameArrives (frameOf l) = (c, u) ∧ 0 < c ∧
      c < 256 ∧ u.loading = true) ∧
    (∃ s : State, ∃ bytes head : List Nat, TakesRecord s bytes head ∧ s.coreUp = true ∧ areBytes bytes = true ∧
      s.takeBytes bytes (recordSize head) ((s.rd (.cfg .ldFlags)).testBit 3) = none) ∧
    (∃ s : State, ∃ bytes : List Nat, s.coreUp = true ∧ areBytes bytes = true ∧ 16 ≤ bytes.length ∧ (s.rd (.cfg .ldTable)
      = 0 ∨ s.rd (.cfg .STAT_STATE) < 2 ∨ 3 < s.rd (.cfg .STAT_STATE))) :=
  ⟨⟨(w (more upl [(.cfg .loadKind, 0, 0, 1), (.cfg .STAT_STATE, 0, 0, 1), (.cfg .STAT_SRC, 0, 0, 0), (.sec .STAT_LC, 0, 0,
      2), (.sec .KEYS_PRESENT, 0, 0, 0xFFFF), (.seif .COMPAT_LEVEL, 0, 0, 2)]) : State), header128, header128, (s1of
      (w (more upl [(.cfg .loadKind, 0, 0, 1), (.cfg .STAT_STATE, 0, 0, 1), (.cfg .STAT_SRC, 0, 0, 0), (.sec .STAT_LC,
      0, 0, 2), (.sec .KEYS_PRESENT, 0, 0, 0xFFFF), (.seif .COMPAT_LEVEL, 0, 0, 2)]) : State) header128 128 false),
      by unfold Arrives; decide +kernel⟩,
   ⟨(w (more upl [(.cfg .loadKind, 0, 0, 1), (.cfg .STAT_STATE, 0, 0, 1), (.cfg .STAT_SRC, 0, 0, 0)]) : State),
      (List.replicate 128 0), (List.replicate 128 0), (s1of (w (more upl [(.cfg .loadKind, 0, 0, 1), (.cfg .STAT_STATE,
      0, 0, 1), (.cfg .STAT_SRC, 0, 0, 0)]) : State) (List.replicate 128 0) 128 false),
      by unfold Arrives; decide +kernel⟩,
   ⟨(w (more upl [(.cfg .loadKind, 0, 0, 1), (.cfg .STAT_STATE, 0, 0, 1), (.cfg .STAT_SRC, 0, 0, 0), (.sec .STAT_LC, 0, 0,
      2), (.sec .KEYS_PRESENT, 0, 0, 0xFFFF), (.seif .COMPAT_LEVEL, 0, 0, 2), (.seif .COMPAT_LEVEL, 0, 0, 0)]) :
      State), header128, header128, (s1of (w (more upl [(.cfg .loadKind, 0, 0, 1), (.cfg .STAT_STATE, 0, 0, 1), (.cfg
      .STAT_SRC, 0, 0, 0), (.sec .STAT_LC, 0, 0, 2), (.sec .KEYS_PRESENT, 0, 0, 0xFFFF), (.seif .COMPAT_LEVEL, 0, 0,
      2), (.seif .COMPAT_LEVEL, 0, 0, 0)]) : State) header128 128 false), 0x14, by unfold Arrives; decide +kernel⟩,
   ⟨(w bootl : State), [], by decide +kernel⟩,
   ⟨(w (more fab7l [(.cfg .loadKind, 0, 0, 1), (.cfg .STAT_STATE, 0, 0, 1), (.cfg .STAT_SRC, 0, 0, 0), (.cfg .ldM, 0, 0,
      1), (.cfg .ldPlaces, 0, 0, 1)]) : State), ([0xFF, 0xFF, 0xFF, 0xF7, 0, 0, 0, 0] ++ beBytes 4 (crc32c [0xFF,
      0xFF, 0xFF, 0xF7, 0, 0, 0, 0])), ([0xFF, 0xFF, 0xFF, 0xF7, 0, 0, 0, 0] ++ beBytes 4 (crc32c [0xFF, 0xFF, 0xFF,
      0xF7, 0, 0, 0, 0])), (s1of (w (more fab7l [(.cfg .loadKind, 0, 0, 1), (.cfg .STAT_STATE, 0, 0, 1), (.cfg
      .STAT_SRC, 0, 0, 0), (.cfg .ldM, 0, 0, 1), (.cfg .ldPlaces, 0, 0, 1)]) : State) ([0xFF, 0xFF, 0xFF, 0xF7, 0, 0,
      0, 0] ++ beBytes 4 (crc32c [0xFF, 0xFF, 0xFF, 0xF7, 0, 0, 0, 0])) 12 false),
      by unfold Arrives WaitsForTable; decide +kernel⟩,
   ⟨(w (more upl [(.cfg .loadKind, 0, 0, 1), (.cfg .STAT_STATE, 0, 0, 1), (.cfg .STAT_SRC, 0, 0, 0), (.cfg .ldM, 0, 0, 1),
      (.cfg .ldPlaces, 0, 0, 1)]) : State), (List.replicate 12 0), (List.replicate 12 0), (s1of (w (more upl [(.cfg
      .loadKind, 0, 0, 1), (.cfg .STAT_STATE, 0, 0, 1), (.cfg .STAT_SRC, 0, 0, 0), (.cfg .ldM, 0, 0, 1), (.cfg
      .ldPlaces, 0, 0, 1)]) : State) (List.replicate 12 0) 12 false), by unfold Arrives WaitsForTable; decide +kernel⟩,
   ⟨(w (more fab7l [(.cfg .loadKind, 0, 0, 1), (.cfg .STAT_STATE, 0, 0, 1), (.cfg .STAT_SRC, 0, 0, 0), (.cfg .ldM, 0, 0,
      1), (.cfg .ldPlaces, 0, 0, 1)]) : State), ([0xFF, 0xFF, 0xFF, 0xF7, 0, 0, 0, 0] ++ beBytes 4 (crc32c [0xFF,
      0xFF, 0xFF, 0xF7, 0, 0, 0, 0])), ([0xFF, 0xFF, 0xFF, 0xF7, 0, 0, 0, 0] ++ beBytes 4 (crc32c [0xFF, 0xFF, 0xFF,
      0xF7, 0, 0, 0, 0])), (s1of (w (more fab7l [(.cfg .loadKind, 0, 0, 1), (.cfg .STAT_STATE, 0, 0, 1), (.cfg
      .STAT_SRC, 0, 0, 0), (.cfg .ldM, 0, 0, 1), (.cfg .ldPlaces, 0, 0, 1)]) : State) ([0xFF, 0xFF, 0xFF, 0xF7, 0, 0,
      0, 0] ++ beBytes 4 (crc32c [0xFF, 0xFF, 0xFF, 0xF7, 0, 0, 0, 0])) 12 false),
      by unfold Arrives WaitsForTable; decide +kernel⟩,
   ⟨(w bootl : State), [], by decide +kernel⟩,
   ⟨(w (more upl [(.cfg .loadKind, 0, 0, 1), (.cfg .STAT_STATE, 0, 0, 2), (.cfg .STAT_SRC, 0, 0, 0), (.cfg .ldM, 0, 0, 1),
      (.cfg .ldPlaces, 0, 0, 1), (.cfg .ldTable, 0, 0, 1), (.cfg .ldFrames, 0, 0, 1), (.cfg .ldLength, 0, 0, 9000)]) :
      State), frame16, frame16, frame16, (s1of (w (more upl [(.cfg .loadKind, 0, 0, 1), (.cfg .STAT_STATE, 0, 0, 2),
      (.cfg .STAT_SRC, 0, 0, 0), (.cfg .ldM, 0, 0, 1), (.cfg .ldPlaces, 0, 0, 1), (.cfg .ldTable, 0, 0, 1), (.cfg
      .ldFrames, 0, 0, 1), (.cfg .ldLength, 0, 0, 9000)]) : State) frame16 22 false), ((s1of (w (more upl [(.cfg
      .loadKind, 0, 0, 1), (.cfg .STAT_STATE, 0, 0, 2), (.cfg .STAT_SRC, 0, 0, 0), (.cfg .ldM, 0, 0, 1), (.cfg
      .ldPlaces, 0, 0, 1), (.cfg .ldTable, 0, 0, 1), (.cfg .ldFrames, 0, 0, 1), (.cfg .ldLength, 0, 0, 9000)]) :
      State) frame16 22 false).frameArrives (frameOf frame16)).2, by unfold Arrives TakesRecord; decide +kernel⟩,
   ⟨(w (more upl [(.cfg .loadKind, 0, 0, 1), (.cfg .STAT_STATE, 0, 0, 2), (.cfg .STAT_SRC, 0, 0, 0), (.cfg .ldM, 0, 0, 1),
      (.cfg .ldPlaces, 0, 0, 1), (.cfg .ldTable, 0, 0, 1), (.cfg .ldFrames, 0, 0, 1), (.cfg .ldLength, 0, 0, 9000)]) :
      State), (List.replicate 16 0), (List.replicate 16 0), (List.replicate 16 0), (s1of (w (more upl [(.cfg .loadKind,
      0, 0, 1), (.cfg .STAT_STATE, 0, 0, 2), (.cfg .STAT_SRC, 0, 0, 0), (.cfg .ldM, 0, 0, 1), (.cfg .ldPlaces, 0, 0,
      1), (.cfg .ldTable, 0, 0, 1), (.cfg .ldFrames, 0, 0, 1), (.cfg .ldLength, 0, 0, 9000)]) : State) (List.replicate
      16 0) 16 false), 0x20, ((s1of (w (more upl [(.cfg .loadKind, 0, 0, 1), (.cfg .STAT_STATE, 0, 0, 2), (.cfg
      .STAT_SRC, 0, 0, 0), (.cfg .ldM, 0, 0, 1), (.cfg .ldPlaces, 0, 0, 1), (.cfg .ldTable, 0, 0, 1), (.cfg .ldFrames,
      0, 0, 1), (.cfg .ldLength, 0, 0, 9000)]) : State) (List.replicate 16 0) 16 false).frameArrives (frameOf
      (List.replicate 16 0))).2, by unfold Arrives TakesRecord; decide +kernel⟩,
   ⟨(w (more upl [(.cfg .loadKind, 0, 0, 1), (.cfg .STAT_STATE, 0, 0, 2), (.cfg .STAT_SRC, 0, 0, 0), (.cfg .ldM, 0, 0, 1),
      (.cfg .ldPlaces, 0, 0, 1), (.cfg .ldTable, 0, 0, 1), (.cfg .ldFrames, 0, 0, 1), (.cfg .ldLength, 0, 0, 9000)]) :
      State), (frame16 ++ [0]), (frame16 ++ [0]), by unfold TakesRecord; decide +kernel⟩,
   ⟨(w upl : State), (List.replicate 16 0), by decide +kernel⟩⟩

/-- What the clauses of Obligations.LoadStream ask can be met. -/
theorem witness_LoadStream_2 :
    (∃ s : State, ∃ bytes : List Nat, s.coreUp = true ∧ areBytes bytes = true ∧ 16 ≤ bytes.length ∧ s.rd (.cfg .ldTable) ≠
      0 ∧ s.loading = true ∧ (s.rd (.cfg .STAT_SRC) = 0 ∨ 16 ≤ s.stream.length) ∧ (s.rd (.cfg .STAT_STATE) = 3 ∨ s.rd
      (.cfg .STAT_STATE) = 2 ∧ s.rd (.cfg .STAT_SRC) = 0 ∧ s.rd (.cfg .ldLength) < s.consumed + recordSize bytes +
      5192)) :=
  ⟨(w (more upl [(.cfg .loadKind, 0, 0, 1), (.cfg .STAT_STATE, 0, 0, 3), (.cfg .STAT_SRC, 0, 0, 0), (.cfg .ldTable, 0, 0, 1)]) : State), (List.replicate 16 0), by decide +kernel⟩

/-- What the clauses of Obligations.LoadVerdicts ask can be met. -/
theorem witness_LoadVerdicts :
    (∃ s : State, ∃ bytes : List Nat, ∃ e : Nat, ∃ l : List Nat, ∃ s1 : State, ∃ tag : Bool, ∃ vcco : List Nat,
      TrailerFits (s.at e) bytes l s1 ∧ e < 2 ^ 80 ∧ (∀ v ∈ vcco, v < 65536) ∧ (tag = true ∨ (s.rd (.cfg
      .ldFlags)).testBit 3 = false)) ∧
    (∃ s : State, ∃ bytes : List Nat, ∃ e : Nat, ∃ l : List Nat, ∃ s1 : State, ∃ tag ecdsa hss : Bool, ∃ vcco : List Nat,
      TrailerFits (s.at e) bytes l s1 ∧ e < 2 ^ 80 ∧ (∀ v ∈ vcco, v < 65536) ∧ (tag = true ∨ (s.rd (.cfg
      .ldFlags)).testBit 3 = false) ∧ (ecdsa && hss) = false) ∧
    (∃ s : State, ∃ bytes : List Nat, ∃ e : Nat, ∃ l : List Nat, ∃ s1 : State, ∃ vcco : List Nat, TrailerFits (s.at e)
      bytes l s1 ∧ e < 2 ^ 80 ∧ (∀ v ∈ vcco, v < 65536) ∧ (s.rd (.cfg .ldFlags)).testBit 3 = true) ∧
    (∃ s : State, ∃ bytes : List Nat, ∃ e : Nat, ∃ l : List Nat, ∃ s1 : State, ∃ vcco : List Nat, Arrives (s.at e) bytes
      (s.rd (.cfg .ldLength) - s.consumed) ((s.rd (.cfg .ldFlags)).testBit 3) l s1 ∧ e < 2 ^ 80 ∧ (∀ v ∈ vcco, v <
      65536) ∧ s.loading = true ∧ s.rd (.cfg .ldTable) ≠ 0 ∧ (s.rd (.cfg .STAT_STATE) = 2 ∨ s.rd (.cfg .STAT_STATE) =
      3) ∧ ¬TrailerFits (s.at e) bytes l s1) ∧
    (∃ s : State, ∃ bytes : List Nat, ∃ e : Nat, ∃ vcco : List Nat, s.coreUp = true ∧ areBytes bytes = true ∧ e < 2 ^ 80 ∧
      (∀ v ∈ vcco, v < 65536) ∧ ((s.at e).takeBytes bytes (s.rd (.cfg .ldLength) - s.consumed) ((s.rd (.cfg
      .ldFlags)).testBit 3) = none ∨ s.rd (.cfg .ldTable) = 0 ∨ s.rd (.cfg .STAT_STATE) < 2 ∨ 3 < s.rd (.cfg
      .STAT_STATE))) ∧
    (∃ s : State, ∃ vcco : List Nat, s.coreUp = true ∧ (∀ v ∈ vcco, v < 65536) ∧ s.rd (.cfg .waits) = 1 ∧ s.anySub [1, 2]
      = false ∧ s.loading = true) ∧
    (∃ s : State, ∃ vcco : List Nat, s.coreUp = true ∧ (∀ v ∈ vcco, v < 65536) ∧ (s.rd (.cfg .waits) ≠ 1 ∨ s.anySub [1, 2]
      = true)) :=
  ⟨⟨(w (more upl [(.cfg .loadKind, 0, 0, 1), (.cfg .STAT_STATE, 0, 0, 3), (.cfg .STAT_SRC, 0, 0, 0), (.sec .STAT_LC, 0, 0,
      2), (.sec .KEYS_PRESENT, 0, 0, 0xFFFF), (.seif .COMPAT_LEVEL, 0, 0, 2), (.cfg .ldM, 0, 0, 1), (.cfg .ldPlaces,
      0, 0, 1), (.cfg .ldTable, 0, 0, 1), (.cfg .ldLength, 0, 0, 5192), (.cfg .ldPlace, 0, 0, 0xFFFFFFF7), (.cfg
      .ldFlags, 0, 0, 8)]) : State), trailer, 7, trailer, (s1of ((w (more upl [(.cfg .loadKind, 0, 0, 1), (.cfg
      .STAT_STATE, 0, 0, 3), (.cfg .STAT_SRC, 0, 0, 0), (.sec .STAT_LC, 0, 0, 2), (.sec .KEYS_PRESENT, 0, 0, 0xFFFF),
      (.seif .COMPAT_LEVEL, 0, 0, 2), (.cfg .ldM, 0, 0, 1), (.cfg .ldPlaces, 0, 0, 1), (.cfg .ldTable, 0, 0, 1), (.cfg
      .ldLength, 0, 0, 5192), (.cfg .ldPlace, 0, 0, 0xFFFFFFF7), (.cfg .ldFlags, 0, 0, 8)]) : State).at 7) trailer
      5192 true), true, [], by unfold TrailerFits Arrives; decide +kernel⟩,
   ⟨(w (more upl [(.cfg .loadKind, 0, 0, 1), (.cfg .STAT_STATE, 0, 0, 3), (.cfg .STAT_SRC, 0, 0, 0), (.sec .STAT_LC, 0, 0,
      2), (.sec .KEYS_PRESENT, 0, 0, 0xFFFF), (.seif .COMPAT_LEVEL, 0, 0, 2), (.cfg .ldM, 0, 0, 1), (.cfg .ldPlaces,
      0, 0, 1), (.cfg .ldTable, 0, 0, 1), (.cfg .ldLength, 0, 0, 5192), (.cfg .ldPlace, 0, 0, 0xFFFFFFF7)]) : State),
      trailer, 7, trailer, (s1of ((w (more upl [(.cfg .loadKind, 0, 0, 1), (.cfg .STAT_STATE, 0, 0, 3), (.cfg .STAT_SRC,
      0, 0, 0), (.sec .STAT_LC, 0, 0, 2), (.sec .KEYS_PRESENT, 0, 0, 0xFFFF), (.seif .COMPAT_LEVEL, 0, 0, 2), (.cfg
      .ldM, 0, 0, 1), (.cfg .ldPlaces, 0, 0, 1), (.cfg .ldTable, 0, 0, 1), (.cfg .ldLength, 0, 0, 5192), (.cfg
      .ldPlace, 0, 0, 0xFFFFFFF7)]) : State).at 7) trailer 5192 false), false, true, false, [],
      by unfold TrailerFits Arrives; decide +kernel⟩,
   ⟨(w (more upl [(.cfg .loadKind, 0, 0, 1), (.cfg .STAT_STATE, 0, 0, 3), (.cfg .STAT_SRC, 0, 0, 0), (.sec .STAT_LC, 0, 0,
      2), (.sec .KEYS_PRESENT, 0, 0, 0xFFFF), (.seif .COMPAT_LEVEL, 0, 0, 2), (.cfg .ldM, 0, 0, 1), (.cfg .ldPlaces,
      0, 0, 1), (.cfg .ldTable, 0, 0, 1), (.cfg .ldLength, 0, 0, 5192), (.cfg .ldPlace, 0, 0, 0xFFFFFFF7), (.cfg
      .ldFlags, 0, 0, 8)]) : State), trailer, 7, trailer, (s1of ((w (more upl [(.cfg .loadKind, 0, 0, 1), (.cfg
      .STAT_STATE, 0, 0, 3), (.cfg .STAT_SRC, 0, 0, 0), (.sec .STAT_LC, 0, 0, 2), (.sec .KEYS_PRESENT, 0, 0, 0xFFFF),
      (.seif .COMPAT_LEVEL, 0, 0, 2), (.cfg .ldM, 0, 0, 1), (.cfg .ldPlaces, 0, 0, 1), (.cfg .ldTable, 0, 0, 1), (.cfg
      .ldLength, 0, 0, 5192), (.cfg .ldPlace, 0, 0, 0xFFFFFFF7), (.cfg .ldFlags, 0, 0, 8)]) : State).at 7) trailer
      5192 true), [], by unfold TrailerFits Arrives; decide +kernel⟩,
   ⟨(w (more upl [(.cfg .loadKind, 0, 0, 1), (.cfg .STAT_STATE, 0, 0, 3), (.cfg .STAT_SRC, 0, 0, 0), (.sec .STAT_LC, 0, 0,
      2), (.sec .KEYS_PRESENT, 0, 0, 0xFFFF), (.seif .COMPAT_LEVEL, 0, 0, 2), (.cfg .ldM, 0, 0, 1), (.cfg .ldPlaces,
      0, 0, 1), (.cfg .ldTable, 0, 0, 1), (.cfg .ldLength, 0, 0, 5192), (.cfg .ldPlace, 0, 0, 0xFFFFFFF7), (.cfg
      .ldFlags, 0, 0, 8), (.cfg .ldFrames, 0, 0, 1)]) : State), trailer, 7, trailer, (s1of ((w (more upl [(.cfg
      .loadKind, 0, 0, 1), (.cfg .STAT_STATE, 0, 0, 3), (.cfg .STAT_SRC, 0, 0, 0), (.sec .STAT_LC, 0, 0, 2), (.sec
      .KEYS_PRESENT, 0, 0, 0xFFFF), (.seif .COMPAT_LEVEL, 0, 0, 2), (.cfg .ldM, 0, 0, 1), (.cfg .ldPlaces, 0, 0, 1),
      (.cfg .ldTable, 0, 0, 1), (.cfg .ldLength, 0, 0, 5192), (.cfg .ldPlace, 0, 0, 0xFFFFFFF7), (.cfg .ldFlags, 0, 0,
      8), (.cfg .ldFrames, 0, 0, 1)]) : State).at 7) trailer 5192 true), [],
      by unfold TrailerFits Arrives; decide +kernel⟩,
   ⟨(w (more upl [(.cfg .loadKind, 0, 0, 1), (.cfg .STAT_STATE, 0, 0, 4), (.cfg .STAT_SRC, 0, 0, 0), (.sec .STAT_LC, 0, 0,
      2), (.sec .KEYS_PRESENT, 0, 0, 0xFFFF), (.seif .COMPAT_LEVEL, 0, 0, 2), (.cfg .ldM, 0, 0, 1), (.cfg .ldPlaces,
      0, 0, 1), (.cfg .ldTable, 0, 0, 1), (.cfg .ldLength, 0, 0, 5192), (.cfg .ldPlace, 0, 0, 0xFFFFFFF7), (.cfg
      .waits, 0, 0, 1), (.ddr .STAT_STATE, 0, 7, 1)]) : State), [], 7, [], by decide +kernel⟩,
   ⟨(w (more fab7l [(.cfg .loadKind, 0, 0, 1), (.cfg .STAT_STATE, 0, 0, 4), (.cfg .STAT_SRC, 0, 0, 0), (.sec .STAT_LC, 0,
      0, 2), (.sec .KEYS_PRESENT, 0, 0, 0xFFFF), (.seif .COMPAT_LEVEL, 0, 0, 2), (.cfg .ldM, 0, 0, 1), (.cfg
      .ldPlaces, 0, 0, 1), (.cfg .ldTable, 0, 0, 1), (.cfg .ldLength, 0, 0, 5192), (.cfg .ldPlace, 0, 0, 0xFFFFFFF7),
      (.cfg .ldKeyslot, 0, 0, 4), (.cfg .waits, 0, 0, 1), (.cfg .ldLevel, 0, 0, 1)]) : State), [], by decide +kernel⟩,
   ⟨(w (more upl [(.cfg .loadKind, 0, 0, 1), (.cfg .STAT_STATE, 0, 0, 4), (.cfg .STAT_SRC, 0, 0, 0), (.sec .STAT_LC, 0, 0,
      2), (.sec .KEYS_PRESENT, 0, 0, 0xFFFF), (.seif .COMPAT_LEVEL, 0, 0, 2), (.cfg .ldM, 0, 0, 1), (.cfg .ldPlaces,
      0, 0, 1), (.cfg .ldTable, 0, 0, 1), (.cfg .ldLength, 0, 0, 5192), (.cfg .ldPlace, 0, 0, 0xFFFFFFF7), (.cfg
      .waits, 0, 0, 1), (.ddr .STAT_STATE, 0, 7, 1)]) : State), [], by decide +kernel⟩⟩

/-- What the clauses of Obligations.NichesAndScrubbing ask can be met. -/
theorem witness_NichesAndScrubbing_1 :
    (∃ s : State, ∃ d x : Nat, s.coreUp = true ∧ d < Config.n ∧ x < 12 ∧ s.nicheCode d x true = 0) ∧
    (∃ s : State, ∃ d x : Nat, s.coreUp = true ∧ d < Config.n ∧ x < 12 ∧ s.nicheCode d x true ≠ 0) ∧
    (∃ s : State, ∃ d x : Nat, s.coreUp = true ∧ d < Config.n ∧ x < 12 ∧ s.nicheCode d x false = 0) ∧
    (∃ s : State, ∃ d x : Nat, s.coreUp = true ∧ d < Config.n ∧ x < 12 ∧ s.nicheCode d x false ≠ 0) ∧
    (∃ s : State, ∃ d mv : Nat, s.coreUp = true ∧ d < Config.n ∧ mv < 65536 ∧ s.dieUsed d = true ∧ s.rd (.fab
      .IOSTAT_USED) (1 + d) = 1 ∧ s.isolated d = false ∧ vccoIn (s.rd (.fab .IOSTAT_VCCO_DECL) (1 + d)) mv = true) ∧
    (∃ s : State, ∃ d mv : Nat, s.coreUp = true ∧ d < Config.n ∧ mv < 65536 ∧ s.dieUsed d = true ∧ s.rd (.fab
      .IOSTAT_USED) (1 + d) = 1 ∧ s.isolated d = false ∧ s.rd (.fab .IOSTAT_BANK_OFF) (1 + d) = 1) ∧
    (∃ s : State, ∃ d mv : Nat, s.coreUp = true ∧ d < Config.n ∧ mv < 65536 ∧ (s.dieUsed d = false ∨ s.rd (.fab
      .IOSTAT_USED) (1 + d) = 0 ∨ s.isolated d = true)) ∧
    (∃ s : State, ∃ d mv : Nat, s.coreUp = true ∧ d < Config.n ∧ mv < 65536 ∧ s.dieUsed d = true ∧ s.rd (.fab
      .IOSTAT_USED) (1 + d) = 1 ∧ s.isolated d = false ∧ vccoIn (s.rd (.fab .IOSTAT_VCCO_DECL) (1 + d)) mv = false ∧
      s.rd (.fab .IOSTAT_BANK_OFF) (1 + d) = 0) ∧
    (∃ s : State, ∃ d k upset : Nat, ScrubReads s d k upset ∧ (scrubbed s d k upset).poison = false ∧ (scrubbed s d k
      upset).corr = false) ∧
    (∃ s : State, ∃ d k upset : Nat, ScrubReads s d k upset ∧ (scrubbed s d k upset).poison = false ∧ (scrubbed s d k
      upset).corr = true) ∧
    (∃ s : State, ∃ d k upset : Nat, ScrubReads s d k upset ∧ (scrubbed s d k upset).poison = true) ∧
    (∃ s : State, ∃ d upset : Nat, s.coreUp = true ∧ d < Config.n ∧ upset < 2 ^ 55 ∧ s.scrubRuns d = true ∧ (s.scrubSet
      d).testBit 0 = true ∧ s.nextWord d 8192 (s.rd (.scrub .POS_CFG) (1 + d)) = none) :=
  ⟨⟨(w (more fab7l [(.cfg .STAT_ACTIVE, 0, 0, 1), (.sec .STAT_LC, 0, 0, 2), (.cfg .CTRL_SRC, 0, 0, 1)]) : State), 7, 11,
      by decide +kernel⟩,
   ⟨(w upl : State), (Config.n - 1), (12 - 1), by decide +kernel⟩,
   ⟨(w (more fab7l [(.cfg .STAT_ACTIVE, 0, 0, 1), (.sec .STAT_LC, 0, 0, 2)]) : State), 7, 11, by decide +kernel⟩,
   ⟨(w upl : State), (Config.n - 1), (12 - 1), by decide +kernel⟩,
   ⟨(w (more fab7l [(.cfg .STAT_ACTIVE, 0, 0, 1), (.cfg .DIE_LOGICAL, 8, 0, 0), (.fab .IOSTAT_USED, 8, 0, 1), (.fab
      .IOSTAT_VCCO_DECL, 8, 0, 3)]) : State), 7, 1800, by decide +kernel⟩,
   ⟨(w (more fab7l [(.cfg .STAT_ACTIVE, 0, 0, 1), (.cfg .DIE_LOGICAL, 8, 0, 0), (.fab .IOSTAT_USED, 8, 0, 1), (.fab
      .IOSTAT_VCCO_DECL, 8, 0, 1), (.fab .IOSTAT_BANK_OFF, 8, 0, 1)]) : State), 7, 65535, by decide +kernel⟩,
   ⟨(w fab7l : State), 7, 65535, by decide +kernel⟩,
   ⟨(w (more fab7l [(.cfg .STAT_ACTIVE, 0, 0, 1), (.cfg .DIE_LOGICAL, 8, 0, 0), (.fab .IOSTAT_USED, 8, 0, 1), (.fab
      .IOSTAT_VCCO_DECL, 8, 0, 1)]) : State), 7, 65535, by decide +kernel⟩,
   ⟨(w (more upl [(.cfg .STAT_ACTIVE, 0, 0, 1), (.cfg .DIE_LOGICAL, 8, 0, 0), (.scrub .STAT_STATE, 8, 0, 1), (.scrub
      .SET_SET, 8, 0, 3), (.nch .STAT_STATE, 8, 0, 3)]) : State), 7, 0, 0, by unfold ScrubReads; decide +kernel⟩,
   ⟨(w (more upl [(.cfg .STAT_ACTIVE, 0, 0, 1), (.cfg .DIE_LOGICAL, 8, 0, 0), (.scrub .STAT_STATE, 8, 0, 1), (.scrub
      .SET_SET, 8, 0, 3), (.nch .STAT_STATE, 8, 0, 3)]) : State), 7, 0, 2, by unfold ScrubReads; decide +kernel⟩,
   ⟨(w (more upl [(.cfg .STAT_ACTIVE, 0, 0, 1), (.cfg .DIE_LOGICAL, 8, 0, 0), (.scrub .STAT_STATE, 8, 0, 1), (.scrub
      .SET_SET, 8, 0, 3), (.nch .STAT_STATE, 8, 0, 3)]) : State), 7, 0, 3, by unfold ScrubReads; decide +kernel⟩,
   ⟨(w (more upl [(.cfg .STAT_ACTIVE, 0, 0, 1), (.cfg .DIE_LOGICAL, 8, 0, 0), (.scrub .STAT_STATE, 8, 0, 1), (.scrub
      .SET_SET, 8, 0, 3), (.nch .STAT_STATE, 8, 0, 3), (.scrub .POS_CFG, 8, 0, planeWords)]) : State), 7, 3,
      by decide +kernel⟩⟩

/-- What the clauses of Obligations.NichesAndScrubbing ask can be met. -/
theorem witness_NichesAndScrubbing_2 :
    (∃ s : State, ∃ d upset : Nat, s.coreUp = true ∧ d < Config.n ∧ upset < 2 ^ 55 ∧ (s.scrubRuns d = false ∨ (s.scrubSet
      d).testBit 0 = false)) ∧
    (∃ s : State, ∃ d i : Nat, s.coreUp = true ∧ d < Config.n ∧ s.scrubRuns d = true ∧ (s.scrubSet d).testBit 1 = true ∧
      (s.scrubWaits.filter fun k => k / (512 * 16384) == d).length < 16 ∧ s.nextIndex d 513 (s.rd (.scrub .POS_BANK)
      (1 + d)) = some i) ∧
    (∃ s : State, ∃ d b : Nat, s.coreUp = true ∧ d < Config.n ∧ s.scrubRuns d = true ∧ (s.scrubSet d).testBit 1 = true ∧
      (s.scrubWaits.filter fun k => k / (512 * 16384) == d).length < 16 ∧ s.nextIndex d 513 (s.rd (.scrub .POS_BANK)
      (1 + d)) = none ∧ b < 512 ∧ s.scrubsBank d b = true) ∧
    (∃ s : State, ∃ d : Nat, s.coreUp = true ∧ d < Config.n ∧ (s.scrubRuns d = false ∨ (s.scrubSet d).testBit 1 = false ∨
      16 ≤ (s.scrubWaits.filter fun k => k / (512 * 16384) == d).length)) ∧
    (∃ s : State, ∃ d t : Nat, s.coreUp = true ∧ d < Config.n ∧ t < 2 ^ 80 ∧ s.scrubRuns d = false) ∧
    (∃ s : State, ∃ d v : Nat, s.booted = true ∧ d < Config.n ∧ v < 65536 ∧ (s.isolated d = true ∨ 2 ^ 14 ≤ v)) ∧
    (∃ s : State, ∃ d v : Nat, s.coreUp = true ∧ d < Config.n ∧ v % 2 = 0) ∧
    (∃ s : State, ∃ d t : Nat, s.coreUp = true ∧ d < Config.n ∧ t < 2 ^ 80 ∧ s.scrubRuns d = true ∧ (s.at t).reloadsSpent
      d = false) ∧
    (∃ s : State, ∃ d t : Nat, s.coreUp = true ∧ d < Config.n ∧ t < 2 ^ 80 ∧ s.scrubRuns d = true ∧ (s.at t).reloadsSpent
      d = true) ∧
    (∃ s : State, ∃ d v : Nat, s.booted = true ∧ d < Config.n ∧ v < 2 ^ 14 ∧ s.isolated d = false) ∧
    (∃ s : State, ∃ d v : Nat, s.coreUp = true ∧ d < Config.n ∧ v % 2 = 1) :=
  ⟨⟨(w upl : State), (Config.n - 1), (2 ^ 55 - 1), by decide +kernel⟩,
   ⟨(w (more upl [(.cfg .STAT_ACTIVE, 0, 0, 1), (.cfg .DIE_LOGICAL, 8, 0, 0), (.scrub .STAT_STATE, 8, 0, 1), (.scrub
      .SET_SET, 8, 0, 3), (.nch .STAT_STATE, 8, 0, 3), (.bank .CFG_USED, 8, 0, 1), (.bank .STAT_PWR, 8, 0, 1)]) :
      State), 7, 0, by decide +kernel⟩,
   ⟨(w (more upl [(.cfg .STAT_ACTIVE, 0, 0, 1), (.cfg .DIE_LOGICAL, 8, 0, 0), (.scrub .STAT_STATE, 8, 0, 1), (.scrub
      .SET_SET, 8, 0, 3), (.nch .STAT_STATE, 8, 0, 3), (.bank .CFG_USED, 8, 0, 1), (.bank .STAT_PWR, 8, 0, 1), (.scrub
      .POS_BANK, 8, 0, bankReads - 1)]) : State), 7, 0, by decide +kernel⟩,
   ⟨(w upl : State), 7, by decide +kernel⟩,
   ⟨(w upl : State), (Config.n - 1), (2 ^ 80 - 1), by decide +kernel⟩,
   ⟨(w bootl : State), (Config.n - 1), (2 ^ 14), by decide +kernel⟩,
   ⟨(w upl : State), (Config.n - 1), 0, by decide +kernel⟩,
   ⟨(w (more upl [(.cfg .STAT_ACTIVE, 0, 0, 1), (.cfg .DIE_LOGICAL, 8, 0, 0), (.scrub .STAT_STATE, 8, 0, 1), (.scrub
      .SET_SET, 8, 0, 3)]) : State), 7, 5, by decide +kernel⟩,
   ⟨(w (more upl [(.cfg .STAT_ACTIVE, 0, 0, 1), (.cfg .DIE_LOGICAL, 8, 0, 0), (.scrub .STAT_STATE, 8, 0, 1), (.scrub
      .SET_SET, 8, 0, 3), (.scrub .reloadHas, 8, 2, 1)]) : State), 7, 5, by decide +kernel⟩,
   ⟨(w (more fab7l [(.tick .STATE_STATE, 0, 0, 0)]) : State), (Config.n - 1), (2 ^ 14 - 1), by decide +kernel⟩,
   ⟨(w upl : State), 0, 1, by decide +kernel⟩⟩

/-- What the clauses of Obligations.LinkLossAndIsolation ask can be met. -/
theorem witness_LinkLossAndIsolation :
    (∃ s : State, ∃ d : Nat, s.booted = true ∧ d < Config.n ∧ Stays s d) ∧
    (∃ s : State, ∃ d : Nat, s.booted = true ∧ d < Config.n ∧ s.dieHere d = false ∧ s.rd (.seif .joining) 0 d = 0) ∧
    (∃ s : State, ∃ d tj : Nat, s.coreUp = true ∧ d < Config.n ∧ 110 ≤ tj ∧ tj < 128 ∧ Stays s d) ∧
    (∃ s : State, ∃ d : Nat, s.coreUp = true ∧ d < Config.n ∧ Stays s d) ∧
    (∃ s : State, ∃ d tj : Nat, s.coreUp = true ∧ d < Config.n ∧ 110 ≤ tj ∧ tj < 128 ∧ s.dieHere d = false ∧ s.rd (.seif
      .joining) 0 d = 0) ∧
    (∃ s : State, ∃ d tj : Nat, ∃ c : Instr, ∃ cause : Nat, s.coreUp = true ∧ s.booted = true ∧ d < Config.n ∧ 110 ≤ tj ∧
      tj < 128 ∧ s.rd (.seif .joining) 0 d = 1 ∧ (c, cause) ∈ [(Instr.isolate d, 4), (.thermalTrip d tj, 3),
      (.dieSupplyFailure d, 5)]) ∧
    (∃ s : State, ∃ u l : Nat, s.coreUp = true ∧ okSide u l = true ∧ s.linkState (linkOf u l) = 4) ∧
    (∃ s : State, ∃ u l : Nat, s.coreUp = true ∧ okSide u l = true ∧ s.linkState (linkOf u l) ≠ 4) ∧
    (∃ s : State, ∃ d : Nat, s.coreUp = true ∧ d < Config.n ∧ s.dieHere d = true) ∧
    (∃ s : State, ∃ d : Nat, s.coreUp = true ∧ d < Config.n ∧ s.dieHere d = false) :=
  ⟨⟨(w (more fab7l [(.tick .STATE_STATE, 0, 0, 0)]) : State), (Config.n - 1), by unfold Stays; decide +kernel⟩,
   ⟨(w bootl : State), (Config.n - 1), by decide +kernel⟩,
   ⟨(w (more fab7l [(.tick .STATE_STATE, 0, 0, 0)]) : State), (Config.n - 1), (128 - 1), by unfold Stays; decide +kernel⟩,
   ⟨(w (more fab7l [(.tick .STATE_STATE, 0, 0, 0)]) : State), (Config.n - 1), by unfold Stays; decide +kernel⟩,
   ⟨(w bootl : State), (Config.n - 1), (128 - 1), by decide +kernel⟩,
   ⟨(w (more bootl [(.seif .joining, 0, 7, 1)]) : State), 7, 127, (.isolate 7), 4, by decide +kernel⟩,
   ⟨(w (more upl [(.seif .STAT_STATE, 0, 7, 4), (.seif .STAT_STATE, 8, 2, 4)]) : State), 8, 2, by decide +kernel⟩,
   ⟨(w upl : State), 0, 0, by decide +kernel⟩,
   ⟨(w (more fab7l [(.tick .STATE_STATE, 0, 0, 0)]) : State), (Config.n - 1), by decide +kernel⟩,
   ⟨(w bootl : State), (Config.n - 1), by decide +kernel⟩⟩

/-- What the clauses of Obligations.SeifBlocks ask can be met. -/
theorem witness_SeifBlocks :
    (∃ s : State, ∃ u l b : Nat, (s.txWires u l).length ∈ [16, 32, 64] ∧ b < 2 ^ 2560) ∧
    (∃ s : State, ∃ u l : Nat, ∃ flits : List LinkFlit, ∃ flips : List (Nat × Nat), ∃ b : Nat, ∃ s2 : State, BlockArrives
      s u l flits flips b s2 ∧ blockCrc b ≠ slice b 48 16 ∧ s2.resentOut u l = false) ∧
    (∃ s : State, ∃ u l : Nat, ∃ flits : List LinkFlit, ∃ flips : List (Nat × Nat), ∃ b : Nat, ∃ s2 : State, BlockArrives
      s u l flits flips b s2 ∧ blockCrc b = slice b 48 16 ∧ ¬BlockTaken s2 u l b ∧ s2.resentOut u l = false) ∧
    (∃ s : State, ∃ u l : Nat, ∃ flits : List LinkFlit, ∃ flips : List (Nat × Nat), ∃ b : Nat, ∃ s2 : State, BlockArrives
      s u l flits flips b s2 ∧ BlockTaken s2 u l b ∧ (∀ e ∈ s2.unacked u l, e.resent < 8)) ∧
    (∃ s : State, ∃ u l : Nat, ∃ flits : List LinkFlit, ∃ flips : List (Nat × Nat), ∃ b : Nat, ∃ s2 : State, BlockArrives
      s u l flits flips b s2 ∧ (s2.receiveBlock u l b).resentOut u l = true) ∧
    (∃ s : State, ∃ u l : Nat, ∃ flits : List LinkFlit, ∃ flips : List (Nat × Nat), s.coreUp = true ∧ okSide u l = true ∧
      (∀ x ∈ flips, x.1 < 68 ∧ x.2 < 160) ∧ (s.linkState (linkOf u l) ≠ 4 ∨ s.nextBlock (partnerOf u l).1 (partnerOf u
      l).2 flits = none)) :=
  ⟨⟨(w (more fab7l [(.seif .TXMAP_LO_MAP, 0, 7, 65535), (.seif .STAT_WIDTH, 0, 7, 1)]) : State), 0, 7, (2 ^ 2560 - 1),
      by decide +kernel⟩,
   ⟨(w (more fab7l [(.seif .STAT_STATE, 0, 7, 4), (.seif .STAT_STATE, 8, 2, 4)]) : State), 8, 2, [], [], (blk (w (more fab7l 
      [(.seif .STAT_STATE, 0, 7, 4), (.seif .STAT_STATE, 8, 2, 4)]) : State) 8 2).1, (blk (w (more fab7l [(.seif
      .STAT_STATE, 0, 7, 4), (.seif .STAT_STATE, 8, 2, 4)]) : State) 8 2).2, ⟨by decide +kernel, by decide +kernel,
      by decide +kernel, by decide +kernel, (sent (w (more fab7l [(.seif .STAT_STATE, 0, 7, 4), (.seif .STAT_STATE, 8,
      2, 4)]) : State) 8 2).1, (sent (w (more fab7l [(.seif .STAT_STATE, 0, 7, 4), (.seif .STAT_STATE, 8, 2, 4)]) :
      State) 8 2).2, by decide +kernel, by decide +kernel⟩, by decide +kernel, by decide +kernel⟩,
   ⟨(w (more fab7l [(.seif .STAT_STATE, 0, 7, 4), (.seif .STAT_STATE, 8, 2, 4), (.seif .TXMAP_LO_MAP, 0, 7, 65535), (.seif
      .STAT_WIDTH, 0, 7, 1), (.seif .expect, 8, 2, 5), (.seif .discard, 8, 2, 1)]) : State), 8, 2, [], [],
      11103624881684611072, (blk (w (more fab7l [(.seif .STAT_STATE, 0, 7, 4), (.seif .STAT_STATE, 8, 2, 4), (.seif
      .TXMAP_LO_MAP, 0, 7, 65535), (.seif .STAT_WIDTH, 0, 7, 1), (.seif .expect, 8, 2, 5), (.seif .discard, 8, 2, 1)])
      : State) 8 2).2, ⟨by decide +kernel, by decide +kernel, by decide +kernel, by decide +kernel, (sent (w (more fab7l 
      [(.seif .STAT_STATE, 0, 7, 4), (.seif .STAT_STATE, 8, 2, 4), (.seif .TXMAP_LO_MAP, 0, 7, 65535), (.seif
      .STAT_WIDTH, 0, 7, 1), (.seif .expect, 8, 2, 5), (.seif .discard, 8, 2, 1)]) : State) 8 2).1, (sent (w (more fab7l 
      [(.seif .STAT_STATE, 0, 7, 4), (.seif .STAT_STATE, 8, 2, 4), (.seif .TXMAP_LO_MAP, 0, 7, 65535), (.seif
      .STAT_WIDTH, 0, 7, 1), (.seif .expect, 8, 2, 5), (.seif .discard, 8, 2, 1)]) : State) 8 2).2, by decide +kernel,
      by decide +kernel⟩, by decide +kernel, by unfold BlockTaken; decide +kernel, by decide +kernel⟩,
   ⟨(w (more fab7l [(.seif .STAT_STATE, 0, 7, 4), (.seif .STAT_STATE, 8, 2, 4), (.seif .TXMAP_LO_MAP, 0, 7, 65535), (.seif
      .STAT_WIDTH, 0, 7, 1)]) : State), 8, 2, [], [], 11103624881684611072, (blk (w (more fab7l [(.seif .STAT_STATE, 0,
      7, 4), (.seif .STAT_STATE, 8, 2, 4), (.seif .TXMAP_LO_MAP, 0, 7, 65535), (.seif .STAT_WIDTH, 0, 7, 1)]) : State)
      8 2).2, ⟨by decide +kernel, by decide +kernel, by decide +kernel, by decide +kernel, (sent (w (more fab7l [(.seif
      .STAT_STATE, 0, 7, 4), (.seif .STAT_STATE, 8, 2, 4), (.seif .TXMAP_LO_MAP, 0, 7, 65535), (.seif .STAT_WIDTH, 0,
      7, 1)]) : State) 8 2).1, (sent (w (more fab7l [(.seif .STAT_STATE, 0, 7, 4), (.seif .STAT_STATE, 8, 2, 4), (.seif
      .TXMAP_LO_MAP, 0, 7, 65535), (.seif .STAT_WIDTH, 0, 7, 1)]) : State) 8 2).2, by decide +kernel,
      by decide +kernel⟩, by unfold BlockTaken; decide +kernel, by decide +kernel⟩,
   ⟨({ w (more fab7l [(.seif .STAT_STATE, 0, 7, 4), (.seif .STAT_STATE, 8, 2, 4)]) with replay := [⟨8, 2, 0, [], 0, 6, 0, true, 8⟩] } : State), 8, 2, [], [], (blk ({ w (more fab7l [(.seif .STAT_STATE, 0, 7, 4), (.seif .STAT_STATE, 8, 2, 4)]) with replay := [⟨8, 2, 0, [], 0, 6, 0, true, 8⟩] } : State) 8 2).1, (blk ({ w (more fab7l [(.seif .STAT_STATE, 0, 7, 4), (.seif .STAT_STATE, 8, 2, 4)]) with replay := [⟨8, 2, 0, [], 0, 6, 0, true, 8⟩] } : State) 8 2).2, ⟨by decide +kernel, by decide +kernel, by decide +kernel, by decide +kernel, (sent ({ w (more fab7l [(.seif .STAT_STATE, 0, 7, 4), (.seif .STAT_STATE, 8, 2, 4)]) with replay := [⟨8, 2, 0, [], 0, 6, 0, true, 8⟩] } : State) 8 2).1, (sent ({ w (more fab7l [(.seif .STAT_STATE, 0, 7, 4), (.seif .STAT_STATE, 8, 2, 4)]) with replay := [⟨8, 2, 0, [], 0, 6, 0, true, 8⟩] } : State) 8 2).2, by decide +kernel, by decide +kernel⟩, by decide +kernel⟩,
   ⟨(w bootl : State), 0, 0, [], [], by decide +kernel⟩⟩

/-- What the clauses of Obligations.LinkTraining ask can be met. -/
theorem witness_LinkTraining :
    (∃ s : State, ∃ lk tx rx tx' rx' : Nat, s.coreUp = true ∧ lk < linkCount ∧ tx < 2 ^ 68 ∧ rx < 2 ^ 68 ∧ tx' < 2 ^ 68 ∧
      rx' < 2 ^ 68 ∧ s.canTrain lk = true) ∧
    (∃ s : State, ∃ lk tx rx tx' rx' : Nat, s.coreUp = true ∧ lk < linkCount ∧ tx < 2 ^ 68 ∧ rx < 2 ^ 68 ∧ tx' < 2 ^ 68 ∧
      rx' < 2 ^ 68 ∧ s.canTrain lk = false) ∧
    (∃ s : State, ∃ u l : Nat, s.coreUp = true ∧ okSide u l = true ∧ 1 ≤ s.rd (.seif .STAT_STATE) u l ∧ s.rd (.seif
      .STAT_STATE) u l ≤ 3) ∧
    (∃ s : State, ∃ u l : Nat, s.coreUp = true ∧ okSide u l = true ∧ (s.rd (.seif .STAT_STATE) u l = 0 ∨ 3 < s.rd (.seif
      .STAT_STATE) u l)) ∧
    (∃ s : State, ∃ lk : Nat, s.coreUp = true ∧ lk < linkCount ∧ Confirms s lk ∧ s.agreed lk (initiator lk) = s.agreed lk
      (responder lk) ∧ (s.agreed lk (initiator lk)).2.2 ≠ 0) ∧
    (∃ s : State, ∃ lk : Nat, s.coreUp = true ∧ lk < linkCount ∧ Confirms s lk ∧ s.agreed lk (initiator lk) ≠ s.agreed lk
      (responder lk) ∧ (s.agreed lk (initiator lk)).2.2 ≠ 0 ∧ (s.agreed lk (responder lk)).2.2 ≠ 0) ∧
    (∃ s : State, ∃ lk : Nat, s.coreUp = true ∧ lk < linkCount ∧ Confirms s lk ∧ ((s.agreed lk (initiator lk)).2.2 = 0 ∨
      (s.agreed lk (responder lk)).2.2 = 0)) ∧
    (∃ s : State, ∃ lk : Nat, s.coreUp = true ∧ lk < linkCount ∧ ¬Confirms s lk) ∧
    (∃ s : State, ∃ lk : Nat, s.coreUp = true ∧ lk < linkCount ∧ (∃ q ∈ sidesOf lk, 1 ≤ s.rd (.seif .STAT_STATE) q.1 q.2 ∧
      s.rd (.seif .STAT_STATE) q.1 q.2 ≤ 3)) ∧
    (∃ s : State, ∃ lk : Nat, s.coreUp = true ∧ lk < linkCount ∧ (∀ q ∈ sidesOf lk, s.rd (.seif .STAT_STATE) q.1 q.2 = 0 ∨
      3 < s.rd (.seif .STAT_STATE) q.1 q.2)) :=
  ⟨⟨(w fab07l : State), (linkCount - 1), (2 ^ 68 - 1), (2 ^ 68 - 1), (2 ^ 68 - 1), (2 ^ 68 - 1), by decide +kernel⟩,
   ⟨(w upl : State), (linkCount - 1), (2 ^ 68 - 1), (2 ^ 68 - 1), (2 ^ 68 - 1), (2 ^ 68 - 1), by decide +kernel⟩,
   ⟨(w (more upl [(.seif .STAT_STATE, 8, 2, 3)]) : State), 8, 2, by decide +kernel⟩,
   ⟨(w bootl : State), 0, 0, by decide +kernel⟩,
   ⟨(w (more upl [(.seif .STAT_STATE, 0, 7, 3), (.seif .STAT_STATE, 8, 2, 3), (.seif .pHeld, 0, 7, 1), (.seif .pHeld, 8, 2,
      1), (.seif .txok, 0, 7, 2 ^ 68 - 1 - 0), (.seif .rxok, 0, 7, 2 ^ 68 - 1 - 0), (.seif .pTx, 0, 7, 2 ^ 68 - 1 -
      0), (.seif .pRx, 0, 7, 2 ^ 68 - 1 - 0), (.seif .txok, 8, 2, 2 ^ 68 - 1 - 0), (.seif .rxok, 8, 2, 2 ^ 68 - 1 -
      0), (.seif .pTx, 8, 2, 2 ^ 68 - 1 - 0), (.seif .pRx, 8, 2, 2 ^ 68 - 1 - 0)]) : State), 7,
      by unfold Confirms; decide +kernel⟩,
   ⟨(w (more upl [(.seif .STAT_STATE, 0, 7, 3), (.seif .STAT_STATE, 8, 2, 3), (.seif .pHeld, 0, 7, 1), (.seif .pHeld, 8, 2,
      1), (.seif .txok, 0, 7, 2 ^ 68 - 1 - 0), (.seif .rxok, 0, 7, 2 ^ 68 - 1 - 0), (.seif .pTx, 0, 7, 2 ^ 68 - 1 -
      0), (.seif .pRx, 0, 7, 2 ^ 68 - 1 - 0), (.seif .txok, 8, 2, 2 ^ 68 - 1 - 1), (.seif .rxok, 8, 2, 2 ^ 68 - 1 -
      1), (.seif .pTx, 8, 2, 2 ^ 68 - 1 - 1), (.seif .pRx, 8, 2, 2 ^ 68 - 1 - 1)]) : State), 7,
      by unfold Confirms; decide +kernel⟩,
   ⟨(w (more fab7l [(.seif .STAT_STATE, 0, 7, 1), (.seif .STAT_STATE, 8, 2, 1), (.seif .pHeld, 0, 7, 1), (.seif .pHeld, 8,
      2, 1)]) : State), 7, by unfold Confirms; decide +kernel⟩,
   ⟨(w bootl : State), 0, by unfold Confirms; decide +kernel⟩,
   ⟨(w (more fab7l [(.seif .STAT_STATE, 0, 7, 1)]) : State), 7, by decide +kernel⟩,
   ⟨(w bootl : State), 0, by decide +kernel⟩⟩

/-- What the clauses of Obligations.LinkCommands ask can be met. -/
theorem witness_LinkCommands :
    (∃ s : State, ∃ u l : Nat, s.coreUp = true ∧ okSide u l = true ∧ s.tickLive = false ∧ s.linkState (linkOf u l) ≠ 5) ∧
    (∃ s : State, ∃ u l : Nat, s.coreUp = true ∧ okSide u l = true ∧ s.tickLive = false ∧ s.linkState (linkOf u l) = 5) ∧
    (∃ s : State, ∃ u l : Nat, s.coreUp = true ∧ okSide u l = true ∧ s.tickLive = false) ∧
    (∃ s : State, ∃ u l : Nat, s.coreUp = true ∧ okSide u l = true ∧ s.rd (.seif .STAT_STATE) u l = 5 ∧ s.rd (.seif
      .STAT_HOLD) u l ≠ 3 ∧ s.rd (.seif .STAT_HOLD) u l ≠ 4 ∧ (∀ d ∈ endDies (linkOf u l), s.dieHere d = true ∨ s.rd
      (.seif .joining) 0 d = 1)) ∧
    (∃ s : State, ∃ u l : Nat, s.coreUp = true ∧ okSide u l = true ∧ s.tickLive = true) ∧
    (∃ s : State, ∃ u l d : Nat, s.coreUp = true ∧ okSide u l = true ∧ s.rd (.seif .STAT_STATE) u l = 5 ∧ s.rd (.seif
      .STAT_HOLD) u l ≠ 3 ∧ s.rd (.seif .STAT_HOLD) u l ≠ 4 ∧ d ∈ endDies (linkOf u l) ∧ s.dieHere d = false ∧ s.rd
      (.seif .joining) 0 d ≠ 1) ∧
    (∃ s : State, ∃ u l : Nat, s.coreUp = true ∧ okSide u l = true ∧ (s.rd (.seif .STAT_STATE) u l ≠ 5 ∨ s.rd (.seif
      .STAT_HOLD) u l = 3 ∨ s.rd (.seif .STAT_HOLD) u l = 4)) ∧
    (∃ s : State, ∃ d : Nat, s.booted = true ∧ d < Config.n ∧ s.rejoinCode d = 0) ∧
    (∃ s : State, ∃ d : Nat, s.booted = true ∧ d < 8 ∧ s.rejoinCode d ≠ 0) :=
  ⟨⟨(w upl : State), 0, 0, by decide +kernel⟩,
   ⟨(w (more upl [(.seif .STAT_STATE, 0, 0, 5)]) : State), 0, 0, by decide +kernel⟩,
   ⟨(w upl : State), 0, 0, by decide +kernel⟩,
   ⟨(w (more fab7l [(.seif .STAT_STATE, 8, 2, 5), (.seif .STAT_HOLD, 8, 2, 2)]) : State), 8, 2, by decide +kernel⟩,
   ⟨(w (more upl [(.tick .STATE_STATE, 0, 0, 1)]) : State), 0, 0, by decide +kernel⟩,
   ⟨(w (more upl [(.seif .STAT_STATE, 8, 2, 5), (.seif .STAT_HOLD, 8, 2, 2)]) : State), 8, 2, 7, by decide +kernel⟩,
   ⟨(w upl : State), 0, 0, by decide +kernel⟩,
   ⟨(w (more bootl [(.seif .DIE_STATE, 0, 7, 4), (.mod .DPWR_TJ, 8, 0, 40)]) : State), 7, by decide +kernel⟩,
   ⟨(w bootl : State), (8 - 1), by decide +kernel⟩⟩

/-- What the clauses of Obligations.PowerBudget ask can be met. -/
theorem witness_PowerBudget :
    (∃ s : State, s.coreUp = true) ∧
    (∃ s : State, ∃ d avg : Nat, s.coreUp = true ∧ d < Config.n ∧ avg < 65536 ∧ s.dieHere d = true ∧ s.linkActive 0 d =
      true ∧ 10 ∣ avg) ∧
    (∃ s : State, ∃ d avg : Nat, s.coreUp = true ∧ d < Config.n ∧ avg < 65536 ∧ s.dieHere d = true ∧ s.linkActive 0 d =
      true) ∧
    (∃ s : State, ∃ d avg : Nat, s.coreUp = true ∧ d < Config.n ∧ avg < 65536 ∧ (s.dieHere d = false ∨ s.linkActive 0 d =
      false)) ∧
    (∃ s : State, ∃ d : Nat, s.coreUp = true ∧ d < Config.n ∧ s.rd (.mod .sentHas) 0 d = 0) ∧
    (∃ s : State, ∃ d power tj : Nat, s.coreUp = true ∧ d < Config.n ∧ power < 65536 ∧ tj < 256 ∧ s.dieHere d = false) ∧
    (∃ s : State, ∃ d : Nat, s.coreUp = true ∧ d < Config.n ∧ s.dieHere d = true ∧ s.linkActive 0 d = true ∧ s.rd (.mod
      .sentHas) 0 d ≠ 0) ∧
    (∃ s : State, ∃ d power tj : Nat, s.coreUp = true ∧ d < Config.n ∧ power < 65536 ∧ tj < 256 ∧ s.dieHere d = true ∧
      s.rd (.mod .DPWR_K) (1 + d) ≤ 16) ∧
    (∃ s : State, ∃ d : Nat, s.coreUp = true ∧ d < Config.n ∧ s.dieHere d = true) :=
  ⟨⟨(w upl : State), by decide +kernel⟩,
   ⟨(w (more fab07l [(.tick .STATE_STATE, 0, 0, 0), (.seif .STAT_STATE, 0, 0, 4)]) : State), 0, 0, by decide +kernel⟩,
   ⟨(w (more fab7l [(.tick .STATE_STATE, 0, 0, 0), (.seif .STAT_STATE, 0, 7, 4)]) : State), (Config.n - 1), (65536 - 1),
      by decide +kernel⟩,
   ⟨(w (more fab07l [(.tick .STATE_STATE, 0, 0, 0)]) : State), 0, 0, by decide +kernel⟩,
   ⟨(w bootl : State), (Config.n - 1), by decide +kernel⟩,
   ⟨(w (more upl [(.tick .STATE_STATE, 0, 0, 0)]) : State), (Config.n - 1), 65535, 255, by decide +kernel⟩,
   ⟨(w (more fab7l [(.mod .sentHas, 0, 7, 1), (.seif .STAT_STATE, 0, 7, 4)]) : State), 7, by decide +kernel⟩,
   ⟨(w (more fab7l [(.tick .STATE_STATE, 0, 0, 0)]) : State), (Config.n - 1), (65536 - 1), (256 - 1), by decide +kernel⟩,
   ⟨(w (more fab7l [(.tick .STATE_STATE, 0, 0, 0)]) : State), (Config.n - 1), by decide +kernel⟩⟩

/-- What the clauses of Obligations.GrantsWithinBudget ask can be met. -/
theorem witness_GrantsWithinBudget :
    (∃ s : State, s.coreUp = true) :=
  ⟨(w upl : State), by decide +kernel⟩

/-- What the clauses of Obligations.ModuleStarts ask can be met. -/
theorem witness_ModuleStarts_1 :
    (∃ pins vin : Nat, pins < 2 ^ 11 ∧ 3500 < vin ∧ vin < 2 ^ 16) ∧
    (∃ pins vin : Nat, pins < 2 ^ 11 ∧ vin ≤ 3500) ∧
    (∃ s : State, ∃ pins vin : Nat, ∃ fell : Bool, pins < 2 ^ 11 ∧ 3500 < vin ∧ vin < 2 ^ 16 ∧ s.rd (.mod .stby) = 0 ∧
      s.rd (.mod .mated) = 1 ∧ (fell = true ∨ s.rd (.mod .latchedOpen) = 0) ∧ s.rd (.mod .leverOut) = 0) ∧
    (∃ s : State, ∃ pins vin : Nat, pins < 2 ^ 11 ∧ 3500 < vin ∧ vin < 2 ^ 16 ∧ s.rd (.mod .latchedOpen) = 1) ∧
    (∃ s : State, ∃ pins vin : Nat, pins < 2 ^ 11 ∧ 3500 < vin ∧ vin < 2 ^ 16 ∧ (s.rd (.mod .stby) = 1 ∨ s.rd (.mod
      .mated) = 0 ∨ s.rd (.mod .leverOut) = 1)) ∧
    (∃ s : State, ∃ pins : Nat, pins < 2 ^ 11 ∧ s.rd (.mod .tripWait) = 1 ∧ s.rd (.mod .latchedOpen) = 0 ∧ s.rd (.mod
      .mated) = 1) ∧
    (∃ s : State, ∃ pins : Nat, pins < 2 ^ 11 ∧ (s.rd (.mod .latchedOpen) ≠ 0 ∨ s.rd (.mod .tripWait) ≠ 1 ∨ s.rd (.mod
      .mated) ≠ 1)) ∧
    (∃ s : State, ∃ pins : Nat, pins < 2 ^ 11 ∧ s.rd (.mod .leverOut) = 1 ∧ s.rd (.mod .mated) = 1 ∧ s.rd (.mod .stby) =
      0) ∧
    (∃ s : State, ∃ pins : Nat, pins < 2 ^ 11 ∧ (s.rd (.mod .leverOut) ≠ 1 ∨ s.rd (.mod .mated) ≠ 1 ∨ s.rd (.mod .stby) ≠
      0)) ∧
    (∃ s : State, ∃ failed : Nat, ∃ fuses : List (Nat × Nat × Nat), Granted s failed fuses ∧ PlateGood s ∧ (∀ d, d <
      Config.n → s.rd (.seif .joining) 0 d = 0)) ∧
    (∃ s : State, ∃ fuses : List (Nat × Nat × Nat), Granted s 0 fuses ∧ PlateGood s) ∧
    (∃ s : State, ∃ failed : Nat, ∃ fuses : List (Nat × Nat × Nat), Granted s failed fuses ∧ ¬PlateGood s) :=
  ⟨⟨(2 ^ 11 - 1), (2 ^ 16 - 1), by decide +kernel⟩,
   ⟨(2 ^ 11 - 1), 3500, by decide +kernel⟩,
   ⟨(w [(.mod .mated, 0, 0, 1), (.mod .stby, 0, 0, 0)] : State), 2047, 65535, true, by decide +kernel⟩,
   ⟨(w [(.mod .mated, 0, 0, 1), (.mod .stby, 0, 0, 0), (.mod .latchedOpen, 0, 0, 1)] : State), 2047, 65535,
      by decide +kernel⟩,
   ⟨(w [(.mod .mated, 0, 0, 0), (.mod .stby, 0, 0, 0)] : State), 2047, 65535, by decide +kernel⟩,
   ⟨(w [(.mod .mated, 0, 0, 1), (.mod .stby, 0, 0, 0), (.mod .tripWait, 0, 0, 1)] : State), 2047, by decide +kernel⟩,
   ⟨(w [(.mod .mated, 0, 0, 1), (.mod .stby, 0, 0, 0), (.mod .latchedOpen, 0, 0, 1)] : State), 2047, by decide +kernel⟩,
   ⟨(w [(.mod .mated, 0, 0, 1), (.mod .stby, 0, 0, 0), (.mod .leverOut, 0, 0, 1)] : State), 2047, by decide +kernel⟩,
   ⟨(w [] : State), (2 ^ 11 - 1), by decide +kernel⟩,
   ⟨(w [(.mod .stby, 0, 0, 1)] : State), 0, [], by unfold Granted PlateGood; decide +kernel⟩,
   ⟨(w [(.mod .mated, 0, 0, 1), (.mod .stby, 0, 0, 1)] : State), [(7, 511, 3)],
      by unfold Granted PlateGood; decide +kernel⟩,
   ⟨(w [(.mod .mated, 0, 0, 1), (.mod .stby, 0, 0, 1), (.mod .TEMP_TCP, 0, 0, 0x47)] : State), 255, [],
      by unfold Granted PlateGood; decide +kernel⟩⟩

/-- What the clauses of Obligations.ModuleStarts ask can be met. -/
theorem witness_ModuleStarts_2 :
    (∃ s : State, ∃ failed : Nat, ∃ fuses : List (Nat × Nat × Nat), Granted s failed fuses ∧ PlateGood s) ∧
    (∃ s : State, ∃ failed : Nat, ∃ fuses : List (Nat × Nat × Nat), failed < 2 ^ Config.n ∧ (∀ x ∈ fuses, x.1 < Config.n ∧
      x.2.1 < 513 ∧ x.2.2 < 4) ∧ (s.rd (.mod .stby) = 0 ∨ s.rd (.mod .STAT_STATE) ≠ 0)) :=
  ⟨⟨(w [(.mod .stby, 0, 0, 1)] : State), (2 - 1), [], by unfold Granted PlateGood; decide +kernel⟩,
   ⟨(w [(.mod .stby, 0, 0, 0)] : State), 255, [], by decide +kernel⟩⟩

/-- What the clauses of Obligations.ModuleRemoval ask can be met. -/
theorem witness_ModuleRemoval :
    (∃ s : State, s.rd (.mod .stby) = 1) ∧
    (∃ s : State, s.rd (.mod .stby) = 1 ∧ s.rd (.mod .STAT_STATE) = 2) ∧
    (∃ s : State, (s.rd (.mod .STAT_STATE) ≠ 2 ∨ s.rd (.mod .stby) = 0)) ∧
    (∃ s : State, s.rd (.mod .stby) = 1) ∧
    (∃ s : State, s.rd (.mod .stby) = 1 ∧ s.rd (.mod .STAT_STATE) ≠ 0) ∧
    (∃ s : State, (s.rd (.mod .STAT_STATE) = 0 ∨ s.rd (.mod .stby) = 0)) ∧
    (∃ s : State, ∃ ms : Nat, ms < 2 ^ 80 ∧ s.rd (.mod .stby) = 0) ∧
    (∃ s : State, ∃ ms : Nat, ms < 2 ^ 80 ∧ s.rd (.mod .stby) = 1) :=
  ⟨⟨(w [] : State), by decide +kernel⟩,
   ⟨(w upl : State), by decide +kernel⟩,
   ⟨(w [(.mod .stby, 0, 0, 1)] : State), by decide +kernel⟩,
   ⟨(w [] : State), by decide +kernel⟩,
   ⟨(w upl : State), by decide +kernel⟩,
   ⟨(w [(.mod .stby, 0, 0, 1)] : State), by decide +kernel⟩,
   ⟨(w [(.mod .stby, 0, 0, 0)] : State), 7, by decide +kernel⟩,
   ⟨(w [] : State), (2 ^ 80 - 1), by decide +kernel⟩⟩

/-- What the clauses of Obligations.ModuleUpkeep ask can be met. -/
theorem witness_ModuleUpkeep :
    (∃ s : State, ∃ vin iin pin : Nat, vin < 65536 ∧ iin < 65536 ∧ pin < 65536 ∧ s.rd (.mod .stby) = 1) ∧
    (∃ s : State, ∃ tcp : Nat, tcp < 2 ^ 32 ∧ s.rd (.mod .stby) = 1) ∧
    (∃ s : State, ∃ tcp : Nat, tcp < 2 ^ 32 ∧ s.rd (.mod .stby) = 1) ∧
    (∃ s : State, s.rd (.mod .stby) = 1) ∧
    (∃ s : State, ∃ vin iin pin : Nat, vin < 65536 ∧ iin < 65536 ∧ pin < 65536 ∧ s.rd (.mod .stby) = 0) ∧
    (∃ s : State, ∃ tcp : Nat, tcp < 2 ^ 32 ∧ s.rd (.mod .stby) = 0) :=
  ⟨⟨(w [] : State), (65536 - 1), (65536 - 1), (65536 - 1), by decide +kernel⟩,
   ⟨(w [] : State), (2 ^ 32 - 1), by decide +kernel⟩,
   ⟨(w [] : State), 0x14141414, by decide +kernel⟩,
   ⟨(w [] : State), by decide +kernel⟩,
   ⟨(w [(.mod .stby, 0, 0, 0)] : State), 65535, 0, 0, by decide +kernel⟩,
   ⟨(w [(.mod .stby, 0, 0, 0)] : State), 0x14141414, by decide +kernel⟩⟩

/-- What the clauses of Obligations.OasisAndLevel ask can be met. -/
theorem witness_OasisAndLevel_1 :
    (∃ s : State, s.booted = true) ∧
    (∃ s : State, ∃ powered : Bool, s.coreUp = true ∧ (powered || s.grantOver) = true) ∧
    (∃ s : State, s.coreUp = true ∧ s.grantOver = false) ∧
    (∃ s : State, s.booted = true) ∧
    (∃ s : State, s.coreUp = true ∧ s.rd (.sec .STAT_OASIS_BUSY) ≠ 0) ∧
    (∃ s : State, s.coreUp = true ∧ s.rd (.sec .STAT_OASIS_BUSY) = 0) ∧
    (∃ s : State, s.booted = true ∧ s.rd (.sec .kill) = 1) ∧
    (∃ s : State, s.booted = true ∧ s.rd (.sec .lateOasis) = 0) ∧
    (∃ s : State, s.booted = true ∧ s.rd (.sec .kill) ≠ 1) ∧
    (∃ s : State, s.booted = true ∧ s.rd (.sec .lateOasis) ≠ 0) ∧
    (∃ s : State, ∃ l : List Nat, ∃ v : Verdict, s.booted = true ∧ areBytes l = true ∧ l.length = 36 + 6 * fromBe ((l.drop
      16).take 4) ∧ fromBe ((l.drop 12).take 4) + fromBe ((l.drop 16).take 4) ≤ oasisWords ∧ (s.lc = 2 ∨ s.lc = 3) ∧
      s.slotUsable 15 = true ∧ v.tags.headD false = true ∧ s.rd (.sec .STAT_OASIS_BUSY) ≠ 1) ∧
    (∃ s : State, ∃ l : List Nat, ∃ v : Verdict, s.booted = true ∧ areBytes l = true ∧ l.length = 36 + 6 * fromBe ((l.drop
      16).take 4) ∧ fromBe ((l.drop 12).take 4) + fromBe ((l.drop 16).take 4) ≤ oasisWords ∧ (s.lc = 2 ∨ s.lc = 3) ∧
      s.slotUsable 15 = true ∧ v.tags.headD false = false) :=
  ⟨⟨(w bootl : State), by decide +kernel⟩,
   ⟨(w upl : State), true, by decide +kernel⟩,
   ⟨(w upl : State), by decide +kernel⟩,
   ⟨(w bootl : State), by decide +kernel⟩,
   ⟨(w (more upl [(.sec .STAT_OASIS_BUSY, 0, 0, 1)]) : State), by decide +kernel⟩,
   ⟨(w upl : State), by decide +kernel⟩,
   ⟨(w (more bootl [(.sec .kill, 0, 0, 1)]) : State), by decide +kernel⟩,
   ⟨(w bootl : State), by decide +kernel⟩,
   ⟨(w bootl : State), by decide +kernel⟩,
   ⟨({ w (more bootl [(.sec .lateOasis, 0, 0, 1)]) with oasis := [(5, encodeRow 7)] } : State), by decide +kernel⟩,
   ⟨(w (more bootl [(.sec .STAT_LC, 0, 0, 3), (.sec .KEYS_PRESENT, 0, 0, 0xFFFF)]) : State), (List.replicate 12 0 ++
      beBytes 4 262143 ++ beBytes 4 1 ++ List.replicate 22 9), ⟨true, true, [true, true, true, true], [5, 6, 7, 8],
      65535⟩, by decide +kernel⟩,
   ⟨(w (more bootl [(.sec .STAT_LC, 0, 0, 3), (.sec .KEYS_PRESENT, 0, 0, 0xFFFF)]) : State), (List.replicate 12 0 ++
      beBytes 4 262143 ++ beBytes 4 1 ++ List.replicate 22 9), ⟨true, true, [false], [], 0⟩, by decide +kernel⟩⟩

/-- What the clauses of Obligations.OasisAndLevel ask can be met. -/
theorem witness_OasisAndLevel_2 :
    (∃ s : State, ∃ l : List Nat, s.booted = true ∧ areBytes l = true ∧ (l.length ≠ 36 + 6 * fromBe ((l.drop 16).take 4) ∨
      oasisWords < fromBe ((l.drop 12).take 4) + fromBe ((l.drop 16).take 4))) ∧
    (∃ s : State, ∃ l : List Nat, s.booted = true ∧ areBytes l = true ∧ l.length = 36 + 6 * fromBe ((l.drop 16).take 4) ∧
      fromBe ((l.drop 12).take 4) + fromBe ((l.drop 16).take 4) ≤ oasisWords ∧ ((s.lc ≠ 2 ∧ s.lc ≠ 3) ∨ s.slotUsable
      15 = false)) ∧
    (∃ s : State, ∃ l : List Nat, ∃ v : Verdict, s.booted = true ∧ areBytes l = true ∧ l.length = 36 + 6 * fromBe ((l.drop
      16).take 4) ∧ fromBe ((l.drop 12).take 4) + fromBe ((l.drop 16).take 4) ≤ oasisWords ∧ (s.lc = 2 ∨ s.lc = 3) ∧
      s.slotUsable 15 = true ∧ v.tags.headD false = true ∧ s.rd (.sec .STAT_OASIS_BUSY) = 1) :=
  ⟨⟨(w (more bootl [(.sec .STAT_LC, 0, 0, 3), (.sec .KEYS_PRESENT, 0, 0, 0xFFFF)]) : State), [], by decide +kernel⟩,
   ⟨(w bootl : State), (List.replicate 12 0 ++ beBytes 4 262143 ++ beBytes 4 1 ++ List.replicate 22 9),
      by decide +kernel⟩,
   ⟨(w (more bootl [(.sec .STAT_LC, 0, 0, 3), (.sec .KEYS_PRESENT, 0, 0, 0xFFFF), (.sec .STAT_OASIS_BUSY, 0, 0, 1)]) :
      State), (List.replicate 12 0 ++ beBytes 4 262143 ++ beBytes 4 1 ++ List.replicate 22 9), ⟨true, true, [true],
      [], 0⟩, by decide +kernel⟩⟩

/-- What the clauses of Obligations.SignedCommands ask can be met. -/
theorem witness_SignedCommands :
    (∃ s : State, ∃ l : List Nat, ∃ v : Verdict, Accepts s 1 l v) ∧
    (∃ s : State, ∃ l : List Nat, ∃ v : Verdict, Accepts s 2 l v) ∧
    (∃ s : State, ∃ l : List Nat, ∃ v : Verdict, Accepts s 3 l v) ∧
    (∃ s : State, ∃ l : List Nat, ∃ v : Verdict, Accepts s 4 l v) ∧
    (∃ s : State, ∃ l : List Nat, ∃ v : Verdict, Accepts s 5 l v) ∧
    (∃ s : State, ∃ l : List Nat, ∃ v : Verdict, Accepts s 6 l v) ∧
    (∃ s : State, ∃ l : List Nat, ∃ v : Verdict, Accepts s 7 l v) ∧
    (∃ s : State, ∃ l : List Nat, ∃ v : Verdict, Accepts s 16 l v) ∧
    (∃ s : State, ∃ l : List Nat, ∃ v : Verdict, Accepts s 17 l v) ∧
    (∃ s : State, ∃ l : List Nat, ∃ v : Verdict, Accepts s 18 l v) ∧
    (∃ s : State, ∃ c : Nat, ∃ l : List Nat, ∃ v : Verdict, s.booted = true ∧ areBytes l = true ∧ s.commandCode l v = c ∧
      c ≠ 0) :=
  ⟨⟨(w (more bootl [(.sec .KEYS_PRESENT, 0, 0, 0xFFFF)]) : State), (command 1 0 (List.replicate 157 1)), ⟨true, true,
      [true, true, true, true], [5, 6, 7, 8], 65535⟩, by unfold Accepts; decide +kernel⟩,
   ⟨(w (more bootl [(.sec .KEYS_PRESENT, 0, 0, 0xFFFF), (.sec .STAT_LC, 0, 0, 1)]) : State), (command 2 2 (List.replicate
      1339 1)), ⟨true, true, [true, true, true, true], [5, 6, 7, 8], 65535⟩, by unfold Accepts; decide +kernel⟩,
   ⟨(w (more bootl [(.sec .KEYS_PRESENT, 0, 0, 0xFFFF), (.sec .STAT_LC, 0, 0, 2)]) : State), (command 3 10 []), ⟨true,
      true, [true, true, true, true], [5, 6, 7, 8], 65535⟩, by unfold Accepts; decide +kernel⟩,
   ⟨(w (more bootl [(.sec .KEYS_PRESENT, 0, 0, 0xFFFF), (.sec .STAT_LC, 0, 0, 3)]) : State), (command 4 10 []), ⟨true,
      true, [true, true, true, true], [5, 6, 7, 8], 65535⟩, by unfold Accepts; decide +kernel⟩,
   ⟨(w (more bootl [(.sec .KEYS_PRESENT, 0, 0, 0xFFFF), (.sec .STAT_LC, 0, 0, 3)]) : State), (command 5 10 []), ⟨true,
      true, [true, true, true, true], [5, 6, 7, 8], 65535⟩, by unfold Accepts; decide +kernel⟩,
   ⟨(w (more bootl [(.sec .KEYS_PRESENT, 0, 0, 0xFFFF), (.sec .STAT_LC, 0, 0, 4)]) : State), (command 6 2 []), ⟨true, true,
      [true, true, true, true], [5, 6, 7, 8], 65535⟩, by unfold Accepts; decide +kernel⟩,
   ⟨(w (more bootl [(.sec .KEYS_PRESENT, 0, 0, 0xFFFF), (.sec .STAT_LC, 0, 0, 4)]) : State), (command 7 2 []), ⟨true, true,
      [true, true, true, true], [5, 6, 7, 8], 65535⟩, by unfold Accepts; decide +kernel⟩,
   ⟨(w (more bootl [(.sec .KEYS_PRESENT, 0, 0, 0xFFFF), (.sec .STAT_LC, 0, 0, 2)]) : State), (command 16 10 (15 ::
      List.replicate 60 1)), ⟨true, true, [true, true, true, true], [5, 6, 7, 8], 65535⟩,
      by unfold Accepts; decide +kernel⟩,
   ⟨(w (more bootl [(.sec .KEYS_PRESENT, 0, 0, 0xFFFF), (.sec .STAT_LC, 0, 0, 2)]) : State), (command 17 10 [2, 255, 255,
      255, 255]), ⟨true, true, [true, true, true, true], [5, 6, 7, 8], 65535⟩, by unfold Accepts; decide +kernel⟩,
   ⟨(w (more bootl [(.sec .KEYS_PRESENT, 0, 0, 0xFFFF), (.sec .STAT_LC, 0, 0, 4)]) : State), (command 18 0 [1]), ⟨true,
      true, [true, true, true, true], [5, 6, 7, 8], 65535⟩, by unfold Accepts; decide +kernel⟩,
   ⟨(w (more bootl [(.sec .KEYS_PRESENT, 0, 0, 0xFFFF)]) : State), 2, [0], ⟨true, true, [true, true, true, true], [5, 6, 7,
      8], 65535⟩, by decide +kernel⟩⟩

/-- What the clauses of Obligations.FirmwareAndReports ask can be met. -/
theorem witness_FirmwareAndReports_1 :
    (∃ s : State, s.booted = true) ∧
    (∃ s : State, s.booted = true ∧ s.imageActive = true) ∧
    (∃ s : State, s.booted = true ∧ s.imageActive = false) ∧
    (∃ s : State, ∃ l : List Nat, ∃ v : Verdict, s.served = true ∧ areBytes l = true ∧ packageForm l = true ∧ s.secCnt 0 ≤
      bytesAt l 8 4 ∧ s.slotUsable s.rootSlot = true ∧ v.ecdsa = true ∧ v.hss = true ∧ s.rd (.sec .active) < 2) ∧
    (∃ s : State, ∃ l : List Nat, s.served = true ∧ areBytes l = true ∧ packageForm l = true ∧ bytesAt l 8 4 < s.secCnt 0) ∧
    (∃ s : State, ∃ l : List Nat, ∃ v : Verdict, s.served = true ∧ areBytes l = true ∧ packageForm l = true ∧ s.secCnt 0 ≤
      bytesAt l 8 4 ∧ ((v.ecdsa && v.hss) = false ∨ s.slotUsable s.rootSlot = false)) ∧
    (∃ s : State, ∃ l : List Nat, s.served = true ∧ areBytes l = true ∧ packageForm l = false) ∧
    (∃ s : State, ∃ l : List Nat, ∃ v : Verdict, s.booted = true ∧ areBytes l = true ∧ s.tokenOk l v = true) ∧
    (∃ s : State, ∃ l : List Nat, ∃ v : Verdict, s.booted = true ∧ areBytes l = true ∧ s.tokenOk l v = false) ∧
    (∃ s : State, ∃ nonce : List Nat, s.booted = true ∧ areBytes nonce = true ∧ nonce.length = 32 ∧ s.reportRefusal = 0) ∧
    (∃ s : State, ∃ nonce : List Nat, s.booted = true ∧ areBytes nonce = true ∧ nonce.length = 32 ∧ s.reportRefusal ≠ 0) ∧
    (∃ s : State, s.rd (.mod .stby) = 0) :=
  ⟨⟨(w bootl : State), by decide +kernel⟩,
   ⟨(w (more bootl [(.cfg .STAT_ACTIVE, 0, 0, 1), (.cfg .actSvn, 0, 0, 9)]) : State), by decide +kernel⟩,
   ⟨(w bootl : State), by decide +kernel⟩,
   ⟨(w (more bootl [(.sec .KEYS_PRESENT, 0, 0, 0xFFFF)]) : State), (firmware 5), ⟨true, true, [true, true, true, true], [5,
      6, 7, 8], 65535⟩, by decide +kernel⟩,
   ⟨(w (more bootl [(.sec .KEYS_PRESENT, 0, 0, 0xFFFF), (.sec .CNT_VALUE, 0, 0, 6)]) : State), (firmware 5),
      by decide +kernel⟩,
   ⟨(w (more bootl [(.sec .KEYS_PRESENT, 0, 0, 0xFFFF)]) : State), (firmware 5), ⟨true, false, [], [], 0⟩,
      by decide +kernel⟩,
   ⟨(w (more bootl [(.sec .KEYS_PRESENT, 0, 0, 0xFFFF)]) : State), [], by decide +kernel⟩,
   ⟨(w (more bootl [(.sec .KEYS_PRESENT, 0, 0, 0xFFFF), (.sec .STAT_LC, 0, 0, 3), (.tick .NUMBER, 0, 0, 7)]) : State),
      (token 2 8 1), ⟨true, true, [true, true, true, true], [5, 6, 7, 8], 65535⟩, by decide +kernel⟩,
   ⟨(w bootl : State), [], ⟨true, true, [true,true,true,true], [1,2,3,4], 65535⟩, by decide +kernel⟩,
   ⟨(w (more bootl [(.sec .STAT_LC, 0, 0, 1), (.sec .STAT_CREDIT, 0, 0, 64), (.sec .KEYS_PRESENT, 0, 0, 0xFFFF)]) : State),
      (List.replicate 32 255), by decide +kernel⟩,
   ⟨(w (more bootl [(.sec .STAT_LC, 0, 0, 1)]) : State), (List.replicate 32 255), by decide +kernel⟩,
   ⟨(w [(.mod .stby, 0, 0, 0)] : State), by decide +kernel⟩⟩

/-- What the clauses of Obligations.FirmwareAndReports ask can be met. -/
theorem witness_FirmwareAndReports_2 :
    (∃ s : State, s.rd (.mod .stby) ≠ 0) :=
  ⟨(w [] : State), by decide +kernel⟩

/-- What the clauses of Obligations.TamperAndBoot ask can be met. -/
theorem witness_TamperAndBoot :
    (∃ s : State, ∃ k present : Nat, 1 ≤ k ∧ k ≤ 8 ∧ present < 256 ∧ s.rd (.mod .stby) ≠ 0 ∧ s.served = true) ∧
    (∃ s : State, ∃ k present : Nat, 1 ≤ k ∧ k ≤ 8 ∧ present < 256 ∧ s.rd (.mod .stby) ≠ 0 ∧ s.served = false) ∧
    (∃ s : State, ∃ k present : Nat, 1 ≤ k ∧ k ≤ 8 ∧ present < 256 ∧ s.rd (.mod .stby) = 0) ∧
    (∃ s : State, ∃ roots : Nat, ∃ okA okB : Bool, ∃ present j : Nat, s.coreUp = true ∧ roots < 4 ∧ present < 256 ∧ s.rd
      (.od .up) ≠ 1 ∧ s.rd (.sec .STAT_RECOVERY) = 0 ∧ j < 2 ∧ (s.wr (.sec .KEYS_PRESENT) 0 0 (s.rd (.sec
      .KEYS_PRESENT) / 4 * 4 + roots)).bootCopy okA okB = some j) ∧
    (∃ s : State, ∃ roots : Nat, ∃ okA okB : Bool, ∃ present : Nat, ∃ fuses : Bool, s.coreUp = true ∧ roots < 4 ∧ present
      < 256 ∧ s.rd (.od .up) ≠ 1 ∧ (fuses = false ∨ (s.wr (.sec .KEYS_PRESENT) 0 0 (s.rd (.sec .KEYS_PRESENT) / 4 * 4
      + roots)).bootCopy okA okB = none)) ∧
    (∃ s : State, ∃ roots present : Nat, s.coreUp = true ∧ roots < 4 ∧ present < 256 ∧ s.rd (.od .up) = 1) :=
  ⟨⟨(w bootl : State), 8, (256 - 1), by decide +kernel⟩,
   ⟨(w [] : State), 8, (256 - 1), by decide +kernel⟩,
   ⟨(w [(.mod .stby, 0, 0, 0)] : State), 8, 255, by decide +kernel⟩,
   ⟨(w (more upl [(.sec .fwOk, 0, 1, 1), (.sec .fwSvn, 0, 1, 5)]) : State), 3, false, true, (256 - 1), 1,
      by decide +kernel⟩,
   ⟨(w upl : State), (4 - 1), false, false, (256 - 1), false, by decide +kernel⟩,
   ⟨(w bootl : State), (4 - 1), (256 - 1), by decide +kernel⟩⟩

/-- What the clauses of Obligations.NetworkManagement ask can be met. -/
theorem witness_NetworkManagement_1 :
    (∃ s : State, ∃ c node : Nat, c < 2 ∧ node < 128 ∧ s.served = true ∧ s.nmtFor c node = true) ∧
    (∃ s : State, ∃ c node : Nat, c < 2 ∧ node < 128 ∧ s.served = true ∧ s.nmtFor c node = true) ∧
    (∃ s : State, ∃ c node : Nat, c < 2 ∧ node < 128 ∧ s.served = true ∧ s.nmtFor c node = true ∧ s.tickLive = true) ∧
    (∃ s : State, ∃ c node : Nat, c < 2 ∧ node < 128 ∧ s.served = true ∧ s.nmtFor c node = true ∧ s.tickLive = false ∧
      s.loading = false) ∧
    (∃ s : State, ∃ c node : Nat, c < 2 ∧ node < 128 ∧ s.served = true ∧ s.nmtFor c node = true ∧ s.tickLive = false ∧
      s.loading = true) ∧
    (∃ s : State, ∃ c node : Nat, c < 2 ∧ node < 128 ∧ s.served = true ∧ s.nmtFor c node = false) ∧
    (∃ s : State, ∃ c node : Nat, c < 2 ∧ node < 128 ∧ s.served = true ∧ s.nmtFor 2 node = true ∧ s.nmtFor c node = true) ∧
    (∃ s : State, ∃ node : Nat, node < 128 ∧ s.served = true ∧ s.nmtFor 2 node = true) ∧
    (∃ s : State, ∃ k node : Nat, k < 256 ∧ node < 128 ∧ s.served = true ∧ s.nmtFor 2 node = false) ∧
    (∃ s : State, s.served = true ∧ (s.odGet 0x1017 0 = 0 ∨ s.nmt = 0)) ∧
    (∃ s : State, ∃ p node : Nat, p < 3 ∧ node < 256 ∧ s.served = true ∧ (s.hears p = false ∨ s.nmt = 0 ∨ ∀ j, j < 4 →
      (s.consumer j).1 = node → (s.consumer j).2 = 0)) ∧
    (∃ s : State, ∃ j : Nat, j < 4 ∧ s.served = true ∧ (s.rd (.od .armed) 0 j = 0 ∨ s.tick = 5 ∨ (s.consumer j).2 = 0)) :=
  ⟨⟨(w bootl : State), 0, 0, by decide +kernel⟩,
   ⟨(w bootl : State), 1, 9, by decide +kernel⟩,
   ⟨(w (more bootl [(.tick .STATE_STATE, 0, 0, 2)]) : State), 1, 9, by decide +kernel⟩,
   ⟨(w bootl : State), 0, 0, by decide +kernel⟩,
   ⟨(w (more bootl [(.cfg .loadKind, 0, 0, 1)]) : State), 1, 9, by decide +kernel⟩,
   ⟨(w bootl : State), (2 - 1), (128 - 1), by decide +kernel⟩,
   ⟨(w bootl : State), 0, 0, by decide +kernel⟩,
   ⟨(w bootl : State), 0, by decide +kernel⟩,
   ⟨(w bootl : State), 1, 126, by decide +kernel⟩,
   ⟨(w bootl : State), by decide +kernel⟩,
   ⟨(w (more bootl [(.od .ETH_EN, 0, 0, 0)]) : State), 2, 127, by decide +kernel⟩,
   ⟨(w bootl : State), (4 - 1), by decide +kernel⟩⟩

/-- What the clauses of Obligations.NetworkManagement ask can be met. -/
theorem witness_NetworkManagement_2 :
    (∃ s : State, s.served = true ∧ s.odGet 0x1017 0 ≠ 0 ∧ s.nmt ≠ 0) ∧
    (∃ s : State, ∃ p node : Nat, p < 3 ∧ node < 256 ∧ s.served = true ∧ s.hears p = true ∧ s.nmt ≠ 0 ∧ (∃ j, j < 4 ∧
      (s.consumer j).1 = node ∧ (s.consumer j).2 ≠ 0)) ∧
    (∃ s : State, ∃ j : Nat, j < 4 ∧ s.served = true ∧ s.rd (.od .armed) 0 j ≠ 0 ∧ s.tick ≠ 5 ∧ (s.consumer j).2 ≠ 0) :=
  ⟨⟨({ w bootl with odVals := [(256 * 4119 + 0, 100)] } : State), by decide +kernel⟩,
   ⟨({ w bootl with odVals := [(256 * 4118 + 4, 8323122)] } : State), 2, 127, by decide +kernel⟩,
   ⟨({ w (more bootl [(.od .armed, 0, 3, 1)]) with odVals := [(256 * 4118 + 4, 8323122)] } : State), 3, by decide +kernel⟩⟩

/-- What the clauses of Obligations.ObjectTransfers ask can be met. -/
theorem witness_ObjectTransfers_1 :
    (∃ s : State, ∃ c idx sub : Nat, ∃ r : ObjRow, ∃ v : Nat, c < 2 ∧ idx < 2 ^ 16 ∧ sub < 256 ∧ s.served = true ∧
      s.sdoServer c = true ∧ s.objAbort idx sub = 0 ∧ s.objRow idx sub = some r ∧ r.acc ≠ .wo ∧ r.src = .val v) ∧
    (∃ s : State, ∃ c idx sub a : Nat, ∃ l : List Nat, ∃ pins : List (Nat × Nat × Nat), okLevels pins = true ∧ c < 2 ∧ idx
      < 2 ^ 16 ∧ sub < 256 ∧ areBytes l = true ∧ s.served = true ∧ s.sdoServer c = true ∧ s.objAbort idx sub = a ∧ a ≠
      0) ∧
    (∃ s : State, ∃ c idx sub : Nat, ∃ r : ObjRow, ∃ l : List Nat, ∃ pins : List (Nat × Nat × Nat), okLevels pins = true ∧
      c < 2 ∧ idx < 2 ^ 16 ∧ sub < 256 ∧ areBytes l = true ∧ s.served = true ∧ s.sdoServer c = true ∧ s.objAbort idx
      sub = 0 ∧ s.objRow idx sub = some r ∧ (r.acc = .ro ∨ r.acc = .const)) ∧
    (∃ s : State, ∃ c idx sub : Nat, ∃ r : ObjRow, ∃ l : List Nat, ∃ pins : List (Nat × Nat × Nat), okLevels pins = true ∧
      c < 2 ∧ idx < 2 ^ 16 ∧ sub < 256 ∧ areBytes l = true ∧ s.served = true ∧ s.sdoServer c = true ∧ s.objAbort idx
      sub = 0 ∧ s.objRow idx sub = some r ∧ r.acc ≠ .ro ∧ r.acc ≠ .const ∧ typeBytes r.type ≠ 0 ∧ l.length ≠ typeBytes
      r.type) ∧
    (∃ s : State, ∃ c idx sub : Nat, ∃ r : ObjRow, ∃ l : List Nat, ∃ pins : List (Nat × Nat × Nat), okLevels pins = true ∧
      c < 2 ∧ idx < 2 ^ 16 ∧ sub < 256 ∧ areBytes l = true ∧ s.served = true ∧ s.sdoServer c = true ∧ s.objAbort idx
      sub = 0 ∧ s.objRow idx sub = some r ∧ r.acc ≠ .ro ∧ r.acc ≠ .const ∧ l.length = typeBytes r.type ∧ typeBytes
      r.type ≠ 0 ∧ r.src = .held ∧ s.heldAbort idx sub (fromLe l) = 0) ∧
    (∃ s : State, ∃ c idx sub : Nat, ∃ l : List Nat, ∃ pins : List (Nat × Nat × Nat), okLevels pins = true ∧ c < 2 ∧ idx <
      2 ^ 16 ∧ sub < 256 ∧ areBytes l = true ∧ s.served = true ∧ s.sdoServer c = false) ∧
    (∃ s : State, ∃ c idx sub : Nat, c < 2 ∧ idx < 2 ^ 16 ∧ sub < 256 ∧ s.served = true ∧ s.sdoServer c = true) ∧
    (∃ s : State, ∃ addr port id seq idx sub : Nat, ∃ r : ObjRow, ∃ v : Nat, NextRequest s addr port id seq ∧ idx < 2 ^ 16
      ∧ sub < 256 ∧ s.objAbort idx sub = 0 ∧ s.objRow idx sub = some r ∧ r.acc ≠ .wo ∧ r.src = .val v) ∧
    (∃ s : State, ∃ addr port id seq idx sub : Nat, ∃ l : List Nat, ∃ pins : List (Nat × Nat × Nat), okLevels pins = true
      ∧ NextRequest s addr port id seq ∧ idx < 2 ^ 16 ∧ sub < 256 ∧ areBytes l = true ∧ 1 ≤ l.length ∧ l.length ≤ 1440
      ∧ s.objAbort idx sub ≠ 0) ∧
    (∃ s : State, ∃ addr port id seq idx sub : Nat, ∃ r : ObjRow, ∃ l : List Nat, ∃ pins : List (Nat × Nat × Nat),
      okLevels pins = true ∧ NextRequest s addr port id seq ∧ idx < 2 ^ 16 ∧ sub < 256 ∧ areBytes l = true ∧ 1 ≤
      l.length ∧ l.length ≤ 1440 ∧ s.objAbort idx sub = 0 ∧ s.objRow idx sub = some r ∧ r.acc ≠ .ro ∧ r.acc ≠ .const ∧
      typeBytes r.type ≠ 0 ∧ l.length = typeBytes r.type ∧ r.src = .held ∧ s.heldAbort idx sub (fromLe l.reverse) = 0) ∧
    (∃ s : State, ∃ c idx sub : Nat, ∃ l : List Nat, ∃ pins : List (Nat × Nat × Nat), c < 2 ∧ idx < 2 ^ 16 ∧ sub < 256 ∧
      areBytes l = true ∧ okLevels pins = true ∧ s.served = true ∧ s.sdoServer c = true) ∧
    (∃ s : State, ∃ addr port id seq idx sub : Nat, NextRequest s addr port id seq ∧ idx < 2 ^ 16 ∧ sub < 256) :=
  ⟨⟨(w bootl : State), 1, 0x1000, 0, row1000, val1000, by decide +kernel⟩,
   ⟨(w bootl : State), 1, 0xFFFF, 255, 0x06020000, [255], [], by decide +kernel⟩,
   ⟨(w bootl : State), 1, 0x1000, 0, row1000, [255], [], by decide +kernel⟩,
   ⟨(w bootl : State), 1, 0x1017, 0, row1017, [255], [], by decide +kernel⟩,
   ⟨(w bootl : State), 1, 0x1017, 0, row1017, [255, 255], [], by decide +kernel⟩,
   ⟨(w (more bootl [(.od .CAN_STATE, 0, 1, 2)]) : State), 1, 0x1017, 0, [], [], by decide +kernel⟩,
   ⟨(w bootl : State), (2 - 1), (2 ^ 16 - 1), (256 - 1), by decide +kernel⟩,
   ⟨(w bootl : State), (2 ^ 32 - 1), 65535, 65535, 0, 0x1000, 0, row1000, val1000, by unfold NextRequest; decide +kernel⟩,
   ⟨(w bootl : State), (2 ^ 32 - 1), 65535, 65535, 0, 0xFFFF, 255, [255], [], by unfold NextRequest; decide +kernel⟩,
   ⟨(w bootl : State), (2 ^ 32 - 1), 65535, 65535, 0, 0x1017, 0, row1017, [255, 255], [],
      by unfold NextRequest; decide +kernel⟩,
   ⟨(w bootl : State), 1, 0xFFFF, 255, [255], [], by decide +kernel⟩,
   ⟨(w bootl : State), (2 ^ 32 - 1), 65535, 65535, 0, 0x1000, 0, by unfold NextRequest; decide +kernel⟩⟩

/-- What the clauses of Obligations.ObjectTransfers ask can be met. -/
theorem witness_ObjectTransfers_2 :
    (∃ s : State, ∃ addr port id seq idx sub : Nat, ∃ l : List Nat, ∃ pins : List (Nat × Nat × Nat), NextRequest s addr
      port id seq ∧ idx < 2 ^ 16 ∧ sub < 256 ∧ areBytes l = true ∧ 1 ≤ l.length ∧ l.length ≤ 1440 ∧ okLevels pins =
      true) ∧
    (∃ s : State, ∃ addr port id seq idx sub : Nat, ∃ l : List Nat, ∃ pins : List (Nat × Nat × Nat), addr < 2 ^ 32 ∧ port
      < 2 ^ 16 ∧ id < 2 ^ 16 ∧ seq < 2 ^ 16 ∧ idx < 2 ^ 16 ∧ sub < 256 ∧ areBytes l = true ∧ 1 ≤ l.length ∧ l.length ≤
      1440 ∧ okLevels pins = true ∧ s.served = true) ∧
    (∃ s : State, ∃ addr port id : Nat, addr < 2 ^ 32 ∧ port < 2 ^ 16 ∧ id < 2 ^ 16 ∧ s.served = true) ∧
    (∃ s : State, ∃ addr : Nat, addr < 2 ^ 32 ∧ s.served = true ∧ s.udpUp = true ∧ s.rd (.od .ETH_ADDR) = addr) ∧
    (∃ s : State, ∃ addr : Nat, addr < 2 ^ 32 ∧ s.served = true ∧ (s.udpUp = false ∨ s.rd (.od .ETH_ADDR) ≠ addr)) ∧
    (∃ s : State, ∃ addr : Nat, ∃ l : List Nat, addr < 2 ^ 32 ∧ areBytes l = true ∧ s.served = true ∧ (s.udpUp = false ∨
      s.canReach addr = false)) ∧
    (∃ s : State, ∃ addr : Nat, ∃ l : List Nat, addr < 2 ^ 32 ∧ areBytes l = true ∧ s.served = true ∧ s.udpUp = true ∧
      s.canReach addr = true) :=
  ⟨⟨(w bootl : State), (2 ^ 32 - 1), 65535, 65535, 0, 0xFFFF, 255, [255], [], by unfold NextRequest; decide +kernel⟩,
   ⟨({ w bootl with sessions := [⟨2 ^ 32 - 1, 65535, 65535, 9, [3, 1], 0, 0, []⟩] } : State), (2 ^ 32 - 1), 65535, 65535, 9, 0, 0, [1], [], by decide +kernel⟩,
   ⟨(w bootl : State), (2 ^ 32 - 1), (2 ^ 16 - 1), (2 ^ 16 - 1), by decide +kernel⟩,
   ⟨(w (more bootl [(.od .ETH_ADDR, 0, 0, 5)]) : State), 5, by decide +kernel⟩,
   ⟨(w bootl : State), 5, by decide +kernel⟩,
   ⟨(w (more bootl [(.od .ETH_EN, 0, 0, 0)]) : State), 5, [], by decide +kernel⟩,
   ⟨(w bootl : State), 0, [], by decide +kernel⟩⟩

/-- What the clauses of Obligations.ProcessData ask can be met. -/
theorem witness_ProcessData_1 :
    (∃ s : State, ∃ n t : Nat, ∃ vs : List (List Nat), ∃ s' : State, n < 8 ∧ t < 2 ^ 80 ∧ s.booted = true ∧ s.pdoServed =
      true ∧ s.odGet (commIndex true n) 2 = 255 ∧ s.odGet (commIndex true n) 5 ≠ 0 ∧ s.pdoOff true n = false ∧
      s.mapping true n ≠ [] ∧ (s.rd (.od .tpdoHas) 0 n ≠ 1 ∨ s.rd (.od .tpdoAt) 0 n + nsec (100000 * s.odGet
      (commIndex true n) 3) ≤ t) ∧ (s.at t).sample (s.mapping true n) = (vs, s')) ∧
    (∃ s : State, ∃ n t : Nat, n < 8 ∧ t < 2 ^ 80 ∧ s.booted = true ∧ s.pdoServed = true ∧ s.odGet (commIndex true n) 2 =
      255 ∧ s.odGet (commIndex true n) 5 ≠ 0 ∧ s.rd (.od .tpdoHas) 0 n = 1 ∧ t < s.rd (.od .tpdoAt) 0 n + nsec (100000
      * s.odGet (commIndex true n) 3)) ∧
    (∃ s : State, ∃ n t : Nat, n < 8 ∧ t < 2 ^ 80 ∧ s.booted = true ∧ s.pdoServed = true ∧ s.odGet (commIndex true n) 2 =
      255 ∧ s.odGet (commIndex true n) 5 ≠ 0 ∧ (s.pdoOff true n = true ∨ s.mapping true n = [])) ∧
    (∃ s : State, ∃ n t : Nat, n < 8 ∧ t < 2 ^ 80 ∧ s.booted = true ∧ (s.pdoServed = false ∨ s.odGet (commIndex true n) 2
      ≠ 255 ∨ s.odGet (commIndex true n) 5 = 0)) ∧
    (∃ s : State, ∃ c counter t : Nat, c < 2 ∧ counter < 256 ∧ t < 2 ^ 80 ∧ s.booted = true ∧ s.canHears c = true ∧
      s.pdoServed = true ∧ s.rd (.tick .SRC_CAN) = c) ∧
    (∃ s : State, ∃ c counter t : Nat, c < 2 ∧ counter < 256 ∧ t < 2 ^ 80 ∧ s.booted = true ∧ s.canHears c = true ∧
      s.pdoServed = true ∧ s.rd (.tick .SRC_CAN) = c ∧ s.rpdoHeld = []) ∧
    (∃ s : State, ∃ c counter t : Nat, c < 2 ∧ counter < 256 ∧ t < 2 ^ 80 ∧ s.booted = true ∧ (s.canHears c = false ∨
      s.pdoServed = false ∨ s.rd (.tick .SRC_CAN) ≠ c)) ∧
    (∃ s : State, ∃ c counter t n : Nat, c < 2 ∧ counter < 256 ∧ t < 2 ^ 80 ∧ n < 8 ∧ s.booted = true ∧ s.canHears c =
      true ∧ s.pdoServed = true ∧ s.rd (.tick .SRC_CAN) = c ∧ s.rpdoHeld = [] ∧ (∀ m, m < 8 → m ≠ n → s.pdoOff true m
      = true) ∧ s.pdoOff true n = false ∧ s.odGet (commIndex true n) 2 ≤ 240 ∧ s.rd (.od .syncOn) 0 n = 1 ∧ s.rd (.od
      .syncCount) 0 n + 1 < s.odGet (commIndex true n) 2) ∧
    (∃ s : State, ∃ c counter t n : Nat, ∃ b : List Nat, c < 2 ∧ counter < 256 ∧ t < 2 ^ 80 ∧ s.booted = true ∧ s.canHears
      c = true ∧ s.pdoServed = true ∧ s.rd (.tick .SRC_CAN) = c ∧ s.rpdoHeld = [(n, b)] ∧ (∀ m, m < 8 → s.pdoOff true
      m = true)) ∧
    (∃ s : State, ∃ p n : Nat, ∃ b : List Nat, BringsPdo s p n b ∧ b.length < mapBytes (s.mapping false n)) ∧
    (∃ s : State, ∃ p n : Nat, ∃ b : List Nat, BringsPdo s p n b ∧ mapBytes (s.mapping false n) ≤ b.length ∧ s.odGet
      (commIndex false n) 2 ≤ 240) ∧
    (∃ s : State, ∃ n e c : Nat, ∃ s1 : State, ∃ b : List Nat, n < 8 ∧ areBytes b = true ∧ s.booted = true ∧ s.hears 0 =
      true ∧ s.pdoServed = true ∧ s.pdoOff false n = false ∧ s.mapping false n = [e] ∧ 8 * (e % 256 / 8) ≤ 64 ∧ e %
      256 / 8 ≤ b.length ∧ 240 < s.odGet (commIndex false n) 2 ∧ (s.endCond 0x8250 n).odWrite (e / 65536) (e / 256 %
      256) (b.take (e % 256 / 8)) noVerdict = (c, s1)) :=
  ⟨⟨({ w bootl with odVals := [(256 * 6151 + 1, 0x40000180), (256 * 6151 + 2, 255), (256 * 6151 + 5, 7), (256 * 6663 + 0, 1), (256 * 6663 + 1, 0x10010008)] } : State), 7, 5, ((State.at ({ w bootl with odVals := [(256 * 6151 + 1, 0x40000180), (256 * 6151 + 2, 255), (256 * 6151 + 5, 7), (256 * 6663 + 0, 1), (256 * 6663 + 1, 0x10010008)] } : State) 5).sample (({ w bootl with odVals := [(256 * 6151 + 1, 0x40000180), (256 * 6151 + 2, 255), (256 * 6151 + 5, 7), (256 * 6663 + 0, 1), (256 * 6663 + 1, 0x10010008)] } : State).mapping true 7)).1, ((State.at ({ w bootl with odVals := [(256 * 6151 + 1, 0x40000180), (256 * 6151 + 2, 255), (256 * 6151 + 5, 7), (256 * 6663 + 0, 1), (256 * 6663 + 1, 0x10010008)] } : State) 5).sample (({ w bootl with odVals := [(256 * 6151 + 1, 0x40000180), (256 * 6151 + 2, 255), (256 * 6151 + 5, 7), (256 * 6663 + 0, 1), (256 * 6663 + 1, 0x10010008)] } : State).mapping true 7)).2, by decide +kernel⟩,
   ⟨({ w (more bootl [(.od .tpdoHas, 0, 7, 1)]) with odVals := [(256 * 6151 + 1, 0x40000180), (256 * 6151 + 2, 255), (256 * 6151 + 3, 5), (256 * 6151 + 5, 7), (256 * 6663 + 0, 1), (256 * 6663 + 1, 0x10010008)] } : State), 7, 5, by decide +kernel⟩,
   ⟨({ w (more bootl [(.od .tpdoHas, 0, 7, 1)]) with odVals := [(256 * 6151 + 1, 0x40000180), (256 * 6151 + 2, 255), (256 * 6151 + 3, 5), (256 * 6151 + 5, 7)] } : State), 7, 5, by decide +kernel⟩,
   ⟨(w (more bootl [(.od .tpdoHas, 0, 7, 1)]) : State), 7, 5, by decide +kernel⟩,
   ⟨({ w (more bootl [(.tick .SRC_CAN, 0, 0, 1)]) with rpdoHeld := [(7, [1])], odVals := [(256 * 6144 + 1, 0xC0000000), (256 * 6145 + 1, 0xC0000000), (256 * 6146 + 1, 0xC0000000), (256 * 6147 + 1, 0xC0000000), (256 * 6148 + 1, 0xC0000000), (256 * 6149 + 1, 0xC0000000), (256 * 6150 + 1, 0xC0000000), (256 * 6151 + 1, 0xC0000000)] } : State), 1, 255, 5, by decide +kernel⟩,
   ⟨({ w (more bootl [(.tick .SRC_CAN, 0, 0, 1), (.od .syncOn, 0, 7, 1)]) with odVals := [(256 * 6144 + 1, 0xC0000000), (256 * 6145 + 1, 0xC0000000), (256 * 6146 + 1, 0xC0000000), (256 * 6147 + 1, 0xC0000000), (256 * 6148 + 1, 0xC0000000), (256 * 6149 + 1, 0xC0000000), (256 * 6150 + 1, 0xC0000000), (256 * 6151 + 1, 0x40000180), (256 * 6151 + 2, 240)] } : State), 1, 255, 5, by decide +kernel⟩,
   ⟨(w (more bootl [(.tick .SRC_CAN, 0, 0, 0)]) : State), 1, 255, 5, by decide +kernel⟩,
   ⟨({ w (more bootl [(.tick .SRC_CAN, 0, 0, 1), (.od .syncOn, 0, 7, 1)]) with odVals := [(256 * 6144 + 1, 0xC0000000), (256 * 6145 + 1, 0xC0000000), (256 * 6146 + 1, 0xC0000000), (256 * 6147 + 1, 0xC0000000), (256 * 6148 + 1, 0xC0000000), (256 * 6149 + 1, 0xC0000000), (256 * 6150 + 1, 0xC0000000), (256 * 6151 + 1, 0x40000180), (256 * 6151 + 2, 240)] } : State), 1, 255, 5, 7, by decide +kernel⟩,
   ⟨({ w (more bootl [(.tick .SRC_CAN, 0, 0, 1)]) with rpdoHeld := [(7, [1])], odVals := [(256 * 6144 + 1, 0xC0000000), (256 * 6145 + 1, 0xC0000000), (256 * 6146 + 1, 0xC0000000), (256 * 6147 + 1, 0xC0000000), (256 * 6148 + 1, 0xC0000000), (256 * 6149 + 1, 0xC0000000), (256 * 6150 + 1, 0xC0000000), (256 * 6151 + 1, 0xC0000000)] } : State), 1, 255, 5, 7, [1], by decide +kernel⟩,
   ⟨({ w bootl with odVals := [(256 * 5127 + 1, 0x200), (256 * 5127 + 2, 255), (256 * 5127 + 5, 7), (256 * 5639 + 0, 1), (256 * 5639 + 1, 0x24001010)] } : State), 2, 7, [1], by unfold BringsPdo; decide +kernel⟩,
   ⟨({ w bootl with odVals := [(256 * 5127 + 1, 0x200), (256 * 5127 + 2, 240), (256 * 5639 + 0, 1), (256 * 5639 + 1, 0x24001010)] } : State), 2, 7, [1, 2], by unfold BringsPdo; decide +kernel⟩,
   ⟨({ w bootl with odVals := [(256 * 5127 + 1, 0x200), (256 * 5127 + 2, 255), (256 * 5127 + 5, 7), (256 * 5639 + 0, 1), (256 * 5639 + 1, 0x24001010)] } : State), 7, 0x24001010, (((State.endCond ({ w bootl with odVals := [(256 * 5127 + 1, 0x200), (256 * 5127 + 2, 255), (256 * 5127 + 5, 7), (256 * 5639 + 0, 1), (256 * 5639 + 1, 0x24001010)] } : State) 0x8250 7).odWrite 0x2400 0x10 [1, 2] noVerdict)).1, (((State.endCond ({ w bootl with odVals := [(256 * 5127 + 1, 0x200), (256 * 5127 + 2, 255), (256 * 5127 + 5, 7), (256 * 5639 + 0, 1), (256 * 5639 + 1, 0x24001010)] } : State) 0x8250 7).odWrite 0x2400 0x10 [1, 2] noVerdict)).2, [1, 2], by decide +kernel⟩⟩

/-- What the clauses of Obligations.ProcessData ask can be met. -/
theorem witness_ProcessData_2 :
    (∃ s : State, ∃ p n : Nat, ∃ b : List Nat, BringsPdo s p n b ∧ mapBytes (s.mapping false n) ≤ b.length ∧ 240 < s.odGet
      (commIndex false n) 2) ∧
    (∃ s : State, ∃ p n : Nat, ∃ b : List Nat, p < 2 ∧ n < 8 ∧ areBytes b = true ∧ s.booted = true ∧ s.hears p = true ∧
      s.pdoServed = true ∧ s.pdoOff false n = false ∧ 8 < mapBytes (s.mapping false n) ∧ s.rd (.od .CAN_FD) 0 p = 0) ∧
    (∃ s : State, ∃ p n : Nat, ∃ b : List Nat, p < 3 ∧ n < 8 ∧ areBytes b = true ∧ s.booted = true ∧ (s.hears p = false ∨
      s.pdoServed = false ∨ s.pdoOff false n = true)) ∧
    (∃ s : State, ∃ n : Nat, n < 8 ∧ s.booted = true ∧ (s.pdoServed = false ∨ s.pdoOff false n = true ∨ s.odGet (commIndex
      false n) 5 = 0 ∨ s.tick = 5)) ∧
    (∃ s : State, ∃ n : Nat, n < 8 ∧ s.booted = true ∧ s.pdoServed = true ∧ s.pdoOff false n = false ∧ s.odGet (commIndex
      false n) 5 ≠ 0 ∧ s.tick ≠ 5) :=
  ⟨⟨({ w bootl with odVals := [(256 * 5127 + 1, 0x200), (256 * 5127 + 2, 255), (256 * 5639 + 0, 1), (256 * 5639 + 1, 0x24001010)] } : State), 2, 7, [1, 2], by unfold BringsPdo; decide +kernel⟩,
   ⟨({ w (more bootl [(.od .CAN_EN, 0, 1, 1)]) with odVals := [(256 * 5127 + 1, 0x200), (256 * 5127 + 2, 255), (256 * 5639 + 0, 2), (256 * 5639 + 1, 0x24001040), (256 * 5639 + 2, 0x24001040)] } : State), 1, 7, [1], by decide +kernel⟩,
   ⟨({ w bootl with odVals := [(256 * 5127 + 1, 0x80000200)] } : State), 2, 7, [1], by decide +kernel⟩,
   ⟨(w bootl : State), 7, by decide +kernel⟩,
   ⟨({ w bootl with odVals := [(256 * 5127 + 1, 0x200), (256 * 5127 + 2, 255), (256 * 5127 + 5, 7), (256 * 5639 + 0, 1), (256 * 5639 + 1, 0x24001010)] } : State), 7, by decide +kernel⟩⟩

/-- What the clauses of Obligations.EmergenciesAndControllers ask can be met. -/
theorem witness_EmergenciesAndControllers_1 :
    (∃ s : State, ∃ t : Nat, ∃ e : Emcy, ∃ l : List Emcy, t < 2 ^ 80 ∧ s.served = true ∧ s.sdoServed = true ∧ (s.rd (.od
      .emcyHas) ≠ 1 ∨ s.rd (.od .emcyAt) + nsec (100000 * s.odGet 0x1015 0) ≤ t) ∧ s.emcyQueue = e :: l) ∧
    (∃ s : State, ∃ t : Nat, t < 2 ^ 80 ∧ s.served = true ∧ (s.sdoServed = false ∨ s.emcyQueue = [] ∨ (s.rd (.od .emcyHas)
      = 1 ∧ t < s.rd (.od .emcyAt) + nsec (100000 * s.odGet 0x1015 0)))) ∧
    (∃ s : State, ∃ c k tec rec' : Nat, c < 2 ∧ tec < 256 ∧ rec' < 256 ∧ 1 ≤ k ∧ s.served = true ∧ s.canHears c = false) ∧
    (∃ s : State, ∃ c tec rec' : Nat, c < 2 ∧ tec < 256 ∧ rec' < 256 ∧ s.served = true ∧ s.canHears c = true) ∧
    (∃ s : State, ∃ c : Nat, c < 2 ∧ s.served = true ∧ s.rd (.od .CAN_STATE) 0 c = 2) ∧
    (∃ s : State, ∃ c : Nat, c < 2 ∧ s.served = true ∧ s.rd (.od .CAN_STATE) 0 c ≠ 2) ∧
    (∃ s : State, ∃ c tec rec' : Nat, c < 2 ∧ tec < 256 ∧ rec' < 256 ∧ s.served = true ∧ s.canHears c = true) ∧
    (∃ s : State, ∃ c k : Nat, c < 2 ∧ 1 ≤ k ∧ s.served = true ∧ s.canHears c = true) ∧
    (∃ s : State, ∃ c v : Nat, c < 2 ∧ v < 2 ^ 48 ∧ s.served = true ∧ v % 2 = 1) ∧
    (∃ s : State, ∃ c v : Nat, c < 2 ∧ v < 2 ^ 48 ∧ s.served = true ∧ v % 2 = 0 ∧ s.rd (.od .CAN_EN) 0 (1 - c) = 0 ∧ s.rd
      (.od .ETH_EN) = 0) ∧
    (∃ s : State, ∃ c v : Nat, c < 2 ∧ v < 2 ^ 48 ∧ s.served = true ∧ v % 2 = 0 ∧ (s.rd (.od .CAN_EN) 0 (1 - c) ≠ 0 ∨ s.rd
      (.od .ETH_EN) ≠ 0)) ∧
    (∃ s : State, ∃ addr : Nat, addr < 2 ^ 32 ∧ s.served = true ∧ s.rd (.od .ETH_EN) < 2 ∧ s.rd (.od .ETH_PREFIX) < 64 ∧
      (s.rd (.od .ETH_EN) = 0 → s.rd (.od .CAN_EN) 0 0 ≠ 0 ∨ s.rd (.od .CAN_EN) 0 1 ≠ 0)) :=
  ⟨⟨({ w bootl with emcyQueue := [⟨0x6110, 129, 5, 6⟩] } : State), 5, ⟨0x6110, 129, 5, 6⟩, [], by decide +kernel⟩,
   ⟨(w (more bootl [(.od .NODE_NMT, 0, 0, 4)]) : State), 5, by decide +kernel⟩,
   ⟨(w (more bootl [(.od .CAN_EN, 0, 1, 0)]) : State), 1, 1, 255, 255, by decide +kernel⟩,
   ⟨(w bootl : State), 1, 255, 255, by decide +kernel⟩,
   ⟨(w (more bootl [(.od .CAN_STATE, 0, 1, 2)]) : State), 1, by decide +kernel⟩,
   ⟨(w bootl : State), (2 - 1), by decide +kernel⟩,
   ⟨(w bootl : State), 1, 255, 255, by decide +kernel⟩,
   ⟨(w bootl : State), 1, 9, by decide +kernel⟩,
   ⟨(w bootl : State), (2 - 1), (2 ^ 48 - 1), by decide +kernel⟩,
   ⟨(w (more bootl [(.od .ETH_EN, 0, 0, 0), (.od .CAN_EN, 0, 0, 0)]) : State), 1, 0, by decide +kernel⟩,
   ⟨(w bootl : State), (2 - 1), (2 ^ 48 - 2), by decide +kernel⟩,
   ⟨(w bootl : State), (2 ^ 32 - 1), by decide +kernel⟩⟩

/-- What the clauses of Obligations.EmergenciesAndControllers ask can be met. -/
theorem witness_EmergenciesAndControllers_2 :
    (∃ s : State, ∃ addr : Nat, addr < 2 ^ 32 ∧ s.served = true ∧ s.rd (.od .ETH_EN) = 0 ∧ s.rd (.od .CAN_EN) 0 0 = 0 ∧
      s.rd (.od .CAN_EN) 0 1 = 0) :=
  ⟨(w (more bootl [(.od .ETH_EN, 0, 0, 0), (.od .CAN_EN, 0, 0, 0), (.od .CAN_EN, 0, 1, 0)]) : State), (2 ^ 32 - 1), by decide +kernel⟩

/-- What the clauses of Obligations.FabricObjects ask can be met. -/
theorem witness_FabricObjects_1 :
    (∃ s : State, ∃ d vidx v : Nat, s.booted = true ∧ d < Config.n ∧ vidx < 2 ^ 12 ∧ v < 2 ^ 64 ∧ s.rd (.od .FPORT_READY)
      0 d ≠ 0 ∧ s.fabricRuns d = true ∧ s.rd (.od .FPORT_OPEN) 0 d ≠ 0 ∧ declarationOk 0 v = true ∧ (s.fobjs.find? fun
      x => x.idx == 0x5000 + vidx) = none ∧ s.fvaluesUsed + v % 256 ≤ 16384) ∧
    (∃ s : State, ∃ d vidx vsub v : Nat, s.booted = true ∧ d < Config.n ∧ vidx < 2 ^ 12 ∧ vsub < 256 ∧ v < 2 ^ 64 ∧ s.rd
      (.od .FPORT_READY) 0 d ≠ 0 ∧ s.fabricRuns d = true ∧ (s.rd (.od .FPORT_OPEN) 0 d = 0 ∨ declarationOk vsub v =
      false)) ∧
    (∃ s : State, ∃ d vidx v : Nat, ∃ x : FObj, s.booted = true ∧ d < Config.n ∧ vidx < 2 ^ 12 ∧ v < 2 ^ 64 ∧ s.rd (.od
      .FPORT_READY) 0 d ≠ 0 ∧ s.fabricRuns d = true ∧ s.rd (.od .FPORT_OPEN) 0 d ≠ 0 ∧ declarationOk 0 v = true ∧
      (s.fobjs.find? fun x => x.idx == 0x5000 + vidx) = some x ∧ x.die ≠ d ∧ s.logicalDie x.die < s.logicalDie d) ∧
    (∃ s : State, ∃ d vidx v : Nat, ∃ x : FObj, s.booted = true ∧ d < Config.n ∧ vidx < 2 ^ 12 ∧ v < 2 ^ 64 ∧ s.rd (.od
      .FPORT_READY) 0 d ≠ 0 ∧ s.fabricRuns d = true ∧ s.rd (.od .FPORT_OPEN) 0 d ≠ 0 ∧ declarationOk 0 v = true ∧
      (s.fobjs.find? fun x => x.idx == 0x5000 + vidx) = some x ∧ x.die ≠ d ∧ s.logicalDie d ≤ s.logicalDie x.die ∧
      s.fvaluesUsed + v % 256 ≤ 16384) ∧
    (∃ s : State, ∃ d vidx v : Nat, ∃ x : FObj, s.booted = true ∧ d < Config.n ∧ vidx < 2 ^ 12 ∧ v < 2 ^ 64 ∧ s.rd (.od
      .FPORT_READY) 0 d ≠ 0 ∧ s.fabricRuns d = true ∧ s.rd (.od .FPORT_OPEN) 0 d ≠ 0 ∧ declarationOk 0 v = true ∧
      (s.fobjs.find? fun x => x.idx == 0x5000 + vidx) = some x ∧ x.die = d) ∧
    (∃ s : State, ∃ d vidx v : Nat, s.booted = true ∧ d < Config.n ∧ vidx < 2 ^ 12 ∧ v < 2 ^ 64 ∧ s.rd (.od .FPORT_READY)
      0 d ≠ 0 ∧ s.fabricRuns d = true ∧ s.rd (.od .FPORT_OPEN) 0 d ≠ 0 ∧ declarationOk 0 v = true ∧ (s.fobjs.find? fun
      x => x.idx == 0x5000 + vidx) = none ∧ 16384 < s.fvaluesUsed + v % 256) ∧
    (∃ s : State, ∃ d vidx vsub v : Nat, s.booted = true ∧ d < Config.n ∧ vidx < 2 ^ 12 ∧ vsub < 256 ∧ v < 2 ^ 64 ∧ (s.rd
      (.od .FPORT_READY) 0 d = 0 ∨ s.fabricRuns d = false)) ∧
    (∃ s : State, ∃ d vidx vsub v : Nat, s.booted = true ∧ d < Config.n ∧ vidx < 2 ^ 12 ∧ vsub < 256 ∧ v < 2 ^ 64 ∧ s.rd
      (.od .FPORT_READY) 0 d ≠ 0 ∧ s.fabricRuns d = true ∧ (∀ o, (s.fobjs.find? fun x => x.idx == 0x5000 + vidx &&
      x.die == d) = some o → vsub = 0 ∨ o.top < vsub ∨ o.access = 1)) ∧
    (∃ s : State, ∃ d vidx vsub v : Nat, ∃ o : FObj, s.booted = true ∧ d < Config.n ∧ vidx < 2 ^ 12 ∧ vsub < 256 ∧ v < 2 ^
      64 ∧ s.rd (.od .FPORT_READY) 0 d ≠ 0 ∧ s.fabricRuns d = true ∧ (s.fobjs.find? fun x => x.idx == 0x5000 + vidx &&
      x.die == d) = some o ∧ 1 ≤ vsub ∧ vsub ≤ o.top ∧ o.access ≠ 1 ∧ s.tick ≠ 2) ∧
    (∃ s : State, ∃ d vidx vsub v : Nat, ∃ o : FObj, s.booted = true ∧ d < Config.n ∧ vidx < 2 ^ 12 ∧ vsub < 256 ∧ v < 2 ^
      64 ∧ s.rd (.od .FPORT_READY) 0 d ≠ 0 ∧ s.fabricRuns d = true ∧ (s.fobjs.find? fun x => x.idx == 0x5000 + vidx &&
      x.die == d) = some o ∧ 1 ≤ vsub ∧ vsub ≤ o.top ∧ o.access ≠ 1 ∧ s.tick = 2) ∧
    (∃ s : State, ∃ c idx sub : Nat, ∃ r : ObjRow, ∃ o : FObj, ∃ l : List Nat, s.booted = true ∧ c < 2 ∧ 0x5000 ≤ idx ∧
      idx < 0x6000 ∧ sub < 256 ∧ areBytes l = true ∧ s.sdoServer c = true ∧ s.objAbort idx sub = 0 ∧ s.objRow idx sub
      = some r ∧ r.acc ≠ .ro ∧ r.acc ≠ .const ∧ typeBytes r.type ≠ 0 ∧ l.length = typeBytes r.type ∧ r.src = .own
      (.fabric idx sub) ∧ (s.fobjs.find? fun o => o.idx == idx) = some o ∧ s.rd (.od .FPORT_READY) 0 o.die ≠ 0 ∧
      (s.fwrites.filter fun w => w.die == o.die).length < 256) ∧
    (∃ s : State, ∃ c idx sub : Nat, ∃ l : List Nat, s.booted = true ∧ c < 2 ∧ 0x5000 ≤ idx ∧ idx < 0x6000 ∧ sub < 256 ∧
      areBytes l = true) :=
  ⟨⟨(w (more fab7l [(.od .FPORT_READY, 0, 7, 1), (.od .FPORT_OPEN, 0, 7, 1), (.cfg .DIE_LOGICAL, 8, 0, 1), (.cfg
      .DIE_LOGICAL, 1, 0, 0)]) : State), 7, 4095, 1800, by decide +kernel⟩,
   ⟨(w (more fab7l [(.od .FPORT_READY, 0, 7, 1), (.od .FPORT_OPEN, 0, 7, 1), (.cfg .DIE_LOGICAL, 8, 0, 1), (.cfg
      .DIE_LOGICAL, 1, 0, 0)]) : State), 7, 4095, 1, 1800, by decide +kernel⟩,
   ⟨({ w (more fab7l [(.od .FPORT_READY, 0, 7, 1), (.od .FPORT_OPEN, 0, 7, 1), (.cfg .DIE_LOGICAL, 8, 0, 1), (.cfg .DIE_LOGICAL, 1, 0, 0)]) with fobjs := [⟨0, 0x5FFF, 8, 7, 0, true⟩] } : State), 7, 4095, 1800, ⟨0, 0x5FFF, 8, 7, 0, true⟩, by decide +kernel⟩,
   ⟨({ w (more fab7l [(.od .FPORT_READY, 0, 7, 1), (.od .FPORT_OPEN, 0, 7, 1), (.cfg .DIE_LOGICAL, 8, 0, 0), (.cfg .DIE_LOGICAL, 1, 0, 1)]) with fobjs := [⟨0, 0x5FFF, 8, 7, 0, true⟩] } : State), 7, 4095, 1800, ⟨0, 0x5FFF, 8, 7, 0, true⟩, by decide +kernel⟩,
   ⟨({ w (more fab7l [(.od .FPORT_READY, 0, 7, 1), (.od .FPORT_OPEN, 0, 7, 1), (.cfg .DIE_LOGICAL, 8, 0, 1), (.cfg .DIE_LOGICAL, 1, 0, 0)]) with fobjs := [⟨7, 0x5FFF, 8, 7, 0, true⟩] } : State), 7, 4095, 1800, ⟨7, 0x5FFF, 8, 7, 0, true⟩, by decide +kernel⟩,
   ⟨({ w (more fab7l [(.od .FPORT_READY, 0, 7, 1), (.od .FPORT_OPEN, 0, 7, 1), (.cfg .DIE_LOGICAL, 8, 0, 1), (.cfg .DIE_LOGICAL, 1, 0, 0)]) with fobjs := List.replicate 66 ⟨7, 0x5000, 255, 7, 0, true⟩ } : State), 7, 4095, 1800, by decide +kernel⟩,
   ⟨(w bootl : State), 7, 4095, 1, 1800, by decide +kernel⟩,
   ⟨({ w (more fab7l [(.od .FPORT_READY, 0, 7, 1), (.od .FPORT_OPEN, 0, 7, 1), (.cfg .DIE_LOGICAL, 8, 0, 1), (.cfg .DIE_LOGICAL, 1, 0, 0)]) with fobjs := [⟨0, 0x5FFF, 8, 7, 0, true⟩] } : State), 7, 4095, (256 - 1), 1800, by decide +kernel⟩,
   ⟨({ w (more fab7l [(.od .FPORT_READY, 0, 7, 1), (.od .FPORT_OPEN, 0, 7, 1), (.cfg .DIE_LOGICAL, 8, 0, 1), (.cfg .DIE_LOGICAL, 1, 0, 0)]) with fobjs := [⟨7, 0x5FFF, 8, 7, 0, true⟩] } : State), 7, 4095, 8, (2 ^ 64 - 1), ⟨7, 0x5FFF, 8, 7, 0, true⟩, by decide +kernel⟩,
   ⟨({ w (more fab7l [(.od .FPORT_READY, 0, 7, 1), (.od .FPORT_OPEN, 0, 7, 1), (.cfg .DIE_LOGICAL, 8, 0, 1), (.cfg .DIE_LOGICAL, 1, 0, 0), (.tick .STATE_STATE, 0, 0, 2)]) with fobjs := [⟨7, 0x5FFF, 8, 7, 0, true⟩] } : State), 7, 4095, 8, (2 ^ 64 - 1), ⟨7, 0x5FFF, 8, 7, 0, true⟩, by decide +kernel⟩,
   ⟨({ w (more bootl [(.od .FPORT_READY, 0, 7, 1), (.od .FPORT_OPEN, 0, 7, 1), (.cfg .DIE_LOGICAL, 8, 0, 1), (.cfg .DIE_LOGICAL, 1, 0, 0)]) with fobjs := [⟨7, 0x5FFF, 8, 7, 2, true⟩] } : State), 1, 0x5FFF, 8, ⟨0x07, .rw, true, .own (.fabric 0x5FFF 8)⟩, ⟨7, 0x5FFF, 8, 7, 2, true⟩, [1, 2, 3, 4], by decide +kernel⟩,
   ⟨(w bootl : State), (2 - 1), 0x5000, (256 - 1), [], by decide +kernel⟩⟩

/-- What the clauses of Obligations.FabricObjects ask can be met. -/
theorem witness_FabricObjects_2 :
    (∃ s : State, ∃ d : Nat, s.booted = true ∧ d < Config.n ∧ (s.tick ≠ 2 ∨ s.fabricRuns d = false)) ∧
    (∃ s : State, ∃ d : Nat, ∃ w : FWrite, ∃ r : List FWrite, s.coreUp = true ∧ s.booted = true ∧ d < Config.n ∧ s.tick =
      2 ∧ s.fabricRuns d = true ∧ (s.fwrites.filter fun w => w.die == d && w.shown && !w.taken) = w :: r) ∧
    (∃ s : State, ∃ d : Nat, s.booted = true ∧ d < Config.n ∧ (s.fwrites.filter fun w => w.die == d && w.shown &&
      !w.taken) = []) :=
  ⟨⟨(w bootl : State), (Config.n - 1), by decide +kernel⟩,
   ⟨({ w (more fab7l [(.od .FPORT_READY, 0, 7, 1), (.od .FPORT_OPEN, 0, 7, 1), (.cfg .DIE_LOGICAL, 8, 0, 1), (.cfg .DIE_LOGICAL, 1, 0, 0), (.tick .STATE_STATE, 0, 0, 2)]) with fwrites := [⟨7, 0x5FFF, 8, 5, true, false⟩] } : State), 7, ⟨7, 0x5FFF, 8, 5, true, false⟩, [], by decide +kernel⟩,
   ⟨(w bootl : State), (Config.n - 1), by decide +kernel⟩⟩

/-- What the clauses of Obligations.MonitorRequests ask can be met. -/
theorem witness_MonitorRequests_1 :
    (∃ s : State, ∃ tag : Nat, ∃ b : List Nat, Heard s ∧ tag < 2 ^ 16 ∧ areBytes b = true) ∧
    (∃ s : State, ∃ flags tag : Nat, ∃ b : List Nat, ∃ pins : List (Nat × Nat × Nat), ∃ t : Nat, Heard s ∧ flags < 256 ∧
      tag < 2 ^ 16 ∧ areBytes b = true ∧ okLevels pins = true ∧ t < 2 ^ 80) ∧
    (∃ s : State, ∃ addr port id seq flags tag : Nat, ∃ b : List Nat, ∃ pins : List (Nat × Nat × Nat), ∃ t : Nat, s.booted
      = true ∧ s.udpUp = true ∧ (s.nextOf addr port id seq).isSome = true ∧ flags < 256 ∧ tag < 2 ^ 16 ∧ areBytes b =
      true ∧ okLevels pins = true ∧ t < 2 ^ 80) ∧
    (∃ s : State, ∃ via : Via, ∃ flags tag : Nat, ∃ b : List Nat, ∃ pins : List (Nat × Nat × Nat), ∃ t : Nat, s.booted =
      true ∧ flags < 256 ∧ tag < 2 ^ 16 ∧ areBytes b = true ∧ okLevels pins = true ∧ t < 2 ^ 80 ∧ ((via = .object ∧
      s.nmt ≠ 127 ∧ s.nmt ≠ 5) ∨ (via ≠ .object ∧ s.udpUp = false))) ∧
    (∃ s : State, ∃ tag : Nat, Heard s ∧ tag < 2 ^ 16) ∧
    (∃ s : State, ∃ tag : Nat, ∃ l : List Nat, Heard s ∧ tag < 2 ^ 16 ∧ areBytes l = true ∧ 1 ≤ l.length ∧ l.length ≤
      1400) ∧
    (∃ s : State, ∃ tag : Nat, ∃ l : List Nat, ∃ v : Verdict, Heard s ∧ tag < 2 ^ 16 ∧ areBytes l = true ∧ 1 ≤ l.length ∧
      l.length ≤ 1400 ∧ s.tokenParts.length < 2 ^ 32 ∧ s.tokenParts.length ≠ 0 ∧ s.tokenOk (s.tokenParts ++ l) v =
      true) ∧
    (∃ s : State, ∃ tag : Nat, Heard s ∧ tag < 2 ^ 16 ∧ s.dbgLevel = 2 ∧ s.tick = 2 ∧ s.rd (.tick .GROUP_EN) = 0 ∧
      s.haltBusy = false) ∧
    (∃ s : State, ∃ tag m : Nat, Heard s ∧ tag < 2 ^ 16 ∧ m < 2 ∧ s.dbgLevel = 2 ∧ s.tick ≠ 2) ∧
    (∃ s : State, ∃ tag k : Nat, ∃ pins : List (Nat × Nat × Nat), ∃ t : Nat, Heard s ∧ tag < 2 ^ 16 ∧ t < 2 ^ 80 ∧
      okLevels pins = true ∧ 1 ≤ k ∧ k < 2 ^ 64 ∧ s.dbgLevel = 2 ∧ s.tick = 5 ∧ s.rd (.dbg .STAT_HALT) = 2 ∧ s.rd
      (.tick .heldCause) = 0 ∧ s.rd (.cfg .waits) ≠ 2 ∧ t + nsec 20000 ≤ s.boundaryAt k) ∧
    (∃ s : State, ∃ tag k : Nat, ∃ pins : List (Nat × Nat × Nat), ∃ t : Nat, Heard s ∧ tag < 2 ^ 16 ∧ t < 2 ^ 80 ∧
      okLevels pins = true ∧ k < 2 ^ 64 ∧ s.dbgLevel = 2 ∧ s.tick = 5 ∧ (k = 0 ∨ t + nsec 20000 ≤ s.boundaryAt k) ∧
      s.rd (.cfg .waits) ≠ 2) ∧
    (∃ s : State, ∃ tag k : Nat, ∃ pins : List (Nat × Nat × Nat), ∃ t : Nat, Heard s ∧ tag < 2 ^ 16 ∧ t < 2 ^ 80 ∧
      okLevels pins = true ∧ 1 ≤ k ∧ k < 2 ^ 64 ∧ s.dbgLevel = 2 ∧ s.tick = 5 ∧ s.boundaryAt k < t + nsec 20000) :=
  ⟨⟨(w bootl : State), 65535, [255], by unfold Heard; decide +kernel⟩,
   ⟨(w bootl : State), (256 - 1), (2 ^ 16 - 1), [], [], (2 ^ 80 - 1), by unfold Heard; decide +kernel⟩,
   ⟨(w bootl : State), 0, 0, 0, 0, (256 - 1), (2 ^ 16 - 1), [], [], (2 ^ 80 - 1), by decide +kernel⟩,
   ⟨(w (more bootl [(.od .NODE_NMT, 0, 0, 4)]) : State), .object, (256 - 1), (2 ^ 16 - 1), [], [], (2 ^ 80 - 1),
      by decide +kernel⟩,
   ⟨(w bootl : State), (2 ^ 16 - 1), by unfold Heard; decide +kernel⟩,
   ⟨(w bootl : State), 65535, [255], by unfold Heard; decide +kernel⟩,
   ⟨({ w (more bootl [(.sec .KEYS_PRESENT, 0, 0, 0xFFFF), (.sec .STAT_LC, 0, 0, 3), (.tick .NUMBER, 0, 0, 7)]) with tokenParts := (token 2 8 1).take 4000 } : State), 65535, ((token 2 8 1).drop 4000), ⟨true, true, [true, true, true, true], [5, 6, 7, 8], 65535⟩, by unfold Heard; decide +kernel⟩,
   ⟨(w (more bootl [(.sec .STAT_DBG_LEVEL, 0, 0, 2), (.tick .STATE_STATE, 0, 0, 2)]) : State), 65535,
      by unfold Heard; decide +kernel⟩,
   ⟨(w (more bootl [(.sec .STAT_DBG_LEVEL, 0, 0, 2)]) : State), 65535, 1, by unfold Heard; decide +kernel⟩,
   ⟨(w (more bootl [(.sec .STAT_DBG_LEVEL, 0, 0, 2), (.tick .STATE_STATE, 0, 0, 5), (.dbg .STAT_HALT, 0, 0, 2)]) : State),
      65535, (2 ^ 64 - 1), [(7, 23, 1)], 5, by unfold Heard; decide +kernel⟩,
   ⟨(w (more bootl [(.sec .STAT_DBG_LEVEL, 0, 0, 2), (.tick .STATE_STATE, 0, 0, 5), (.dbg .STAT_HALT, 0, 0, 2)]) : State),
      65535, (2 ^ 64 - 1), [(7, 23, 1)], 5, by unfold Heard; decide +kernel⟩,
   ⟨(w (more bootl [(.sec .STAT_DBG_LEVEL, 0, 0, 2), (.tick .STATE_STATE, 0, 0, 5), (.dbg .STAT_HALT, 0, 0, 2)]) : State),
      65535, 1, [], (2 ^ 80 - 1), by unfold Heard; decide +kernel⟩⟩

/-- What the clauses of Obligations.MonitorRequests ask can be met. -/
theorem witness_MonitorRequests_2 :
    (∃ s : State, ∃ tag n : Nat, ∃ pins : List (Nat × Nat × Nat), ∃ t : Nat, Heard s ∧ tag < 2 ^ 16 ∧ t < 2 ^ 80 ∧
      okLevels pins = true ∧ 1 ≤ n ∧ n < 2 ^ 16 ∧ s.dbgLevel = 2 ∧ s.tick = 2 ∧ s.rd (.tick .GROUP_EN) = 0 ∧
      s.haltBusy = false) ∧
    (∃ s : State, ∃ tag : Nat, ∃ b : List Nat, ∃ ws : List (Nat × Bool), ∃ s' : State, Heard s ∧ tag < 2 ^ 16 ∧ areBytes b
      = true ∧ b.length = 6 ∧ 1 ≤ b.getD 5 0 ∧ b.getD 5 0 ≤ 200 ∧ 1 ≤ s.dbgLevel ∧ s.readChunks (bytesAt b 0 5) false
      (b.getD 5 0 + 1) 0 (b.getD 5 0) [] 0 = (ws, 0, s')) ∧
    (∃ s : State, ∃ tag : Nat, ∃ b : List Nat, ∃ s' : State, Heard s ∧ tag < 2 ^ 16 ∧ areBytes b = true ∧ 1 ≤ b.getD 5 0 ∧
      b.getD 5 0 ≤ 200 ∧ b.length = 6 + 6 * b.getD 5 0 ∧ s.dbgLevel = 2 ∧ s.touch.writeChunks (bytesAt b 0 5) (b.getD
      5 0 + 1) 0 ((List.range (b.getD 5 0)).map fun i => bytesAt b (6 + 6 * i) 6) = (0, s')) ∧
    (∃ s : State, ∃ tag idx sub : Nat, ∃ r : ObjRow, ∃ v : Nat, Heard s ∧ tag < 2 ^ 16 ∧ idx < 2 ^ 16 ∧ sub < 256 ∧ 1 ≤
      s.dbgLevel ∧ ¬(idx = 0x3001 ∧ sub = 7) ∧ s.objAbort idx sub = 0 ∧ s.objRow idx sub = some r ∧ r.acc ≠ .wo ∧
      r.src = .val v) ∧
    (∃ s : State, ∃ tag d : Nat, Heard s ∧ tag < 2 ^ 16 ∧ s.dbgLevel = 2 ∧ d < Config.n ∧ s.isolated d = false ∧ s.tick =
      5) ∧
    (∃ s : State, ∃ tag d i : Nat, Heard s ∧ tag < 2 ^ 16 ∧ s.dbgLevel = 2 ∧ d < Config.n ∧ s.isolated d = false ∧ s.tick
      ≠ 5 ∧ i < 2 ^ 32) ∧
    (∃ s : State, ∃ tag d c src val mask limit : Nat, Heard s ∧ tag < 2 ^ 16 ∧ 1 ≤ s.dbgLevel ∧ d < Config.n ∧ s.isolated
      d = false ∧ c < 8 ∧ 1 ≤ src ∧ src ≤ 5 ∧ val < 2 ^ 48 ∧ mask < 2 ^ 48 ∧ limit < 2 ^ 16) :=
  ⟨⟨(w (more bootl [(.sec .STAT_DBG_LEVEL, 0, 0, 2), (.tick .STATE_STATE, 0, 0, 2)]) : State), 65535, 65535, [], 5,
      by unfold Heard; decide +kernel⟩,
   ⟨(w (more bootl [(.sec .STAT_DBG_LEVEL, 0, 0, 2), (.tick .PERIOD_P, 0, 0, 1000000), (.erg .RT_DEST_DEST, 0, 1024 * 2 +
      3, 3), (.erg .RT_DEST_VALID, 0, 1024 * 2 + 3, 1), (.erg .RT_DEST_DEST, 0, 1024 * 3 + 2, 2), (.erg
      .RT_DEST_VALID, 0, 1024 * 3 + 2, 1), (.erg .RT_ROUTE_ROUTE, 0, 1024 * 2 + 3, 2 ^ 48 - 7), (.erg .RT_ROUTE_ROUTE,
      0, 1024 * 3 + 2, 2 ^ 48 - 5)]) : State), 65535, (beBytes 5 (2 ^ 18 + 2) ++ [1]), (State.readChunks (w (more bootl 
      [(.sec .STAT_DBG_LEVEL, 0, 0, 2), (.tick .PERIOD_P, 0, 0, 1000000), (.erg .RT_DEST_DEST, 0, 1024 * 2 + 3, 3),
      (.erg .RT_DEST_VALID, 0, 1024 * 2 + 3, 1), (.erg .RT_DEST_DEST, 0, 1024 * 3 + 2, 2), (.erg .RT_DEST_VALID, 0,
      1024 * 3 + 2, 1), (.erg .RT_ROUTE_ROUTE, 0, 1024 * 2 + 3, 2 ^ 48 - 7), (.erg .RT_ROUTE_ROUTE, 0, 1024 * 3 + 2, 2
      ^ 48 - 5)]) : State) (bytesAt (beBytes 5 (2 ^ 18 + 2) ++ [1]) 0 5) false 2 0 1 [] 0).1, (State.readChunks (w
      (more bootl [(.sec .STAT_DBG_LEVEL, 0, 0, 2), (.tick .PERIOD_P, 0, 0, 1000000), (.erg .RT_DEST_DEST, 0, 1024 * 2 +
      3, 3), (.erg .RT_DEST_VALID, 0, 1024 * 2 + 3, 1), (.erg .RT_DEST_DEST, 0, 1024 * 3 + 2, 2), (.erg
      .RT_DEST_VALID, 0, 1024 * 3 + 2, 1), (.erg .RT_ROUTE_ROUTE, 0, 1024 * 2 + 3, 2 ^ 48 - 7), (.erg .RT_ROUTE_ROUTE,
      0, 1024 * 3 + 2, 2 ^ 48 - 5)]) : State) (bytesAt (beBytes 5 (2 ^ 18 + 2) ++ [1]) 0 5) false 2 0 1 [] 0).2.2,
      by unfold Heard; decide +kernel⟩,
   ⟨(w (more bootl [(.sec .STAT_DBG_LEVEL, 0, 0, 2), (.erg .RT_DEST_DEST, 0, 1024 * 2 + 3, 3), (.erg .RT_DEST_VALID, 0,
      1024 * 2 + 3, 1), (.erg .RT_DEST_DEST, 0, 1024 * 3 + 2, 2), (.erg .RT_DEST_VALID, 0, 1024 * 3 + 2, 1), (.erg
      .RT_ROUTE_ROUTE, 0, 1024 * 2 + 3, 2 ^ 48 - 7), (.erg .RT_ROUTE_ROUTE, 0, 1024 * 3 + 2, 2 ^ 48 - 5)]) : State),
      65535, (beBytes 5 (2 ^ 18 + 2) ++ [1] ++ beBytes 6 2000), ((State.touch (w (more bootl [(.sec .STAT_DBG_LEVEL, 0,
      0, 2), (.erg .RT_DEST_DEST, 0, 1024 * 2 + 3, 3), (.erg .RT_DEST_VALID, 0, 1024 * 2 + 3, 1), (.erg .RT_DEST_DEST,
      0, 1024 * 3 + 2, 2), (.erg .RT_DEST_VALID, 0, 1024 * 3 + 2, 1), (.erg .RT_ROUTE_ROUTE, 0, 1024 * 2 + 3, 2 ^ 48 -
      7), (.erg .RT_ROUTE_ROUTE, 0, 1024 * 3 + 2, 2 ^ 48 - 5)]) : State)).writeChunks (bytesAt (beBytes 5 (2 ^ 18 + 2)
      ++ [1] ++ beBytes 6 2000) 0 5) 2 0 [2000]).2, by unfold Heard; decide +kernel⟩,
   ⟨(w (more bootl [(.sec .STAT_DBG_LEVEL, 0, 0, 2)]) : State), 65535, 0x1000, 0, row1000, val1000,
      by unfold Heard; decide +kernel⟩,
   ⟨(w (more fab7l [(.sec .STAT_DBG_LEVEL, 0, 0, 2), (.tick .STATE_STATE, 0, 0, 5)]) : State), 65535, 7,
      by unfold Heard; decide +kernel⟩,
   ⟨(w (more fab7l [(.sec .STAT_DBG_LEVEL, 0, 0, 2), (.tick .STATE_STATE, 0, 0, 2)]) : State), 65535, 7, 1023,
      by unfold Heard; decide +kernel⟩,
   ⟨(w (more fab7l [(.sec .STAT_DBG_LEVEL, 0, 0, 2)]) : State), 65535, 7, 7, 5, (2 ^ 48 - 1), (2 ^ 48 - 1), 65535,
      by unfold Heard; decide +kernel⟩⟩

/-- What the clauses of Obligations.ComparatorsAndRegisters ask can be met. -/
theorem witness_ComparatorsAndRegisters_1 :
    (∃ s : State, ∃ d c observed : Nat, s.coreUp = true ∧ d < Config.n ∧ c < 8 ∧ observed < 2 ^ 48 ∧ (∀ v, observes s d c
      observed = some v → s.comparatorHits d c v = false)) ∧
    (∃ s : State, ∃ d c observed : Nat, Matches s d c observed ∧ ¬ChainAllows s d c) ∧
    (∃ s : State, ∃ d c observed : Nat, Matches s d c observed ∧ ChainAllows s d c) ∧
    (∃ s : State, ∃ d c observed : Nat, Matches s d c observed ∧ ChainAllows s d c ∧ s.rd (.dbg .CMP_CNT_HITS) (1 + d) c <
      65535 ∧ (s.rd (.dbg .CMP_CNT_HITS) (1 + d) c + 1) % max 1 (s.rd (.dbg .CMP_CNT_LIMIT) (1 + d) c) ≠ 0) ∧
    (∃ s : State, ∃ d c observed : Nat, Matches s d c observed ∧ ChainAllows s d c ∧ s.rd (.dbg .CMP_CNT_HITS) (1 + d) c <
      65535 ∧ s.rd (.dbg .CMP_CNT_LIMIT) (1 + d) c ≤ 1 ∧ 2 ≤ s.rd (.dbg .CMP_CFG_ACTION) (1 + d) c ∧ s.rd (.dbg
      .CMP_CFG_ACTION) (1 + d) c ≤ 3 ∧ s.tick = 2 ∧ s.rd (.tick .GROUP_EN) ≠ 1 ∧ s.haltBusy = false) ∧
    (∃ s : State, ∃ d c observed pos : Nat, Matches s d c observed ∧ ChainAllows s d c ∧ pos < 2 ^ 24 ∧ s.rd (.dbg
      .CMP_CFG_SRC) (1 + d) c ≠ 5 ∧ s.rd (.dbg .CMP_CFG_ACTION) (1 + d) c = 1 ∧ s.rd (.dbg .CMP_CFG_ONCE) (1 + d) c =
      0 ∧ s.rd (.dbg .CMP_CNT_LIMIT) (1 + d) c ≤ 1 ∧ s.rd (.dbg .CMP_CNT_HITS) (1 + d) c < 65535 ∧ s.dbgEvents.length
      < 64) ∧
    (∃ s : State, ∃ e : Nat, ∃ l : List Nat, s.coreUp = true ∧ s.dbgEvents = e :: l ∧ l.length < 64) ∧
    (∃ s : State, s.coreUp = true ∧ s.dbgEvents = []) ∧
    (∃ s : State, ∃ v : Nat, s.coreUp = true ∧ v < 2 ^ 48 ∧ s.tickIdle = true) ∧
    (∃ s : State, ∃ v : Nat, s.coreUp = true ∧ v < 2 ^ 48 ∧ s.tickIdle = false) ∧
    (∃ s : State, s.coreUp = true ∧ s.time < 2 ^ 80) ∧
    (∃ s : State, ∃ d block off v : Nat, s.coreUp = true ∧ d < Config.n ∧ s.isolated d = true ∧ v < 2 ^ 48 ∧ blockExists
      (1 + d) block = true ∧ csrExists (1 + d) block off = true) :=
  ⟨⟨(w upl : State), (Config.n - 1), (8 - 1), (2 ^ 48 - 1), by decide +kernel⟩,
   ⟨(w (more fab7l [(.dbg .CMP_CFG_SRC, 8, 7, 4), (.dbg .CMP_MASK_MASK, 8, 7, 2 ^ 48 - 1), (.dbg .CMP_VAL_VAL, 8, 7, 5),
      (.tick .STATE_STATE, 0, 0, 2), (.dbg .CMP_CFG_CHAIN, 8, 7, 1)]) : State), 7, 7, 5, ⟨by decide +kernel,
      by decide +kernel, by decide +kernel, by decide +kernel, 5, by decide +kernel, by decide +kernel⟩,
      by unfold ChainAllows; decide +kernel⟩,
   ⟨(w (more fab7l [(.dbg .CMP_CFG_SRC, 8, 7, 4), (.dbg .CMP_MASK_MASK, 8, 7, 2 ^ 48 - 1), (.dbg .CMP_VAL_VAL, 8, 7, 5),
      (.tick .STATE_STATE, 0, 0, 2)]) : State), 7, 7, 5, ⟨by decide +kernel, by decide +kernel, by decide +kernel,
      by decide +kernel, 5, by decide +kernel, by decide +kernel⟩, by unfold ChainAllows; decide +kernel⟩,
   ⟨(w (more fab7l [(.dbg .CMP_CFG_SRC, 8, 7, 4), (.dbg .CMP_MASK_MASK, 8, 7, 2 ^ 48 - 1), (.dbg .CMP_VAL_VAL, 8, 7, 5),
      (.tick .STATE_STATE, 0, 0, 2), (.dbg .CMP_CFG_ACTION, 8, 7, 1), (.dbg .CMP_CNT_LIMIT, 8, 7, 2)]) : State), 7, 7,
      5, ⟨by decide +kernel, by decide +kernel, by decide +kernel, by decide +kernel, 5, by decide +kernel,
      by decide +kernel⟩, by unfold ChainAllows; decide +kernel, by decide +kernel, by decide +kernel⟩,
   ⟨(w (more fab7l [(.dbg .CMP_CFG_SRC, 8, 7, 4), (.dbg .CMP_MASK_MASK, 8, 7, 2 ^ 48 - 1), (.dbg .CMP_VAL_VAL, 8, 7, 5),
      (.tick .STATE_STATE, 0, 0, 2), (.dbg .CMP_CFG_ACTION, 8, 7, 2)]) : State), 7, 7, 5, ⟨by decide +kernel,
      by decide +kernel, by decide +kernel, by decide +kernel, 5, by decide +kernel, by decide +kernel⟩,
      by unfold ChainAllows; decide +kernel, by decide +kernel, by decide +kernel, by decide +kernel,
      by decide +kernel, by decide +kernel, by decide +kernel, by decide +kernel⟩,
   ⟨(w (more fab7l [(.dbg .CMP_CFG_SRC, 8, 7, 4), (.dbg .CMP_MASK_MASK, 8, 7, 2 ^ 48 - 1), (.dbg .CMP_VAL_VAL, 8, 7, 5),
      (.dbg .CMP_CFG_ACTION, 8, 7, 1)]) : State), 7, 7, 5, (2 ^ 24 - 1), ⟨by decide +kernel, by decide +kernel,
      by decide +kernel, by decide +kernel, 5, by decide +kernel, by decide +kernel⟩,
      by unfold ChainAllows; decide +kernel, by decide +kernel, by decide +kernel, by decide +kernel,
      by decide +kernel, by decide +kernel, by decide +kernel, by decide +kernel⟩,
   ⟨({ w upl with dbgEvents := [5, 6] } : State), 5, [6], by decide +kernel⟩,
   ⟨(w upl : State), by decide +kernel⟩,
   ⟨(w (more upl [(.tick .STATE_STATE, 0, 0, 4)]) : State), (2 ^ 48 - 1), by decide +kernel⟩,
   ⟨(w (more upl [(.tick .STATE_STATE, 0, 0, 2)]) : State), (2 ^ 48 - 1), by decide +kernel⟩,
   ⟨(w (more upl [(.tick .STATE_STATE, 0, 0, 2)]) : State), by decide +kernel⟩,
   ⟨(w (more upl [(.seif .DIE_STATE, 0, 7, 4)]) : State), 7, 1, 4, 1, by decide +kernel⟩⟩

/-- What the clauses of Obligations.ComparatorsAndRegisters ask can be met. -/
theorem witness_ComparatorsAndRegisters_2 :
    (∃ s : State, ∃ off v : Nat, s.coreUp = true ∧ v < 2 ^ 48 ∧ blockExists 0 4 = true ∧ csrExists 0 4 off = true ∧ off ≠
      0x10) ∧
    (∃ s : State, ∃ src d off v : Nat, s.coreUp = true ∧ v < 2 ^ 48 ∧ d < Config.n ∧ csrExists (1 + d) 5 off = true ∧ 0x10
      ≤ off ∧ off < 0x30 ∧ src ≠ 2) :=
  ⟨⟨(w upl : State), 0, 1, by decide +kernel⟩,
   ⟨(w upl : State), 0, 7, 0x2F, 1, by decide +kernel⟩⟩

/-- What the clauses of Obligations.StepRunsTheFront ask can be met. -/
theorem witness_StepRunsTheFront :
    (∃ s : State, s.pending = []) :=
  ⟨(w [] : State), by decide +kernel⟩

/-- What the clauses of Obligations.PowerAndBootGateCommands ask can be met. -/
theorem witness_PowerAndBootGateCommands :
    (∃ i : Instr, ∃ s : State, i.wellFormed = true ∧ i.alwaysOn = false ∧ s.coreUp = false) ∧
    (∃ i : Instr, ∃ s : State, i.wellFormed = true ∧ i.ofFirmware = true ∧ s.booted = false) ∧
    (∃ i : Instr, ∃ s : State, i.wellFormed = true ∧ i.ofDictionary = true ∧ s.served = false) :=
  ⟨⟨(.tickArm (2 ^ 80 - 1)), (w [] : State), by decide +kernel⟩,
   ⟨.seal, (w [] : State), by decide +kernel⟩,
   ⟨(.nmtStart 1 127), (w [] : State), by decide +kernel⟩⟩

/-- What the clauses of Obligations.StepsKeepStateSound ask can be met. -/
theorem witness_StepsKeepStateSound :
    (∃ s : State, s.sound = true) :=
  ⟨(w [] : State), by decide +kernel⟩

/-- What the clauses of Obligations.StepsKeepQueueWellFormed ask can be met. -/
theorem witness_StepsKeepQueueWellFormed :
    (∃ s : State, s.queueOk = true) :=
  ⟨({ w [] with pending := [.tickPause] } : State), by decide +kernel⟩

/-- What the clauses of Obligations.ResetLeaves ask can be met. -/
theorem witness_ResetLeaves :
    (∃ d b : Nat, d < Config.n ∧ b < 512) :=
  ⟨(Config.n - 1), (512 - 1), by decide +kernel⟩

end Sys2Proof.Tests
end

section
/-! PROOFS. The arithmetic of a slice (R107 to R114): patterns and the integers they stand for, lanes side by side, the
pre-adder, and the three roundings. -/

namespace Sys2Proof.Machine

/-! ### Patterns and integers -/

/-- The modulus of a signed pattern, as twice the weight that divides its two halves. -/
theorem two_pow_eq_two_mul_half {w : Nat} (hw : 0 < w) : 2 ^ w = 2 * 2 ^ (w - 1) := by
  rw [← pow_succ', Nat.sub_add_cancel hw]

theorem natCast_ofSigned (w : Nat) (v : Int) : ((ofSigned w v : Nat) : Int) = v % ((2 ^ w : Nat) : Int) :=
  Int.toNat_of_nonneg (Int.emod_nonneg _ (by positivity))

theorem ofSigned_lt (w : Nat) (v : Int) : ofSigned w v < 2 ^ w := by
  have h := Int.emod_lt_of_pos v (b := ((2 ^ w : Nat) : Int)) (by positivity)
  rw [← natCast_ofSigned] at h
  exact_mod_cast h

/-- Reading a pattern and writing it again leaves its low bits, whatever the reading. -/
theorem ofSigned_toSigned (w v : Nat) : ofSigned w (toSigned w v) = v % 2 ^ w := by
  have h : toSigned w v % ((2 ^ w : Nat) : Int) = ((v % 2 ^ w : Nat) : Int) := by
    unfold toSigned
    split
    · rw [← Int.natCast_mod, Nat.mod_mod]
    · rw [Int.sub_emod_right, ← Int.natCast_mod, Nat.mod_mod]
  rw [ofSigned, h, Int.toNat_natCast]

@[simp] theorem asInt_unsigned (w v : Nat) : asInt false w v = ((v % 2 ^ w : Nat) : Int) := rfl

@[simp] theorem asInt_signed (w v : Nat) : asInt true w v = toSigned w v := rfl

@[simp] theorem outMin_unsigned (w : Nat) : outMin false w = 0 := rfl

@[simp] theorem outMin_signed (w : Nat) : outMin true w = -((2 ^ (w - 1) : Nat) : Int) := rfl

@[simp] theorem outMax_unsigned (w : Nat) : outMax false w = ((2 ^ w : Nat) : Int) - 1 := rfl

@[simp] theorem outMax_signed (w : Nat) : outMax true w = ((2 ^ (w - 1) : Nat) : Int) - 1 := rfl

theorem rangeFlag_eq_false_iff (signed : Bool) (w : Nat) (q : Int) :
    rangeFlag signed w q = false ↔ outMin signed w ≤ q ∧ q ≤ outMax signed w := by
  simp [rangeFlag]

/-- R107 reads a pattern within the range that R114 gives for its width. -/
theorem asInt_mem_range (signed : Bool) {w : Nat} (hw : 0 < w) (v : Nat) :
    outMin signed w ≤ asInt signed w v ∧ asInt signed w v ≤ outMax signed w := by
  have hmod : v % 2 ^ w < 2 ^ w := Nat.mod_lt _ (Nat.two_pow_pos w)
  have hhalf := two_pow_eq_two_mul_half hw
  cases signed with
  | false => rw [outMin_unsigned, outMax_unsigned, asInt_unsigned]; omega
  | true =>
    rw [outMin_signed, outMax_signed, asInt_signed, toSigned]
    split <;> omega

theorem outMin_le_outMax (signed : Bool) {w : Nat} (hw : 0 < w) : outMin signed w ≤ outMax signed w :=
  (asInt_mem_range signed hw 0).1.trans (asInt_mem_range signed hw 0).2

/-- The pattern of an integer in range is read back as that integer. -/
theorem asInt_ofSigned_of_mem (signed : Bool) {w : Nat} (hw : 0 < w) {q : Int}
    (hmin : outMin signed w ≤ q) (hmax : q ≤ outMax signed w) : asInt signed w (ofSigned w q) = q := by
  have hhalf := two_pow_eq_two_mul_half hw
  have hcast := natCast_ofSigned w q
  have hlow : ofSigned w q % 2 ^ w = ofSigned w q := Nat.mod_eq_of_lt (ofSigned_lt w q)
  have hnonneg : 0 ≤ q → q < ((2 ^ w : Nat) : Int) → ((ofSigned w q : Nat) : Int) = q :=
    fun h0 h1 => hcast.trans (Int.emod_eq_of_lt h0 h1)
  cases signed with
  | false =>
    rw [outMin_unsigned] at hmin
    rw [outMax_unsigned] at hmax
    rw [asInt_unsigned, hlow]
    exact hnonneg hmin (by omega)
  | true =>
    rw [outMin_signed] at hmin
    rw [outMax_signed] at hmax
    rw [asInt_signed, toSigned, hlow]
    rcases lt_or_ge q 0 with hneg | hpos
    · have hwrap : ((ofSigned w q : Nat) : Int) = q + ((2 ^ w : Nat) : Int) := by
        rw [hcast, ← Int.add_emod_right]
        exact Int.emod_eq_of_lt (by omega) (by omega)
      split <;> omega
    · have := hnonneg hpos (by omega)
      split <;> omega

/-- A pattern stands for the integer that it was made of exactly when no wrap was needed (R109). -/
theorem toSigned_ofSigned_eq_iff {w : Nat} (hw : 0 < w) (v : Int) :
    toSigned w (ofSigned w v) = v ↔ outsideSigned w v = false := by
  change asInt true w (ofSigned w v) = v ↔ rangeFlag true w v = false
  rw [rangeFlag_eq_false_iff]
  constructor
  · intro h
    exact h ▸ asInt_mem_range true hw (ofSigned w v)
  · rintro ⟨hmin, hmax⟩
    exact asInt_ofSigned_of_mem true hw hmin hmax

/-- A saturated lane of Y0 reads as the quotient held within the lane's range (R114). -/
theorem asInt_outLane_sat (signed : Bool) {w : Nat} (hw : 0 < w) (q : Int) :
    asInt signed w (outLane true signed w q) = max (outMin signed w) (min (outMax signed w) q) := by
  have hle := outMin_le_outMax signed hw
  simp only [outLane, Bool.true_and, decide_eq_true_eq]
  split
  · rw [asInt_ofSigned_of_mem signed hw le_rfl hle]
    omega
  · split
    · rw [asInt_ofSigned_of_mem signed hw hle le_rfl]
      omega
    · rw [asInt_ofSigned_of_mem signed hw (by omega) (by omega)]
      omega

/-- The pre-adder of R108 needs one bit more than its operands. -/
theorem preAdd_mem_range (pre : Nat) (signed : Bool) {w : Nat} (hw : 0 < w) (a d : Nat) :
    -((2 ^ w : Nat) : Int) ≤ preAdd pre (asInt signed w a) (asInt signed w d) ∧
      preAdd pre (asInt signed w a) (asInt signed w d) < ((2 ^ (w + 1) : Nat) : Int) := by
  have hhalf := two_pow_eq_two_mul_half hw
  have hsucc : 2 ^ (w + 1) = 2 * 2 ^ w := pow_succ' 2 w
  obtain ⟨ha, ha'⟩ := asInt_mem_range signed hw a
  obtain ⟨hd, hd'⟩ := asInt_mem_range signed hw d
  have hspan : -((2 ^ w : Nat) : Int) ≤ 2 * outMin signed w ∧ outMin signed w ≤ 0 ∧
      outMax signed w < ((2 ^ w : Nat) : Int) ∧ outMax signed w - outMin signed w < ((2 ^ w : Nat) : Int) := by
    cases signed with
    | false => rw [outMin_unsigned, outMax_unsigned]; omega
    | true => rw [outMin_signed, outMax_signed]; omega
  match pre with
  | 0 | 1 | 2 | _ + 3 => simp only [preAdd]; omega

/-! ### Lanes side by side -/

theorem laneCat_eq_sum (split w : Nat) (g : Nat → Nat) :
    laneCat split w g = ∑ k ∈ Finset.range (laneCount split), g k * 2 ^ (w * k) := by
  unfold laneCat
  induction laneCount split with
  | zero => rfl
  | succ n ih => simp [List.range_succ, Finset.sum_range_succ, ih]

/-- Pieces of `w` bits side by side fill no more than their places. -/
theorem sum_pieces_lt {w : Nat} {g : Nat → Nat} (hg : ∀ k, g k < 2 ^ w) (n : Nat) :
    ∑ k ∈ Finset.range n, g k * 2 ^ (w * k) < 2 ^ (w * n) := by
  induction n with
  | zero => simp
  | succ n ih =>
    have hlast : (g n + 1) * 2 ^ (w * n) ≤ 2 ^ w * 2 ^ (w * n) := Nat.mul_le_mul_right _ (hg n)
    rw [Finset.sum_range_succ, Nat.mul_succ, Nat.pow_add, Nat.mul_comm (2 ^ (w * n))]
    rw [Nat.add_mul] at hlast
    omega

/-- What is added in whole multiples above a slice does not reach it. -/
theorem slice_add_mul_two_pow {lo w m : Nat} (h : lo + w ≤ m) (a b : Nat) :
    slice (a + b * 2 ^ m) lo w = slice a lo w := by
  obtain ⟨r, rfl⟩ := Nat.exists_eq_add_of_le h
  have hsplit : a + b * 2 ^ (lo + w + r) = a + 2 ^ lo * (2 ^ w * (2 ^ r * b)) := by ring
  rw [slice, slice, hsplit, Nat.add_mul_div_left _ _ (Nat.two_pow_pos lo), Nat.add_mul_mod_self_left]

theorem slice_sum_pieces {w : Nat} {g : Nat → Nat} (hg : ∀ k, g k < 2 ^ w) {n k : Nat} (hk : k < n) :
    slice (∑ j ∈ Finset.range n, g j * 2 ^ (w * j)) (w * k) w = g k := by
  induction n with
  | zero => omega
  | succ n ih =>
    rw [Finset.sum_range_succ]
    rcases Nat.lt_succ_iff_lt_or_eq.mp hk with hlt | rfl
    · have hbelow : w * k + w ≤ w * n := Nat.mul_le_mul_left w hlt
      rw [slice_add_mul_two_pow hbelow, ih hlt]
    · rw [slice, Nat.add_mul_div_right _ _ (Nat.two_pow_pos _), Nat.div_eq_of_lt (sum_pieces_lt hg k),
        Nat.zero_add, Nat.mod_eq_of_lt (hg k)]

/-- The slices of a value, put side by side again, are its low bits. -/
theorem sum_slices (v w n : Nat) :
    ∑ k ∈ Finset.range n, slice v (w * k) w * 2 ^ (w * k) = v % 2 ^ (w * n) := by
  induction n with
  | zero => simp [Nat.mod_one]
  | succ n ih =>
    rw [Finset.sum_range_succ, ih, Nat.mul_succ, Nat.pow_add, Nat.mod_mul, slice, Nat.mul_comm (2 ^ (w * n))]

/-- No lane's bits reach another's (R112). -/
theorem slice_laneCat {split w : Nat} {g : Nat → Nat} (hg : ∀ k, g k < 2 ^ w) {k : Nat} (hk : k < laneCount split) :
    slice (laneCat split w g) (w * k) w = g k := by
  rw [laneCat_eq_sum, slice_sum_pieces hg hk]

theorem testBit_laneCat {split : Nat} (f : Nat → Bool) {k : Nat} (hk : k < laneCount split) :
    (laneCat split 1 fun k => b2n (f k)).testBit k = f k := by
  have hbit : slice (laneCat split 1 fun k => b2n (f k)) (1 * k) 1 = b2n (f k) :=
    slice_laneCat (g := fun k => b2n (f k)) (fun k => by cases f k <;> decide) hk
  rw [Nat.one_mul, slice, Nat.pow_one] at hbit
  rw [Nat.testBit_eq_decide_div_mod_eq, hbit]
  cases f k <;> rfl

/-- The lanes of every layout fill the 120 bits of the accumulator (R112). -/
theorem accWidth_mul_laneCount {split : Nat} (h : split < 3) : accWidth split * laneCount split = 120 := by
  interval_cases split <;> rfl

theorem accWidth_pos (split : Nat) : 0 < accWidth split := by
  unfold accWidth
  split_ifs <;> decide

/-! ### The accumulator -/

theorem slice_nextAcc (c : SliceCfg) (o : OperandSet) (acc casc : Nat) {k : Nat} (hk : k < laneCount c.split) :
    slice (nextAcc c o acc casc) (accWidth c.split * k) (accWidth c.split) =
      ofSigned (accWidth c.split) (laneSum c o acc casc k) :=
  slice_laneCat (fun k => ofSigned_lt _ (laneSum c o acc casc k)) hk

theorem nextAcc_of_not_ce {c : SliceCfg} {o : OperandSet} {acc : Nat} (casc : Nat) (hc : c.split < 3)
    (hacc : acc < 2 ^ 120) (hce : o.ce = false) : nextAcc c o acc casc = acc := by
  have hlane : ∀ k, ofSigned (accWidth c.split) (laneSum c o acc casc k) =
      slice acc (accWidth c.split * k) (accWidth c.split) := by
    intro k
    simp [laneSum, hce, ofSigned_toSigned, slice]
  rw [nextAcc, laneCat_eq_sum]
  simp only [hlane]
  rw [sum_slices, accWidth_mul_laneCount hc, Nat.mod_eq_of_lt hacc]

theorem wrapBits_of_not_ce {c : SliceCfg} {o : OperandSet} (acc casc : Nat) (hce : o.ce = false) :
    wrapBits c o acc casc = 0 := by
  simp [wrapBits, laneCat_eq_sum, hce, b2n]

/-- WRAP(k) is 0 exactly when the lane holds its sum unchanged (R109). -/
theorem toSigned_nextAcc_eq_laneSum_iff {c : SliceCfg} {o : OperandSet} (acc casc : Nat) {k : Nat}
    (hk : k < laneCount c.split) (hce : o.ce = true) :
    toSigned (accWidth c.split) (slice (nextAcc c o acc casc) (accWidth c.split * k) (accWidth c.split)) =
        laneSum c o acc casc k ↔ (wrapBits c o acc casc).testBit k = false := by
  rw [slice_nextAcc c o acc casc hk, toSigned_ofSigned_eq_iff (accWidth_pos c.split), wrapBits, testBit_laneCat _ hk,
    hce, Bool.true_and]

theorem laneProduct_eq_sign_mul (c : SliceCfg) (o : OperandSet) (k : Nat) :
    laneProduct c o k = (if o.neg then -1 else 1) *
      (preAdd c.pre (asInt c.signA (laneWidth c.split) (slice o.a (laneWidth c.split * k) (laneWidth c.split)))
          (asInt c.signA (laneWidth c.split) (slice o.d (laneWidth c.split * k) (laneWidth c.split))) *
        asInt c.signB (laneWidth c.split) (slice o.b (laneWidth c.split * k) (laneWidth c.split))) := by
  unfold laneProduct
  cases o.neg with
  | false => exact (Int.one_mul _).symm
  | true => exact Int.neg_eq_neg_one_mul _

/-! ### Rounding -/

theorem quotient_trunc_floor (n : Nat) (v : Int) :
    quotient 0 n v * ((2 ^ n : Nat) : Int) ≤ v ∧ v < (quotient 0 n v + 1) * ((2 ^ n : Nat) : Int) :=
  have hpos : (0 : Int) < ((2 ^ n : Nat) : Int) := by positivity
  ⟨Int.ediv_mul_le v hpos.ne', Int.lt_ediv_add_one_mul_self v hpos⟩

/-- The magnitude is rounded as R113 says: floor of `m / 2^n + 1/2`. -/
theorem roundHalf_eq_floor (m n : Nat) : roundHalf m n = (2 * m + 2 ^ n) / (2 * 2 ^ n) := by
  cases n with
  | zero => simp only [roundHalf, if_true]; omega
  | succ n =>
    have hdouble : 2 * m + 2 ^ (n + 1) = 2 * (m + 2 ^ n) := by ring
    rw [hdouble, Nat.mul_div_mul_left _ _ two_pos]
    rfl

/-- Rounding a magnitude is off by at most a half: upwards in the middle. -/
theorem roundHalf_error (m n : Nat) :
    roundHalf m n * 2 ^ n * 2 ≤ 2 * m + 2 ^ n ∧ 2 * m < roundHalf m n * 2 ^ n * 2 + 2 ^ n := by
  have hpos : 0 < 2 * 2 ^ n := by positivity
  have hle := Nat.div_mul_le_self (2 * m + 2 ^ n) (2 * 2 ^ n)
  have hlt := Nat.lt_div_mul_add (a := 2 * m + 2 ^ n) hpos
  rw [← roundHalf_eq_floor, show roundHalf m n * (2 * 2 ^ n) = roundHalf m n * 2 ^ n * 2 by ring] at hle hlt
  omega

theorem quotient_away (n : Nat) (v : Int) : quotient 1 n v = v.sign * (roundHalf v.natAbs n : Int) := rfl

theorem quotient_away_eq_floor (n : Nat) (v : Int) :
    quotient 1 n v =
      v.sign * ((2 * (v.natAbs : Int) + ((2 ^ n : Nat) : Int)) / (2 * ((2 ^ n : Nat) : Int))) := by
  rw [quotient_away, roundHalf_eq_floor]
  push_cast
  rfl

theorem quotient_away_error (n : Nat) (v : Int) :
    2 * (v - quotient 1 n v * ((2 ^ n : Nat) : Int)) ≤ ((2 ^ n : Nat) : Int) ∧
      -((2 ^ n : Nat) : Int) ≤ 2 * (v - quotient 1 n v * ((2 ^ n : Nat) : Int)) := by
  obtain ⟨hle, hlt⟩ := roundHalf_error v.natAbs n
  have hscale : quotient 1 n v * ((2 ^ n : Nat) : Int) = v.sign * ((roundHalf v.natAbs n * 2 ^ n : Nat) : Int) := by
    rw [quotient_away, Nat.cast_mul, Int.mul_assoc]
  rw [hscale]
  rcases Int.lt_trichotomy v 0 with hneg | rfl | hpos
  · rw [Int.sign_eq_neg_one_of_neg hneg]; omega
  · rw [Int.sign_zero]; omega
  · rw [Int.sign_eq_one_of_pos hpos]; omega

/-- HALF_EVEN (every RND but 0 and 1): nearer than a half, or at an exact half and even (R113). -/
theorem quotient_even_error (r n : Nat) (v : Int) :
    (2 * (v - quotient (r + 2) n v * ((2 ^ n : Nat) : Int)) < ((2 ^ n : Nat) : Int) ∧
        -((2 ^ n : Nat) : Int) < 2 * (v - quotient (r + 2) n v * ((2 ^ n : Nat) : Int))) ∨
      ((2 * (v - quotient (r + 2) n v * ((2 ^ n : Nat) : Int)) = ((2 ^ n : Nat) : Int) ∨
          2 * (v - quotient (r + 2) n v * ((2 ^ n : Nat) : Int)) = -((2 ^ n : Nat) : Int)) ∧
        quotient (r + 2) n v % 2 = 0) := by
  obtain ⟨hle, hlt⟩ := quotient_trunc_floor n v
  simp only [quotient] at hle hlt ⊢
  have hup : (v / ((2 ^ n : Nat) : Int) + 1) * ((2 ^ n : Nat) : Int) =
      v / ((2 ^ n : Nat) : Int) * ((2 ^ n : Nat) : Int) + ((2 ^ n : Nat) : Int) := by ring
  rw [hup] at hlt
  split_ifs with hbelow habove heven
  · exact .inl (by omega)
  · exact .inl (by rw [hup]; omega)
  · exact .inr ⟨.inl (by omega), heven⟩
  · exact .inr ⟨.inr (by rw [hup]; omega), by omega⟩

theorem quotient_zero_shift (r : Nat) (v : Int) : quotient r 0 v = v := by
  match r with
  | 0 => exact Int.ediv_one v
  | 1 => exact Int.sign_mul_natAbs v
  | r + 2 =>
    have herr := quotient_even_error r 0 v
    rw [Nat.pow_zero, Nat.cast_one, Int.mul_one] at herr
    omega

/-- Neither HALF_AWAY nor HALF_EVEN is ever off by more than a half. -/
theorem quotient_round_error (r n : Nat) (v : Int) :
    2 * (v - quotient (r + 1) n v * ((2 ^ n : Nat) : Int)) ≤ ((2 ^ n : Nat) : Int) ∧
      -((2 ^ n : Nat) : Int) ≤ 2 * (v - quotient (r + 1) n v * ((2 ^ n : Nat) : Int)) := by
  have hneg : -((2 ^ n : Nat) : Int) ≤ ((2 ^ n : Nat) : Int) := neg_le_self (by positivity)
  cases r with
  | zero => exact quotient_away_error n v
  | succ r =>
    rcases quotient_even_error r n v with ⟨hlt, hgt⟩ | ⟨heq | heq, -⟩
    · exact ⟨hlt.le, hgt.le⟩
    · exact ⟨heq.le, hneg.trans heq.ge⟩
    · exact ⟨heq.le.trans hneg, heq.ge⟩

end Sys2Proof.Machine

open Sys2Proof Sys2Proof.Machine

/-- Settles O20: the lanes of the accumulator through their places side by side, the ranges through `asInt_mem_range`, and
the roundings through the error each can make. -/
theorem sliceArithmetic : Obligations.SliceArithmetic := by
  unfold Obligations.SliceArithmetic
  refine ⟨?lane, ?held, ?wrap, fun _ _ _ => rfl, quotient_trunc_floor, quotient_away_eq_floor, ?even, quotient_zero_shift,
    quotient_round_error, fun signed _ q hw => asInt_outLane_sat signed hw q, fun _ _ _ => ⟨rfl, rfl⟩,
    fun c o k _ _ => laneProduct_eq_sign_mul c o k, fun _ _ => ⟨rfl, rfl, rfl, rfl⟩,
    fun pre signed _ a d hw => preAdd_mem_range pre signed hw a d⟩
  case lane => exact fun c o acc casc k _ hk => slice_nextAcc c o acc casc hk
  case held =>
    exact fun c o acc casc hc hacc hce => ⟨nextAcc_of_not_ce casc hc hacc hce, wrapBits_of_not_ce acc casc hce⟩
  case wrap => exact fun c o acc casc k _ hk hce => toSigned_nextAcc_eq_laneSum_iff acc casc hk hce
  case even =>
    intro n v hhalf
    rcases quotient_even_error 0 n v with hnear | ⟨-, heven⟩
    · rw [Nat.zero_add] at hnear
      omega
    · exact heven
end

section
/-! PROOFS. The code of a bank's row (R126, R127): sums of bits, the syndrome, what each finding reads, and how one wrong bit
moves the syndrome and the parity. -/

namespace Sys2Proof.Machine

/-! ### Sums of bits -/

/-- The exclusive-or of those of the low `w` bits of `v` that `p` picks. -/
def xorBits (w v : Nat) (p : Nat → Bool) : Bool := (List.range w).foldl (fun a i => a != (v.testBit i && p i)) false

theorem xorBits_succ (w v : Nat) (p : Nat → Bool) :
    xorBits (w + 1) v p = (xorBits w v p != (v.testBit w && p w)) := by
  simp [xorBits, List.range_succ]

theorem xorBits_xor (w x y : Nat) (p : Nat → Bool) : xorBits w (x ^^^ y) p = (xorBits w x p != xorBits w y p) := by
  induction w with
  | zero => rfl
  | succ w ih =>
    rw [xorBits_succ, xorBits_succ, xorBits_succ, ih, Nat.testBit_xor]
    cases x.testBit w <;> cases y.testBit w <;> cases p w <;> simp

theorem xorBits_two_pow (w i : Nat) (p : Nat → Bool) : xorBits w (2 ^ i) p = (decide (i < w) && p i) := by
  induction w with
  | zero => rfl
  | succ w ih =>
    rw [xorBits_succ, ih, Nat.testBit_two_pow]
    rcases Nat.lt_trichotomy i w with h | rfl | h
    · simp [h, h.ne, h.trans (Nat.lt_succ_self w)]
    · simp
    · simp [h.not_gt, h.ne', Nat.not_lt.mpr (Nat.succ_le_of_lt h)]

theorem xorBits_mod (w v : Nat) (p : Nat → Bool) : xorBits w (v % 2 ^ w) p = xorBits w v p := by
  refine List.foldl_ext _ _ _ fun a i hi => ?_
  simp [Nat.testBit_mod_two_pow, List.mem_range.mp hi]

theorem parity_eq_xorBits (w v : Nat) : parity w v = xorBits w v fun _ => true := by
  simp only [parity, xorBits, Bool.and_true]

theorem testBit_hammingBits (v j : Nat) :
    (hammingBits v).testBit j = xorBits 48 v fun i => (codePositions.getD i 0).testBit j := by
  unfold hammingBits xorBits
  rw [← Nat.zero_testBit j, List.foldl_hom (fun x : Nat => x.testBit j)]
  intro x i
  cases v.testBit i <;> simp

theorem parity_xor (w x y : Nat) : parity w (x ^^^ y) = (parity w x != parity w y) := by
  simp only [parity_eq_xorBits, xorBits_xor]

theorem parity_two_pow (w i : Nat) : parity w (2 ^ i) = decide (i < w) := by
  rw [parity_eq_xorBits, xorBits_two_pow, Bool.and_true]

theorem parity_mod (w v : Nat) : parity w (v % 2 ^ w) = parity w v := by
  rw [parity_eq_xorBits, parity_eq_xorBits, xorBits_mod]

theorem parity_succ (w v : Nat) : parity (w + 1) v = (parity w v != v.testBit w) := by
  rw [parity_eq_xorBits, parity_eq_xorBits, xorBits_succ, Bool.and_true]

/-- The parity of two fields side by side. -/
theorem parity_add (m n v : Nat) : parity (m + n) v = (parity m v != parity n (v / 2 ^ m)) := by
  induction n with
  | zero => simp [parity]
  | succ n ih =>
    rw [← Nat.add_assoc, parity_succ, parity_succ, ih, Nat.testBit_div_two_pow, Nat.add_comm n m]
    cases parity m v <;> cases parity n (v / 2 ^ m) <;> simp

theorem hammingBits_xor (x y : Nat) : hammingBits (x ^^^ y) = hammingBits x ^^^ hammingBits y := by
  refine Nat.eq_of_testBit_eq fun j => ?_
  simp [Nat.testBit_xor, testBit_hammingBits, xorBits_xor]

/-- One wrong data bit moves the check bits by its position. -/
theorem hammingBits_two_pow {i : Nat} (hi : i < 48) : hammingBits (2 ^ i) = codePositions.getD i 0 := by
  refine Nat.eq_of_testBit_eq fun j => ?_
  rw [testBit_hammingBits, xorBits_two_pow, decide_eq_true hi, Bool.true_and]

@[simp] theorem hammingBits_zero : hammingBits 0 = 0 := by
  have h := hammingBits_xor 0 0
  rwa [Nat.xor_self, Nat.xor_self] at h

/-! ### Positions -/

/-- The positions of R126, spelt out: 3, 5, 6, 7, 9 to 15, 17 to 31 and 33 to 54. -/
theorem codePositions_eq :
    codePositions = [3, 5, 6, 7] ++ (List.range 7).map (9 + ·) ++ (List.range 15).map (17 + ·) ++
      (List.range 22).map (33 + ·) := by
  decide

theorem codePositions_length : codePositions.length = 48 := by
  rw [codePositions_eq]
  rfl

theorem codePositions_nodup : codePositions.Nodup := List.nodup_range.filter _

theorem isPow2_of_mem_codePositions {k : Nat} (h : k ∈ codePositions) : k < 55 ∧ isPow2 k = false := by
  simp only [codePositions, List.mem_filter, List.mem_range, Bool.and_eq_true, Bool.not_eq_true'] at h
  exact ⟨h.1, h.2.2⟩

theorem codePositions_getD_eq {i : Nat} (hi : i < 48) :
    codePositions.getD i 0 = codePositions[i]'(codePositions_length.symm ▸ hi) :=
  List.getD_eq_getElem _ _ _

theorem codePositions_getD_mem {i : Nat} (hi : i < 48) : codePositions.getD i 0 ∈ codePositions :=
  codePositions_getD_eq hi ▸ List.getElem_mem _

theorem idxOf_codePositions {i : Nat} (hi : i < 48) : codePositions.idxOf (codePositions.getD i 0) = i := by
  rw [codePositions_getD_eq hi]
  exact codePositions_nodup.idxOf_getElem i _

theorem codePositions_getD_lt (i : Nat) : codePositions.getD i 0 < 2 ^ 6 := by
  rcases Nat.lt_or_ge i 48 with hi | hi
  · exact (isPow2_of_mem_codePositions (codePositions_getD_mem hi)).1.trans (by decide)
  · rw [List.getD_eq_default _ _ (codePositions_length.symm ▸ hi)]
    decide

theorem isPow2_iff (k : Nat) : isPow2 k = true ↔ ∃ j, j < 6 ∧ k = 2 ^ j := by
  have hlist : isPow2 k = ((List.range 6).map (2 ^ ·)).contains k := rfl
  simp [hlist, eq_comm (a := k)]

theorem hammingBits_lt (v : Nat) : hammingBits v < 2 ^ 6 := by
  refine Nat.lt_pow_two_of_testBit _ fun j hj => ?_
  have hpos : (fun i => (codePositions.getD i 0).testBit j) = fun _ => false :=
    funext fun i => Nat.testBit_lt_two_pow ((codePositions_getD_lt i).trans_le (Nat.pow_le_pow_right (by decide) hj))
  rw [testBit_hammingBits, hpos]
  simp [xorBits]

/-! ### Check bits (R126) -/

theorem b2n_eq_toNat (b : Bool) : b2n b = b.toNat := by cases b <;> rfl

theorem checkBits_eq (v : Nat) : checkBits v = 2 ^ 6 * b2n (parity 48 v != parity 6 (hammingBits v)) + hammingBits v :=
  Nat.add_comm _ _

theorem checkBits_lt (v : Nat) : checkBits v < 2 ^ 7 := by
  have h := hammingBits_lt v
  have hbit := Bool.toNat_le (parity 48 v != parity 6 (hammingBits v))
  rw [checkBits_eq, b2n_eq_toNat]
  omega

theorem checkBits_mod (v : Nat) : checkBits v % 64 = hammingBits v := by
  have h := hammingBits_lt v
  rw [checkBits_eq]
  omega

theorem testBit_checkBits_of_lt (v : Nat) {j : Nat} (hj : j < 6) : (checkBits v).testBit j = (hammingBits v).testBit j := by
  rw [checkBits_eq, Nat.testBit_two_pow_mul_add _ (hammingBits_lt v), if_pos hj]

theorem testBit_six_checkBits (v : Nat) : (checkBits v).testBit 6 = (parity 48 v != parity 6 (checkBits v)) := by
  have hlow : parity 6 (checkBits v) = parity 6 (hammingBits v) :=
    (parity_mod 6 _).symm.trans (congrArg (parity 6) (checkBits_mod v))
  rw [hlow, checkBits_eq, Nat.testBit_two_pow_mul_add _ (hammingBits_lt v), if_neg (by decide)]
  cases parity 48 v != parity 6 (hammingBits v) <;> rfl

/-! ### The fields of a row (R125) -/

theorem slice_xor (x y lo w : Nat) : slice (x ^^^ y) lo w = slice x lo w ^^^ slice y lo w := by
  simp only [slice, Nat.xor_div_two_pow, Nat.xor_mod_two_pow]

theorem low_xor (w x y : Nat) : low w (x ^^^ y) = low w x ^^^ low w y := Nat.xor_mod_two_pow

theorem slice_two_pow (lo w i : Nat) : slice (2 ^ i) lo w = if lo ≤ i ∧ i < lo + w then 2 ^ (i - lo) else 0 := by
  refine Nat.eq_of_testBit_eq fun j => ?_
  rw [slice, Nat.testBit_mod_two_pow, Nat.testBit_div_two_pow, Nat.testBit_two_pow]
  split_ifs with h
  · rw [Nat.testBit_two_pow, ← Bool.decide_and, decide_eq_decide]
    omega
  · rw [Nat.zero_testBit, ← Bool.decide_and, decide_eq_false_iff_not]
    omega

theorem low_two_pow (w i : Nat) : low w (2 ^ i) = if i < w then 2 ^ i else 0 := by
  simpa [slice, low] using slice_two_pow 0 w i

theorem low_encodeRow {v : Nat} (hv : v < 2 ^ 48) : low 48 (encodeRow v) = v := by
  simp only [low, encodeRow, rowOf]
  omega

theorem slice_check_encodeRow {v : Nat} (hv : v < 2 ^ 48) : slice (encodeRow v) 48 7 = checkBits v := by
  have h := checkBits_lt v
  simp only [slice, encodeRow, rowOf, Nat.mod_eq_of_lt hv]
  omega

theorem slice_valid_encodeRow (v : Nat) : slice (encodeRow v) 55 3 = 7 := by
  simp only [slice, encodeRow, rowOf]
  omega

theorem parity_row (row : Nat) : parity 55 row = (parity 48 (low 48 row) != parity 7 (slice row 48 7)) := by
  rw [parity_add 48 7, low, slice, parity_mod, parity_mod]

/-- Data and check bits together have even parity, which is what c6 is for. -/
theorem parity_encodeRow {v : Nat} (hv : v < 2 ^ 48) : parity 55 (encodeRow v) = false := by
  rw [parity_row, low_encodeRow hv, slice_check_encodeRow hv, parity_succ 6, testBit_six_checkBits]
  cases parity 48 v <;> cases parity 6 (checkBits v) <;> rfl

/-! ### The syndrome (R127) -/

/-- The syndrome of a row. -/
def rowSyndrome (row : Nat) : Nat := hammingBits (low 48 row) ^^^ slice row 48 6

/-- The valid copies of a row disagree. -/
def rowSplit (row : Nat) : Bool := slice row 55 3 != 0 && slice row 55 3 != 7

theorem slice_check_mod (row : Nat) : slice row 48 7 % 64 = slice row 48 6 :=
  Nat.mod_mod_of_dvd _ (by decide)

theorem rowSyndrome_eq_checkBits (row : Nat) : rowSyndrome row = checkBits (low 48 row) % 64 ^^^ slice row 48 6 := by
  rw [rowSyndrome, checkBits_mod]

theorem rowSyndrome_xor (x y : Nat) : rowSyndrome (x ^^^ y) = rowSyndrome x ^^^ rowSyndrome y := by
  simp only [rowSyndrome, low_xor, slice_xor, hammingBits_xor]
  ac_rfl

theorem rowSyndrome_encodeRow {v : Nat} (hv : v < 2 ^ 48) : rowSyndrome (encodeRow v) = 0 := by
  rw [rowSyndrome, low_encodeRow hv, ← slice_check_mod, slice_check_encodeRow hv, checkBits_mod, Nat.xor_self]

theorem rowSyndrome_two_pow_data {i : Nat} (hi : i < 48) : rowSyndrome (2 ^ i) = codePositions.getD i 0 := by
  rw [rowSyndrome, low_two_pow, if_pos hi, hammingBits_two_pow hi, slice_two_pow, if_neg (by omega), Nat.xor_zero]

theorem rowSyndrome_two_pow_check {i : Nat} (hi : 48 ≤ i) (h : i < 54) : rowSyndrome (2 ^ i) = 2 ^ (i - 48) := by
  rw [rowSyndrome, low_two_pow, if_neg (by omega), hammingBits_zero, slice_two_pow, if_pos ⟨hi, h⟩, Nat.zero_xor]

/-- Neither c6 nor a valid copy enters the syndrome. -/
theorem rowSyndrome_two_pow_of_ge {i : Nat} (hi : 54 ≤ i) : rowSyndrome (2 ^ i) = 0 := by
  rw [rowSyndrome, low_two_pow, if_neg (by omega), hammingBits_zero, slice_two_pow, if_neg (by omega), Nat.xor_zero]

/-! ### What a read finds (R127) -/

theorem rowVote_eq (row : Nat) :
    rowVote row = decide (2 ≤ b2n (row.testBit 55) + b2n (row.testBit 56) + b2n (row.testBit 57)) := by
  simp only [b2n_eq_toNat, Nat.toNat_testBit, rowVote, slice]
  congr 2
  omega

section

variable {row : Nat}

theorem readRow_unwritten (hvote : rowVote row = false) : readRow row = ⟨0, true, false, false, rowSplit row⟩ := by
  rw [readRow, hvote]
  rfl

theorem readRow_written (hvote : rowVote row = true) :
    readRow row =
      if !parity 55 row && rowSyndrome row == 0 then ⟨low 48 row, false, false, false, rowSplit row⟩
      else if parity 55 row && (rowSyndrome row == 0 || isPow2 (rowSyndrome row)) then
        ⟨low 48 row, false, true, false, rowSplit row⟩
      else if parity 55 row && codePositions.contains (rowSyndrome row) then
        ⟨low 48 row ^^^ 2 ^ codePositions.idxOf (rowSyndrome row), false, true, false, rowSplit row⟩
      else ⟨0, false, false, true, rowSplit row⟩ := by
  simp only [readRow, hvote, Bool.not_true, Bool.false_eq_true, if_false, slice_check_mod]
  rfl

variable (hvote : rowVote row = true)
include hvote

theorem readRow_of_no_error (he : parity 55 row = false) (hsyn : rowSyndrome row = 0) :
    readRow row = ⟨low 48 row, false, false, false, rowSplit row⟩ := by
  simp [readRow_written hvote, he, hsyn]

theorem readRow_of_check_error (he : parity 55 row = true)
    (hsyn : rowSyndrome row = 0 ∨ ∃ j, j < 6 ∧ rowSyndrome row = 2 ^ j) :
    readRow row = ⟨low 48 row, false, true, false, rowSplit row⟩ := by
  rw [← isPow2_iff] at hsyn
  simp [readRow_written hvote, he, hsyn]

theorem readRow_of_data_error (he : parity 55 row = true) {i : Nat} (hi : i < 48)
    (hsyn : rowSyndrome row = codePositions.getD i 0) :
    readRow row = ⟨low 48 row ^^^ 2 ^ i, false, true, false, rowSplit row⟩ := by
  have hmem := codePositions_getD_mem hi
  have hpow := (isPow2_of_mem_codePositions hmem).2
  have hzero : codePositions.getD i 0 ≠ 0 := fun h => absurd (h ▸ hmem) (by decide)
  rw [readRow_written hvote, he, hsyn, idxOf_codePositions hi, List.contains_iff_mem.mpr hmem, hpow,
    beq_eq_false_iff_ne.mpr hzero]
  rfl

theorem readRow_of_even_uncorrectable (he : parity 55 row = false) (hsyn : rowSyndrome row ≠ 0) :
    readRow row = ⟨0, false, false, true, rowSplit row⟩ := by
  simp [readRow_written hvote, he, hsyn]

/-- A syndrome above the last position names no bit. -/
theorem readRow_of_odd_uncorrectable (he : parity 55 row = true) (hsyn : 55 ≤ rowSyndrome row) (hlt : rowSyndrome row < 64) :
    readRow row = ⟨0, false, false, true, rowSplit row⟩ := by
  have hmem : rowSyndrome row ∉ codePositions := fun h => by
    have := (isPow2_of_mem_codePositions h).1
    omega
  have hpow : ¬isPow2 (rowSyndrome row) = true := by
    rw [isPow2_iff]
    rintro ⟨j, hj, h⟩
    interval_cases j <;> omega
  have hzero : rowSyndrome row ≠ 0 := by omega
  simp [readRow_written hvote, he, hzero, hpow, hmem]

end

theorem rowSyndrome_lt (row : Nat) : rowSyndrome row < 2 ^ 6 :=
  Nat.xor_lt_two_pow (hammingBits_lt _) (Nat.mod_lt _ (by decide))

/-! ### A written row, and one wrong bit of it -/

theorem rowVote_of_slice {row v : Nat} (h : slice row 55 3 = v) : rowVote row = decide (2 ≤ v % 2 + v / 2 % 2 + v / 4 % 2) := by
  rw [rowVote, h]

theorem readRow_encodeRow {v : Nat} (hv : v < 2 ^ 48) : readRow (encodeRow v) = ⟨v, false, false, false, false⟩ := by
  have hvalid := slice_valid_encodeRow v
  rw [readRow_of_no_error (rowVote_of_slice hvalid) (parity_encodeRow hv) (rowSyndrome_encodeRow hv), low_encodeRow hv,
    rowSplit, hvalid]
  rfl

section

variable {v i : Nat} (hv : v < 2 ^ 48)
include hv

theorem rowSyndrome_encodeRow_flip : rowSyndrome (encodeRow v ^^^ 2 ^ i) = rowSyndrome (2 ^ i) := by
  rw [rowSyndrome_xor, rowSyndrome_encodeRow hv, Nat.zero_xor]

theorem parity_encodeRow_flip : parity 55 (encodeRow v ^^^ 2 ^ i) = decide (i < 55) := by
  rw [parity_xor, parity_encodeRow hv, parity_two_pow, Bool.false_bne]

theorem low_encodeRow_flip : low 48 (encodeRow v ^^^ 2 ^ i) = v ^^^ (if i < 48 then 2 ^ i else 0) := by
  rw [low_xor, low_encodeRow hv, low_two_pow]

/-- Any one wrong data or check bit is corrected. -/
theorem readRow_encodeRow_flip_code (hi : i < 55) : readRow (encodeRow v ^^^ 2 ^ i) = ⟨v, false, true, false, false⟩ := by
  have hvalid : slice (encodeRow v ^^^ 2 ^ i) 55 3 = 7 := by
    rw [slice_xor, slice_valid_encodeRow, slice_two_pow, if_neg (by omega), Nat.xor_zero]
  have hvote : rowVote (encodeRow v ^^^ 2 ^ i) = true := rowVote_of_slice hvalid
  have hsplit : rowSplit (encodeRow v ^^^ 2 ^ i) = false := by
    rw [rowSplit, hvalid]
    rfl
  have he : parity 55 (encodeRow v ^^^ 2 ^ i) = true := by rw [parity_encodeRow_flip hv, decide_eq_true hi]
  have hsyn := rowSyndrome_encodeRow_flip (i := i) hv
  have hlow := low_encodeRow_flip (i := i) hv
  rcases Nat.lt_or_ge i 48 with hdata | hcheck
  · rw [rowSyndrome_two_pow_data hdata] at hsyn
    rw [readRow_of_data_error hvote he hdata hsyn, hsplit, hlow, if_pos hdata, Nat.xor_xor_cancel_right]
  · have hfound : rowSyndrome (encodeRow v ^^^ 2 ^ i) = 0 ∨ ∃ j, j < 6 ∧ rowSyndrome (encodeRow v ^^^ 2 ^ i) = 2 ^ j := by
      rw [hsyn]
      rcases Nat.lt_or_ge i 54 with h | h
      · exact .inr ⟨i - 48, by omega, rowSyndrome_two_pow_check hcheck h⟩
      · exact .inl (rowSyndrome_two_pow_of_ge h)
    rw [readRow_of_check_error hvote he hfound, hsplit, hlow, if_neg (by omega), Nat.xor_zero]

/-- Any one wrong valid copy is outvoted, and the row marked for a write-back. -/
theorem readRow_encodeRow_flip_valid (hi : 55 ≤ i) (h : i < 58) :
    readRow (encodeRow v ^^^ 2 ^ i) = ⟨v, false, false, false, true⟩ := by
  have hvalid : slice (encodeRow v ^^^ 2 ^ i) 55 3 = 7 ^^^ 2 ^ (i - 55) := by
    rw [slice_xor, slice_valid_encodeRow, slice_two_pow, if_pos ⟨hi, h⟩]
  have hvote : rowVote (encodeRow v ^^^ 2 ^ i) = true := by
    rw [rowVote_of_slice hvalid]
    interval_cases i <;> rfl
  have hsplit : rowSplit (encodeRow v ^^^ 2 ^ i) = true := by
    rw [rowSplit, hvalid]
    interval_cases i <;> rfl
  have he : parity 55 (encodeRow v ^^^ 2 ^ i) = false := by
    rw [parity_encodeRow_flip hv, decide_eq_false (by omega)]
  have hsyn : rowSyndrome (encodeRow v ^^^ 2 ^ i) = 0 := by
    rw [rowSyndrome_encodeRow_flip hv, rowSyndrome_two_pow_of_ge (by omega)]
  rw [readRow_of_no_error hvote he hsyn, hsplit, low_encodeRow_flip hv, if_neg (by omega), Nat.xor_zero]

end

end Sys2Proof.Machine

open Sys2Proof Sys2Proof.Machine

/-- Settles O10: the reading that each finding gives, and the linearity of syndrome and parity, so that one wrong bit shows its
own syndrome. -/
theorem bankRowCorrectsOneBit : Obligations.BankRowCorrectsOneBit := by
  unfold Obligations.BankRowCorrectsOneBit
  refine ⟨rowVote_eq, ?unwritten, ?written, fun _ _ hv hi => readRow_encodeRow_flip_code hv hi,
    fun _ _ hv hi h => readRow_encodeRow_flip_valid hv hi h⟩
  case unwritten =>
    intro row hvote
    rw [readRow_unwritten hvote]
    exact ⟨rfl, rfl, rfl, rfl⟩
  case written =>
    intro row syn e hvote hsyn hpar
    rw [hsyn, hpar, ← rowSyndrome_eq_checkBits]
    refine ⟨?zero, ?none, ?check, ?data, ?odd, ?even⟩
    case zero =>
      rw [readRow_written hvote]
      split_ifs <;> rfl
    case none =>
      intro he hsyn
      rw [readRow_of_no_error hvote he hsyn]
      exact ⟨rfl, rfl, rfl⟩
    case check =>
      intro he hsyn
      rw [readRow_of_check_error hvote he hsyn]
      exact ⟨rfl, rfl, rfl⟩
    case data =>
      intro i he hi hsyn
      rw [readRow_of_data_error hvote he hi hsyn]
      exact ⟨rfl, rfl, rfl⟩
    case odd =>
      intro he hsyn
      rw [readRow_of_odd_uncorrectable hvote he hsyn (rowSyndrome_lt row)]
      exact ⟨rfl, rfl, rfl⟩
    case even =>
      intro he hsyn
      rw [readRow_of_even_uncorrectable hvote he hsyn]
      exact ⟨rfl, rfl, rfl⟩

/-- Settles O9: each check bit as a sum of bits, and a stored row as one without syndrome and of even parity. -/
theorem bankRowReadsBack : Obligations.BankRowReadsBack := by
  unfold Obligations.BankRowReadsBack
  refine ⟨?check, codePositions_eq, ?back⟩
  case check =>
    refine fun v _ => ⟨checkBits_lt v, fun j hj => ?_, testBit_six_checkBits v⟩
    rw [testBit_checkBits_of_lt v hj, testBit_hammingBits, xorBits]
  case back =>
    exact fun v hv => ⟨low_encodeRow hv, slice_check_encodeRow hv, slice_valid_encodeRow v, readRow_encodeRow hv⟩
end

section
/-! PROOFS. The power states of a bank (R147 to R150): what a request that is accepted or refused does, what blanking leaves of
a row, and that the operations which a blanked bank has held leave its power state alone. -/

namespace Sys2Proof.Machine

/-! ### Blanked rows (R129) -/

/-- What holds of every entry of a key, and of the default, holds of what is read. -/
theorem Sparse.get_of_forall {κ : Type} [DecidableEq κ] {d : κ → Nat} {P : Nat → Prop} {k : κ} (hd : P (d k)) :
    ∀ {l : List (κ × Nat)}, (∀ e ∈ l, e.1 = k → P e.2) → P (Sparse.get d l k)
  | [], _ => hd
  | a :: l, h => by
    simp only [Sparse.get]
    split
    case isTrue hk => exact h a (by simp) hk
    case isFalse => exact Sparse.get_of_forall hd fun e he => h e (by simp [he])

/-- Entries of other keys, changed or dropped, do not change what is read; entries of `k` itself are kept where none is 0. -/
theorem Sparse.get_filter_map_other {κ : Type} [DecidableEq κ] {d : κ → Nat} {k : κ} {p : κ → Bool} (g : Nat → Nat)
    (hp : p k = false) {l : List (κ × Nat)} (h : ∀ e ∈ l, e.2 ≠ 0) :
    Sparse.get d ((l.map fun e => if p e.1 then (e.1, g e.2) else e).filter fun e => e.2 != 0) k = Sparse.get d l k := by
  induction l with
  | nil => rfl
  | cons a l ih =>
    obtain ⟨k', v⟩ := a
    have hv : v ≠ 0 := h (k', v) (by simp)
    have ih := ih fun e he => h e (by simp [he])
    by_cases hk : k' = k
    · subst hk
      simp [Sparse.get, hp, hv]
    · rw [List.map_cons, List.filter_cons]
      split_ifs <;> simpa [Sparse.get, hk] using ih

theorem ne_zero_of_zeroWf {l : List (Nat × Nat)} (h : zeroWf l = true) : ∀ e ∈ l, e.2 ≠ 0 := by
  simp only [zeroWf, Sparse.wf, Bool.and_eq_true, List.all_eq_true, decide_eq_true_eq] at h
  exact h.2

/-- Rows `lo` to `hi - 1` of a bank, by their keys. -/
def keysIn (d b lo hi k : Nat) : Bool := decide (rowKey d b 0 + lo ≤ k) && decide (k < rowKey d b 0 + hi)

theorem keysIn_iff (d b lo hi k : Nat) : keysIn d b lo hi k = true ↔ rowKey d b 0 + lo ≤ k ∧ k < rowKey d b 0 + hi := by
  rw [keysIn, Bool.and_eq_true, decide_eq_true_iff, decide_eq_true_iff]

theorem rowKey_bounds (d b row : Nat) : rowKey d b 0 ≤ rowKey d b row ∧ rowKey d b row < rowKey d b 0 + 16384 := by
  simp only [rowKey]
  omega

theorem keysIn_rowKey (d b row : Nat) : keysIn d b 0 16384 (rowKey d b row) = true := by
  rw [keysIn_iff, Nat.add_zero]
  exact rowKey_bounds d b row

/-- The rows of one bank are no rows of another. -/
theorem keysIn_rowKey_other {d b d' b' : Nat} (hb : b < 512) (hb' : b' < 512) (hne : (d', b') ≠ (d, b)) (row : Nat) :
    keysIn d b 0 16384 (rowKey d' b' row) = false := by
  rw [ne_eq, Prod.mk.injEq] at hne
  rw [← Bool.not_eq_true, keysIn_iff]
  simp only [rowKey]
  omega

theorem State.banks_blankRows (s : State) (d b lo hi : Nat) :
    (s.blankRows d b lo hi).banks =
      (s.banks.map fun e => if keysIn d b lo hi e.1 then (e.1, low 55 e.2) else e).filter fun e => e.2 != 0 := rfl

theorem State.banks_loseBank (s : State) (d b : Nat) :
    (s.loseBank d b).banks =
      Sparse.clear (fun k => decide (rowKey d b 0 ≤ k) && decide (k < rowKey d b 0 + 16384)) s.banks := rfl

theorem rowVote_of_lt {v : Nat} (h : v < 2 ^ 55) : rowVote v = false := by
  rw [rowVote, slice, Nat.div_eq_of_lt h]
  rfl

/-- Every word of a blanked bank is unwritten, in whatever form its rows are stored. -/
theorem State.rowVote_blankBank (s : State) (d b row : Nat) : rowVote ((s.blankBank d b).row d b row) = false := by
  rw [State.row, State.blankBank, State.banks_blankRows]
  refine rowVote_of_lt (Sparse.get_of_forall (P := (· < 2 ^ 55)) (by decide) fun e he hk => ?_)
  obtain ⟨e', -, rfl⟩ := List.mem_map.mp (List.mem_filter.mp he).1
  have hkey : e'.1 = rowKey d b row := by
    rw [← hk]
    split <;> rfl
  rw [hkey, if_pos (keysIn_rowKey d b row)]
  exact Nat.mod_lt _ (Nat.two_pow_pos 55)

theorem State.row_blankBank_other {s : State} (hwf : zeroWf s.banks = true) {d b d' b' : Nat} (hb : b < 512) (hb' : b' < 512)
    (hne : (d', b') ≠ (d, b)) (row : Nat) : (s.blankBank d b).row d' b' row = s.row d' b' row := by
  rw [State.row, State.blankBank, State.banks_blankRows]
  exact Sparse.get_filter_map_other (low 55) (keysIn_rowKey_other hb hb' hne row) (ne_zero_of_zeroWf hwf)

/-- A bank that has lost its content reads 0 in every bit. -/
theorem State.row_loseBank (s : State) (d b row : Nat) : (s.loseBank d b).row d b row = 0 := by
  rw [State.row, State.banks_loseBank]
  refine Sparse.get_clear_in _ _ ?_
  rw [Bool.and_eq_true, decide_eq_true_iff, decide_eq_true_iff]
  exact rowKey_bounds d b row

theorem State.storeRow_regs (s : State) (d b row v : Nat) : (s.storeRow d b row v).regs = s.regs := by
  rw [State.storeRow, State.cancelWriteBacks, State.setRow]

/-! ### What leaves the power states alone -/

/-- Every area but the registers of the banks. -/
def allButBank : Nat := 2 ^ 128 - 1 - 2 ^ Area.bank.ctorIdx

/-- PWR and BUSY of every bank read alike. -/
def SamePower (s t : State) : Prop :=
  ∀ f, f = BankF.STAT_PWR ∨ f = BankF.STAT_BUSY → ∀ u j, t.rd (.bank f) u j = s.rd (.bank f) u j

section

variable {s t t' : State}

theorem SamePower.refl : SamePower s s := fun _ _ _ _ => rfl

theorem SamePower.trans (h : SamePower s t) (k : SamePower t t') : SamePower s t' :=
  fun f hf u j => (k f hf u j).trans (h f hf u j)

/-- What writes no register of the banks keeps their power states. -/
theorem SamePower.keeps (h : SamePower s t) (k : Keeps allButBank t t') : SamePower s t' :=
  h.trans fun f _ u j => k.same .bank (by decide) f u j

theorem SamePower.regs (h : SamePower s t) (hregs : t'.regs = t.regs) : SamePower s t' :=
  h.trans fun _ _ _ _ => State.rd_congr hregs _ _ _

theorem SamePower.wr (h : SamePower s t) {f : Fld} (hf : f ≠ .bank .STAT_PWR ∧ f ≠ .bank .STAT_BUSY) (u j v : Nat) :
    SamePower s (t.wr f u j v) :=
  h.trans fun g hg u' j' => t.rd_wr_field (by rcases hg with rfl | rfl; exacts [hf.1.symm, hf.2.symm]) u j v u' j'

theorem SamePower.ite {c : Prop} [Decidable c] (h : SamePower s t) (k : SamePower s t') :
    SamePower s (if c then t else t') := by
  split <;> assumption

theorem SamePower.each {α : Type} {g : α → State → State} (k : ∀ a s, SamePower s (g a s)) (h : SamePower s t) (l : List α) :
    SamePower s (each l g t) := by
  induction l generalizing t with
  | nil => exact h
  | cons a l ih => exact ih (h.trans (k a t))

end

section

variable (s : State)

theorem State.startWriteBlank_samePower (q : Nat × Nat) : SamePower s (s.startWriteBlank q) :=
  (SamePower.refl.regs rfl).wr (by decide) _ _ _

theorem State.dropAllLocks_samePower : SamePower s s.dropAllLocks := by
  rintro f (rfl | rfl) u j <;> exact (s.rd_resetKeys _ _ u j).trans (if_neg (by simp [isLockField]))

/-- Of the steps of R64 only the blanking of write sides and the release of locks write registers of the banks. -/
theorem State.voidWork_samePower : SamePower s s.voidWork := by
  unfold State.voidWork
  dsimp only
  refine .keeps ?_
    (Keeps.resetKeys (fun k hk => by rw [of_decide_eq_true hk]; rfl) (State.latchesVoid_keeps .refl rfl))
  refine .trans (.each (fun q s => s.startWriteBlank_samePower q) ?_ _) (State.dropAllLocks_samePower _)
  refine .keeps ?_ (State.queuesVoid_keeps (State.takeHeld_keeps (State.caravanVoid_keeps (State.emptyWriteSides_keeps
    (State.flushCaches_keeps (State.ergVoid_keeps .refl rfl) rfl) rfl) rfl) rfl) rfl)
  exact .regs .refl rfl

theorem State.voidSequence_samePower (cause unit place : Nat) : SamePower s (s.voidSequence cause unit place) := by
  have hbefore : SamePower s (s.recordVoid cause unit place).haltVoid :=
    SamePower.refl.keeps (State.haltVoid_keeps (State.recordVoid_keeps Keeps.refl rfl) rfl)
  exact (hbefore.trans (State.voidWork_samePower _)).keeps
    (State.raiseCond_keeps (State.tellGroupVoid_keeps Keeps.refl rfl) rfl)

theorem State.voidTick_samePower (cause unit place : Nat) : SamePower s (s.voidTick cause unit place) := by
  have hvoids := s.voidSequence_samePower cause unit place
  have hwr {t : State} (h : SamePower s t) (f : TickF) (v : Nat) : SamePower s (t.wr (.tick f) 0 0 v) :=
    h.wr ⟨Fld.noConfusion, Fld.noConfusion⟩ 0 0 v
  have hself : SamePower s s := .refl
  unfold State.voidTick
  exact .ite hvoids <| .ite (.ite hvoids (hwr (.ite (hwr (hwr (hwr hself _ _) _ _) _ _) hself) _ _))
    (.ite (hwr hself _ _) hself)

theorem State.consumePoison_samePower (place : Nat) : SamePower s (s.consumePoison place) :=
  .ite (s.voidTick_samePower 7 0 place) (.ite (SamePower.refl.wr (by decide) place 0 1) .refl)

theorem State.present_samePower (d b p : Nat) (r : PortResult) : SamePower s (s.present d b p r) := by
  unfold State.present
  dsimp only
  refine .trans ?_ (.ite (State.consumePoison_samePower _ _) .refl)
  refine .trans ?_ (.ite (.wr .refl (by decide) _ _ _) .refl)
  refine .trans ?_ (.ite (.wr .refl (by decide) _ _ _) .refl)
  exact .wr (.wr .refl (by decide) _ _ _) (by decide) _ _ _

theorem State.presentStore_samePower (d b p : Nat) : SamePower s (s.presentStore d b p) :=
  (s.present_samePower d b p _).regs rfl

theorem State.noteUncorrectable_samePower (d b row src : Nat) : SamePower s (s.noteUncorrectable d b row src) := by
  have hcount : SamePower s ((s.inc (.bank .ECC_SUM_UE) (1 + d) 0).wr (.bank .STAT_UE) (1 + d) b 1) :=
    (SamePower.refl.wr (by decide) _ _ _).wr (by decide) _ _ _
  refine .ite hcount (SamePower.keeps ?logged (State.raiseEvent_keeps .refl rfl))
  exact ((((hcount.wr (by decide) _ _ _).wr (by decide) _ _ _).wr (by decide) _ _ _).wr (by decide) _ _ _).wr
    (by decide) _ _ _

theorem State.readPhys_samePower (d b row src : Nat) : SamePower s (s.readPhys d b row src).2 :=
  (SamePower.ite (s.noteUncorrectable_samePower d b row src) .refl).keeps (State.askWriteBack_keeps .refl rfl)

theorem State.modifyRow_samePower (d b row src : Nat) (clear : Bool) (v : Nat) :
    SamePower s (s.modifyRow d b row src clear v).2 := by
  have hread := s.readPhys_samePower d b row src
  unfold State.modifyRow
  dsimp only
  split
  · exact hread
  · exact hread.regs (State.storeRow_regs ..)

theorem State.takeLock_samePower (d b p row : Nat) : SamePower s (s.takeLock d b p row) :=
  .ite ((SamePower.refl.wr (by decide) _ _ _).wr (by decide) _ _ _)
    ((SamePower.refl.wr (by decide) _ _ _).wr (by decide) _ _ _)

theorem State.dropLock_samePower (d b p : Nat) : SamePower s (s.dropLock d b p) :=
  .ite ((SamePower.refl.wr (by decide) _ _ _).wr (by decide) _ _ _)
    ((SamePower.refl.wr (by decide) _ _ _).wr (by decide) _ _ _)

theorem State.portWrite_samePower (o : PortOp) : SamePower s (s.portWrite o) :=
  .trans (.regs .refl (s.storeRow_regs ..)) (State.presentStore_samePower _ _ _ _)

theorem State.portLockRead_samePower (o : PortOp) : SamePower s (s.portLockRead o) :=
  .trans (.trans (s.readPhys_samePower _ _ _ _) (.ite .refl (State.takeLock_samePower _ _ _ _ _)))
    (State.present_samePower _ _ _ _ _)

theorem State.portAction_samePower (o : PortOp) : SamePower s (s.portAction o) := by
  unfold State.portAction
  split
  case h_1 => exact (s.readPhys_samePower _ _ _ _).trans (State.present_samePower _ _ _ _ _)
  case h_2 => exact s.portWrite_samePower o
  case h_3 | h_4 => exact (s.modifyRow_samePower _ _ _ _ _ _).trans (State.present_samePower _ _ _ _ _)
  case h_5 => exact s.portLockRead_samePower o
  case h_6 => exact (s.portWrite_samePower o).trans (State.dropLock_samePower _ _ _ _)
  case h_7 => exact (s.dropLock_samePower _ _ _).trans (State.presentStore_samePower _ _ _ _)
  case h_8 => exact .refl

theorem State.portNow_samePower (o : PortOp) : SamePower s (s.portNow o) := by
  unfold State.portNow
  split
  · exact s.present_samePower _ _ _ _
  · exact s.portAction_samePower o

theorem State.proceedHeld_samePower (d b : Nat) : SamePower s (s.proceedHeld d b) :=
  .each (fun o s => s.portNow_samePower o) (.regs .refl rfl) _

end

theorem State.rd_blankBank (s : State) (d b : Nat) (f : Fld) (u j : Nat) : (s.blankBank d b).rd f u j = s.rd f u j := rfl

/-- The registers do not see the queue of waiting commands. -/
theorem State.rd_pending (s : State) (l : List Instr) (f : Fld) (u j : Nat) :
    State.rd { s with pending := l } f u j = s.rd f u j := rfl

/-! ### Requests (R149, R150) -/

section

variable {s : State} {d b req : Nat} {l2 : Bool}

theorem State.powerRefusal_cases (s : State) (d b req : Nat) (l2 : Bool) :
    s.powerRefusal d b req l2 ≤ 4 ∧
    (s.powerRefusal d b req l2 = 1 → s.tick = 1 ∨ s.tick = 2 ∨ s.tick = 5) ∧
    (s.powerRefusal d b req l2 = 2 → s.rd (.bank .CFG_USED) (1 + d) b = 0 ∨ s.rd (.bank .STAT_FAILED) (1 + d) b = 1) ∧
    (s.powerRefusal d b req l2 = 3 → req = 4 ∧ l2 = false) ∧
    (s.powerRefusal d b req l2 = 4 → powerListed (s.bankPwr d b) req = false ∨ s.rd (.bank .STAT_BUSY) (1 + d) b = 1) ∧
    (s.powerRefusal d b req l2 = 0 → s.tick ≠ 1 ∧ s.tick ≠ 2 ∧ s.tick ≠ 5 ∧ s.rd (.bank .CFG_USED) (1 + d) b ≠ 0 ∧
      s.rd (.bank .STAT_FAILED) (1 + d) b ≠ 1 ∧ (req = 4 → l2 = true) ∧ powerListed (s.bankPwr d b) req = true ∧
      s.rd (.bank .STAT_BUSY) (1 + d) b ≠ 1) := by
  unfold State.powerRefusal
  dsimp only
  split_ifs with hlive hunused hlevel hlisted
  · simpa [State.tickLive, or_assoc] using hlive
  · simpa [State.has_eq] using hunused
  · simpa using hlevel
  · simpa [State.has_eq, or_comm] using hlisted
  · obtain ⟨harmed, hrunning, hhalted⟩ : s.tick ≠ 1 ∧ s.tick ≠ 2 ∧ s.tick ≠ 5 := by
      simpa [State.tickLive, and_assoc] using hlive
    obtain ⟨hused, hfailed⟩ : s.rd (.bank .CFG_USED) (1 + d) b ≠ 0 ∧ s.rd (.bank .STAT_FAILED) (1 + d) b ≠ 1 := by
      simpa [State.has_eq] using hunused
    have hmonitor : req = 4 → l2 = true := by simpa using hlevel
    obtain ⟨hbusy, hlist⟩ : s.rd (.bank .STAT_BUSY) (1 + d) b ≠ 1 ∧ powerListed (s.bankPwr d b) req = true := by
      simpa [State.has_eq] using hlisted
    exact ⟨by decide, nofun, nofun, nofun, nofun,
      fun _ => ⟨harmed, hrunning, hhalted, hused, hfailed, hmonitor, hlist, hbusy⟩⟩

theorem State.powerRequest_refused (h : s.powerRefusal d b req l2 ≠ 0) :
    s.powerRequest d b req l2 = s.wr (.bank .STAT_REFUSE) (1 + d) b (s.powerRefusal d b req l2) := by
  simp only [State.powerRequest, if_pos h]

theorem State.powerRequest_accepted (h : s.powerRefusal d b req l2 = 0) (hreq : req ≠ 6) :
    s.powerRequest d b req l2 =
      ((s.wr (.bank .STAT_REFUSE) (1 + d) b 0).wr (.bank .STAT_BUSY) (1 + d) b 1).wr (.bank .goal) (1 + d) b req := by
  simp [State.powerRequest, h, hreq]

theorem State.powerRequest_blank (h : s.powerRefusal d b 6 l2 = 0) :
    s.powerRequest d b 6 l2 =
      ((((s.wr (.bank .STAT_REFUSE) (1 + d) b 0).wr (.bank .STAT_BUSY) (1 + d) b 1).wr (.bank .goal) (1 + d) b 6).blankBank
        d b).wr (.bank .blanking) (1 + d) b 1 := by
  simp [State.powerRequest, h]

variable (hcore : s.coreUp = true) (hd : d < Config.n) (hb : b < 512)
include hcore hd hb

/-- With the core rails up, a meaning of a bank of the part is its effect. -/
theorem actCore_bank (t : State) : actCore (okDie d && okBank b) s t = .next { t with pending := s.pending } := by
  rw [okDie, okBank, decide_eq_true hd, decide_eq_true hb]
  exact actCore_on hcore t

variable {c : Instr} (hexec : exec c s = actCore (okDie d && okBank b) s (s.powerRequest d b req l2))
include hexec

theorem exec_power_refused (h : s.powerRefusal d b req l2 ≠ 0) :
    exec c s = .next (s.wr (.bank .STAT_REFUSE) (1 + d) b (s.powerRefusal d b req l2)) := by
  rw [hexec, actCore_bank hcore hd hb, State.powerRequest_refused h]
  rfl

theorem powerBegins (h : s.powerRefusal d b req l2 = 0) (hreq : req < 6) : PowerBegins c s d b req := by
  rw [State.powerRequest_accepted h hreq.ne, actCore_bank hcore hd hb] at hexec
  refine ⟨_, hexec, ?busy, ?goal, ?refuse, rfl, ?frame⟩
  case busy =>
    rw [State.rd_pending, State.rd_wr_field _ (by decide), State.rd_wr_same]
    rfl
  case goal =>
    rw [State.rd_pending, State.rd_wr_same]
    exact Nat.mod_eq_of_lt (hreq.trans (by decide))
  case refuse =>
    rw [State.rd_pending, State.rd_wr_field _ (by decide), State.rd_wr_field _ (by decide), State.rd_wr_same]
    exact Nat.zero_mod _
  case frame =>
    intro f u j hk
    simp only [List.mem_cons, Key.mk.injEq, List.not_mem_nil, or_false, not_or] at hk
    obtain ⟨hbusy, hgoal, hrefuse⟩ := hk
    rw [State.rd_pending, State.rd_wr, if_neg hgoal, State.rd_wr, if_neg hbusy, State.rd_wr, if_neg hrefuse]

end

/-! ### Transitions (R147, R149) -/

theorem powerGoal_lt (req : Nat) : powerGoal req < 4 := by
  unfold powerGoal
  split <;> decide

section

variable (s : State) (d b : Nat)

/-- A transition ends in the power state asked for, and with it BUSY. -/
theorem State.powerDone_samePower :
    SamePower ((s.wr (.bank .STAT_PWR) (1 + d) b (powerGoal (s.rd (.bank .goal) (1 + d) b))).wr (.bank .STAT_BUSY) (1 + d) b 0)
      (s.powerDone d b) := by
  unfold State.powerDone
  dsimp only
  have hdrop (t : State) : SamePower t (t.dropBankLocks d b) :=
    (t.dropLock_samePower d b 0).trans (State.dropLock_samePower _ d b 1)
  have hlose (t : State) : SamePower t (t.loseBank d b) := .regs .refl rfl
  have hblank (t : State) : SamePower t (t.blankBank d b) := .regs .refl rfl
  refine .trans ?_ (.ite (.trans (.wr .refl (by decide) _ _ _) (State.proceedHeld_samePower _ d b)) .refl)
  refine .trans ?_ (.ite (hblank _) .refl)
  refine .trans ?_ (.ite (hlose _) .refl)
  exact .trans (.wr .refl (by decide) _ _ _) (.ite .refl (hdrop _))

theorem State.bankPwr_powerDone : (s.powerDone d b).bankPwr d b = powerGoal (s.rd (.bank .goal) (1 + d) b) := by
  rw [State.bankPwr, s.powerDone_samePower d b _ (.inl rfl), State.rd_wr_field _ (by decide), State.rd_wr_same]
  exact Nat.mod_eq_of_lt (powerGoal_lt _)

theorem State.busy_powerDone : (s.powerDone d b).rd (.bank .STAT_BUSY) (1 + d) b = 0 := by
  rw [s.powerDone_samePower d b _ (.inr rfl), State.rd_wr_same]
  exact Nat.zero_mod _

variable {s d b}

theorem State.row_powerDone_off (h : powerGoal (s.rd (.bank .goal) (1 + d) b) = 0) (row : Nat) :
    (s.powerDone d b).row d b row = 0 := by
  have hreq : s.rd (.bank .goal) (1 + d) b ≠ 6 := fun h6 => by simp [h6, powerGoal] at h
  simp only [State.powerDone, h, hreq, if_true, if_false, zero_ne_one, false_and]
  exact State.row_loseBank ..

/-- A bank that comes from OFF or TEST is ON with every word unwritten. -/
theorem State.rowVote_powerDone_on (h : powerGoal (s.rd (.bank .goal) (1 + d) b) = 1) (hreq : s.rd (.bank .goal) (1 + d) b ≠ 6)
    (hfrom : s.bankPwr d b = 0 ∨ s.bankPwr d b = 3) (row : Nat) : rowVote ((s.powerDone d b).row d b row) = false := by
  simp only [State.powerDone, h, hreq, hfrom, if_true, if_false, and_self]
  exact State.rowVote_blankBank ..

end

end Sys2Proof.Machine

open Sys2Proof Sys2Proof.Machine

/-- Settles O7: a request by its refusal code, BLANK by what blanking leaves of the rows, and a completed transition by what
keeps the power states while held operations proceed. -/
theorem bankPowerStates : Obligations.BankPowerStates := by
  unfold Obligations.BankPowerStates
  refine ⟨?on, ?retention, ?off, ?test, ?leaveTest, ?blank, ?offRefused, ?onRefused, ?retentionRefused, ?testRefused,
    ?leaveTestRefused, ?blankRefused, fun s d b req l2 => s.powerRefusal_cases d b req l2, ?done, ?idle⟩
  case on | retention | off | test | leaveTest => exact fun s d b hc hd hb h => powerBegins hc hd hb rfl h (by decide)
  case offRefused | onRefused | retentionRefused | leaveTestRefused | blankRefused =>
    exact fun s d b hc hd hb h => exec_power_refused hc hd hb rfl h
  case testRefused => exact fun s d b l2 hc hd hb h => exec_power_refused hc hd hb rfl h
  case blank =>
    intro s d b hc hd hb hwf h
    have hexec : exec (.bankBlank d b) s = actCore (okDie d && okBank b) s (s.powerRequest d b 6 false) := rfl
    rw [State.powerRequest_blank h, actCore_bank hc hd hb] at hexec
    refine ⟨_, hexec, ?_, fun row _ => State.rowVote_blankBank .., fun d' b' row hne _ hb' _ =>
      State.row_blankBank_other hwf hb hb' hne row⟩
    rw [State.rd_pending, State.rd_wr_field _ (by decide), State.rd_blankBank, State.rd_wr_field _ (by decide),
      State.rd_wr_same]
    rfl
  case done =>
    intro s d b hc hd hb hbusy
    have hexec : exec (.bankTransitionDone d b) s = _ := actCore_bank hc hd hb _
    rw [State.has_eq, hbusy] at hexec
    exact ⟨_, hexec, s.bankPwr_powerDone d b, s.busy_powerDone d b, fun h row _ => State.row_powerDone_off h row,
      fun h hreq hfrom row _ => State.rowVote_powerDone_on h hreq hfrom row⟩
  case idle =>
    intro s d b hc hd hb hbusy
    have hexec : exec (.bankTransitionDone d b) s = _ := actCore_bank hc hd hb _
    rw [hexec, State.has_eq, decide_eq_false hbusy]
    rfl
end

section
/-! PROOFS. Routers and domains (R190 to R194): what the traffic that goes on after a command leaves alone, and what each command
answers, case by case. -/

namespace Sys2Proof.Machine

/-! ### Answers and frames -/

section

variable {s t : State}

/-- With the core rails up, an effect that leaves the queue alone is the answer. -/
theorem actCore_of_pending {ok : Bool} (hcore : s.coreUp = true) (hok : ok = true) (hpending : t.pending = s.pending) :
    actCore ok s t = .next t := by
  rw [hok, actCore_on hcore, ← hpending]

theorem State.rd_wr_of_lt {f : Fld} {v : Nat} (hv : v < 2 ^ f.width) (u j : Nat) : (s.wr f u j v).rd f u j = v := by
  rw [State.rd_wr_same, Nat.mod_eq_of_lt hv]

theorem OnlyScalars.refl (ks : List Key) : OnlyScalars ks s s := ⟨rfl, fun _ _ _ _ => rfl⟩

theorem OnlyScalars.wr {ks : List Key} (h : OnlyScalars ks s t) {f : Fld} {u j : Nat} (hk : (⟨f, u, j⟩ : Key) ∈ ks)
    (v : Nat) : OnlyScalars ks s (t.wr f u j v) := by
  obtain ⟨hrest, hregs⟩ := h
  refine ⟨?_, fun f' u' j' hk' => ?_⟩
  · rw [hrest]
    rfl
  · have hne : ¬(f' = f ∧ u' = u ∧ j' = j) := by
      rintro ⟨rfl, rfl, rfl⟩
      exact hk' hk
    rw [State.rd_wr, if_neg hne, hregs f' u' j' hk']

end

/-! ### What traffic leaves alone -/

/-- The registers that packets on their way write: flit, discard and cache counters, the error logs of the NIs, and the
generations of the TIDs. -/
def trafficRegs : List Fld :=
  [.erg .RTR_STAT_FLITS, .erg .RTR_STAT_DISCARD, .erg .NI_STAT_DISCARD, .erg .NI_ERRLOG_VALID, .erg .NI_ERRLOG_STATUS,
    .erg .NI_ERRLOG_CHANNEL, .erg .NI_ERRLOG_TID, .erg .NI_ERRLOG_PEER, .erg .NI_ERRLOG_TICK, .erg .NI_ERRLOG_TYPE, .erg .gen,
    .bank .RC_PARERR_COUNT, .bank .RC_HITS_COUNT, .bank .RC_MISSES_COUNT]

/-- Every register but those of traffic reads alike. -/
def OnlyTraffic (s t : State) : Prop := ∀ f, f ∉ trafficRegs → ∀ u j, t.rd f u j = s.rd f u j

section

variable {s t t' : State}

theorem OnlyTraffic.refl : OnlyTraffic s s := fun _ _ _ _ => rfl

theorem OnlyTraffic.trans (h : OnlyTraffic s t) (k : OnlyTraffic t t') : OnlyTraffic s t' :=
  fun f hf u j => (k f hf u j).trans (h f hf u j)

theorem OnlyTraffic.regs (h : OnlyTraffic s t) (hregs : t'.regs = t.regs) : OnlyTraffic s t' :=
  h.trans fun _ _ _ _ => State.rd_congr hregs _ _ _

theorem OnlyTraffic.wr (h : OnlyTraffic s t) {f : Fld} (hf : f ∈ trafficRegs) (u j v : Nat) : OnlyTraffic s (t.wr f u j v) :=
  h.trans fun _ hg u' j' => t.rd_wr_field (ne_of_mem_of_not_mem hf hg).symm u j v u' j'

theorem OnlyTraffic.ite {c : Prop} [Decidable c] (h : OnlyTraffic s t) (k : OnlyTraffic s t') :
    OnlyTraffic s (if c then t else t') := by
  split <;> assumption

theorem OnlyTraffic.each {α : Type} {g : α → State → State} (k : ∀ a s, OnlyTraffic s (g a s)) (h : OnlyTraffic s t)
    (l : List α) : OnlyTraffic s (each l g t) := by
  induction l generalizing t with
  | nil => exact h
  | cons a l ih => exact ih (h.trans (k a t))

end

section

variable (s : State)

theorem State.countFlits_onlyTraffic {l : List (Nat × Nat)} {k : Nat} : OnlyTraffic s (s.countFlits l k) :=
  .each (fun _ _ => .wr .refl (by decide) _ _ _) .refl l

theorem State.sendOff_onlyTraffic {p : Pkt} {r : List (Nat × Nat) × Option (Nat × Nat)} : OnlyTraffic s (s.sendOff p r) := by
  have hflits := s.countFlits_onlyTraffic (l := r.1) (k := 1 + p.body.length)
  unfold State.sendOff
  dsimp only
  split
  · exact hflits.wr (by decide) _ _ _
  · exact hflits.regs rfl

theorem State.launch_onlyTraffic {ni e : Nat} {p : Pkt} : OnlyTraffic s (s.launch ni e p) :=
  .ite (.regs .refl rfl) (.ite (.regs .refl rfl) (s.sendOff_onlyTraffic))

theorem State.logNiError_onlyTraffic {t : Txn} {status : Nat} : OnlyTraffic s (s.logNiError t status) := by
  refine .ite .refl (.wr (.wr (.wr (.wr (.wr (.wr (.wr .refl ?_ _ _ _) ?_ _ _ _) ?_ _ _ _) ?_ _ _ _) ?_ _ _ _) ?_ _ _ _) ?_ _ _ _)
  all_goals decide

theorem State.deliverDecided_onlyTraffic : OnlyTraffic s s.deliverDecided := by
  refine .each (fun t s => ?_) (.regs .refl rfl) _
  split
  · exact .trans (.regs .refl rfl) (State.logNiError_onlyTraffic _)
  · exact .refl

theorem State.decide'_onlyTraffic {p : Txn → Bool} {r : Resp} : OnlyTraffic s (s.decide' p r) :=
  .trans (.regs .refl rfl) (State.deliverDecided_onlyTraffic _)

theorem State.answerAtIssue_onlyTraffic {ni ch : Nat} {c : Cmd} {cls peer : Nat} {r : Resp} :
    OnlyTraffic s (s.answerAtIssue ni ch c cls peer r) :=
  .trans (.regs .refl rfl) (State.deliverDecided_onlyTraffic _)

theorem State.send_onlyTraffic {ni ch cls dest entry addr at' count : Nat} {c : Cmd} :
    OnlyTraffic s (s.send ni ch cls dest entry addr at' count c) := by
  unfold State.send
  split
  · exact .regs .refl rfl
  · next tid _ =>
    have hgen (g : Nat) : OnlyTraffic s (s.wr (.erg .gen) (ni / 16) (256 * (ni % 16) + tid) g) := .wr .refl (by decide) _ _ _
    refine .trans ?_ (State.launch_onlyTraffic _)
    exact (hgen _).regs rfl

theorem State.dropBadLines_onlyTraffic {d addr k : Nat} : OnlyTraffic s (s.dropBadLines d addr k) :=
  .wr (.regs .refl rfl) (by decide) _ _ _

theorem State.touchLine_onlyTraffic {d q : Nat} : OnlyTraffic s (s.touchLine d q) := .regs .refl rfl

theorem State.dropWritten_onlyTraffic {d addr k : Nat} : OnlyTraffic s (s.dropWritten d addr k) := .regs .refl rfl

theorem State.issue_onlyTraffic {ni ch : Nat} {c : Cmd} : OnlyTraffic s (s.issue ni ch c) := by
  unfold State.issue
  dsimp only
  refine .ite (.regs .refl rfl) ?_
  split
  case h_1 => exact s.answerAtIssue_onlyTraffic
  case h_2 dest entry addr _ =>
    have hbad (b : Bool) : OnlyTraffic s (if b then s.dropBadLines (ni / 16 - 1) addr (countOf c.count) else s) :=
      .ite (s.dropBadLines_onlyTraffic) .refl
    have hwait (t : State) (l : List Waiting) : OnlyTraffic t { t with niWaits := l } := .regs .refl rfl
    split
    case h_1 =>
      refine .trans (.each (fun _ s => s.touchLine_onlyTraffic) ?hits _) (State.answerAtIssue_onlyTraffic _)
      case hits => exact (hbad _).wr (f := .bank .RC_HITS_COUNT) (by decide) _ _ _
    case h_2 =>
      refine .trans ?written (.ite (hwait _ _) (.trans ?missed (.ite (State.send_onlyTraffic _) (State.send_onlyTraffic _))))
      case written => exact .trans (hbad _) (.ite (State.dropWritten_onlyTraffic _) .refl)
      case missed => exact .ite (.wr (f := .bank .RC_MISSES_COUNT) .refl (by decide) _ _ _) .refl

theorem State.failHeld_onlyTraffic {p : Pkt} : OnlyTraffic s (s.failHeld p) :=
  .ite (.wr .refl (by decide) _ _ _) (s.decide'_onlyTraffic)

theorem State.releaseHeld_onlyTraffic {p : Pkt} : OnlyTraffic s (s.releaseHeld p) :=
  .ite (.regs .refl rfl) (.ite (s.failHeld_onlyTraffic) (s.sendOff_onlyTraffic))

theorem State.releaseHolds_onlyTraffic : OnlyTraffic s s.releaseHolds :=
  .each (fun _ s => s.releaseHeld_onlyTraffic) (.regs .refl rfl) _

theorem State.retryWaits_onlyTraffic : OnlyTraffic s s.retryWaits := by
  have hroom : OnlyTraffic s s.boundaryRoom := .ite s.releaseHolds_onlyTraffic .refl
  unfold State.retryWaits
  dsimp only
  refine .each (fun _ s => s.issue_onlyTraffic) ?_ _
  exact hroom.regs rfl

theorem State.retryWaits_pending : s.retryWaits.pending = s.pending :=
  (State.retryWaits_keeps (m₀ := 267898585112) .refl rfl).same .pending rfl

theorem State.releaseHolds_pending : s.releaseHolds.pending = s.pending :=
  (State.releaseHolds_keeps (m₀ := 250181845008) .refl rfl).same .pending rfl

variable {s}

theorem State.releaseHolds_of_none (hheld : s.netHeld = []) : s.releaseHolds = s := by
  rw [State.releaseHolds, hheld, ← hheld]
  exact congrArg (each · _ s) hheld

theorem State.retryWaits_of_none (hheld : s.netHeld = []) (hwaits : s.niWaits = []) : s.retryWaits = s := by
  have hroom : s.boundaryRoom = s := by
    rw [State.boundaryRoom, State.releaseHolds_of_none hheld, ite_self]
  rw [State.retryWaits, hroom, hwaits, ← hwaits]
  exact congrArg (each · _ s) hwaits

end

/-- Held packets and waiting commands go on without a change of any register but those of traffic. -/
theorem State.goOn_onlyTraffic (s : State) : OnlyTraffic s s.releaseHolds.retryWaits :=
  s.releaseHolds_onlyTraffic.trans (State.retryWaits_onlyTraffic _)

theorem State.goOn_pending (s : State) : s.releaseHolds.retryWaits.pending = s.pending :=
  (State.retryWaits_pending _).trans s.releaseHolds_pending

theorem State.goOn_of_none {s : State} (hheld : s.netHeld = []) (hwaits : s.niWaits = []) : s.releaseHolds.retryWaits = s := by
  rw [State.releaseHolds_of_none hheld, State.retryWaits_of_none hheld hwaits]

/-! ### Routers (R190 to R192) -/

section

variable {s : State} {u r : Nat}

theorem State.rd_takeTopology (s : State) (u r : Nat) :
    (s.takeTopology u r).rd (.erg .topX) u r = s.rd (.erg .RTR_CFG_WRAP_X) u r % 2 ∧
      (s.takeTopology u r).rd (.erg .topY) u r = s.rd (.erg .RTR_CFG_WRAP_Y) u r % 2 ∧
      (s.takeTopology u r).rd (.erg .topMap) u r = s.rd (.erg .RTR_CFG_PMAP) u r % 2 ^ 18 := by
  refine ⟨?_, ?_, ?_⟩
  · rw [State.takeTopology, State.rd_wr_field _ (by decide), State.rd_wr_field _ (by decide), State.rd_wr_same]
    rfl
  · rw [State.takeTopology, State.rd_wr_field _ (by decide), State.rd_wr_same]
    rfl
  · exact State.rd_wr_same _ _ _ _ _

/-- What R191 refuses with code 1 is excluded. -/
theorem not_live_route_of_quiet (hquiet : s.tickLive = false ∨ s.noT u r = true) : ¬(s.tickLive && !s.noT u r) = true := by
  rcases hquiet with h | h <;> simp [h]

variable (hcore : s.coreUp = true) (hni : okNi u r = true)
include hcore hni

theorem exec_routerClose_accepted (hopen : s.rd (.erg .RTR_STAT_STATE) u r = 0) (hquiet : s.tickLive = false ∨ s.noT u r = true)
    (hfew : s.busyRouters < 4) :
    exec (.routerClose u r) s = .next ((s.wr (.erg .RTR_STAT_REFUSE) u r 0).wr (.erg .RTR_STAT_STATE) u r 1) := by
  change execRouterClose u r s = _
  rw [execRouterClose, if_neg (not_not.mpr hopen), if_neg (not_live_route_of_quiet hquiet), if_neg (Nat.not_le.mpr hfew)]
  exact actCore_of_pending hcore hni rfl

theorem exec_routerClose_live (hopen : s.rd (.erg .RTR_STAT_STATE) u r = 0) (hlive : s.tickLive = true)
    (hroutes : s.noT u r = false) : exec (.routerClose u r) s = .next (s.wr (.erg .RTR_STAT_REFUSE) u r 1) := by
  change execRouterClose u r s = _
  rw [execRouterClose, if_neg (not_not.mpr hopen), hlive, hroutes, if_pos (by decide)]
  exact actCore_of_pending hcore hni rfl

theorem exec_routerClose_busy (hopen : s.rd (.erg .RTR_STAT_STATE) u r = 0) (hquiet : s.tickLive = false ∨ s.noT u r = true)
    (hmany : 4 ≤ s.busyRouters) : exec (.routerClose u r) s = .next (s.wr (.erg .RTR_STAT_REFUSE) u r 2) := by
  change execRouterClose u r s = _
  rw [execRouterClose, if_neg (not_not.mpr hopen), if_neg (not_live_route_of_quiet hquiet), if_pos hmany]
  exact actCore_of_pending hcore hni rfl

theorem exec_routerClosed (hclosing : s.rd (.erg .RTR_STAT_STATE) u r = 1) :
    exec (.routerClosed u r) s = .next (s.wr (.erg .RTR_STAT_STATE) u r 2) := by
  change execRouterClosed u r s = _
  rw [execRouterClosed, State.has_eq, if_pos (decide_eq_true hclosing)]
  exact actCore_of_pending hcore hni rfl

theorem exec_routerCloseTimeout (hclosing : s.rd (.erg .RTR_STAT_STATE) u r = 1) :
    exec (.routerCloseTimeout u r) s =
      .next ((s.wr (.erg .RTR_STAT_STATE) u r 0).wr (.erg .RTR_STAT_REFUSE) u r 3).releaseHolds.retryWaits := by
  change execRouterCloseTimeout u r s = _
  rw [execRouterCloseTimeout, State.has_eq, if_pos (decide_eq_true hclosing)]
  exact actCore_of_pending hcore hni (State.goOn_pending _)

theorem exec_routerOpen (hclosed : s.rd (.erg .RTR_STAT_STATE) u r = 2) :
    exec (.routerOpen u r) s = .next ((s.takeTopology u r).wr (.erg .RTR_STAT_STATE) u r 0).releaseHolds.retryWaits := by
  change execRouterOpen u r s = _
  rw [execRouterOpen, State.has_eq, if_pos (decide_eq_true hclosed)]
  exact actCore_of_pending hcore hni (State.goOn_pending _)

theorem exec_routerCfgWrite_notClosed {reg : Nat} (v : Nat) (hreg : reg ≤ 1024)
    (hstate : s.rd (.erg .RTR_STAT_STATE) u r ≠ 2) :
    exec (.routerCfgWrite u r reg v) s = .next (s.wr (.erg .RTR_STAT_REFUSE) u r 4) := by
  change execRouterCfgWrite u r reg v s = _
  rw [execRouterCfgWrite, if_pos hstate, hni, decide_eq_true hreg]
  exact actCore_of_pending hcore rfl rfl

theorem exec_routerCfgWrite_table {reg : Nat} (v : Nat) (hreg : reg < 1024)
    (hclosed : s.rd (.erg .RTR_STAT_STATE) u r = 2) :
    exec (.routerCfgWrite u r (1 + reg) v) s =
      .next ((s.wr (.erg .DT_CODE) u (1024 * r + reg) v).wr (.erg .RTR_STAT_REFUSE) u r 0) := by
  change execRouterCfgWrite u r (1 + reg) v s = _
  have hwithin : 1 + reg ≤ 1024 := by omega
  rw [execRouterCfgWrite, if_neg (not_not.mpr hclosed), if_pos (by omega), Nat.add_sub_cancel_left, hni, decide_eq_true hwithin]
  exact actCore_of_pending hcore rfl rfl

theorem exec_routerCfgWrite_badMap {v : Nat} (hclosed : s.rd (.erg .RTR_STAT_STATE) u r = 2)
    (hmap : isPermutation (slice v 2 18) = false) :
    exec (.routerCfgWrite u r 0 v) s = .next (s.wr (.erg .RTR_STAT_REFUSE) u r 5) := by
  change execRouterCfgWrite u r 0 v s = _
  rw [execRouterCfgWrite, if_neg (not_not.mpr hclosed), if_neg (Nat.lt_irrefl 0), hmap, if_pos (by decide), hni]
  exact actCore_of_pending hcore rfl rfl

theorem exec_routerCfgWrite_noImage {v : Nat} (hclosed : s.rd (.erg .RTR_STAT_STATE) u r = 2)
    (hmap : isPermutation (slice v 2 18) = true) (himage : s.imageActive = false) :
    exec (.routerCfgWrite u r 0 v) s = .next (s.wr (.erg .RTR_STAT_REFUSE) u r 0) := by
  change execRouterCfgWrite u r 0 v s = _
  rw [execRouterCfgWrite, if_neg (not_not.mpr hclosed), if_neg (Nat.lt_irrefl 0), hmap, himage, if_neg (by decide),
    if_pos (by decide), hni]
  exact actCore_of_pending hcore rfl rfl

theorem exec_routerCfgWrite_taken {v : Nat} (hclosed : s.rd (.erg .RTR_STAT_STATE) u r = 2)
    (hmap : isPermutation (slice v 2 18) = true) (himage : s.imageActive = true) :
    exec (.routerCfgWrite u r 0 v) s =
      .next ((((s.wr (.erg .RTR_CFG_WRAP_X) u r v).wr (.erg .RTR_CFG_WRAP_Y) u r (v / 2)).wr (.erg .RTR_CFG_PMAP) u r
        (slice v 2 18)).wr (.erg .RTR_STAT_REFUSE) u r 0) := by
  change execRouterCfgWrite u r 0 v s = _
  rw [execRouterCfgWrite, if_neg (not_not.mpr hclosed), if_neg (Nat.lt_irrefl 0), hmap, himage, if_neg (by decide),
    if_neg (by decide), hni]
  exact actCore_of_pending hcore rfl rfl

end

/-! ### Domains (R193, R194) -/

section

theorem State.domainOf_die (s : State) (d : Nat) : s.domainOf (1 + d) = s.rd (.erg .DOM_STAT_STATE) (1 + d) 0 :=
  if_neg (by omega)

variable (s : State) (u : Nat)

theorem State.rd_setFabState (k : Nat) {v : Nat} (hv : v < 4) : (s.setFabState u k v).rd (.erg .fabState) u k = v := by
  rw [State.setFabState, State.rd_wr_field _ (by decide), State.rd_wr_of_lt hv]

theorem State.setFabState_onlyScalars (k v : Nat) :
    OnlyScalars [⟨.erg .fabState, u, k⟩, ⟨.erg .DOM_STAT_FABOFF, u, 0⟩] s (s.setFabState u k v) :=
  .wr (.wr (.refl _) (by simp) _) (by simp) _

theorem State.rd_closeGate_fabric {k : Nat} (hk : k < 16) : (s.closeGate u k).rd (.erg .fabState) u k = 2 := by
  simp only [State.closeGate, if_pos hk]
  rw [State.retryWaits_onlyTraffic _ _ (by decide), State.rd_setFabState _ _ _ (by decide)]

theorem State.rd_closeGate_die : (s.closeGate u 16).rd (.erg .DOM_STAT_STATE) u 0 = 2 := by
  simp only [State.closeGate, if_neg (Nat.lt_irrefl 16)]
  rw [State.retryWaits_onlyTraffic _ _ (by decide), State.rd_wr_of_lt (by decide)]

theorem State.closeGate_pending (k : Nat) : (s.closeGate u k).pending = s.pending :=
  (State.closeGate_keeps (m₀ := 817654399128) .refl rfl).same .pending rfl

variable {s} {d k : Nat} (hcore : s.coreUp = true) (hd : d < Config.n)
include hcore hd

theorem exec_domainDrain_running (hk : k ≤ 16) (hrunning : s.tick = 2) : exec (.domainDrain d k) s = .next s := by
  change execDomainDrain d k s = _
  rw [execDomainDrain, if_pos hrunning, okDie, decide_eq_true hd, decide_eq_true hk]
  exact actCore_of_pending hcore rfl rfl

theorem exec_domainDrain_fabric (hk : k < 16) (htick : s.tick ≠ 2) (hopen : s.rd (.erg .fabState) (1 + d) k = 0) :
    exec (.domainDrain d k) s = .next (s.setFabState (1 + d) k 1) := by
  change execDomainDrain d k s = _
  rw [execDomainDrain, if_neg htick, State.drain, if_pos hk, State.has_eq, if_pos (decide_eq_true hopen), okDie,
    decide_eq_true hd, decide_eq_true hk.le]
  exact actCore_of_pending hcore rfl rfl

theorem exec_domainDrain_die (htick : s.tick ≠ 2) (hopen : s.domainOf (1 + d) = 0) :
    exec (.domainDrain d 16) s = .next ((s.wr (.erg .DOM_STAT_STATE) (1 + d) 0 1).wr (.erg .drainAt) (1 + d) 0 s.time) := by
  change execDomainDrain d 16 s = _
  rw [execDomainDrain, if_neg htick, State.drain, if_neg (by decide), if_pos hopen, okDie, decide_eq_true hd]
  exact actCore_of_pending hcore rfl rfl

theorem exec_drainGateClose_fabric (hk : k < 16) (hdraining : s.rd (.erg .fabState) (1 + d) k = 1) :
    exec (.drainGateClose d k) s = .next (s.closeGate (1 + d) k) := by
  change execDrainGateClose d k s = _
  simp only [execDrainGateClose, if_pos hk, if_pos hdraining]
  rw [okDie, decide_eq_true hd, decide_eq_true hk.le]
  exact actCore_of_pending hcore rfl (s.closeGate_pending _ _)

theorem exec_drainGateClose_die (hdraining : s.domainOf (1 + d) = 1) :
    exec (.drainGateClose d 16) s = .next (s.closeGate (1 + d) 16) := by
  change execDrainGateClose d 16 s = _
  simp only [execDrainGateClose, if_neg (Nat.lt_irrefl 16), if_pos hdraining]
  rw [okDie, decide_eq_true hd]
  exact actCore_of_pending hcore rfl (s.closeGate_pending _ _)

end

end Sys2Proof.Machine

open Sys2Proof Sys2Proof.Machine

/-- Settles O14: every command by its answer in each case; the traffic that goes on once a router is OPEN again or a gate has
closed writes none of the registers in question. -/
theorem routersAndDomains : Obligations.RoutersAndDomains := by
  unfold Obligations.RoutersAndDomains
  refine ⟨?closes, fun _ _ _ => exec_routerClose_live, fun _ _ _ => exec_routerClose_busy, ?closed, ?timeout, ?opens,
    ?timeoutFrame, ?opensFrame, ?taken, ?table, fun _ _ _ _ hc hni => exec_routerCfgWrite_noImage hc hni,
    fun _ _ _ _ hc hni => exec_routerCfgWrite_badMap hc hni, fun _ _ _ _ v hc hni => exec_routerCfgWrite_notClosed hc hni v,
    fun _ _ _ => exec_domainDrain_running, ?drainFabric, ?drainDie, ?gateFabric, ?gateDie⟩
  case closes =>
    intro s u r hc hni hopen hquiet hfew
    refine ⟨_, exec_routerClose_accepted hc hni hopen hquiet hfew, State.rd_wr_of_lt (by decide) _ _, ?_, ?_⟩
    · rw [State.rd_wr_field _ (by decide), State.rd_wr_of_lt (by decide)]
    · exact .wr (.wr (.refl _) (by simp) _) (by simp) _
  case closed =>
    intro s u r hc hni hclosing
    exact ⟨_, exec_routerClosed hc hni hclosing, State.rd_wr_of_lt (by decide) _ _, .wr (.refl _) (by simp) _⟩
  case timeout =>
    intro s u r hc hni hclosing
    refine ⟨_, exec_routerCloseTimeout hc hni hclosing, ?_, ?_⟩
    · rw [State.goOn_onlyTraffic _ _ (by decide), State.rd_wr_field _ (by decide), State.rd_wr_of_lt (by decide)]
    · rw [State.goOn_onlyTraffic _ _ (by decide), State.rd_wr_of_lt (by decide)]
  case opens =>
    intro s u r hc hni hclosed
    obtain ⟨hx, hy, hmap⟩ := s.rd_takeTopology u r
    refine ⟨_, exec_routerOpen hc hni hclosed, ?_, ?_, ?_, ?_⟩
    · rw [State.goOn_onlyTraffic _ _ (by decide), State.rd_wr_of_lt (by decide)]
    · rw [State.goOn_onlyTraffic _ _ (by decide), State.rd_wr_field _ (by decide), hx]
    · rw [State.goOn_onlyTraffic _ _ (by decide), State.rd_wr_field _ (by decide), hy]
    · rw [State.goOn_onlyTraffic _ _ (by decide), State.rd_wr_field _ (by decide), hmap]
  case timeoutFrame =>
    intro s u r hc hni hclosing hheld hwaits
    have hexec := exec_routerCloseTimeout hc hni hclosing
    rw [State.goOn_of_none (by exact hheld) (by exact hwaits)] at hexec
    refine ⟨_, hexec, ?_, State.rd_wr_of_lt (by decide) _ _, .wr (.wr (.refl _) (by simp) _) (by simp) _⟩
    rw [State.rd_wr_field _ (by decide), State.rd_wr_of_lt (by decide)]
  case opensFrame =>
    intro s u r hc hni hclosed hheld hwaits
    have hexec := exec_routerOpen hc hni hclosed
    rw [State.goOn_of_none (by exact hheld) (by exact hwaits)] at hexec
    refine ⟨_, hexec, State.rd_wr_of_lt (by decide) _ _, .wr ?_ (by simp) _⟩
    exact .wr (.wr (.wr (.refl _) (by simp) _) (by simp) _) (by simp) _
  case taken =>
    intro s u r v hc hni hclosed hmap himage
    have hfits : slice v 2 18 < 2 ^ 18 := Nat.mod_lt _ (Nat.two_pow_pos 18)
    refine ⟨_, exec_routerCfgWrite_taken hc hni hclosed hmap himage, ?_, ?_, ?_, State.rd_wr_of_lt (by decide) _ _⟩
    · rw [State.rd_wr_field _ (by decide), State.rd_wr_field _ (by decide), State.rd_wr_field _ (by decide), State.rd_wr_same]
      rfl
    · rw [State.rd_wr_field _ (by decide), State.rd_wr_field _ (by decide), State.rd_wr_same]
      rfl
    · rw [State.rd_wr_field _ (by decide), State.rd_wr_of_lt hfits]
  case table =>
    intro s u r reg v hc hni hreg hclosed
    refine ⟨_, exec_routerCfgWrite_table hc hni v hreg hclosed, ?_, .wr (.wr (.refl _) (by simp) _) (by simp) _⟩
    rw [State.rd_wr_field _ (by decide), State.rd_wr_same]
    rfl
  case drainFabric =>
    intro s d k hc hd hk htick hopen
    exact ⟨_, exec_domainDrain_fabric hc hd hk htick hopen, s.rd_setFabState _ k (by decide), s.setFabState_onlyScalars _ k 1⟩
  case drainDie =>
    intro s d hc hd htick hopen
    refine ⟨_, exec_domainDrain_die hc hd htick hopen, ?_, .wr (.wr (.refl _) (by simp) _) (by simp) _⟩
    rw [State.domainOf_die, State.rd_wr_field _ (by decide), State.rd_wr_of_lt (by decide)]
  case gateFabric =>
    intro s d k hc hd hk hdraining
    exact ⟨_, exec_drainGateClose_fabric hc hd hk hdraining, s.rd_closeGate_fabric _ hk⟩
  case gateDie =>
    intro s d hc hd hdraining
    exact ⟨_, exec_drainGateClose_die hc hd hdraining, (State.domainOf_die _ d).trans (s.rd_closeGate_die _)⟩
end

section
/-! PROOFS. The end of a load (R380 to R391, R404, R553): what leaves chosen registers alone, a load that fails, step 3,
activation, and the trailer. -/

namespace Sys2Proof.Machine

/-! ### Registers that read alike -/

/-- Every area but one. -/
def allBut (a : Area) : Nat := 2 ^ 128 - 1 - 2 ^ a.ctorIdx

theorem allBut_testBit (a : Area) : (allBut a).testBit a.ctorIdx = false := by cases a <;> rfl

/-- The registers of `l` read alike. -/
def SameOn (l : List Fld) (s t : State) : Prop := ∀ f ∈ l, ∀ u j, t.rd f u j = s.rd f u j

section

variable {l : List Fld} {s t t' : State}

theorem SameOn.refl : SameOn l s s := fun _ _ _ _ => rfl

theorem SameOn.trans (h : SameOn l s t) (k : SameOn l t t') : SameOn l s t' :=
  fun f hf u j => (k f hf u j).trans (h f hf u j)

theorem SameOn.regs (h : SameOn l s t) (hregs : t'.regs = t.regs) : SameOn l s t' :=
  h.trans fun _ _ _ _ => State.rd_congr hregs _ _ _

theorem SameOn.wr (h : SameOn l s t) {f : Fld} (hf : f ∉ l) (u j v : Nat) : SameOn l s (t.wr f u j v) :=
  h.trans fun _ hg u' j' => t.rd_wr_field (ne_of_mem_of_not_mem hg hf) u j v u' j'

theorem SameOn.keeps (h : SameOn l s t) {a : Area} (hl : ∀ f ∈ l, f.area = a) (k : Keeps (allBut a) t t') :
    SameOn l s t' :=
  h.trans fun f hf u j => k.rd f (hl f hf ▸ allBut_testBit _) u j

theorem SameOn.resetKeys (h : SameOn l s t) {p : Key → Bool} (hp : ∀ f ∈ l, ∀ u j, p ⟨f, u, j⟩ = false) :
    SameOn l s (t.resetKeys p) :=
  h.trans fun f hf u j => by rw [State.rd_resetKeys, hp f hf u j, if_neg Bool.false_ne_true]

theorem SameOn.ite {c : Prop} [Decidable c] (h : SameOn l s t) (k : SameOn l s t') : SameOn l s (if c then t else t') := by
  split <;> assumption

theorem SameOn.each {α : Type} {g : α → State → State} (k : ∀ a s, SameOn l s (g a s)) (h : SameOn l s t) (as : List α) :
    SameOn l s (each as g t) := by
  induction as generalizing t with
  | nil => exact h
  | cons a as ih => exact ih (h.trans (k a t))

theorem SameOn.clear (h : SameOn l s t) {fs : List CfgF} (hfs : ∀ f ∈ fs, Fld.cfg f ∉ l) :
    SameOn l s (Sys2Proof.Machine.each fs (fun f s => s.wr (.cfg f) 0 0 0) t) := by
  induction fs generalizing t with
  | nil => exact h
  | cons f fs ih =>
    rw [List.forall_mem_cons] at hfs
    exact ih (h.wr hfs.1 0 0 0) hfs.2

end

/-- What one step sets, and every step keeps, holds after all of them. -/
theorem each_of_mem {α : Type} {g : α → State → State} {P : State → Prop} {a : α} (hset : ∀ s, P (g a s))
    (hkeep : ∀ b s, P s → P (g b s)) {as : List α} (ha : a ∈ as) (s : State) : P (each as g s) := by
  have hrest : ∀ (bs : List α) (t : State), P t → P (each bs g t) := fun bs => by
    induction bs with
    | nil => exact fun _ h => h
    | cons b bs ih => exact fun t h => ih _ (hkeep b t h)
  induction as generalizing s with
  | nil => cases ha
  | cons b as ih =>
    rcases List.mem_cons.mp ha with rfl | ha
    · exact hrest as _ (hset s)
    · exact ih ha _

theorem State.rd_each_clear (fs : List CfgF) (s : State) (f : CfgF) :
    (each fs (fun g s => s.wr (.cfg g) 0 0 0) s).rd (.cfg f) 0 0 = if f ∈ fs then 0 else s.rd (.cfg f) 0 0 := by
  induction fs generalizing s with
  | nil => rfl
  | cons g fs ih =>
    have hread : (s.wr (.cfg g) 0 0 0).rd (.cfg f) 0 0 = if f = g then 0 else s.rd (.cfg f) 0 0 := by
      simp [State.rd_wr]
    have hstep := ih (s.wr (.cfg g) 0 0 0)
    rw [hread] at hstep
    refine hstep.trans ?_
    by_cases hmem : f ∈ fs <;> by_cases hfg : f = g <;> simp [hmem, hfg]

theorem State.loading_iff (s : State) : s.loading = true ↔ s.rd (.cfg .loadKind) ≠ 0 := bne_iff_ne

theorem State.not_loading_iff (s : State) : s.loading = false ↔ s.rd (.cfg .loadKind) = 0 := by
  rw [State.loading, bne_eq_false_iff_eq]

/-! ### What the end of a load leaves alone -/

/-- What a load that fails, and activation up to its count, leave alone: the verdicts and the count of the loads that activated. -/
def verdictRegs : List Fld := [.cfg .STAT_TAG_OK, .cfg .STAT_ECDSA_OK, .cfg .STAT_HSS_OK, .cfg .LOADS_OK]

theorem verdictRegs_area : ∀ f ∈ verdictRegs, f.area = .cfg := by decide

/-- What writes nothing of the CFG block keeps the verdicts and the count. -/
theorem Keeps.verdicts {s t : State} (k : Keeps (allBut .cfg) s t) : SameOn verdictRegs s t :=
  SameOn.refl.keeps verdictRegs_area k

theorem Keeps.rd_cfg {s t : State} (k : Keeps (allBut .cfg) s t) (f : CfgF) (u j : Nat) :
    t.rd (.cfg f) u j = s.rd (.cfg f) u j := k.same .cfg rfl f u j

theorem State.endLoad_sameOn {l : List Fld} (s : State)
    (hl : ∀ f ∈ [CfgF.loadKind, .liveStart, .ldTable, .waits, .rdy, .STAT_STATE] ++ [.ignoring], Fld.cfg f ∉ l) :
    SameOn l s s.endLoad := by
  obtain ⟨hcleared, hignoring⟩ := List.forall_mem_append.mp hl
  rw [List.forall_mem_singleton] at hignoring
  exact ((SameOn.refl.regs rfl).clear hcleared).wr hignoring _ _ _

theorem State.rd_endLoad {f : CfgF} (s : State) (hf : f ∈ [CfgF.loadKind, .liveStart, .ldTable, .waits, .rdy, .STAT_STATE]) :
    s.endLoad.rd (.cfg f) 0 0 = 0 := by
  have hne : f ≠ .ignoring := ne_of_mem_of_not_mem hf (by decide)
  rw [State.endLoad, State.rd_wr_field _ (by simp [hne]), State.rd_each_clear, if_pos hf]

theorem State.clearDie_verdicts (s : State) (d : Nat) : SameOn verdictRegs s (s.clearDie d) := by
  have hclosed : SameOn verdictRegs s (s.closeSides d) := (State.closeSides_keeps .refl rfl).verdicts
  have hreset := hclosed.resetKeys (p := fun k => decide (k.u = 1 + d) && (isDieImageField k.f || isTreeClock k))
    (by simp [verdictRegs, isDieImageField, isTreeClock])
  have hclocks (t : State) : SameOn verdictRegs t
      (each (List.range 16) (fun x s => s.wr (.clk .DOM_ACT) (1 + d) x (s.fallback (1 + d))) t) :=
    .each (fun _ _ => .wr .refl (by decide) _ _ _) .refl _
  have hlanes (t : State) : SameOn verdictRegs t (each (List.range 4) (fun k s => s.dropLane (4 * d + k)) t) :=
    .each (fun _ _ => (State.dropLane_keeps .refl rfl).verdicts) .refl _
  refine ((hreset.trans (hclocks _)).trans (hlanes _)).trans (.trans ?_ (State.dropDieData_keeps .refl rfl).verdicts)
  exact .trans (.wr (State.dropObjects_keeps .refl rfl).verdicts (by decide) _ _ _)
    (State.endCond_keeps .refl rfl).verdicts

theorem State.clearImage_verdicts (s : State) : SameOn verdictRegs s s.clearImage := by
  have hdie (d : Nat) (s : State) : SameOn verdictRegs s ((s.clearDie d).setFab d 0) :=
    (s.clearDie_verdicts d).wr (by decide) _ _ _
  have hstopped : SameOn verdictRegs s (s.tickCleared.wr (.tick .UNIT_PRESENT) 0 0 0) :=
    .wr (State.tickCleared_keeps .refl rfl).verdicts (by decide) _ _ _
  have hrest (t : State) : SameOn verdictRegs t t.clearQueues.clearContexts.defaultRoutes :=
    (State.defaultRoutes_keeps (State.clearContexts_keeps (State.clearQueues_keeps .refl rfl) rfl) rfl).verdicts
  exact .clear (.trans (.each hdie hstopped _) (hrest _)) (by decide)

theorem State.rd_clearImage_active (s : State) : s.clearImage.rd (.cfg .STAT_ACTIVE) = 0 := by
  rw [State.clearImage, State.rd_each_clear, if_pos (by decide)]

/-! ### A load that fails (R388, R406) -/

section

variable {s : State} {c : Nat}

/-- What a load that fails clears first. -/
def State.loadCleared (s : State) : State :=
  if s.rd (.cfg .loadKind) = 1 then s.clearImage
  else if s.dieHere (s.rd (.cfg .loadDie)) then
    (s.clearNiche (s.rd (.cfg .loadDie)) (s.rd (.cfg .loadNiche))).wr (.nch .STAT_STATE) (1 + s.rd (.cfg .loadDie))
      (s.rd (.cfg .loadNiche)) 0
  else s

/-- A load that fails has its image or niche cleared, then the frame noted that it was at. -/
def State.loadStopped (s : State) : State :=
  if s.loadCleared.has (.cfg .STAT_STATE) 0 0 2 then
    s.loadCleared.wr (.cfg .ERRFRAME_INDEX) 0 0 (s.loadCleared.rd (.cfg .ldSeen))
  else s.loadCleared

/-- The state that a load which fails with `c` leaves, but for the emergency. -/
def State.loadFailed (s : State) (c : Nat) : State :=
  (((s.loadStopped.endLoad.wr (.cfg .STAT_STATUS) 0 0 c).wr (.cfg .STAT_PARTIAL) 0 0 (b2n (s.rd (.cfg .loadKind) == 2))).wr
    (.cfg .errFail) 0 0 1).inc (.cfg .LOADS_FAILED) 0 0

variable (hloading : s.loading = true)
include hloading

theorem State.failLoad_eq :
    s.failLoad c = (s.loadFailed c).raiseEvent 0x6200 c ((s.loadFailed c).rd (.cfg .ERRFRAME_INDEX)) :=
  if_neg (s.loading_iff.mp hloading)

theorem State.rd_failLoad (f : CfgF) (u j : Nat) : (s.failLoad c).rd (.cfg f) u j = (s.loadFailed c).rd (.cfg f) u j := by
  rw [State.failLoad_eq hloading]
  exact (State.raiseEvent_keeps .refl rfl).rd_cfg f u j

/-- A load that fails leaves its status, and CFG_ERR_N low. -/
theorem State.fails_failLoad (hc : c < 2 ^ 8) : Fails (s.failLoad c) c := by
  refine ⟨?_, ?_, ?_⟩
  · rw [State.not_loading_iff, State.rd_failLoad hloading, State.loadFailed, State.inc, State.rd_wr_field _ (by decide),
      State.rd_wr_field _ (by decide), State.rd_wr_field _ (by decide), State.rd_wr_field _ (by decide),
      State.rd_endLoad _ (by decide)]
  · rw [State.rd_failLoad hloading, State.loadFailed, State.inc, State.rd_wr_field _ (by decide),
      State.rd_wr_field _ (by decide), State.rd_wr_field _ (by decide), State.rd_wr_of_lt hc]
  · rw [State.rd_failLoad hloading, State.loadFailed, State.inc, State.rd_wr_field _ (by decide),
      State.rd_wr_of_lt (by decide)]

omit hloading in
theorem State.loadStopped_verdicts : SameOn verdictRegs s s.loadStopped := by
  have hcleared : SameOn verdictRegs s s.loadCleared :=
    .ite s.clearImage_verdicts (.ite (.wr (State.clearNiche_keeps .refl rfl).verdicts (by decide) _ _ _) .refl)
  exact .ite (hcleared.wr (by decide) _ _ _) hcleared

theorem State.failLoad_verdicts : SameOn verdictRegs s (s.failLoad c) := by
  rw [State.failLoad_eq hloading]
  refine .trans ?_ (State.raiseEvent_keeps .refl rfl).verdicts
  have hended := State.loadStopped_verdicts.trans (s.loadStopped.endLoad_sameOn (l := verdictRegs) (by decide))
  exact (((hended.wr (by decide) _ _ _).wr (by decide) _ _ _).wr (by decide) _ _ _).wr (by decide) _ _ _

/-- A full load that fails leaves no image. -/
theorem State.rd_failLoad_active (hkind : s.rd (.cfg .loadKind) = 1) : (s.failLoad c).rd (.cfg .STAT_ACTIVE) = 0 := by
  have hcleared : s.loadCleared.rd (.cfg .STAT_ACTIVE) = 0 := by
    rw [State.loadCleared, if_pos hkind, State.rd_clearImage_active]
  have hstopped : SameOn [.cfg .STAT_ACTIVE] s.loadCleared s.loadStopped := .ite (.wr .refl (by decide) _ _ _) .refl
  have hended := hstopped.trans (s.loadStopped.endLoad_sameOn (by decide))
  rw [State.rd_failLoad hloading, State.loadFailed, State.inc, State.rd_wr_field _ (by decide),
    State.rd_wr_field _ (by decide), State.rd_wr_field _ (by decide), State.rd_wr_field _ (by decide),
    hended _ (by simp), hcleared]

end

/-! ### Step 3 (R385, R404) -/

section

variable (s : State)

theorem State.headerStatus_lt : s.headerStatus < 2 ^ 8 := by
  unfold State.headerStatus
  dsimp only
  split_ifs <;> decide

/-- Step 3 passes and leaves the state alone, or its finding has a status, and the load is still there. -/
def StepOutcome (r : Nat × State) : Prop :=
  r = (0, s) ∨ r.1 ≠ 0 ∧ r.1 < 2 ^ 8 ∧ r.2.rd (.cfg .loadKind) = s.rd (.cfg .loadKind)

variable {s} in
theorem StepOutcome.finding {c : Nat} {t : State} (hc : c ≠ 0 ∧ c < 2 ^ 8)
    (hkind : t.rd (.cfg .loadKind) = s.rd (.cfg .loadKind)) : StepOutcome s (c, t) := .inr ⟨hc.1, hc.2, hkind⟩

variable {s} in
theorem StepOutcome.ite {c : Prop} [Decidable c] {q r : Nat × State} (h : StepOutcome s q) (k : StepOutcome s r) :
    StepOutcome s (if c then q else r) := by
  split <;> assumption

theorem State.stepThree_outcome : StepOutcome s s.stepThree := by
  have hrecord (d : Nat) (e : Finding) : (s.record d e).rd (.cfg .loadKind) = s.rd (.cfg .loadKind) :=
    (State.record_keeps .refl rfl).rd_cfg _ _ _
  unfold State.stepThree
  dsimp only
  split
  case isTrue hheader => exact .finding ⟨hheader, s.headerStatus_lt⟩ ((State.noteLevel_keeps .refl rfl).rd_cfg _ _ _)
  case isFalse =>
    refine .ite (.finding (by decide) rfl) (.ite (.finding (by decide) rfl) ?_)
    split
    case h_1 d e _ => exact .finding (by decide) (hrecord d e)
    case h_2 =>
      exact .ite (.finding (by decide) rfl) (.ite (.finding (by decide) rfl) (.ite (.finding (by decide) rfl) (.inl rfl)))

end

/-! ### Activation (R385, R404) -/

section

variable (s : State)

theorem State.loadDone_ends (isPartial : Bool) :
    (s.loadDone isPartial).loading = false ∧ (s.loadDone isPartial).rd (.cfg .STAT_STATUS) = 0 ∧
      (s.loadDone isPartial).rd (.cfg .STAT_PARTIAL) = b2n isPartial ∧ (s.loadDone isPartial).rd (.cfg .donePin) = 1 ∧
      (s.loadDone isPartial).rd (.cfg .waits) = 0 := by
  have hended {f : CfgF} (hf : f ∈ [CfgF.loadKind, .liveStart, .ldTable, .waits, .rdy, .STAT_STATE])
      (hstatus : Fld.cfg f ≠ .cfg .STAT_STATUS) (hpartial : Fld.cfg f ≠ .cfg .STAT_PARTIAL)
      (hdone : Fld.cfg f ≠ .cfg .donePin) (hcount : Fld.cfg f ≠ .cfg .LOADS_OK) :
      (s.loadDone isPartial).rd (.cfg f) = 0 := by
    rw [State.loadDone, State.inc, State.rd_wr_field _ hcount, State.rd_wr_field _ hdone, State.rd_wr_field _ hpartial,
      State.rd_wr_field _ hstatus, State.rd_endLoad _ hf]
  refine ⟨?_, ?_, ?_, ?_, hended (by decide) (by decide) (by decide) (by decide) (by decide)⟩
  · exact (State.not_loading_iff _).mpr (hended (by decide) (by decide) (by decide) (by decide) (by decide))
  · rw [State.loadDone, State.inc, State.rd_wr_field _ (by decide), State.rd_wr_field _ (by decide),
      State.rd_wr_field _ (by decide), State.rd_wr_of_lt (by decide)]
  · rw [State.loadDone, State.inc, State.rd_wr_field _ (by decide), State.rd_wr_field _ (by decide),
      State.rd_wr_of_lt (by cases isPartial <;> decide)]
  · rw [State.loadDone, State.inc, State.rd_wr_field _ (by decide), State.rd_wr_of_lt (by decide)]

/-- The registers of an activation that its end leaves alone. -/
def activeRegs : List Fld := [.cfg .STAT_ACTIVE, .cfg .IMAGE, .fab .STATE_STATE, .nch .STAT_STATE]

theorem State.loadDone_sameOn (isPartial : Bool) : SameOn activeRegs s (s.loadDone isPartial) := by
  have hended := s.endLoad_sameOn (l := activeRegs) (by decide)
  exact (((hended.wr (by decide) _ _ _).wr (by decide) _ _ _).wr (by decide) _ _ _).wr (by decide) _ _ _

theorem State.rd_loadDone_count (isPartial : Bool) :
    (s.loadDone isPartial).rd (.cfg .LOADS_OK) = satInc 24 (s.rd (.cfg .LOADS_OK)) % 2 ^ 24 := by
  have hended := s.endLoad_sameOn (l := [.cfg .LOADS_OK]) (by decide)
  have hbefore := ((hended.wr (f := .cfg .STAT_STATUS) (by decide) 0 0 0).wr (f := .cfg .STAT_PARTIAL) (by decide) 0 0
    (b2n isPartial)).wr (f := .cfg .donePin) (by decide) 0 0 1
  rw [State.loadDone, State.inc, State.rd_wr_same, hbefore _ (by simp)]
  rfl

theorem State.applyImage_verdicts : SameOn verdictRegs s s.applyImage := by
  unfold State.applyImage
  dsimp only
  iterate 6 refine .wr ?_ (by decide) _ _ _
  refine .each (fun _ _ => (State.applyStaged_keeps .refl rfl).verdicts) ?_ _
  refine .each (fun _ _ => (State.activatePort_keeps .refl rfl).verdicts) ?_ _
  refine .regs (.each (fun _ _ => .wr .refl (by decide) _ _ _) ?_ _) rfl
  refine .resetKeys (.each (fun _ _ => .wr .refl (by decide) _ _ _) .refl _) ?_
  simp [verdictRegs, isRouteField, isRouterField, isQueueCfg, isLaneCfg, isChannelCfg]

theorem State.activateDie_verdicts (l d mv : Nat) : SameOn verdictRegs s (s.activateDie l d mv) := by
  unfold State.activateDie
  dsimp only
  iterate 5 refine .wr ?_ (by decide) _ _ _
  iterate 3 refine .each (fun _ _ => .wr .refl (by simp [verdictRegs]) _ _ _) ?_ _
  refine .wr ?_ (by decide) _ _ _
  refine .each (fun _ _ => (State.settleSide_keeps .refl rfl).verdicts) ?_ _
  refine .trans ?_ (State.keepersStart_keeps .refl rfl).verdicts
  exact .each (fun _ _ => (State.bankToOn_keeps .refl rfl).verdicts) (State.activateBank_keeps .refl rfl).verdicts _

/-! What of a die's activation leaves FAB_STATE alone. -/

theorem State.activateBank_fabState (d mv : Nat) : SameOn [.fab .STATE_STATE] s (s.activateBank d mv) := by
  have hmeasured : SameOn [.fab .STATE_STATE] s ((s.wr (.fab .IOSTAT_USED) (1 + d) 0 (b2n (s.ioUsed d))).measureVcco d mv) :=
    .wr (.wr (.wr .refl (by decide) _ _ _) (by decide) _ _ _) (by decide) _ _ _
  have hoff (t : State) : SameOn [.fab .STATE_STATE] t (t.bankOff d) :=
    .wr (.resetKeys .refl (by simp)) (by decide) _ _ _
  have hfab : ∀ f ∈ [Fld.fab .STATE_STATE], f.area = .fab := by decide
  exact .ite ((hmeasured.trans (hoff _)).keeps hfab (State.raiseCond_keeps .refl rfl))
    ((hmeasured.wr (by decide) _ _ _).keeps hfab (State.endCond_keeps .refl rfl))

theorem State.latchInit_fabState (q : Nat × Nat) : SameOn [.fab .STATE_STATE] s (s.latchInit q) := by
  have hdrove (t : State) (v : Nat) : SameOn [.fab .STATE_STATE] t (t.drove q.1 q.2 v) :=
    .ite .refl (.wr .refl (by decide) _ _ _)
  have hlatched (v e : Nat) : SameOn [.fab .STATE_STATE] s
      ((((s.wr (.fab .outV) (1 + q.1) q.2 v).wr (.fab .outOE) (1 + q.1) q.2 e).wr (.fab .samV) (1 + q.1) q.2 v).wr
        (.fab .samOE) (1 + q.1) q.2 e) :=
    .wr (.wr (.wr (.wr .refl (by decide) _ _ _) (by decide) _ _ _) (by decide) _ _ _) (by decide) _ _ _
  exact .ite ((hlatched _ _).trans (hdrove _ _)) (hlatched _ _)

/-- A die that is activated runs. -/
theorem State.rd_activateDie_same (l d mv : Nat) : (s.activateDie l d mv).rd (.fab .STATE_STATE) (1 + d) = 3 :=
  State.rd_wr_of_lt (by decide) _ _

/-- The activation of a die leaves FAB_STATE of every other die alone. -/
theorem State.rd_activateDie_other (l mv : Nat) {d d' : Nat} (hne : d' ≠ d) :
    (s.activateDie l d mv).rd (.fab .STATE_STATE) (1 + d') = s.rd (.fab .STATE_STATE) (1 + d') := by
  have hfab : ∀ f ∈ [Fld.fab .STATE_STATE], f.area = .fab := by decide
  have hkeeps {t t' : State} (k : Keeps (allBut .fab) t t') : SameOn [.fab .STATE_STATE] t t' := .keeps .refl hfab k
  have hset (t : State) (v : Nat) : (t.setFab d v).rd (.fab .STATE_STATE) (1 + d') = t.rd (.fab .STATE_STATE) (1 + d') := by
    rw [State.setFab, State.rd_wr, if_neg (by omega)]
  unfold State.activateDie
  dsimp only
  rw [hset]
  refine SameOn.trans (l := [.fab .STATE_STATE]) (s.activateBank_fabState d mv) ?_ _ (by simp) _ _
  iterate 4 refine .wr ?_ (by decide) _ _ _
  iterate 3 refine .each (fun _ _ => .wr .refl (by simp) _ _ _) ?_ _
  refine .wr ?_ (by decide) _ _ _
  refine .each (fun _ _ => hkeeps (State.settleSide_keeps .refl rfl)) ?_ _
  refine .each (fun _ _ => .wr .refl (by decide) _ _ _) ?_ _
  exact .each (fun _ _ => hkeeps (State.bankToOn_keeps .refl rfl)) .refl _

/-- The image applied, and each die of the placement running. -/
def State.diesRunning (vcco : List Nat) : State :=
  each (numbered 0 s.placeDies) (fun e t => t.activateDie e.1 e.2 (vcco.getD e.2 0)) s.applyImage.runReset

theorem State.diesRunning_verdicts (vcco : List Nat) : SameOn verdictRegs s (s.diesRunning vcco) := by
  have hdie (e : Nat × Nat) (t : State) : SameOn verdictRegs t (t.activateDie e.1 e.2 (vcco.getD e.2 0)) :=
    t.activateDie_verdicts e.1 e.2 _
  have happlied : SameOn verdictRegs s s.applyImage.runReset :=
    s.applyImage_verdicts.trans (State.runReset_keeps .refl rfl).verdicts
  exact happlied.each hdie _

theorem exists_mem_numbered {l : List Nat} {d : Nat} (hd : d ∈ l) (k : Nat) : ∃ e ∈ numbered k l, e.2 = d := by
  obtain ⟨i, hi, rfl⟩ := List.getElem_of_mem hd
  refine ⟨(k + i, l.getD i 0), List.mem_map_of_mem (List.mem_range.mpr hi), List.getD_eq_getElem l 0 hi⟩

theorem State.rd_diesRunning {d : Nat} (hd : d ∈ s.placeDies) (vcco : List Nat) :
    (s.diesRunning vcco).rd (.fab .STATE_STATE) (1 + d) = 3 := by
  obtain ⟨e, he, rfl⟩ := exists_mem_numbered hd 0
  rw [State.diesRunning]
  refine each_of_mem (P := fun t => t.rd (.fab .STATE_STATE) (1 + e.2) = 3)
    (fun t => t.rd_activateDie_same e.1 e.2 (vcco.getD e.2 0)) (fun b t ht => ?_) he _
  by_cases hsame : b.2 = e.2
  · rw [hsame, State.rd_activateDie_same]
  · rw [State.rd_activateDie_other _ _ _ (Ne.symm hsame), ht]

theorem State.latchesInit_sameOn (l : List (Nat × Nat)) :
    SameOn verdictRegs s (each l (fun q s => s.latchInit q) s) ∧
      SameOn [.fab .STATE_STATE] s (each l (fun q s => s.latchInit q) s) :=
  ⟨.each (fun _ _ => (State.latchInit_keeps .refl rfl).verdicts) .refl _,
    .each (fun q s => s.latchInit_fabState q) .refl _⟩

/-- A full image on its dies, its output latches at their initial values, and what it is recorded. -/
def State.imageRecorded (vcco : List Nat) : State :=
  let c := fun (f : CfgF) => s.rd (.cfg f)
  let t := s.diesRunning vcco
  let t := each t.tickOutPins (fun q t => t.latchInit q) t
  let t := ((t.wr (.cfg .IMAGE) 0 0 (c .ldId)).wr (.cfg .actPlace) 0 0 (c .ldPlace)).wr (.cfg .actFlags) 0 0 (c .ldFlags)
  let t := ((t.wr (.cfg .actSvn) 0 0 (c .ldSvn)).wr (.cfg .actDigest) 0 0 (c .ldDigest)).wr (.cfg .partN) 0 0 0
  let t := (t.wr (.cfg .STAT_PLACE) 0 0 (c .CTRL_PLACE)).wr (.cfg .STAT_LDIES) 0 0 (c .ldM)
  t.wr (.cfg .STAT_ACTIVE) 0 0 1

theorem State.activateFull_eq (vcco : List Nat) : s.activateFull vcco = (s.imageRecorded vcco).loadDone false := rfl

/-- What the latches and the record of an image leave alone. -/
theorem State.imageRecorded_sameOn {l : List Fld} (vcco : List Nat)
    (hlatches : ∀ as (t : State), SameOn l t (each as (fun q t => t.latchInit q) t))
    (hl : ∀ f ∈ [CfgF.IMAGE, .actPlace, .actFlags, .actSvn, .actDigest, .partN, .STAT_PLACE, .STAT_LDIES, .STAT_ACTIVE],
      Fld.cfg f ∉ l) :
    SameOn l (s.diesRunning vcco) (s.imageRecorded vcco) := by
  rw [State.imageRecorded]
  simp only [List.forall_mem_cons] at hl
  obtain ⟨himage, hplace, hflags, hsvn, hdigest, hparts, hnamed, hdies, hactive, -⟩ := hl
  exact (((((((((hlatches _ _).wr himage _ _ _).wr hplace _ _ _).wr hflags _ _ _).wr hsvn _ _ _).wr hdigest _ _ _).wr
    hparts _ _ _).wr hnamed _ _ _).wr hdies _ _ _).wr hactive _ _ _

theorem State.rd_imageRecorded_image (vcco : List Nat) :
    (s.imageRecorded vcco).rd (.cfg .IMAGE) = s.rd (.cfg .ldId) % 2 ^ 64 := by
  rw [State.imageRecorded]
  iterate 8 rw [State.rd_wr_field _ (by decide)]
  exact State.rd_wr_same _ _ _ _ _

/-- A full image is active on its dies, and the load is over. -/
theorem State.activateFull_outcome (vcco : List Nat) :
    (s.activateFull vcco).rd (.cfg .STAT_ACTIVE) = 1 ∧ (s.activateFull vcco).loading = false ∧
      (s.activateFull vcco).rd (.cfg .STAT_STATUS) = 0 ∧ (s.activateFull vcco).rd (.cfg .donePin) = 1 ∧
      (s.activateFull vcco).rd (.cfg .waits) = 0 ∧
      (s.activateFull vcco).rd (.cfg .IMAGE) = s.rd (.cfg .ldId) % 2 ^ 64 ∧
      (s.activateFull vcco).rd (.cfg .LOADS_OK) = satInc 24 (s.rd (.cfg .LOADS_OK)) % 2 ^ 24 ∧
      ∀ d ∈ s.placeDies, (s.activateFull vcco).rd (.fab .STATE_STATE) (1 + d) = 3 := by
  rw [State.activateFull_eq]
  obtain ⟨hover, hstatus, -, hdone, hwaits⟩ := (s.imageRecorded vcco).loadDone_ends false
  have hkept := (s.imageRecorded vcco).loadDone_sameOn false
  refine ⟨?active, hover, hstatus, hdone, hwaits, ?image, ?count, ?dies⟩
  case active =>
    rw [hkept _ (by simp [activeRegs]), State.imageRecorded]
    exact State.rd_wr_of_lt (by decide) _ _
  case image => rw [hkept _ (by simp [activeRegs]), s.rd_imageRecorded_image]
  case count =>
    have hrecorded := s.imageRecorded_sameOn vcco (fun as t => (t.latchesInit_sameOn as).1) (by decide)
    rw [State.rd_loadDone_count, hrecorded _ (by simp [verdictRegs]), s.diesRunning_verdicts vcco _ (by simp [verdictRegs])]
  case dies =>
    intro d hd
    have hrecorded := s.imageRecorded_sameOn vcco (fun as t => (t.latchesInit_sameOn as).2) (by decide)
    rw [hkept _ (by simp [activeRegs]), hrecorded _ (by simp), s.rd_diesRunning hd]

/-- The niche of a partial image is ACTIVE when the load ends. -/
theorem State.activateNiche_eq :
    ∃ t : State, s.activateNiche = t.loadDone true ∧
      t.rd (.nch .STAT_STATE) (1 + s.rd (.cfg .loadDie)) (s.rd (.cfg .loadNiche)) = 3 := by
  unfold State.activateNiche
  extract_lets c d x u before applied inited kept settled latched used both flags contract digest active lived live resumable opened
  refine ⟨opened, rfl, ?_⟩
  have hactive : active.rd (.nch .STAT_STATE) u x = 3 :=
    (State.rd_wr_field _ (by decide) _ _ _ _ _).trans (State.rd_wr_of_lt (by decide) _ _)
  have hresumable : SameOn [.nch .STAT_STATE] active resumable :=
    .wr (.wr .refl (by decide) _ _ _) (by decide) _ _ _
  have hopened : SameOn [.nch .STAT_STATE] resumable opened :=
    .ite (.wr (.wr .refl (by decide) _ _ _) (by decide) _ _ _) .refl
  exact ((hresumable.trans hopened) _ (by simp) u x).trans hactive

theorem State.activateNiche_outcome :
    s.activateNiche.rd (.nch .STAT_STATE) (1 + s.rd (.cfg .loadDie)) (s.rd (.cfg .loadNiche)) = 3 ∧
      s.activateNiche.loading = false ∧ s.activateNiche.rd (.cfg .STAT_STATUS) = 0 ∧
      s.activateNiche.rd (.cfg .STAT_PARTIAL) = 1 ∧ s.activateNiche.rd (.cfg .donePin) = 1 := by
  obtain ⟨t, heq, hactive⟩ := s.activateNiche_eq
  obtain ⟨hover, hstatus, hpartial, hdone, -⟩ := t.loadDone_ends true
  rw [heq]
  exact ⟨(t.loadDone_sameOn true _ (by simp [activeRegs]) _ _).trans hactive, hover, hstatus, hpartial, hdone⟩

/-! ### After verification -/

/-- The state in which a load that has passed step 3 goes on. -/
def State.activating : State := s.wr (.cfg .STAT_STATE) 0 0 5

theorem State.rd_activating {f : Fld} (hf : f ≠ .cfg .STAT_STATE) (u j : Nat) : s.activating.rd f u j = s.rd f u j :=
  s.rd_wr_field hf _ _ _ _ _

theorem State.anySub_activating (l : List Nat) : s.activating.anySub l = s.anySub l := by
  have hsub (q : Nat) : s.activating.subState q = s.subState q := s.rd_activating (by decide) _ _
  simp only [State.anySub, hsub]

theorem State.placeDies_activating : s.activating.placeDies = s.placeDies := by
  rw [State.placeDies, State.placeDies, s.rd_activating (by decide), s.rd_activating (by decide)]

theorem mem_placeDies {i : Nat} (hi : i < s.rd (.cfg .ldM)) : slice (s.rd (.cfg .ldPlace)) (4 * i) 4 ∈ s.placeDies :=
  List.mem_map_of_mem (List.mem_range.mpr hi)

variable {s} {vcco : List Nat}

theorem State.activateLoad_of_finding (h : s.stepThree.1 ≠ 0) : s.activateLoad vcco = s.stepThree.2.failLoad s.stepThree.1 :=
  if_pos h

theorem State.activateLoad_of_passed (h : s.stepThree = (0, s)) :
    s.activateLoad vcco =
      if s.rd (.cfg .loadKind) = 1 then
        if (s.rd (.cfg .ldFlags)).testBit 4 && s.anySub [1, 2] then s.activating.wr (.cfg .waits) 0 0 1
        else s.activating.activateFull vcco
      else if s.tick = 5 then s.activating.wr (.cfg .waits) 0 0 2
      else s.activating.activateNiche := by
  have hkind : s.activating.has (.cfg .loadKind) 0 0 1 = decide (s.rd (.cfg .loadKind) = 1) := by
    rw [State.has_eq, s.rd_activating (by decide)]
  have hflags : s.activating.rd (.cfg .ldFlags) = s.rd (.cfg .ldFlags) := s.rd_activating (by decide) _ _
  have htick : s.activating.tick = s.tick := s.rd_activating (by decide) _ _
  rw [State.activateLoad, h]
  change (if s.activating.has (.cfg .loadKind) 0 0 1 then
      if (s.activating.rd (.cfg .ldFlags)).testBit 4 && s.activating.anySub [1, 2] then s.activating.wr (.cfg .waits) 0 0 1
      else s.activating.activateFull vcco
    else if s.activating.tick = 5 then s.activating.wr (.cfg .waits) 0 0 2 else s.activating.activateNiche) = _
  rw [hkind, hflags, htick, s.anySub_activating]
  simp only [decide_eq_true_eq]

/-- A load that waits is still there. -/
theorem State.waiting_outcome (hloading : s.loading = true) {v : Nat} (hv : v < 4) :
    (s.activating.wr (.cfg .waits) 0 0 v).rd (.cfg .STAT_STATE) = 5 ∧ (s.activating.wr (.cfg .waits) 0 0 v).rd (.cfg .waits) = v ∧
      (s.activating.wr (.cfg .waits) 0 0 v).loading = true := by
  refine ⟨?_, State.rd_wr_of_lt hv _ _, ?_⟩
  · rw [State.rd_wr_field _ (by decide), State.activating, State.rd_wr_of_lt (by decide)]
  · rw [State.loading_iff, State.rd_wr_field _ (by decide), s.rd_activating (by decide)]
    exact s.loading_iff.mp hloading

theorem State.activates_activateLoad (hloading : s.loading = true) : Activates s (s.activateLoad vcco) := by
  rcases s.stepThree_outcome with hpassed | ⟨hfinding, hlt, hkind⟩
  case inr =>
    have hthere : s.stepThree.2.loading = true := by
      rw [State.loading_iff, hkind]
      exact s.loading_iff.mp hloading
    rw [State.activateLoad_of_finding hfinding]
    exact ⟨fun _ => State.fails_failLoad hthere hlt, fun h => absurd h hfinding, fun h => absurd h hfinding,
      fun h => absurd h hfinding, fun h => absurd h hfinding⟩
  case inl =>
    have hzero : s.stepThree.1 = 0 := by rw [hpassed]
    rw [State.activateLoad_of_passed hpassed]
    refine ⟨fun h => absurd hzero h, ?waitsDram, ?full, ?waitsHalt, ?niche⟩
    case waitsDram =>
      intro _ hkind hflag hsub
      rw [if_pos hkind, hflag, hsub, if_pos (by decide)]
      exact State.waiting_outcome hloading (by decide)
    case full =>
      intro _ hkind hready
      have hgoes : ¬((s.rd (.cfg .ldFlags)).testBit 4 && s.anySub [1, 2]) = true := by
        rcases hready with h | h <;> simp [h]
      obtain ⟨hactive, hover, hstatus, hdone, hwaits, himage, hcount, hdies⟩ := s.activating.activateFull_outcome vcco
      rw [s.rd_activating (by decide)] at himage hcount
      rw [if_pos hkind, if_neg hgoes]
      refine ⟨hactive, hover, hstatus, hdone, hwaits, himage, hcount, fun i hi => hdies _ ?_⟩
      rw [s.placeDies_activating]
      exact mem_placeDies s hi
    case waitsHalt =>
      intro _ hkind htick
      rw [if_neg hkind, if_pos htick, hloading]
      exact State.waiting_outcome hloading (by decide)
    case niche =>
      intro _ hkind htick
      have houtcome := s.activating.activateNiche_outcome
      rw [s.rd_activating (by decide), s.rd_activating (by decide)] at houtcome
      rw [if_neg hkind, if_neg htick]
      exact houtcome

end

/-! ### The trailer (R380, R381, R384) -/

section

variable {s s1 : State} {bytes l : List Nat} {k : Nat} {cipher tag ecdsa hss : Bool} {vcco : List Nat}

/-- Of the registers only the count of bytes sees them taken. -/
theorem State.rd_takeBytes (htaken : s.takeBytes bytes k cipher = some (l, s1)) {f : Fld} (hf : f ≠ .cfg .PROGRESS_BYTES)
    (u j : Nat) : s1.rd f u j = s.rd f u j := by
  unfold State.takeBytes at htaken
  extract_lets own l' t at htaken
  have ht : t.rd f u j = s.rd f u j := rfl
  split at htaken
  · cases htaken
  · obtain ⟨-, rfl⟩ := Prod.mk.inj (Option.some.inj htaken)
    split
    · rw [State.rd_wr_field _ hf, ht]
    · exact ht

theorem State.takeBytes_pending (htaken : s.takeBytes bytes k cipher = some (l, s1)) : s1.pending = s.pending :=
  (State.takeBytes_keeps htaken (m₀ := 1770887431076116959232) .refl rfl).same .pending rfl

theorem State.takeTrailer_pending : (s.takeTrailer l tag ecdsa hss vcco).pending = s.pending :=
  (State.takeTrailer_keeps (m₀ := 9069300236679527263338495) .refl rfl).same .pending rfl

theorem State.activateLoad_pending : (s.activateLoad vcco).pending = s.pending :=
  (State.activateLoad_keeps (m₀ := 9069300236679527263338495) .refl rfl).same .pending rfl

/-- Verification begins, the image's digest at hand. -/
def State.verifyBegun (s : State) : State := s.verifying.wr (.cfg .ldDigest) 0 0 s.imageDigest

/-- The place and the form of a trailer, on the state that has taken its bytes. -/
def State.TrailerForm (s : State) (l : List Nat) : Prop :=
  s.rd (.cfg .ldSeen) = s.rd (.cfg .ldFrames) ∧ l.length - 5192 ≤ 3 ∧ fromBe (l.take (l.length - 5192)) = 0 ∧
    fromBe ((l.drop (l.length - 5192)).take 4) = 0x4C454E44

theorem State.takeTrailer_of_form (hform : s.TrailerForm l) :
    s.takeTrailer l tag ecdsa hss vcco = s.verifyBegun.verify tag ecdsa hss vcco := by
  obtain ⟨hseen, hpad, hzero, hmark⟩ := hform
  refine if_neg ?_
  rintro (h | h | h | h)
  exacts [h hseen, absurd h (Nat.not_lt.mpr hpad), h hzero, h hmark]

theorem State.takeTrailer_of_not_form (hform : ¬s.TrailerForm l) : s.takeTrailer l tag ecdsa hss vcco = s.failLoad 0x27 := by
  refine if_pos ?_
  by_contra hnone
  simp only [not_or, not_not, Nat.not_lt] at hnone
  exact hform hnone

/-- Verification writes only where the load stands, and the states of its dies or its niche. -/
theorem State.rd_verifyBegun {f : CfgF} (hstate : f ≠ .STAT_STATE) (hrdy : f ≠ .rdy) (hdigest : f ≠ .ldDigest) (u j : Nat) :
    s.verifyBegun.rd (.cfg f) u j = s.rd (.cfg f) u j := by
  have hwaits : SameOn [.cfg f] s ((s.wr (.cfg .STAT_STATE) 0 0 4).wr (.cfg .rdy) 0 0 0) :=
    .wr (.wr .refl (by simp [hstate.symm]) _ _ _) (by simp [hrdy.symm]) _ _ _
  have hdie (d : Nat) (t : State) :
      SameOn [.cfg f] t (each (List.range 12) (fun x s => s.wr (.nch .STAT_STATE) (1 + d) x 2) (t.setFab d 2)) :=
    .each (fun _ _ => .wr .refl (by simp) _ _ _) (.wr .refl (by simp) _ _ _) _
  have hverifying : SameOn [.cfg f] s s.verifying := .ite (.each hdie hwaits _) (hwaits.wr (by simp) _ _ _)
  exact hverifying.wr (by simp [hdigest.symm]) _ _ _ _ (by simp) u j

theorem State.loading_verifyBegun : s.verifyBegun.loading = s.loading := by
  rw [State.loading, State.loading, State.rd_verifyBegun (by decide) (by decide) (by decide)]

/-- The verdict on the tag, which an image that is not encrypted needs none for (R381). -/
def State.tagged (s : State) (tag : Bool) : State := s.wr (.cfg .STAT_TAG_OK) 0 0 (b2n tag)

/-- The verdicts on the tag and the two signatures. -/
def State.judged (s : State) (ecdsa hss : Bool) : State :=
  ((s.tagged true).wr (.cfg .STAT_ECDSA_OK) 0 0 (b2n ecdsa)).wr (.cfg .STAT_HSS_OK) 0 0 (b2n hss)

theorem b2n_lt (b : Bool) : b2n b < 2 ^ 1 := by cases b <;> decide

theorem State.verify_of_tag (htag : (tag || !(s.rd (.cfg .ldFlags)).testBit 3) = true) :
    s.verify tag ecdsa hss vcco =
      if !(ecdsa && hss) then (s.judged ecdsa hss).failLoad 0x31 else (s.judged ecdsa hss).activateLoad vcco := by
  rw [State.verify, htag]
  rfl

theorem State.verify_of_not_tag (hflag : (s.rd (.cfg .ldFlags)).testBit 3 = true) :
    s.verify false ecdsa hss vcco = (s.tagged false).failLoad 0x30 := by
  rw [State.verify, hflag]
  rfl

theorem State.rd_judged_kind : (s.judged ecdsa hss).rd (.cfg .loadKind) = s.rd (.cfg .loadKind) := by
  rw [State.judged, State.tagged, State.rd_wr_field _ (by decide), State.rd_wr_field _ (by decide),
    State.rd_wr_field _ (by decide)]

theorem State.rd_tagged_kind : (s.tagged tag).rd (.cfg .loadKind) = s.rd (.cfg .loadKind) :=
  s.rd_wr_field (by decide) _ _ _ _ _

theorem State.loading_judged : (s.judged ecdsa hss).loading = s.loading := by
  rw [State.loading, State.loading, State.rd_judged_kind]

theorem State.loading_tagged : (s.tagged tag).loading = s.loading := by
  rw [State.loading, State.loading, State.rd_tagged_kind]

theorem State.judged_verifyBegun : s.verifyBegun.judged true true = verified s := by
  rw [State.judged, State.tagged, State.verifyBegun, State.imageDigest, verified, b2n_eq_toNat, Bool.toNat_true]

theorem State.rd_judged_verdicts :
    (s.judged ecdsa hss).rd (.cfg .STAT_TAG_OK) = 1 ∧ (s.judged ecdsa hss).rd (.cfg .STAT_ECDSA_OK) = b2n ecdsa ∧
      (s.judged ecdsa hss).rd (.cfg .STAT_HSS_OK) = b2n hss := by
  refine ⟨?_, ?_, State.rd_wr_of_lt (b2n_lt hss) _ _⟩
  · rw [State.judged, State.rd_wr_field _ (by decide), State.rd_wr_field _ (by decide), State.tagged,
      State.rd_wr_of_lt (by decide)]
    rfl
  · rw [State.judged, State.rd_wr_field _ (by decide), State.rd_wr_of_lt (b2n_lt ecdsa)]

theorem all_supplies (hsupplies : ∀ v ∈ vcco, v < 65536) : (vcco.all fun v => decide (v < 65536)) = true :=
  List.all_eq_true.mpr fun v hv => decide_eq_true (hsupplies v hv)

/-- The state in which the loader takes a trailer: its table has come, and the load waits for frames or for the trailer. -/
def State.TakesTrailer (s : State) : Prop :=
  s.rd (.cfg .ldTable) ≠ 0 ∧ (s.rd (.cfg .STAT_STATE) = 2 ∨ s.rd (.cfg .STAT_STATE) = 3)

theorem State.not_takesTrailer_iff :
    ((s.has (.cfg .ldTable) 0 0 0 || (s.rd (.cfg .STAT_STATE) != 2 && s.rd (.cfg .STAT_STATE) != 3)) = true) ↔
      ¬s.TakesTrailer := by
  simp only [State.TakesTrailer, State.has_eq, Bool.or_eq_true, Bool.and_eq_true, decide_eq_true_eq, bne_iff_ne]
  tauto

theorem State.loading_takeBytes (htaken : s.takeBytes bytes k cipher = some (l, s1)) : s1.loading = s.loading := by
  rw [State.loading, State.loading, State.rd_takeBytes htaken (by decide)]

/-- A trailer fits where the loader takes it and its place and form, which the taking of its bytes leaves, are right. -/
theorem trailerFits_iff (harrives : Arrives s bytes (s.rd (.cfg .ldLength) - s.consumed) ((s.rd (.cfg .ldFlags)).testBit 3) l s1)
    (hloading : s.loading = true) (htakes : s.TakesTrailer) : TrailerFits s bytes l s1 ↔ s1.TrailerForm l := by
  have ⟨_, _, htaken⟩ := harrives
  obtain ⟨htable, hstate⟩ := htakes
  rw [State.TrailerForm, State.rd_takeBytes htaken (by decide), State.rd_takeBytes htaken (by decide)]
  exact ⟨fun ⟨_, _, _, _, hform⟩ => hform, fun hform => ⟨harrives, hloading, htable, hstate, hform⟩⟩

theorem takesTrailer_of_fits (hfits : TrailerFits s bytes l s1) : s.TakesTrailer := by
  obtain ⟨-, -, htable, hstate, -⟩ := hfits
  exact ⟨htable, hstate⟩

variable {e : Nat} (he : e < 2 ^ 80) (hsupplies : ∀ v ∈ vcco, v < 65536)
include he hsupplies

theorem loadTrailer_operands (hbytes : areBytes bytes = true) :
    (areBytes bytes && decide (e < 2 ^ 80) && vcco.all fun v => decide (v < 65536)) = true := by
  rw [hbytes, decide_eq_true he, all_supplies hsupplies]
  rfl

theorem exec_loadTrailer_taken
    (harrives : Arrives (s.at e) bytes ((s.at e).rd (.cfg .ldLength) - (s.at e).consumed)
      (((s.at e).rd (.cfg .ldFlags)).testBit 3) l s1) (htakes : (s.at e).TakesTrailer) :
    exec (.loadTrailer bytes e tag ecdsa hss vcco) s = .next (s1.takeTrailer l tag ecdsa hss vcco) := by
  obtain ⟨hcore, hbytes, htaken⟩ := harrives
  have hpending : (s1.takeTrailer l tag ecdsa hss vcco).pending = s.pending :=
    State.takeTrailer_pending.trans (State.takeBytes_pending htaken : s1.pending = (s.at e).pending)
  change execLoadTrailer bytes e tag ecdsa hss vcco s = _
  simp only [execLoadTrailer, if_neg (mt State.not_takesTrailer_iff.mp (not_not.mpr htakes)), htaken]
  exact actCore_of_pending hcore (loadTrailer_operands he hsupplies hbytes) hpending

theorem exec_loadTrailer_ignored (hcore : s.coreUp = true) (hbytes : areBytes bytes = true)
    (hnone : (s.at e).takeBytes bytes ((s.at e).rd (.cfg .ldLength) - (s.at e).consumed)
      (((s.at e).rd (.cfg .ldFlags)).testBit 3) = none ∨ ¬(s.at e).TakesTrailer) :
    exec (.loadTrailer bytes e tag ecdsa hss vcco) s = .next (s.at e) := by
  refine Eq.trans (congrArg (actCore _ s) ?_) (actCore_of_pending hcore (loadTrailer_operands he hsupplies hbytes) rfl)
  by_cases htakes : (s.at e).TakesTrailer
  case neg => exact if_pos (State.not_takesTrailer_iff.mpr htakes)
  case pos =>
    refine (if_neg (mt State.not_takesTrailer_iff.mp (not_not.mpr htakes))).trans ?_
    rw [hnone.resolve_right (not_not.mpr htakes)]

omit he in
theorem exec_activationDramWaitEnd_goesOn (hcore : s.coreUp = true) (hwaits : s.rd (.cfg .waits) = 1)
    (hready : s.anySub [1, 2] = false) :
    exec (.activationDramWaitEnd vcco) s = .next ((s.wr (.cfg .waits) 0 0 0).activateLoad vcco) := by
  change execActivationDramWaitEnd vcco s = _
  rw [execActivationDramWaitEnd, State.has_eq, hwaits, hready, if_pos (by decide)]
  exact actCore_of_pending hcore (all_supplies hsupplies) State.activateLoad_pending

omit he in
theorem exec_activationDramWaitEnd_stays (hcore : s.coreUp = true)
    (hstays : s.rd (.cfg .waits) ≠ 1 ∨ s.anySub [1, 2] = true) : exec (.activationDramWaitEnd vcco) s = .next s := by
  change execActivationDramWaitEnd vcco s = _
  have hnot : ¬(s.has (.cfg .waits) 0 0 1 && !s.anySub [1, 2]) = true := by
    rcases hstays with h | h <;> simp [State.has_eq, h]
  rw [execActivationDramWaitEnd, if_neg hnot]
  exact actCore_of_pending hcore (all_supplies hsupplies) rfl

/-- The command with a trailer in its place and form: verification begins, on the load in progress, and its verdicts decide. -/
theorem exec_loadTrailer_fits (hfits : TrailerFits (s.at e) bytes l s1) :
    exec (.loadTrailer bytes e tag ecdsa hss vcco) s = .next (s1.verifyBegun.verify tag ecdsa hss vcco) := by
  have ⟨harrives, hloading, _⟩ := hfits
  have htakes := takesTrailer_of_fits hfits
  have hform := (trailerFits_iff harrives hloading htakes).mp hfits
  rw [exec_loadTrailer_taken he hsupplies harrives htakes, State.takeTrailer_of_form hform]

omit he hsupplies in
/-- What verification sees of the load. -/
theorem verifyBegun_of_fits (hfits : TrailerFits s bytes l s1) :
    s1.verifyBegun.loading = true ∧ s1.verifyBegun.rd (.cfg .loadKind) = s.rd (.cfg .loadKind) ∧
      s1.verifyBegun.rd (.cfg .ldFlags) = s.rd (.cfg .ldFlags) := by
  obtain ⟨⟨-, -, htaken⟩, hloading, -⟩ := hfits
  refine ⟨?_, ?_, ?_⟩
  · rw [State.loading_verifyBegun, State.loading_takeBytes htaken, hloading]
  · rw [State.rd_verifyBegun (by decide) (by decide) (by decide), State.rd_takeBytes htaken (by decide)]
  · rw [State.rd_verifyBegun (by decide) (by decide) (by decide), State.rd_takeBytes htaken (by decide)]

end

end Sys2Proof.Machine

open Sys2Proof Sys2Proof.Machine

/-- Settles O32: a trailer by its place and form, then by its verdicts; a load that fails by what it leaves, and one that goes on
by what step 3 and the two kinds of activation leave. -/
theorem loadVerdicts : Obligations.LoadVerdicts := by
  unfold Obligations.LoadVerdicts
  refine ⟨?good, ?signature, ?tag, ?misplaced, ?ignored, ?waitEnds, fun _ _ hcore hsupplies =>
    exec_activationDramWaitEnd_stays hsupplies hcore⟩
  case good =>
    intro s bytes e l s1 tag vcco hfits he hsupplies htag
    obtain ⟨hloading, -, hflags⟩ := verifyBegun_of_fits hfits
    have hverdict : (tag || !(s1.verifyBegun.rd (.cfg .ldFlags)).testBit 3) = true := by
      rw [hflags]
      simpa using htag
    refine ⟨_, exec_loadTrailer_fits he hsupplies hfits, ?_⟩
    rw [State.verify_of_tag hverdict, if_neg (by decide)]
    rw [← State.judged_verifyBegun]
    exact State.activates_activateLoad (State.loading_judged.trans hloading)
  case signature =>
    intro s bytes e l s1 tag ecdsa hss vcco hfits he hsupplies htag hbad
    obtain ⟨hloading, hkind, hflags⟩ := verifyBegun_of_fits hfits
    have hverdict : (tag || !(s1.verifyBegun.rd (.cfg .ldFlags)).testBit 3) = true := by
      rw [hflags]
      simpa using htag
    have hthere : (s1.verifyBegun.judged ecdsa hss).loading = true := State.loading_judged.trans hloading
    have hkept := State.failLoad_verdicts (c := 0x31) hthere
    obtain ⟨htagged, hecdsa, hhss⟩ := State.rd_judged_verdicts (s := s1.verifyBegun) (ecdsa := ecdsa) (hss := hss)
    refine ⟨_, exec_loadTrailer_fits he hsupplies hfits, ?_⟩
    rw [State.verify_of_tag hverdict, hbad, if_pos (by decide)]
    refine ⟨State.fails_failLoad hthere (by decide), fun h => State.rd_failLoad_active hthere ?_, ?_, ?_, ?_⟩
    · rw [State.rd_judged_kind, hkind]
      exact h
    · rw [hkept _ (by simp [verdictRegs]), htagged]
    · rw [hkept _ (by simp [verdictRegs]), hecdsa]
    · rw [hkept _ (by simp [verdictRegs]), hhss]
  case tag =>
    intro s bytes e l s1 ecdsa hss vcco hfits he hsupplies hencrypted
    obtain ⟨hloading, hkind, hflags⟩ := verifyBegun_of_fits hfits
    have hthere : (s1.verifyBegun.tagged false).loading = true := State.loading_tagged.trans hloading
    refine ⟨_, exec_loadTrailer_fits he hsupplies hfits, ?_⟩
    rw [State.verify_of_not_tag (hflags ▸ hencrypted)]
    refine ⟨State.fails_failLoad hthere (by decide), fun h => State.rd_failLoad_active hthere ?_, ?_⟩
    · rw [State.rd_tagged_kind, hkind]
      exact h
    · rw [State.failLoad_verdicts hthere _ (by simp [verdictRegs]), State.tagged, State.rd_wr_of_lt (by decide)]
      rfl
  case misplaced =>
    intro s bytes e l s1 tag ecdsa hss vcco harrives he hsupplies hloading htable hstate hmisplaced
    have htakes : (s.at e).TakesTrailer := ⟨htable, hstate⟩
    have ⟨_, _, htaken⟩ := harrives
    have hform := mt (trailerFits_iff harrives hloading htakes).mpr hmisplaced
    refine ⟨_, exec_loadTrailer_taken he hsupplies harrives htakes, ?_⟩
    rw [State.takeTrailer_of_not_form hform]
    exact State.fails_failLoad ((State.loading_takeBytes htaken).trans hloading) (by decide)
  case ignored =>
    intro s bytes e tag ecdsa hss vcco hcore hbytes he hsupplies hnone
    refine exec_loadTrailer_ignored he hsupplies hcore hbytes (hnone.imp_right ?_)
    rintro hout ⟨htable, hstate⟩
    rw [State.rd_at] at htable hstate
    omega
  case waitEnds =>
    intro s vcco hcore hsupplies hwaits hready hloading
    refine ⟨_, exec_activationDramWaitEnd_goesOn hsupplies hcore hwaits hready, State.activates_activateLoad ?_⟩
    rw [State.loading_iff, State.rd_wr_field _ (by decide)]
    exact s.loading_iff.mp hloading
end
